-- ==== Sys2Proof/Word.lean ====
section
/-!
DEFINITION. The sizes of things the FV8828 names in bits: a byte of a frame, an image or flash, and a 32-bit register
(00_scope.md R4). Everything that is computed with them stands in Machine/.
-/
namespace Sys2Proof

/-- One byte of a frame, an image, an item or flash. -/
abbrev Byte := BitVec 8

/-- One register: 32 bits wide (00_scope.md R4). -/
abbrev Word := BitVec 32

end Sys2Proof
end

