-- ==== Sys2Proof/Syntax.lean ====
section
/-!
DEFINITION. The commands of the block, one constructor for each row of spec/opcode_table.json, and the data they carry: what a
register access names, what arrives at a ball (a frame, a message, an edge) and what the host offers in its memory.
-/
namespace Sys2Proof

/-- An access path to the register space (00_scope.md R10): the PCIe host, the management cores 0-3, the debug port. -/
inductive Path where
  | host
  | core (n : Fin 4)
  | debug
deriving DecidableEq, Repr

/-- An Ethernet port by its index (03_time_and_order.md R132): U0-U3 = 0-3, TL = 4, A0-A15 = 5-20, S0-S7 = 21-28. -/
abbrev Port := Fin 29

/-- A rail that the brown-out monitor watches (16_electrical_and_pins.md R612): VCORE, VSD09, VSD12, and the supply of each of the banks
VIO0-VIO3. -/
inductive Rail where
  | vcore
  | vsd09
  | vsd12
  | vio (bank : Fin 4)
deriving DecidableEq, Repr

/-- A gPTP domain (03_time_and_order.md). -/
abbrev Dom := Fin 4

/-- An image slot of flash (02_ikiem_images.md R47). -/
inductive Slot where
  | a | b | g
deriving DecidableEq, Repr

/-- A read disturbance: how many reads in a row of one parcel of a slot fail their CRC (02_ikiem_images.md R69). -/
structure ReadGlitch where
  slot : Slot
  parcel : Nat
  fails : Nat
deriving DecidableEq, Repr

/-- The registers whose write 02_ikiem_images.md R102 guards. -/
inductive StageReg where
  | stageSrc | commitTimeLo | commitTimeHi | commitEpoch
deriving DecidableEq, Repr

/-- A time of day in a gPTP message. -/
structure PtpTime where
  sec : Nat
  ns : Nat
deriving DecidableEq, Repr

/-- What every gPTP message carries: header fields of IEEE 802.1AS-2020 and the bytes the frame really carries
(03_time_and_order.md R119). `correction` is in units of 2^-16 ns. -/
structure PtpHeader where
  majorSdo : Nat
  version : Nat
  domain : Nat
  length : Nat
  carried : Nat
  seq : Nat
  clock : Nat
  portNum : Nat
  correction : Int
  logInterval : Int
deriving DecidableEq, Repr

/-- A Sync: two-step, or one-step with its origin time and Follow_Up information (R113). -/
structure SyncMsg where
  hdr : PtpHeader
  twoStep : Bool
  origin : PtpTime
  rateOffset : Int
deriving DecidableEq, Repr

/-- A Follow_Up: precise origin time and cumulative scaled rate offset in units of 2^-41. -/
structure FollowUpMsg where
  hdr : PtpHeader
  origin : PtpTime
  rateOffset : Int
deriving DecidableEq, Repr

/-- A clock's rank in the best master clock algorithm. -/
structure ClockRank where
  priority1 : Nat
  clockClass : Nat
  accuracy : Nat
  variance : Nat
  priority2 : Nat
  identity : Nat
deriving DecidableEq, Repr

/-- An Announce with its path trace. -/
structure AnnounceMsg where
  hdr : PtpHeader
  rank : ClockRank
  steps : Nat
  trace : List Nat
deriving DecidableEq, Repr

/-- A Signaling message; a message interval request carries the link-delay, time-sync and announce intervals. -/
structure SignalingMsg where
  hdr : PtpHeader
  request : Option (Int × Int × Int)
deriving DecidableEq, Repr

/-- A Pdelay_Resp with the request it answers and the request's receipt time. -/
structure PdelayResp where
  hdr : PtpHeader
  receipt : PtpTime
  reqClock : Nat
  reqPort : Nat
deriving DecidableEq, Repr

/-- A Pdelay_Resp_Follow_Up with the response's origin time. -/
structure PdelayRespFollowUp where
  hdr : PtpHeader
  origin : PtpTime
  reqClock : Nat
  reqPort : Nat
deriving DecidableEq, Repr

/-- An error met in a cell slot (06_switch_core.md R265, R272): a CRC error on a lane, a corrected or an uncorrectable error in a
bank at a word address. -/
inductive SlotFault where
  | crc (lane : Fin 28)
  | ce (bank : Fin 64)
  | ue (bank : Fin 64) (wordAddr : Fin 65536)
deriving DecidableEq, Repr

/-- An Ethernet frame on a wire: its bytes DA through FCS, and whether the PCS signals a code error or error symbol within it. -/
structure WireFrame where
  bytes : List Byte
  codeErr : Bool
deriving DecidableEq, Repr

/-- A fragment of a preemptable frame (04_ethernet_ports.md R166): whether its SMD is a start, the frame number and fragment count
that the SMD and the count octet give, its bytes, the four check bytes after them, whether they are meant as the final CRC, and
whether the SMD itself is in error. -/
structure Fragment where
  start : Bool
  frameNumber : Fin 4
  fragCount : Fin 4
  bytes : List Byte
  check : List Byte
  final : Bool
  smdErr : Bool
deriving DecidableEq, Repr

/-- What FRAME_RECEIVE reports: a whole frame; the first bytes of one (at least 64, R155), whose bytes are all named; more bytes of
it; its last byte; or a fragment of a preemptable frame. -/
inductive RxEvent where
  | whole (f : WireFrame)
  | first (f : WireFrame) (arrived : Nat)
  | more (arrived : Nat)
  | last
  | fragment (g : Fragment)
deriving DecidableEq, Repr

/-- Why a link is lost (04_ethernet_ports.md R149). -/
inductive LinkLoss where
  | signal | blockLock | hiBer | localFault | restart
deriving DecidableEq, Repr

/-- A MACsec security association of a port: a transmit one by its AN, a receive one by its SC and AN; and a register of one
(04_ethernet_ports.md R181, R182). -/
inductive SaId where
  | tx (an : Fin 4)
  | rx (sc : Fin 16) (an : Fin 4)
deriving DecidableEq, Repr

inductive SaReg where
  | ctl | nextPnLo | nextPnHi | ssci | salt (n : Fin 3)
deriving DecidableEq, Repr

/-- The writes that a table command with STAGE = 1 may stage (05_classification.md R213). -/
inductive StagedOp where
  | insert | delete | writeIndex
deriving DecidableEq, Repr

/-- A flash write of a key command that goes wrong (12_keys_and_attestation.md R489): which of its writes, in their order, the
bytes that flash then holds there, and whether the flash reports the failure. -/
structure FlashFault where
  step : Fin 3
  held : List Byte
  reported : Bool
deriving DecidableEq, Repr

/-- A CAN frame as on the bus (08_can_controllers.md R319-R321): identifier with IDE, the frame's flags, the XL fields, the length
code of a remote frame, and the data. -/
structure CanFrame where
  ide : Bool := false
  id : Nat := 0
  rtr : Bool := false
  fdf : Bool := false
  brs : Bool := false
  esi : Bool := false
  xlf : Bool := false
  sec : Bool := false
  sdt : Nat := 0
  vcid : Nat := 0
  af : Nat := 0
  rlen : Nat := 0
  data : List Byte := []
deriving DecidableEq, Repr

/-- Errors a CAN channel detects, in the order of CAN_STATUS.ERR_KIND (R363). -/
inductive CanErrorKind where
  | bitDominant | bitRecessive | stuff | form | crc | ack | delay | exception
deriving DecidableEq, Repr

/-- A bus error (R328): its kind, whether it lies in an FD or XL data phase, whether the frame is an XL frame, the loop delay measured where one was, whether
ISO 11898-1 exempts it from the error counters, and how many more steps of 8 it counts (dominant bits after the error flag). -/
structure CanError where
  kind : CanErrorKind
  dataPhase : Bool
  xl : Bool
  tdcv : Option (Fin 128)
  exempt : Bool
  more : Nat
deriving DecidableEq, Repr

/-- The lines of an MVB channel that carry a valid frame (09_gateway_and_culvert.md R392). -/
structure MvbLines where
  a : Bool
  b : Bool
deriving DecidableEq, Repr

/-- The halves of a 64-bit register. -/
inductive Half where
  | lo | hi
deriving DecidableEq, Repr

/-- A transmit descriptor as the bridge reads it from host memory (11_host_bridge.md R439): BUF_LEN, FLAGS, CLASS, whether its reserved
bytes are 0, and the buffer's bytes; none where the buffer read fails. -/
structure TxDesc where
  len : Fin 65536
  flags : Byte
  cls : Byte
  clean : Bool
  data : Option (List Byte)
deriving DecidableEq, Repr

/-- A receive descriptor as the bridge reads it (R442): BUF_ADDR, BUF_LEN. -/
structure RxDesc where
  addr : Nat
  len : Fin 65536
deriving DecidableEq, Repr

/-- Why the host link goes down (R447). -/
inductive PcieDown where
  | dataLink | hotReset | functionReset | perst
deriving DecidableEq, Repr

/-- Where a posted host write goes (R427, R430): BAR0, or a posted window with an offset in it. -/
inductive HostVia where
  | bar0 (addr : Fin 67108864)
  | window (w : Fin 16) (off : Fin 1048576)
deriving DecidableEq, Repr

/-- Why a feed trips (13_wake_sleep_power.md R519). -/
inductive TripCause where
  | overcurrent | shortCircuit | energy
deriving DecidableEq, Repr

/-- What a mirror interval of the tandem belongs to (14_tandem_redundancy.md R545). -/
inductive MirrorItem where
  | stream (k : Fin 1024)
  | flume (f : Fin 1536)
  | rule (k : Fin 8192)
  | ring (r : Fin 4)
deriving DecidableEq, Repr

/-- The word that the patrol reads (15_management_events_health.md R583): of a cistern bank, with the frame that has its cell there; of
a slot of a flume's store, by position; of a table entry; of a message object or a queue entry of a CAN channel; of a key slot; of the
management SRAM. -/
inductive PatrolSpot where
  | cistern (bank : Fin 64) (wordAddr : Fin 65536) (frame : Option Nat)
  | flume (f : Fin 1536) (pos : Word)
  | table (t : Fin 31) (index : Nat)
  | canObject (ch : Fin 32) (o : Fin 128)
  | canQueue (ch : Fin 32) (tx : Bool) (i : Nat)
  | key (slot : Fin 8192)
  | sram
deriving DecidableEq, Repr

/-- What error correction finds in a word. -/
inductive WordFound where
  | good | corrected | uncorrectable
deriving DecidableEq, Repr



/-- One command to the block: one constructor for each row of spec/opcode_table.json, in its order. -/
inductive Instr where
  /-- LO_READ_LATCH (R9). A read of a _LO register returns the low half and latches the whole 64-bit value for the next _HI read on the same access path.
  The host also reads through an address window (11_host_bridge.md R427): `addr` is then the offset in it. -/
  | loReadLatch (path : Path) (addr : Nat) (window : Option (Fin 16) := none)
  /-- LO_WRITE_STAGE (R12). A write to the _LO half of a writable 64-bit value stages the low half for the access path. -/
  | loWriteStage (path : Path) (addr : Nat) (value : Word)
  /-- HI_WRITE_STORE (R12). A write to _HI stores both halves in one step, or the high half with the current low half when nothing is staged. -/
  | hiWriteStore (path : Path) (addr : Nat) (value : Word)
  /-- MISALIGNED_ACCESS (R4). An access that is not a naturally aligned 32-bit access reads 0xFFFF_FFFF or has its write ignored. -/
  | misalignedAccess (path : Path) (addr size : Nat) (write : Bool)
  /-- ALIAS_WRITE (R14). A write through the inspection alias is ignored, raises E1603 and counts in mgt.alias.write. -/
  | aliasWrite (path : Path) (addr : Nat) (value : Word)
  /-- REGISTER_WRITE (R6). A write to a register that has no row of its own acts as its access code states. -/
  | registerWrite (path : Path) (addr : Nat) (value : Word)
  /-- ISLAND_RESET (R498). VIN falls below 4.2 V; the island resets, every enable and feed gate falls, and the island enters OFF. -/
  | islandReset
  /-- ISLAND_RESET_RELEASE (R499). VIN rises above 4.5 V; the island records cause POWER_ON and enters WAKING. -/
  | islandResetRelease
  /-- ENABLE_STEP (R501). An UP_DLY or DN_DLY elapses, and the island raises or lowers the next PWR_EN in sequence. -/
  | enableStep
  /-- VCORE_GOOD (R499). VCORE reaches 0.68 V in WAKING; RAIL_FAILS is cleared and the island enters RUN with reset release RESET_DLY later. -/
  | vcoreGood
  /-- RAIL_TIMEOUT (R499). RAIL_TO elapses without VCORE good; the enables are lowered, a rail failure is counted and the island enters SLEEP. -/
  | railTimeout
  /-- RAIL_RETRY (R499). 1 s after a first or second rail failure the island records cause RETRY and enters WAKING. -/
  | railRetry
  /-- DEVICE_RESET_RELEASE (R611). Device reset is released once the island's RESET_DLY and the brown-out monitor's 2 ms hold have both passed. -/
  | deviceResetRelease
  /-- BROWN_OUT (R613). A monitored rail stays below its falling threshold for 50 ns; device reset is asserted and the pins take the safe state.
  The command says at what level (mV) the rail has stood for 50 ns, which the monitor compares with the rail's thresholds (R612); written without operands it is VCORE at 0 mV. -/
  | brownOut (rail : Rail := .vcore) (mv : Fin 65536 := 0)
  /-- RESET_PIN (R617). RESET_N held low past its filter holds device reset, and release reads cause 0x3. -/
  | resetPin
  /-- DEVICE_RESET_CMD (R598). DEV_CTL OP DEVICE_RESET with key 0x8828 resets the device scope. -/
  | deviceResetCmd
  /-- MGT_RESET_CMD (R598). DEV_CTL OP MGT_RESET with key 0x8828 resets the management plane. -/
  | mgtResetCmd
  /-- VCORE_LOW_DETECT (R636). Two consecutive VCORE samples below 0.72 V set VCORE_LOW, count pin.vcore.low and raise E1729. -/
  | vcoreLowDetect (mv : Fin 65536)
  /-- THERM_WARN (R635). The junction temperature rises above THERM_WARN; THERM_WARN is set, counted and E1730 raised. -/
  | thermWarn (quarters : Fin 65536)
  /-- VIN_LOW (R527). VIN falls below 5.0 V and LMP_ERR.VIN_LOW is set. -/
  | vinLow (mv : Fin 65536)
  /-- PIN_VCORE_MIN_READ (R640). A live read of PIN_VCORE_MIN returns the lowest VCORE sample and restarts the minimum from the next sample. -/
  | pinVcoreMinRead (path : Path)
  /-- FIRMWARE_BOOT (R488). After device reset release the island ROM picks the boot record, verifies firmware banks, and loads one or declares NO_FIRMWARE. -/
  | firmwareBoot
  /-- BOOT_SELECT (R68). The image loader authenticates slots A and B, compares them, picks a slot or G, and loads it or enters NO_IMAGE. -/
  | bootSelect (glitches : List ReadGlitch)
  /-- BOOT_LOAD_DONE (R71). A successful boot load takes effect at once as epoch 1 and raises E4. -/
  | bootLoadDone
  /-- STAGE (R73). IMG_CMD STAGE authenticates the source slot, loads and merges the overlays, and starts the admission check. -/
  | imgStage (glitches : List ReadGlitch)
  /-- STAGING_COMPLETE (R73). Staging ends: on pass the staged digest is stored and E9 raised; on failure LAST_ERR is set and E10 or E11 raised. -/
  | stagingComplete
  /-- ARM (R76). IMG_CMD ARM checks epoch, lead time and time lock, records T and epoch, raises E12 and sends an arm record when paired. -/
  | imgArm
  /-- ABORT (R73). IMG_CMD ABORT discards the staging and, when armed before T - 200 us, tells the partner. -/
  | imgAbort
  /-- COMMIT_NOW (R73). IMG_CMD COMMIT_NOW on an unpaired member arms the staging with T = now + MIN_LEAD. -/
  | imgCommitNow
  /-- IMG_CONFIG_WRITE (R102). A write to IMG_STAGE_SRC, IMG_COMMIT_TIME or IMG_COMMIT_EPOCH while STAGING, ARMED or COMMITTING is ignored and sets LAST_ERR 0xC. -/
  | imgConfigWrite (path : Path) (reg : StageReg) (value : Word)
  /-- AGREEMENT_DEADLINE (R84). At T - 200 us each armed member decides on its own whether it will commit. -/
  | agreementDeadline
  /-- COMMIT_SWITCH (R82). At T the admission check is repeated, and the staged configuration becomes the new epoch in one step or the commit is refused. -/
  | commitSwitch
  /-- REFUSED_HOLD_EXPIRY (R73). One second after a refused commit, the loader returns from STAGED to RUNNING. -/
  | refusedHoldExpiry
  /-- COMMIT_ROADWORKS_DONE (R73). The last structural unit of a commit returns to service, and the loader raises E15 and enters RUNNING. -/
  | commitRoadworksDone
  /-- KEPT_CONFIG_RELEASE (R86). One second after T a member releases the configuration it did not take. -/
  | keptConfigRelease
  /-- SYNC_RX (R114). A Sync message arrives, is checked, and the relay sends Sync on its master ports. -/
  | syncRx (port : Port) (m : SyncMsg)
  /-- FOLLOW_UP_RX (R653). A Follow_Up that matches a Sync gives a sample, and the servo updates its frequency and phase terms. -/
  | followUpRx (port : Port) (m : FollowUpMsg)
  /-- ANNOUNCE_RX (R116). An Announce message arrives and updates port roles and the grandmaster, raising E68 + d on a change. -/
  | announceRx (port : Port) (m : AnnounceMsg)
  /-- GM_SYNC_SEND (R116). A device that is grandmaster sends Sync and Follow_Up on its master ports each sync interval. -/
  | gmSyncSend (d : Dom)
  /-- ANNOUNCE_SEND (R116). A device that is grandmaster sends Announce on its master ports each announce interval. -/
  | announceSend (d : Dom)
  /-- ANNOUNCE_RECEIPT_TIMEOUT (R142). ANNOUNCE_TIMEOUT announce intervals pass without an Announce, and port roles are decided again. -/
  | announceReceiptTimeout (d : Dom) (port : Port)
  /-- SIGNALING_RX (R118). A Signaling message with an interval request TLV sets the clamped intervals. -/
  | signalingRx (port : Port) (m : SignalingMsg)
  /-- PDELAY_REQ_SEND (R115). The port sends Pdelay_Req each pdelay interval and counts a lost exchange when the last one got no valid response. -/
  | pdelayReqSend (port : Port)
  /-- PDELAY_REQ_RX (R115). A received Pdelay_Req is answered with Pdelay_Resp and Pdelay_Resp_Follow_Up. -/
  | pdelayReqRx (port : Port) (m : PtpHeader)
  /-- PDELAY_RESP_RX (R115). A Pdelay response completes the exchange, updating the mean link delay and asCapable and raising E81 on change. -/
  | pdelayRespRx (port : Port) (r : PdelayResp) (f : PdelayRespFollowUp)
  /-- SYNC_RECEIPT_TIMEOUT (R120). SYNC_TIMEOUT sync intervals pass without a sample, and the domain enters HOLDOVER or FREE_RUN. -/
  | syncReceiptTimeout (d : Dom)
  /-- HOLDOVER_MAX_EXPIRY (R120). HOLDOVER_MAX elapses in HOLDOVER and the domain enters FREE_RUN. -/
  | holdoverMaxExpiry (d : Dom)
  /-- SET (R142). TKP_CMD SET loads TKP_SET_NS into the domain and raises E72 + d, or is refused with CMD_ERR and E80. -/
  | tkpSet (d : Dom)
  /-- RESYNC (R142). TKP_CMD RESYNC restarts the domain's servo in ACQUIRING, or is refused with CMD_ERR and E80. -/
  | tkpResync (d : Dom)
  /-- DOM_ENABLE (R120). A write of DOM_CFG.EN = 1 starts a disabled domain in FREE_RUN from primary-domain time. -/
  | domEnable (d : Dom) (value : Word)
  /-- DOM_DISABLE (R120). A write of DOM_CFG.EN = 0 disables a non-primary domain. -/
  | domDisable (d : Dom) (value : Word)
  /-- DOM_ROLE_WRITE (R116). A write to DOM_ROLE0 or DOM_ROLE1 sets port roles, ignored when it names a second slave port. -/
  | domRoleWrite (d : Dom) (half : Fin 2) (value : Word)
  /-- PPS_IN_EDGE (R126). An edge on PPS in is stamped and used as STAMP or DISCIPLINE sets, or rejected outside the window. -/
  | ppsInEdge (falling : Bool)
  /-- PPS_IN_LOSS (R128). 2.5 s pass without an accepted PPS edge; PPS in is lost and E76 raised. -/
  | ppsInLoss
  /-- PPS_OUT_EDGE (R129). The domain time reaches the programmed phase within the second and PPS out rises. -/
  | ppsOutEdge
  /-- PPS_OUT_WIDTH_END (R129). TKP_PPS_OUT_WIDTH after its rise, PPS out falls. -/
  | ppsOutWidthEnd
  /-- PORT_ENABLE (R149). ADMIN.EN set to 1 on a built port starts the SerDes or PHY and auto-negotiation, entering TRAINING. -/
  | portEnable (port : Port)
  /-- PORT_DISABLE (R149). ADMIN.EN set to 0 finishes the frame on the wire, ends the link epoch and disables the port. -/
  | portDisable (port : Port)
  /-- PCS_LINK_UP (R149). The PCS link comes up and the port enters UP, or STANDBY on a standby member.
  The command says whether the partner signals a remote fault (R182), by default not. -/
  | pcsLinkUp (port : Port) (speed : Fin 8) (remoteFault : Bool := false)
  /-- TRAIN_TIMEOUT (R149). TRAIN_TO elapses without link up; link.train_fail counts and training restarts. -/
  | trainTimeout (port : Port)
  /-- PCS_LINK_LOSS (R149). The PCS link is lost; the link epoch ends and the port enters DOWN. -/
  | pcsLinkLoss (port : Port) (why : LinkLoss)
  /-- PORT_HOLDOFF_EXPIRY (R149). HOLDOFF elapses in DOWN and the port restarts training. -/
  | portHoldoffExpiry (port : Port)
  /-- PORT_ROADWORKS_END (R149). Roadworks on a port ends; its counters restart and it enters TRAINING or DISABLED. -/
  | portRoadworksEnd (port : Port)
  /-- FRAME_RECEIVE (R154). A frame arrives on an Ethernet port and is checked, MACsec-validated and handed to the switch core or dropped. -/
  | frameReceive (port : Port) (ev : RxEvent)
  /-- PAUSE_FRAME_RX (R158). A valid pause frame stops new transmissions for q times 512 bit times. -/
  | pauseFrameRx (port : Port) (group : Bool) (sa : Nat) (quanta : Fin 65536)
  /-- PFC_FRAME_RX (R159). A valid PFC frame stops each enabled class for the time of its entry. -/
  | pfcFrameRx (port : Port) (group : Bool) (sa : Nat) (vector : Fin 65536) (times : List Nat)
  /-- PAUSE_EXPIRY (R158). The pause time of the port or of a PFC class runs out and the transmitter may start frames again. -/
  | pauseExpiry (port : Port) (cls : Option (Fin 8))
  /-- PAUSE_WATCHDOG_TRIP (R162). The transmitter or a class stays paused for PAUSE_CFG.WD ms; WD_TRIP is set and the event raised. -/
  | pauseWatchdogTrip (port : Port)
  /-- PAUSE_WD_CLEAR (R162). A W1C write clearing WD_TRIP makes the port honour received pause and PFC again. -/
  | pauseWdClear (port : Port)
  /-- MAC_CONTROL_TX (R161). A pause or PFC frame is sent as the next frame on the wire after XOFF or XON is signalled. -/
  | macControlTx (port : Port)
  /-- PAUSE_REFRESH (R160). While XOFF persists the port repeats its pause or PFC frame every REFRESH quanta. -/
  | pauseRefresh (port : Port)
  /-- MM_CFG_WRITE (R165). A write to MM_CFG that changes EN or VERIFY_DIS enables or disables MAC merge and verification. -/
  | mmCfgWrite (port : Port) (value : Word)
  /-- VERIFY_TIMEOUT (R165). VERIFY_TIME elapses in VERIFYING; the port sends Verify again or enters FAILED after three tries. -/
  | verifyTimeout (port : Port)
  /-- VERIFY_RX (R163). A valid Verify is answered with a Respond while MM_CFG.EN = 1. -/
  | verifyRx (port : Port)
  /-- RESPOND_RX (R165). A valid Respond in VERIFYING moves verification to SUCCEEDED. -/
  | respondRx (port : Port)
  /-- SA_WRITE (R172). A write to an SA's KEY, NEXT_PN, SSCI or SALT is ignored while the SA is enabled. -/
  | saWrite (path : Path) (port : Port) (sa : SaId) (reg : SaReg) (value : Word)
  /-- SEC_CFG_WRITE (R172). A write to SEC_CFG leaves CIPHER, CONF_OFFSET and DISTRICT unchanged while any SA of the port is enabled. -/
  | secCfgWrite (port : Port) (value : Word)
  /-- BEACON_TX (R174). The PLCA coordinator sends the BEACON that starts each cycle. -/
  | beaconTx (port : Port)
  /-- BEACON_RX (R175). A BEACON arrives, restoring PLCA status or counting a conflict on a coordinator. -/
  | beaconRx (port : Port)
  /-- PLCA_STATUS_LOSS (R175). No BEACON arrives within 400 us; plca.status_down counts and the follower falls back or stops. -/
  | plcaStatusLoss (port : Port)
  /-- PLCA_TX_OPPORTUNITY (R291). At its PLCA transmit opportunity an S-port tests eligibility and sends a frame that fits. -/
  | plcaTxOpportunity (port : Port)
  /-- COLLISION (R176). A frame collides, counts tx.collision and is scheduled for retry, or is dropped after 16 attempts. -/
  | collision (port : Port)
  /-- BACKOFF_EXPIRY (R176). The CSMA/CD backoff after a collision ends and the frame is attempted again. -/
  | backoffExpiry (port : Port)
  /-- FEC_ALARM (R180). fec.uncorrected rises by more than FEC_ALARM within one second and the FEC event is raised. -/
  | fecAlarm (port : Port) (blocks corrected uncorrected : Nat)
  /-- CLASSIFY_FRAME (R185). A frame entering classification is parsed, given a district, run through stages 0-11, isolated and admitted to the cistern. -/
  | classifyFrame (lane : Fin 28)
  /-- LEARN_AGE_OUT (R210). A dynamic entry not refreshed for AGE seconds is removed and counted. -/
  | learnAgeOut
  /-- CB_RESET_TIMER (R218). RESET_MS passes without a passed frame; the stream sets take_any, counts cb.resets and raises E524. -/
  | cbResetTimer (stream : Fin 1024)
  /-- TBL_INSERT (R212). TBL_CMD INSERT adds or replaces an entry atomically. -/
  | tblInsert (path : Path) (table : Fin 32)
  /-- TBL_DELETE (R212). TBL_CMD DELETE removes an entry atomically. -/
  | tblDelete (path : Path) (table : Fin 32)
  /-- TBL_READ (R234). TBL_CMD READ looks an entry up by key and returns it in the window. -/
  | tblRead (path : Path) (table : Fin 32)
  /-- TBL_READ_INDEX (R234). TBL_CMD READ_INDEX returns the entry at TBL_INDEX in the window. -/
  | tblReadIndex (path : Path) (table : Fin 32)
  /-- TBL_WRITE_INDEX (R212). TBL_CMD WRITE_INDEX writes the entry at TBL_INDEX of tables 16-23 or 28-30 atomically. -/
  | tblWriteIndex (path : Path) (table : Fin 32)
  /-- TBL_STAGE (R213). A table command with STAGE = 1 adds one write to the window's batch under a held lease. -/
  | tblStage (path : Path) (table : Fin 32) (op : StagedOp)
  /-- BATCH_APPLY (R213). BATCH_APPLY makes the whole batch visible at once and raises E522. -/
  | batchApply (path : Path) (table : Fin 32)
  /-- BATCH_DISCARD (R213). BATCH_DISCARD discards the batch and raises E523. -/
  | batchDiscard (path : Path) (table : Fin 32)
  /-- WEIR_STAGED_WRITE (R226). A write to WEIR_RATE1, WEIR_RATE2, WEIR_BURST1 or WEIR_BURST2 is staged for the weir. -/
  | weirStagedWrite (weir : Fin 16384) (reg : Fin 4) (value : Word)
  /-- WEIR_CFG_WRITE (R226). A write to WEIR_CFG applies it with the staged writes in one step, or is ignored when PIR would fall below CIR. -/
  | weirCfgWrite (weir : Fin 16384) (value : Word)
  /-- ROUNDABOUT_SLOT (R249). In each cell slot the roundabout runs request, grant and accept rounds and moves one cell per match. -/
  | roundaboutSlot (faults : List SlotFault)
  /-- LANE_ACK_TIMEOUT (R272). A lane transfer is not acknowledged within ACK_TO and the lane fails. -/
  | laneAckTimeout (lane : Fin 28)
  /-- LANE_REMAP_DONE (R275). The failed lane's unit is reconnected through lane 27, raising E533. -/
  | laneRemapDone
  /-- LANE_SELFTEST_DONE (R275). A lane's roadworks self-test ends; on pass the unit moves back, on fail the lane stays on spare. -/
  | laneSelftestDone (lane : Fin 28) (pass : Bool)
  /-- BANK_ALLOC_STOPPED (R268). Allocation has stopped; usable cells fall by 8,192, reservations shrink and E540 is raised. -/
  | bankAllocStopped (bank : Fin 64)
  /-- BANK_DRAIN_DONE (R268). Every frame with a cell in the retiring bank has been dropped and freed; the bank becomes RETIRED or enters ROADWORKS. -/
  | bankDrainDone (bank : Fin 64)
  /-- BANK_BIST_DONE (R268). The bank self-test ends; on pass the bank rejoins service, on fail it is RETIRED, with E542. -/
  | bankBistDone (bank : Fin 64) (pass : Bool)
  /-- CIS_ACCT_SEL_WRITE (R284). A write to CIS_ACCT_SEL latches the five account registers for the writing path. -/
  | cisAcctSelWrite (path : Path) (value : Word)
  /-- EGRESS_SELECT (R288). With at most 100 ns left on the wire, the port selects the eligible class and stages one copy. -/
  | egressSelect (port : Port)
  /-- FRAME_TX_START (R290). A staged frame starts on the wire at its projected start or when its first cell arrives. -/
  | frameTxStart (port : Port)
  /-- FRAME_TX_END (R262). A frame finishes on the wire and its copy's cells are released. -/
  | frameTxEnd (port : Port)
  /-- GATE_CHANGE (R296). The schedule position reaches the next entry and the gate and hold states change. -/
  | gateChange (port : Port)
  /-- S_LANE_STALE_DROP (R292). A frame waits 100 ms in the S-lane buffer without starting and is dropped. -/
  | sLaneStaleDrop
  /-- CAN_FRAME_RX (R333). A valid CAN frame reaches its validity point and is stamped, matched, stored and offered to the gateway. -/
  | canFrameRx (ch : Fin 32) (f : CanFrame)
  /-- CAN_ARBITRATION (R340). At arbitration start the channel offers its lowest-valued candidate frame to the bus. -/
  | canArbitration (ch : Fin 32) (won : Bool)
  /-- CAN_TX_SUCCESS (R335). A frame is sent successfully; it is stamped and its TXRQ or queue entry cleared. -/
  | canTxSuccess (ch : Fin 32) (tdcv : Fin 128)
  /-- CAN_BUS_ERROR (R328). A bus error updates TEC and REC and may move the channel to ERROR_PASSIVE or BUS_OFF. -/
  | canBusError (ch : Fin 32) (e : CanError)
  /-- CAN_INTEGRATION_DONE (R328). 11 consecutive recessive bits in INTEGRATING make the channel ERROR_ACTIVE. -/
  | canIntegrationDone (ch : Fin 32)
  /-- BUS_OFF_HOLD_EXPIRY (R328). BO_HOLD ms elapse in BUS_OFF and the channel enters RECOVERING. -/
  | busOffHoldExpiry (ch : Fin 32)
  /-- CAN_RECOVERY_DONE (R328). 128 occurrences of 11 recessive bits in RECOVERING clear TEC and REC and make the channel ERROR_ACTIVE. -/
  | canRecoveryDone (ch : Fin 32)
  /-- CAN_ROADWORKS_END (R328). Roadworks on a CAN channel ends; counters, TEC and REC restart and it enters INTEGRATING or ABSENT. -/
  | canRoadworksEnd (ch : Fin 32)
  /-- RECOVER (R363). CAN_CTL.RECOVER starts recovery in BUS_OFF when BO_HOLD = 0. -/
  | canRecover (ch : Fin 32)
  /-- TXQ_FLUSH (R338). CAN_CTL.TXQ_FLUSH drops every transmit-queue entry not on the bus. -/
  | canTxqFlush (ch : Fin 32)
  /-- OBJ_TXRQ_WRITE (R335). A write of 1 to OBJ_TXRQ requests transmission of a transmit object. -/
  | objTxrqWrite (ch : Fin 32) (m : Fin 4) (value : Word)
  /-- OBJ_TXCAN_WRITE (R336). A write of 1 to OBJ_TXCAN cancels a pending transmission request. -/
  | objTxcanWrite (ch : Fin 32) (m : Fin 4) (value : Word)
  /-- MSG_READ (R362). MSG_CMD READ copies the selected object or queue head into the path's window. -/
  | msgRead (path : Path) (ch : Fin 32)
  /-- MSG_WRITE (R362). MSG_CMD WRITE writes length, flags and data of a transmit object from the window. -/
  | msgWrite (path : Path) (ch : Fin 32)
  /-- MSG_POP (R362). MSG_CMD POP reads the receive queue head and releases it. -/
  | msgPop (path : Path) (ch : Fin 32)
  /-- MSG_PUSH (R362). MSG_CMD PUSH appends the window to the transmit queue. -/
  | msgPush (path : Path) (ch : Fin 32)
  /-- MSG_READ_CLR (R362). MSG_CMD READ_CLR reads an object and clears its NEWDAT in one step. -/
  | msgReadClr (path : Path) (ch : Fin 32)
  /-- SOFC_LATCH (R346). SOFC_CORR.LATCH latches the SOF counter and network time together for the writing path. -/
  | sofcLatch (path : Path) (ch : Fin 32)
  /-- REF_MESSAGE_DUE (R348). A master candidate makes a reference message pending at each multiple of PERIOD_MS. -/
  | refMessageDue (ch : Fin 32)
  /-- REF_ROLE_TIMEOUT (R349). 2 x PERIOD_MS pass without an accepted message; a backup becomes master or a follower returns to WAIT. -/
  | refRoleTimeout (ch : Fin 32)
  /-- SPDU_FV_WRITE (R357). A write to SPDU_FV sets the freshness value, ignored while the PDU is enabled. -/
  | spduFvWrite (path : Path) (ch : Fin 32) (j : Fin 1024) (half : Half) (value : Word)
  /-- SIGNAL_TIMEOUT (R374). TIMEOUT_MS passes without an update and the rule writes DEFAULT. -/
  | signalTimeout (rule : Fin 8192)
  /-- TARGET_FRAME_PERIOD (R376). Each PERIOD_MS a CAN target frame requests transmission. -/
  | targetFramePeriod (target : Fin 1024)
  /-- LOOKASIDE_CRYPTO_DONE (R381). A culvert frame returns from its lane 26 round trip, encrypted or decrypted. -/
  | lookasideCryptoDone
  /-- CULVERT_RX (R385). A culvert frame reaching the gateway by DEST kind 0x5 is checked and delivered to its target. -/
  | culvertRx
  /-- CULVERT_REWRAP (R387). A culvert frame sent by DEST kind 0x6 is checked and wrapped again under the named rule. -/
  | culvertRewrap
  /-- CULVERT_HOLD_EXPIRY (R386). HOLD_MS passes without an accepted frame and the sequence state sets TAKE_ANY. -/
  | culvertHoldExpiry (rule : Fin 4096) (which : Fin 2)
  /-- ACF_WAIT_EXPIRY (R390). MAX_WAIT_US after its first message, an ACF stream sends its AVTP frame. -/
  | acfWaitExpiry (stream : Fin 256)
  /-- ACF_RX (R391). An AVTP frame matching an ACF ingress rule is accepted and its messages delivered. -/
  | acfRx
  /-- GWY_SEL_WRITE (R401). A write to GWY_SIG_SEL or GWY_CUL_SEL latches its SNAP registers for the writing path. -/
  | gwySelWrite (path : Path) (culvert : Bool) (value : Word)
  /-- MVB_LINE_IDLE (R395). A line is idle for 100 us in INIT and the channel enters DEVICE or BACKUP. -/
  | mvbLineIdle (ch : Fin 2)
  /-- MVB_BASIC_PERIOD (R394). A master starts each basic period and polls the due entries of its poll list. -/
  | mvbBasicPeriod (ch : Fin 2)
  /-- MVB_MASTER_FRAME_RX (R395). A master frame arrives; the channel answers its port or detects a master collision. -/
  | mvbMasterFrameRx (ch : Fin 2) (fcode : Fin 16) (addr : Fin 4096) (lines : MvbLines)
  /-- MVB_TELEGRAM_RX (R396). A slave frame arrives, updates its sink port, is stamped and offered to the gateway. -/
  | mvbTelegramRx (ch : Fin 2) (fcode : Fin 16) (addr : Fin 4096) (data : List Byte) (good : Bool) (lines : MvbLines)
  /-- MVB_REPLY_TIMEOUT (R396). A poll gets no reply within REPLY_TO and mvb.err.timeout counts. -/
  | mvbReplyTimeout (ch : Fin 2)
  /-- MVB_MASTER_TIMEOUT (R395). A backup hears no master frame for its timeout and becomes master. -/
  | mvbMasterTimeout (ch : Fin 2)
  /-- MASTERSHIP_OFFER_RX (R395). A mastership offer by F_code 8 is accepted and the backup becomes master. -/
  | mastershipOfferRx (ch : Fin 2)
  /-- RELINQUISH (R395). MVB_CTL.RELINQUISH makes a master offer mastership to the next administrator. -/
  | relinquish (ch : Fin 2)
  /-- MD_FLUSH (R402). MVB_CTL.MD_FLUSH drops the message transmit queue. -/
  | mdFlush (ch : Fin 2)
  /-- MVB_ROADWORKS_END (R395). Roadworks on an MVB channel ends; counters restart and it enters INIT or ABSENT. -/
  | mvbRoadworksEnd (ch : Fin 2)
  /-- PORT_READ (R402). PORT_CMD READ copies the selected port or queue head into the window. -/
  | portRead (path : Path) (ch : Fin 2)
  /-- PORT_WRITE (R402). PORT_CMD WRITE writes source-port data. -/
  | portWrite (path : Path) (ch : Fin 2)
  /-- PORT_POP (R402). PORT_CMD POP reads and releases the head of the message receive queue. -/
  | portPop (path : Path) (ch : Fin 2)
  /-- PORT_PUSH (R402). PORT_CMD PUSH appends 32 bytes to the message transmit queue. -/
  | portPush (path : Path) (ch : Fin 2)
  /-- FLUME_ITEM_HANDOFF (R409). A producer hands the flume a whole item, which is accepted against its credit or refused. -/
  | flumeItemHandoff (flume : Fin 1536) (producer : Fin 3) (bytes : List Byte)
  /-- FLUME_GRANT (R410). A producer with credit below ALLOT is granted ALLOT slots once free space allows, and held records are offered. -/
  | flumeGrant (flume : Fin 1536) (producer : Fin 3)
  /-- FLUME_READ (R413). FLM_CMD READ copies the item at RD into the path's window and advances RD. -/
  | flumeRead (path : Path) (flume : Fin 1536) (ue : Option Nat)
  /-- FLUME_MARK (R413). FLM_CMD MARK sets MK to RD. -/
  | flumeMark (path : Path) (flume : Fin 1536)
  /-- FLUME_REWIND (R413). FLM_CMD REWIND sets RD to MK. -/
  | flumeRewind (path : Path) (flume : Fin 1536)
  /-- FLUME_RELEASE (R413). FLM_CMD RELEASE sets RL and MK to RD. -/
  | flumeRelease (path : Path) (flume : Fin 1536)
  /-- FLUME_RELEASE_MARK (R413). FLM_CMD RELEASE_MARK sets RL to MK. -/
  | flumeReleaseMark (path : Path) (flume : Fin 1536)
  /-- FLUME_PEEK (R413). FLM_CMD PEEK copies the item at RD into the window without advancing RD. -/
  | flumePeek (path : Path) (flume : Fin 1536) (ue : Option Nat)
  /-- FLUME_STALE (R415). The stale-tail timer expires while RD differs from WR; E1161 is raised and STALE set. -/
  | flumeStale (flume : Fin 1536)
  /-- POINTER_MISMATCH (R416). The ditch rider finds the two copies of a position differ and forces a flume reset. -/
  | pointerMismatch (flume : Fin 1536) (position : Fin 4) (copy : Word)
  /-- POSTED_WRITE (R430). A write through BAR0 or a posted window is forwarded in arrival order without waiting. -/
  | postedWrite (via : HostVia) (value : Word)
  /-- ACK_WINDOW_WRITE (R431). A write to an acknowledged window is forwarded and holds later acknowledged-window transactions until it completes. -/
  | ackWindowWrite (w : Fin 16) (off : Fin 1048576) (value : Word)
  /-- ACK_WRITE_COMPLETE (R431). An acknowledged write completes at its target and the held transactions are released. -/
  | ackWriteComplete
  /-- ACK_TIMEOUT (R433). An acknowledged write not accepted within ACK_TO is withdrawn and the held transactions released. -/
  | ackTimeout
  /-- ACK_LONG (R434). An accepted acknowledged write not completed within 1 ms stays in force and the held transactions are released. -/
  | ackLong
  /-- QP_ENABLE (R438). QP_CTL.EN set to 1 starts the queue pair when its conditions hold, or leaves it disabled with ERR. -/
  | qpEnable (q : Fin 1024) (value : Word)
  /-- QP_DISABLE (R438). QP_CTL.EN set to 0 finishes the writeback in progress and discards the rest of the queue. -/
  | qpDisable (q : Fin 1024) (value : Word)
  /-- QP_TAIL_WRITE (R437). A TAIL write posts descriptors or hands entries back, or is ignored when out of range. -/
  | qpTailWrite (q : Fin 1024) (tx : Bool) (value : Word)
  /-- DMA_TX_FETCH (R440). The bridge reads a whole host frame and places it on lane 21, or writes back an error status. -/
  | dmaTxFetch (q : Fin 1024) (descs : List TxDesc)
  /-- DMA_CPL_TIMEOUT (R438). A descriptor or buffer read completion does not arrive within CPL_TO and the transmit side stops. -/
  | dmaCplTimeout (q : Fin 1024) (n : Fin 17)
  /-- HOST_RX_FRAME (R443). A frame at the head of lane 21 is written into posted host buffers or dropped. -/
  | hostRxFrame (descs : List RxDesc)
  /-- QUEUE_ENGINE_ITEM (R443). The queue engine writes a flume item into an event or mailbox ring entry. -/
  | queueEngineItem (q : Fin 1024)
  /-- IRQ_MODERATION_EXPIRY (R444). TIME us after the first unannounced entry the queue's MSI-X vector is sent. -/
  | irqModerationExpiry (q : Fin 1024)
  /-- MSIX_UNMASK (R444). Unmasking a vector with its pending bit set sends the message. -/
  | msixUnmask (vector : Fin 2048)
  /-- PCIE_LINK_DOWN (R447). Data link down, hot reset, function-level reset or PERST# ends the host link epoch. -/
  | pcieLinkDown (why : PcieDown)
  /-- PCIE_LINK_UP (R447). The data link comes up and the host link enters UP or HOLD. -/
  | pcieLinkUp (speed : Fin 16) (width : Fin 8)
  /-- HBR_HOLDOFF_EXPIRY (R447). HOLDOFF elapses since the epoch ended and HOLD becomes UP. -/
  | hbrHoldoffExpiry
  /-- MBX_SEND (R451). HBR_MBX_CMD SEND hands the mailbox message to the management flume or refuses it. -/
  | mbxSend (value : Word)
  /-- PING (R453). The firmware answers a PING request. -/
  | fwPing
  /-- FLASH_ERASE (R453). The firmware erases the requested flash range and replies. -/
  | flashErase (fault : Option (List Byte))
  /-- FLASH_WRITE (R453). The firmware writes the request's data to flash and replies. -/
  | flashWrite (fault : Option (List Byte))
  /-- FLASH_READ (R453). The firmware reads the requested flash range and returns it in the reply. -/
  | flashRead (fails : Bool)
  /-- GENERATE (R469). KEY_CMD GENERATE fills the target slot from the DRBG or with a new EC key pair. -/
  | keyGenerate (path : Path)
  /-- IMPORT (R471). KEY_CMD IMPORT unwraps a key into the target slot. -/
  | keyImport (path : Path) (w5649 : Bool)
  /-- EXPORT (R472). KEY_CMD EXPORT wraps an exportable imported key under the source slot. -/
  | keyExport (path : Path) (w5649 : Bool)
  /-- DERIVE (R478). KEY_CMD DERIVE fills the target from SP 800-108 keyed by the source or the sealing root. -/
  | keyDerive (path : Path)
  /-- ECDH (R469). KEY_CMD ECDH fills the target with the shared x-coordinate. -/
  | keyEcdh (path : Path)
  /-- PUBKEY (R469). KEY_CMD PUBKEY returns the public key of the target slot. -/
  | keyPubkey (path : Path)
  /-- ERASE (R469). KEY_CMD ERASE empties and zeroises the target and its pair half. -/
  | keyErase (path : Path)
  /-- SIGN (R469). KEY_CMD SIGN returns an ECDSA signature of the digest with the target key. -/
  | keySign (path : Path)
  /-- ATTEST (R480). KEY_CMD ATTEST returns the 288-byte attestation record keyed by an attestation slot. -/
  | keyAttest (path : Path)
  /-- PROVENANCE (R481). KEY_CMD PROVENANCE returns the 384-byte statement signed by the identity key. -/
  | keyProvenance (path : Path)
  /-- RANDOM (R469). KEY_CMD RANDOM returns LEN bytes from the DRBG. -/
  | keyRandom (path : Path)
  /-- ROLLBACK (R492). KEY_CMD ROLLBACK blows anti-rollback fuses one at a time up to the target count. -/
  | keyRollback (path : Path) (fuseFails : Option (Fin 65))
  /-- FW_INSTALL (R489). KEY_CMD FW_INSTALL checks and copies the staged firmware into the idle bank and rewrites the boot records. -/
  | keyFwInstall (path : Path) (fault : Option FlashFault)
  /-- PROVISION (R490). KEY_CMD PROVISION writes the signer table to both boot records and fuses the anchor. -/
  | keyProvision (path : Path) (fault : Option FlashFault) (fuseFails : Bool)
  /-- REVOKE (R491). KEY_CMD REVOKE blows the revocation fuse of a signer entry or FWKEY0. -/
  | keyRevoke (path : Path) (fuseFails : Bool)
  /-- GEN_AT_LOAD_DONE (R467). A GEN_AT_LOAD slot is filled after the boot load or commit, or stays empty with GEN_FAIL. -/
  | genAtLoadDone (slot : Fin 8192)
  /-- ENTROPY_HEALTH_FAIL (R484). An entropy health test fails; the DRBG stops, RNG reads FAILED and E1411 is raised. -/
  | entropyHealthFail (test : Fin 3)
  /-- ENTROPY_STARTUP_DONE (R484). The start-up test passes, the DRBG is instantiated, RNG reads OK and E1412 is raised. -/
  | entropyStartupDone
  /-- DRBG_RESEED (R483). After 65,536 requests or 10 s the DRBG reseeds and key.drbg.reseed counts. -/
  | drbgReseed
  /-- SLEEP_ENTRY (R499). The sleep condition holds in RUN; E1474 is raised and the grace period starts. -/
  | sleepEntry
  /-- GRACE_EXPIRY (R499). GRACE elapses in SLEEPING; device reset is asserted and the enables lowered in descending order. -/
  | graceExpiry
  /-- MIN_OFF_EXPIRY (R499). MIN_OFF after the last enable is lowered, the island arms its sources and enters SLEEP, or wakes. -/
  | minOffExpiry
  /-- WAKE_FRAME_MATCH (R505). A selective-wake decoder decodes a frame; a wake-up frame wakes the island and errors move its error counter. -/
  | wakeFrameMatch (ch : Fin 32) (frame : Option CanFrame)
  /-- WAKE_PIN (R507). A wake pin holds its new level for FILT ticks and wakes the island. -/
  | wakePin (pin : Fin 4) (level : Bool)
  /-- ALARM_MATCH (R508). The island count reaches LMP_ALARM and wakes the island, or latches the cause in RUN. -/
  | alarmMatch
  /-- WAKE_WINDOW_EXPIRY (R509). A confirmation window ends unconfirmed; the false wake counts and the source may be disarmed. -/
  | wakeWindowExpiry (source : Fin 36)
  /-- LMP_SLEEP (R510). LMP_CMD SLEEP sets SLEEP_REQ. -/
  | lmpSleep
  /-- LMP_CANCEL (R510). LMP_CMD CANCEL clears SLEEP_REQ and cancels a sleep in grace. -/
  | lmpCancel
  /-- CONFIRM (R509). LMP_CMD CONFIRM confirms every pin wake whose window is open. -/
  | lmpConfirm
  /-- REARM (R509). LMP_CMD REARM clears every false-wake count, rearms every source and raises E1491. -/
  | lmpRearm
  /-- LATCH (R527). LMP_CMD LATCH latches the island count and network time together for the writing path. -/
  | lmpLatch (path : Path)
  /-- RING_TTYP_EXPIRY (R517). TTYP elapses and the ring sends RING to its successor or leaves RESET. -/
  | ringTtypExpiry (ring : Fin 4)
  /-- RING_TMAX_EXPIRY (R517). TMAX passes without a RING for this node; it sends ALIVE and enters RESET. -/
  | ringTmaxExpiry (ring : Fin 4)
  /-- RING_MEMBER_TIMEOUT (R515). A member silent for TERROR is removed and E1484 + r raised. -/
  | ringMemberTimeout (ring : Fin 4) (addr : Fin 256)
  /-- RING_TWBS_EXPIRY (R517). TWBS elapses in WAIT_BUS_SLEEP and the ring enters BUS_SLEEP. -/
  | ringTwbsExpiry (ring : Fin 4)
  /-- LIMPHOME_TERROR (R517). Every TERROR in LIMPHOME the node sends LIMPHOME or moves towards WAIT_BUS_SLEEP. -/
  | limphomeTerror (ring : Fin 4)
  /-- FEED_ON (R519). FEED_CMD ON starts the gate ramp and energy integral. -/
  | feedOn (feed : Fin 4)
  /-- FEED_OFF (R519). FEED_CMD OFF pulls the gate down and the feed enters OFF. -/
  | feedOff (feed : Fin 4)
  /-- FEED_CLEAR (R519). FEED_CMD CLEAR clears TRIPS of a latched feed and enters OFF. -/
  | feedClear (feed : Fin 4)
  /-- FEED_RAMP_DONE (R519). The gate ramp completes and the feed enters ON. -/
  | feedRampDone (feed : Fin 4) (energy : Fin 65536)
  /-- FEED_TRIP (R519). Overcurrent, short circuit or excess ramp energy pulls the gate down and counts a trip, entering COOL or LATCHED. -/
  | feedTrip (feed : Fin 4) (cause : TripCause) (energy : Fin 65536)
  /-- FEED_OC_BLANK_EXPIRY (R519). Overcurrent persists for BLANK in ON and the feed trips. -/
  | feedOcBlankExpiry (feed : Fin 4)
  /-- FEED_COOL_EXPIRY (R519). COOL_MS after a trip the ramp starts again. -/
  | feedCoolExpiry (feed : Fin 4)
  /-- FEED_TRIP_CLEAR_TIMER (R519). One second in ON without a trip clears TRIPS. -/
  | feedTripClearTimer (feed : Fin 4)
  /-- FEED_OVERVOLTAGE (R519). VIN above 40.5 V with OV_OFF = 1 pulls the gate down and the feed enters OV_HOLD. -/
  | feedOvervoltage (mv : Fin 65536)
  /-- FEED_OV_RECOVER (R519). VIN falls below 39 V in OV_HOLD and the ramp restarts. -/
  | feedOvRecover (mv : Fin 65536)
  /-- TFAIL_TOGGLE (R532). Every 100 us TFAIL_OUT changes level while enabled. -/
  | tfailToggle
  /-- TFAIL_IN_EDGE (R533). An edge passes TFAIL_IN's filter and restores the input after four edges in a row. -/
  | tfailInEdge
  /-- TFAIL_IN_LOSS (R533). 300 us pass without a TFAIL_IN edge; the input is lost and resolution triggers. -/
  | tfailInLoss
  /-- HEARTBEAT_TX (R541). Each HB_PERIOD the member sends HEARTBEAT, or IDENTITY while in WAIT. -/
  | heartbeatTx
  /-- IDENTITY_RX (R541). An IDENTITY record starts PAIRING, or is ignored during HOLDOFF. -/
  | identityRx (pairId seq : Word) (body : List Byte)
  /-- HEARTBEAT_RX (R540). A HEARTBEAT record updates partner state and checks the mirror sequence. -/
  | heartbeatRx (pairId seq : Word) (body : List Byte)
  /-- HEARTBEAT_LOSS (R550). HB_MISS heartbeat periods pass without a valid HEARTBEAT and resolution triggers. -/
  | heartbeatLoss
  /-- TANDEM_ARM_RX (R83). An ARM record from the partner is stored for the agreement decision. -/
  | tandemArmRx (pairId seq : Word) (body : List Byte)
  /-- TANDEM_ABORT_RX (R84). An ABORT record from the partner prevents the commit at T. -/
  | tandemAbortRx (pairId seq : Word) (body : List Byte)
  /-- RESOLVE_REQUEST_RX (R550). A RESOLVE request makes the member start its own self-check. -/
  | resolveRequestRx (pairId seq : Word) (body : List Byte)
  /-- RESOLVE_RESULT_RX (R552). A RESOLVE result from the partner is taken as evidence for the verdict. -/
  | resolveResultRx (pairId seq : Word) (body : List Byte)
  /-- RESYNC_REQ_RX (R541). The active member receives RESYNC_REQ and sends the bulk again. -/
  | resyncReqRx (pairId seq : Word) (body : List Byte)
  /-- SWITCH_RX (R555). On a SWITCH record the standby takes over and sends a bulk. -/
  | switchRx (pairId seq : Word) (body : List Byte)
  /-- LEARN_RECORD_RX (R545). A LEARN mirror record installs, updates or removes learning entries on the standby. -/
  | learnRecordRx (pairId seq : Word) (body : List Byte)
  /-- CB_RECORD_RX (R545). A CB mirror record stores stream recovery state on the standby. -/
  | cbRecordRx (pairId seq : Word) (body : List Byte)
  /-- RING_RECORD_RX (R545). A RING mirror record stores a curfew ring's state and members on the standby. -/
  | ringRecordRx (pairId seq : Word) (body : List Byte)
  /-- FLUME_RECORD_RX (R545). A FLUME mirror record stores mirrored flume positions on the standby. -/
  | flumeRecordRx (pairId seq : Word) (body : List Byte)
  /-- GWLAST_RECORD_RX (R545). A GWLAST mirror record stores gateway signal last values on the standby. -/
  | gwlastRecordRx (pairId seq : Word) (body : List Byte)
  /-- BULK_START_RX (R541). A BULK_START record begins a bulk resynchronisation on the standby. -/
  | bulkStartRx (pairId seq : Word) (body : List Byte)
  /-- BULK_END_RX (R541). A BULK_END applied with continuous SEQ sets SYNCED and the standby becomes PAIRED. -/
  | bulkEndRx (pairId seq : Word) (body : List Byte)
  /-- DIGEST_RECORD_RX (R549). The standby recomputes a DIGEST record's decision and counts a match or mismatch. -/
  | digestRecordRx (pairId seq : Word) (body : List Byte)
  /-- PAIR_WAIT_EXPIRY (R541). PAIR_WAIT elapses in WAIT and the member becomes ALONE or ISOLATED. -/
  | pairWaitExpiry
  /-- TDM_HOLDOFF_EXPIRY (R542). HOLDOFF after a pairing ended elapses and a returning partner may pair again. -/
  | tdmHoldoffExpiry
  /-- EPOCH_FOLLOW_TIMEOUT (R541). Epochs still differ 1 s after a commit and the standby ends the pairing. -/
  | epochFollowTimeout
  /-- SELF_CHECK_DONE (R551). The member's self-check ends and its result is sent in RESOLVE. -/
  | selfCheckDone (pass : Bool) (detail : Word)
  /-- RESOLVE_TIMEOUT (R552). RESOLVE_TO elapses since the trigger and the verdict is made without a partner result. -/
  | resolveTimeout
  /-- SWITCHOVER (R555). TDM_CMD SWITCHOVER moves the active member to standby and sends SWITCH. -/
  | tdmSwitchover
  /-- RESUME (R541). TDM_CMD RESUME leaves FROZEN and restarts mirroring. -/
  | tdmResume
  /-- RETIRE (R551). TDM_CMD RETIRE moves the member to FAULTY. -/
  | tdmRetire
  /-- REJOIN (R558). TDM_CMD REJOIN moves a FAULTY member to WAIT with a new PAIR_ID. -/
  | tdmRejoin
  /-- WATCHDOG_EXPIRY (R569). The management watchdog expires and resets the management plane. -/
  | watchdogExpiry
  /-- WDT_KICK (R569). A core's write of 0xA55A to MGT_WDT_KICK restarts the watchdog; another value sets KICK. -/
  | wdtKick (path : Path) (value : Word)
  /-- MGT_SRAM_UE (R566). An uncorrectable management SRAM error resets the management plane. -/
  | mgtSramUe
  /-- WATCHER_CHECK (R578). A counter watcher reads its counter each ms and raises a record when it has risen by DELTA in the window. -/
  | watcherCheck (k : Fin 256)
  /-- SNAPSHOT (R581). MGT_SNAP_CMD copies the group of each selected buffer at one instant and raises E1601. -/
  | snapshot (mask : Fin 65536)
  /-- PATROL_WORD (R583). The ditch rider's patrol reads and corrects the next memory word and handles an uncorrectable error. -/
  | patrolWord (spot : PatrolSpot) (found : WordFound) (passEnd : Option (List (Fin 31 × Word)))
  /-- RW_START (R587). MGT_RW_CMD START takes the requested unit out of service, or is refused with E1604. -/
  | rwStart
  /-- RW_RELEASE (R587). MGT_RW_CMD RELEASE runs the test of a held unit. -/
  | rwRelease
  /-- RW_UNIT_OUT (R587). The requested unit is out of service, and the engine runs its test or holds it. -/
  | rwUnitOut
  /-- RW_TEST_DONE (R587). A unit's self-test ends; the unit returns to service or stays out, and E1602 is raised. -/
  | rwTestDone (pass : Bool)
  /-- TABLE_ROADWORKS_END (R89). Roadworks on a table memory ends and lookups use the table again. -/
  | tableRoadworksEnd (table : Fin 31)
  /-- PARSER_ROADWORKS_END (R89). Parser roadworks ends and frames are classified again. -/
  | parserRoadworksEnd
  /-- ACQUIRE (R590). LEASE_CMD ACQUIRE takes a free lease for the path or renews its own. -/
  | leaseAcquire (path : Path) (lease : Fin 64) (timeout : Fin 65536)
  /-- RENEW (R590). LEASE_CMD RENEW restarts the timer of a lease the path holds. -/
  | leaseRenew (path : Path) (lease : Fin 64) (timeout : Fin 65536)
  /-- LEASE_RELEASE (R590). LEASE_CMD RELEASE frees the lease and discards its batch. -/
  | leaseRelease (path : Path) (lease : Fin 64) (timeout : Fin 65536)
  /-- LEASE_EXPIRY (R591). A lease timer reaches 0; the lease is freed, staged writes discarded and E1605 raised. -/
  | leaseExpiry (lease : Fin 64)
  /-- DBG_CHALLENGE (R594). The DBG_CHALLENGE instruction shifts out a fresh 64-byte challenge. -/
  | dbgChallenge
  /-- DBG_RESPONSE (R595). The DBG_RESPONSE instruction unlocks the debug port on a valid signature, or counts a refusal. -/
  | dbgResponse (response : List Byte)
  /-- DBG_LOCK (R593). The DBG_LOCK instruction returns the debug port to LOCKED. -/
  | dbgLock
  /-- REG_ACCESS (R596). The REG_ACCESS instruction reads through the alias or writes a register as the debug path. -/
  | regAccess (write : Bool) (addr : Nat) (value : Word)
  /-- IDCODE (R593). The IDCODE instruction shifts out the device identification code. -/
  | idcode
  /-- BYPASS (R593). The BYPASS instruction passes TDI to TDO through one bit. -/
  | bypass (tdi : List Bool)
  /-- SAMPLE_PRELOAD (R593). The SAMPLE/PRELOAD instruction samples or preloads the boundary-scan register. -/
  | samplePreload (tdi : List Bool)
  /-- EXTEST (R593). The EXTEST instruction drives the pins from the boundary-scan register when unlocked, else acts as BYPASS. -/
  | extest (tdi : List Bool)
  /-- CORE_HALT (R597). Setting a HALT bit halts the management core at an instruction boundary. -/
  | coreHalt (path : Path) (core : Fin 4)
  /-- CORE_RESUME (R597). Clearing a HALT bit resumes the core. -/
  | coreResume (path : Path) (core : Fin 4)
  /-- CORE_STEP (R597). Writing 1 to a STEP bit runs one instruction on a halted core. -/
  | coreStep (path : Path) (core : Fin 4)
  /-- GPIO_EDGE (R623). A selected edge on an MF pin in GPIO input raises E1728 and counts. -/
  | gpioEdge (pin : Fin 48) (level : Bool)
  /-- CAPTURE_EDGE (R624). A selected edge on a time-capture pin is stamped into CAP_NS and raises E1732 + k. -/
  | captureEdge (k : Fin 4) (level : Bool)
  /-- GPIO_OUT_WRITE (R623). A write to GPIO_OUT sets the output bits driven by GPIO-output pins. -/
  | gpioOutWrite (high : Bool) (value : Word)
  /-- GPIO_SET (R629). A write to GPIO_SET sets the selected output bits. -/
  | gpioSet (high : Bool) (value : Word)
  /-- GPIO_CLR (R629). A write to GPIO_CLR clears the selected output bits. -/
  | gpioClr (high : Bool) (value : Word)
  /-- PIN_SWITCH_DONE (R627). The safe interval of a function switch ends and the new pin function starts. -/
  | pinSwitchDone (pin : Fin 48) (level : Bool)
  /-- LED_TIMER (R626). The 50 ms activity interval of a port LED ends and the LED returns to its state. -/
  | ledTimer (pin : Fin 48)
  /-- MIRROR_INTERVAL_EXPIRY (R545). A mirror coalescing interval ends and the active member sends the deferred mirror record: once per CB_INTERVAL per stream, once per ms per flume or gateway rule, and every TTYP for a ring. -/
  | mirrorIntervalExpiry (item : MirrorItem)
  /-- AER_ERROR (R456). The host bridge detects a PCIe correctable or uncorrectable error, counts it in hbr.aer.corr or hbr.aer.uncorr, and for an uncorrectable one sets HBR_ERR.AER_UNCORR. -/
  | aerError (uncorrectable : Bool)
  /-- FIRST_BUS_IDLE (R89). The first CAN bus idle at or after the commit instant starts roadworks on a CAN channel whose build changed, dropping its pending transmissions. -/
  | firstBusIdle (ch : Fin 32)
deriving DecidableEq, Repr

end Sys2Proof
end

