-- ==== Sys2Proof/Decode.lean ====
section
/-!
DEFINITION. What the words of the opcode table spell. The table gives no row any bits: a command of this block is an access, a frame, an
edge or a timer, and no word of bits stands for one. So no word spells a command.
-/
namespace Sys2Proof

/-- The command that a word spells by the table's bits: none, since no row of the table has bits. -/
def decodeTableWord (_nbits _w : Nat) : Option Instr := none

end Sys2Proof
end

