-- ==== Sys2Proof/Machine/Bits.lean ====
section
/-!
DEFINITION. Bit fields of registers, byte orders and the arithmetic of fixed widths: the helpers every block uses.
Register tables list bits high:low, both ends inclusive (00_scope.md, Numbers and units).
-/
namespace Sys2Proof.Machine

/-- Bits `hi:lo` of a register. -/
def field (w : Word) (hi lo : Nat) : Nat := (w.toNat / 2 ^ lo) % 2 ^ (hi + 1 - lo)

/-- The register with `v` in bits `hi:lo`, the other bits kept. -/
def setField (w : Word) (hi lo v : Nat) : Word :=
  BitVec.ofNat 32 (w.toNat - field w hi lo * 2 ^ lo + (v % 2 ^ (hi + 1 - lo)) * 2 ^ lo)

/-- Bit `i` of a register. -/
def bit (w : Word) (i : Nat) : Bool := w.toNat.testBit i

/-- The register with bit `i` set to `b`. -/
def setBit (w : Word) (i : Nat) (b : Bool) : Word := setField w i i b.toNat

/-- A register holding the number `n` modulo 2^32. -/
def word (n : Nat) : Word := BitVec.ofNat 32 n

/-- A byte holding the number `n` modulo 256. -/
def byte (n : Nat) : Byte := BitVec.ofNat 8 n

/-- An integer in two's complement, `w` bits. -/
def twos (w : Nat) (i : Int) : Nat := (i % (2 ^ w : Nat)).toNat

/-- The signed value of the `w`-bit number `n`. -/
def signed (w n : Nat) : Int := if n % 2 ^ w < 2 ^ (w - 1) then ((n % 2 ^ w : Nat) : Int) else ((n % 2 ^ w : Nat) : Int) - (2 ^ w : Nat)

/-- The value whose residue modulo `m` is `low` and which lies nearest `own`, the earlier on a tie (00_scope.md R21). -/
def nearest (m low own : Nat) : Nat :=
  let c := own / m * m + low
  let near := fun (x y : Nat) => if ((own : Int) - y).natAbs < ((own : Int) - x).natAbs then y else x
  if m ≤ c then near (near (c - m) c) (c + m) else near c (c + m)

/-- The number that little-endian bytes spell (02_ikiem_images.md R50). -/
def le : List Byte → Nat
  | [] => 0
  | b :: bs => b.toNat + 256 * le bs

/-- The number that big-endian bytes spell. -/
def be (bs : List Byte) : Nat := le bs.reverse

/-- `n` little-endian bytes of `v`. -/
def leBytes : Nat → Nat → List Byte
  | 0, _ => []
  | n + 1, v => byte v :: leBytes n (v / 256)

/-- `n` big-endian bytes of `v`. -/
def beBytes (n v : Nat) : List Byte := (leBytes n v).reverse

/-- `len` bytes from offset `off`. -/
def slice (bs : List Byte) (off len : Nat) : List Byte := (bs.drop off).take len

/-- The little-endian number in `len` bytes at `off`. -/
def leAt (bs : List Byte) (off len : Nat) : Nat := le (slice bs off len)

/-- The big-endian number in `len` bytes at `off`. -/
def beAt (bs : List Byte) (off len : Nat) : Nat := be (slice bs off len)

/-- `bs` with `new` written over it from offset `off`. -/
def overwrite (bs : List Byte) (off : Nat) (new : List Byte) : List Byte :=
  bs.take off ++ (new ++ bs.drop (off + new.length))

/-- `bs` with zero bytes after it up to `n` bytes, cut at `n`. -/
def padTo (n : Nat) (bs : List Byte) : List Byte := (bs ++ List.replicate (n - bs.length) 0).take n

/-- Are all bytes zero? -/
def allZero (bs : List Byte) : Bool := bs.all (fun b => b == 0)

/-- Has a value no bit outside a mask? -/
def within (v mask : Nat) : Bool := v &&& mask == v

/-- The quotient rounded up. -/
def ceilDiv (a b : Nat) : Nat := (a + b - 1) / b

/-- `v` held within `lo` and `hi`. -/
def clamp (lo hi v : Nat) : Nat := if v < lo then lo else if hi < v then hi else v

/-- `v` held within `lo` and `hi`. -/
def clampInt (lo hi v : Int) : Int := if v < lo then lo else if hi < v then hi else v

/-- The number of ones among the low `n` bits of `v`. -/
def popCount : Nat → Nat → Nat
  | 0, _ => 0
  | n + 1, v => v % 2 + popCount n (v / 2)

/-- The indices below `n` whose bit is set in `v`, ascending. -/
def bitsOf (n v : Nat) : List Nat := (List.range n).filter (fun i => v.testBit i)

/-- The words that bytes spell, four to a word, the lowest byte in bits 7:0. -/
def wordsOf : List Byte → List Word
  | [] => []
  | a :: [] => [word a.toNat]
  | a :: b :: [] => [word (le [a, b])]
  | a :: b :: c :: [] => [word (le [a, b, c])]
  | a :: b :: c :: d :: bs => word (le [a, b, c, d]) :: wordsOf bs

/-- The bytes of words, the lowest byte of each first. -/
def bytesOf (ws : List Word) : List Byte := ws.flatMap (fun w => leBytes 4 w.toNat)

/-- The low half of a 64-bit value. -/
def lo32 (n : Nat) : Word := word n

/-- The high half of a 64-bit value. -/
def hi32 (n : Nat) : Word := word (n / 2 ^ 32)

/-- Bitwise exclusive or of two byte strings, the length of the shorter. -/
def xorBytes (a b : List Byte) : List Byte := List.zipWith (fun x y => x ^^^ y) a b

/-- Puts `x` at its place in a list that `le` orders. -/
def insertBy {α : Type} (le : α → α → Bool) (x : α) : List α → List α
  | [] => [x]
  | y :: ys => if le x y then x :: y :: ys else y :: insertBy le x ys

/-- Sorts a list, keeping the order of equals. -/
def sortBy {α : Type} (le : α → α → Bool) (xs : List α) : List α := xs.foldr (insertBy le) []

end Sys2Proof.Machine
end

