-- ==== Sys2Proof/Machine/Aes.lean ====
section
/-!
DEFINITION. AES and the constructions over it that the spec names by their standards. PRESUMED (notes/assumptions/10.md): FIPS 197, NIST SP 800-38B
(CMAC) and 800-38D (GCM), RFC 3394 and RFC 5649 (key wrap). Blocks are 128-bit numbers, first byte most significant.
-/
namespace Sys2Proof.Machine

/-! ### The block cipher (FIPS 197) -/

/-- The S-box and its inverse: entry `x` in bits 8x to 8x + 7. -/
def aesSbox (x : Nat) : Nat :=
  0x16BB54B00F2D99416842E6BF0D89A18CDF2855CEE9871E9B948ED9691198F8E19E1DC186B95735610EF6034866B53E708A8BBD4B1F74DDE8C6B4A61C2E2578BA08AE7A65EAF4566CA94ED58D6D37C8E779E4959162ACD3C25C2406490A3A32E0DB0B5EDE14B8EE4688902A22DC4F816073195D643D7EA7C41744975FEC130CCDD2F3FF1021DAB6BCF5389D928F40A351A89F3C507F02F94585334D43FBAAEFD0CF584C4A39BECB6A5BB1FC20ED00D153842FE329B3D63B52A05A6E1B1A2C830975B227EBE28012079A059618C323C7041531D871F1E5A534CCF73F362693FDB7C072A49CAFA2D4ADF04759FA7DC982CA76ABD7FE2B670130C56F6BF27B777C63 >>> (8 * x) % 256
def aesSboxInv (x : Nat) : Nat :=
  0x7D0C2155631469E126D677BA7E042B17619953833CBBEBC8B0F52AAE4D3BE0A0EF9CC9939F7AE52D0D4AB519A97F51605FEC8027591012B131C7078833A8DD1FF45ACD78FEC0DB9A2079D2C64B3E56FC1BBE18AA0E62B76F89C5291D711AF1476EDF751CE837F9E28535ADE72274AC9673E6B4F0CECFF297EADC674F4111913A6B8A130103BDAFC1020F3FCA8F1E2CD00645B3B80558E4F70AD3BC8C00ABD890849D8DA75746155EDAB9EDFD5048706C92B6655DCC5CA4D41698688664F6F87225D18B6D49A25B76B224D92866A12E084EC3FA420B954CEE3D23C2A632947B54CBE9DEC444438E3487FF2F9B8239E37CFBD7F3819EA340BF38A53630D56A0952 >>> (8 * x) % 256

/-- Multiplication by x, and by a number up to 15, in the field of AES. -/
def aesTwice (b : Nat) : Nat := if 2 * b < 256 then 2 * b else 2 * b ^^^ 0x11B
def aesMul (k b : Nat) : Nat :=
  (if k.testBit 0 then b else 0) ^^^ ((if k.testBit 1 then aesTwice b else 0) ^^^
    ((if k.testBit 2 then aesTwice (aesTwice b) else 0) ^^^ (if k.testBit 3 then aesTwice (aesTwice (aesTwice b)) else 0)))

/-- Byte `i` of a block, and the block of 16 bytes. -/
def blockByte (x i : Nat) : Nat := x >>> (8 * (15 - i)) % 256
def blockOf (f : Nat → Nat) : Nat := (List.range 16).foldl (fun (acc : Nat) i => 256 * acc + f i) 0

/-- SubBytes with ShiftRows, MixColumns, and their inverses. -/
def subShift (x : Nat) : Nat := blockOf (fun i => aesSbox (blockByte x ((i + 4 * (i % 4)) % 16)))
def subShiftInv (x : Nat) : Nat := blockOf (fun i => aesSboxInv (blockByte x ((i + 12 * (i % 4)) % 16)))
def mixWith (m : List Nat) (x : Nat) : Nat :=
  blockOf (fun i => ((List.range 4).map (fun k => aesMul (m.getD ((k + 4 - i % 4) % 4) 0) (blockByte x (i / 4 * 4 + k)))).foldl (fun (a b : Nat) => a ^^^ b) 0)
def mixColumns (x : Nat) : Nat := mixWith [2, 3, 1, 1] x
def mixColumnsInv (x : Nat) : Nat := mixWith [14, 11, 13, 9] x

/-- Words of the key schedule, latest first: `count` more after those in `ws`, of a key of `nk` words. -/
def subWord (w : Nat) : Nat := ([3, 2, 1, 0] : List Nat).foldl (fun (acc : Nat) i => 256 * acc + aesSbox (w >>> (8 * i) % 256)) 0
def keyWords (nk : Nat) : Nat → Nat → List Nat → List Nat
  | 0, _, ws => ws
  | count + 1, rcon, ws =>
    let i := ws.length
    let t := ws.headD 0
    let u := if i % nk = 0 then subWord (t * 256 % 2 ^ 32 + t / 2 ^ 24) ^^^ rcon * 2 ^ 24
      else if 6 < nk && i % nk = 4 then subWord t else t
    keyWords nk count (if i % nk = 0 then aesTwice rcon else rcon) ((ws.getD (nk - 1) 0 ^^^ u) :: ws)

/-- The round keys of a key of 16 or 32 bytes. -/
def roundKeys (key : List Byte) : List Nat :=
  let nk := Nat.max 1 (key.length / 4)
  let ws := (keyWords nk (4 * (nk + 7) - nk) 1 (((List.range nk).map (fun i => beAt key (4 * i) 4)).reverse)).reverse
  (List.range (nk + 7)).map (fun r => ((ws.drop (4 * r)).take 4).foldl (fun (acc : Nat) w => 2 ^ 32 * acc + w) 0)

/-- One block enciphered, and deciphered, under a key. -/
def aesRounds : List Nat → Nat → Nat
  | [], x => x
  | [k], x => subShift x ^^^ k
  | k :: ks, x => aesRounds ks (mixColumns (subShift x) ^^^ k)
def aesEncrypt (key : List Byte) (x : Nat) : Nat :=
  match roundKeys key with
  | [] => x
  | k :: ks => aesRounds ks (x ^^^ k)
def aesRoundsInv : List Nat → Nat → Nat
  | [], x => x
  | [k], x => subShiftInv x ^^^ k
  | k :: ks, x => aesRoundsInv ks (mixColumnsInv (subShiftInv x ^^^ k))
def aesDecrypt (key : List Byte) (x : Nat) : Nat :=
  match (roundKeys key).reverse with
  | [] => x
  | k :: ks => aesRoundsInv ks (x ^^^ k)

/-- The blocks of a byte string, the last one filled with zeros. -/
def blocksOf (bs : List Byte) : List Nat := (List.range ((bs.length + 15) / 16)).map (fun i => beAt (padTo 16 (slice bs (16 * i) 16)) 0 16)

/-! ### CMAC (SP 800-38B) -/

/-- AES-CMAC of a message, 16 bytes. -/
@[irreducible] def cmac (key message : List Byte) : List Byte :=
  let dbl := fun (x : Nat) => if x < 2 ^ 127 then 2 * x else 2 * x % 2 ^ 128 ^^^ 0x87
  let k1 := dbl (aesEncrypt key 0)
  let whole := !message.isEmpty && message.length % 16 = 0
  let blocks := blocksOf (if whole then message else message ++ [0x80])
  let last := (blocks.getLastD 0) ^^^ (if whole then k1 else dbl k1)
  beBytes 16 (aesEncrypt key ((blocks.dropLast.foldl (fun (x : Nat) b => aesEncrypt key (x ^^^ b)) 0) ^^^ last))

/-! ### GCM (SP 800-38D) -/

/-- The product in the field of GCM: `n` more bits of `x`. -/
def gcmMul : Nat → Nat → Nat → Nat → Nat
  | 0, _, _, z => z
  | n + 1, x, v, z => gcmMul n x (if v.testBit 0 then v / 2 ^^^ 0xE1 * 2 ^ 120 else v / 2) (if x.testBit n then z ^^^ v else z)
def ghash (h : Nat) (blocks : List Nat) : Nat := blocks.foldl (fun (y : Nat) b => gcmMul 128 (y ^^^ b) h 0) 0

/-- The pre-counter block, the key stream applied to bytes, and the tag. -/
def gcmStart (h : Nat) (iv : List Byte) : Nat :=
  if iv.length = 12 then be iv * 2 ^ 32 + 1 else ghash h (blocksOf iv ++ [8 * iv.length])
def gcmStream (key : List Byte) (j0 : Nat) (bs : List Byte) : List Byte :=
  (((blocksOf bs).zipIdx.flatMap (fun b => beBytes 16 (b.1 ^^^ aesEncrypt key (j0 / 2 ^ 32 * 2 ^ 32 + (j0 + b.2 + 1) % 2 ^ 32)))).take bs.length)
def gcmTag (key : List Byte) (h j0 : Nat) (aad ct : List Byte) : List Byte :=
  beBytes 16 (ghash h (blocksOf aad ++ (blocksOf ct ++ [8 * aad.length * 2 ^ 64 + 8 * ct.length])) ^^^ aesEncrypt key j0)

/-- AES-GCM: ciphertext and 16-byte tag; the plaintext where the tag verifies. -/
@[irreducible] def gcmSeal (key iv aad plain : List Byte) : List Byte :=
  let h := aesEncrypt key 0
  let j0 := gcmStart h iv
  let ct := gcmStream key j0 plain
  ct ++ gcmTag key h j0 aad ct
@[irreducible] def gcmOpen (key iv aad sealed : List Byte) : Option (List Byte) :=
  let h := aesEncrypt key 0
  let j0 := gcmStart h iv
  let ct := sealed.take (sealed.length - 16)
  if sealed.length < 16 || gcmTag key h j0 aad ct ≠ sealed.drop ct.length then none else some (gcmStream key j0 ct)

/-! ### Key wrap (RFC 3394, RFC 5649) -/

/-- The 8-byte halves of a byte string. -/
def halves (bs : List Byte) : List Nat := (List.range ((bs.length + 7) / 8)).map (fun i => beAt (padTo 8 (slice bs (8 * i) 8)) 0 8)

/-- One pass over the halves, from step `t` on; and one back, from the last half, of step `t`, down (halves reversed). -/
def wrapPass (key : List Byte) : List Nat → Nat → Nat → Nat × List Nat
  | [], a, _ => (a, [])
  | r :: rs, a, t =>
    let b := aesEncrypt key (a * 2 ^ 64 + r)
    let u := wrapPass key rs (b / 2 ^ 64 ^^^ t) (t + 1)
    (u.1, b % 2 ^ 64 :: u.2)
def unwrapPass (key : List Byte) : List Nat → Nat → Nat → Nat × List Nat
  | [], a, _ => (a, [])
  | r :: rs, a, t =>
    let b := aesDecrypt key ((a ^^^ t) * 2 ^ 64 + r)
    let u := unwrapPass key rs (b / 2 ^ 64) (t - 1)
    (u.1, b % 2 ^ 64 :: u.2)

/-- The wrapping process on an initial value and halves, and its inverse: the integrity value and the halves. -/
def wrapAll (key : List Byte) (a : Nat) (rs : List Nat) : List Byte :=
  let u := (List.range 6).foldl (fun (acc : Nat × List Nat) j => wrapPass key acc.2 acc.1 (rs.length * j + 1)) (a, rs)
  beBytes 8 u.1 ++ u.2.flatMap (beBytes 8)
def unwrapAll (key : List Byte) (a : Nat) (rs : List Nat) : Nat × List Nat :=
  let u := (List.range 6).foldl (fun (acc : Nat × List Nat) j => unwrapPass key acc.2 acc.1 (rs.length * (6 - j))) (a, rs.reverse)
  (u.1, u.2.reverse)

/-- AES key wrap and unwrap: RFC 3394, or RFC 5649 when the flag is set (12_keys_and_attestation.md R471). -/
@[irreducible] def aesWrap (w5649 : Bool) (kek key : List Byte) : List Byte :=
  if !w5649 then wrapAll kek 0xA6A6A6A6A6A6A6A6 (halves key)
  else
    let a := 0xA65959A6 * 2 ^ 32 + key.length
    match halves key with
    | [r] => beBytes 16 (aesEncrypt kek (a * 2 ^ 64 + r))
    | rs => wrapAll kek a rs
@[irreducible] def aesUnwrap (w5649 : Bool) (kek blob : List Byte) : Option (List Byte) :=
  if blob.length < 16 || blob.length % 8 ≠ 0 then none
  else if !w5649 then
    let u := unwrapAll kek (beAt blob 0 8) (halves (blob.drop 8))
    if blob.length < 24 || u.1 ≠ 0xA6A6A6A6A6A6A6A6 then none else some (u.2.flatMap (beBytes 8))
  else
    let u := if blob.length = 16 then
        let b := aesDecrypt kek (beAt blob 0 16)
        (b / 2 ^ 64, [b % 2 ^ 64])
      else unwrapAll kek (beAt blob 0 8) (halves (blob.drop 8))
    let bs := u.2.flatMap (beBytes 8)
    let len := u.1 % 2 ^ 32
    if u.1 / 2 ^ 32 ≠ 0xA65959A6 || bs.length < len || len + 8 ≤ bs.length || (bs.drop len).any (fun b => b != 0) then none else some (bs.take len)

end Sys2Proof.Machine
end

