-- ==== Sys2Proof/Config.lean ====
section
/-!
DEFINITION. What an implementation fixes and the free values: functions and constants WITHOUT A BODY, so no proof can see a
value of one.
-/
namespace Sys2Proof.Config

/-- A fresh free byte at the count `n` of free values drawn (notes/assumptions/2.md). -/
opaque freeByte : Nat → Byte

/-- A fresh free number at the count `n` of free values drawn (notes/assumptions/2.md). -/
opaque freeNat : Nat → Nat

/-- offsetScaledLogVariance that this device announces (IEEE 802.1AS-2020; the spec states none). -/
opaque logVariance : Nat

/-- A fresh EC private key, of P-384 when the flag is set, at the count `n` of free values drawn. -/
opaque ecScalar : (p384 : Bool) → Nat → List Byte

/-- The randomness of an ECDSA signature at the count `n` of free values drawn (12_keys_and_attestation.md R472; the spec states none). -/
opaque ecNonce : (p384 : Bool) → Nat → Nat

/-- Cells that the buffer of the unit on an output lane holds beyond one largest frame (06_switch_core.md R245, notes/assumptions/153.md). -/
opaque unitRoom : Nat → Nat

/-- Does the board supply bank `n` with 3.3 V, else with 1.8 V (16_electrical_and_pins.md R605, R612, R616)? -/
opaque bank33 : Nat → Bool

/-- The fused 256-bit unique secret (12_keys_and_attestation.md R476). -/
opaque fusedSecret : List Byte

/-- SHA-384 of the island ROM (R473). -/
opaque romDigest : List Byte

/-- The public keys FWKEY0 and FWKEY1 in the island ROM (R487). -/
opaque fwKey : Nat → List Byte

/-- PCRC and FCRC of a CAN XL frame as CiA 610-1 specifies them, for a foreign frame's bytes before them (09_gateway_and_culvert.md R379). -/
opaque xlPcrc : List Byte → Nat
opaque xlFcrc : List Byte → Nat

/-- The 8-bit check sequence of IEC 61375-3-1 over up to 8 data bytes (R379). -/
opaque mvbCheck : List Byte → Byte

/-- What records of region 0x0E whose layout the spec does not give (key, body) set in the island register at an offset: LMP_CFG, LMP_CFG2,
PWR_SEQ and WPIN_CFG come from region 0x0E, and no rule names their records (notes/assumptions/17.md). -/
opaque islandSetting : List (Nat × List Byte) → Nat → Nat

/-- The sense voltage of a feed at a time in ns, in units of 0.1 mV (13_wake_sleep_power.md R528): measured outside the block
(notes/assumptions/7.md). -/
opaque feedSense : (feed ns : Nat) → Nat

end Sys2Proof.Config
end

