-- ==== Sys2Proof/Machine/Ec.lean ====
section
/-!
DEFINITION. ECDSA and ECDH over P-256 and P-384, which the spec names. PRESUMED (notes/assumptions/10.md): the curves and ECDSA of FIPS 186-4,
ECDH of NIST SP 800-56A. A private key and the randomness of a signature are free values of Config.
-/
namespace Sys2Proof.Machine

/-- A curve y^2 = x^3 - 3x + b over the field of `p` elements, with its base point and the order of that point; bytes of a coordinate. -/
structure Curve where
  p : Nat
  b : Nat
  gx : Nat
  gy : Nat
  n : Nat
  bytes : Nat
deriving DecidableEq, Repr

def curveP256 : Curve :=
  { p := 2 ^ 256 - 2 ^ 224 + 2 ^ 192 + 2 ^ 96 - 1,
    b := 0x5AC635D8AA3A93E7B3EBBD55769886BC651D06B0CC53B0F63BCE3C3E27D2604B,
    gx := 0x6B17D1F2E12C4247F8BCE6E563A440F277037D812DEB33A0F4A13945D898C296,
    gy := 0x4FE342E2FE1A7F9B8EE7EB4A7C0F9E162BCE33576B315ECECBB6406837BF51F5,
    n := 0xFFFFFFFF00000000FFFFFFFFFFFFFFFFBCE6FAADA7179E84F3B9CAC2FC632551, bytes := 32 }
def curveP384 : Curve :=
  { p := 2 ^ 384 - 2 ^ 128 - 2 ^ 96 + 2 ^ 32 - 1,
    b := 0xB3312FA7E23EE7E4988E056BE3F82D19181D9C6EFE8141120314088F5013875AC656398D8A2ED19D2A85C8EDD3EC2AEF,
    gx := 0xAA87CA22BE8B05378EB1C71EF320AD746E1D3B628BA79B9859F741E082542A385502F25DBF55296C3A545E3872760AB7,
    gy := 0x3617DE4A96262C6F5D9E98BF9292DC29F8F41DBD289A147CE9DA3113B5F0B8C00A60B1CE1D7E819D7A431D7C90EA0E5F,
    n := 0xFFFFFFFFFFFFFFFFFFFFFFFFFFFFFFFFFFFFFFFFFFFFFFFFC7634D81F4372DDF581A0DB248B0A77AECEC196ACCC52973, bytes := 48 }
def curveOf (p384 : Bool) : Curve := if p384 then curveP384 else curveP256

/-- `b` to the power of the number in the `k` low bits of `e`, and the inverse of a number, modulo a prime `m`. -/
def powMod (m b e : Nat) : Nat → Nat
  | 0 => 1
  | k + 1 =>
    let r := powMod m b (e / 2) k
    if e.testBit 0 then r * r % m * b % m else r * r % m
def invMod (m x : Nat) : Nat := powMod m (x % m) (m - 2) 384

/-- A point; none is the point at infinity. -/
abbrev Point := Option (Nat × Nat)

/-- The sum of two points. -/
def Curve.add (c : Curve) (a b : Point) : Point :=
  match a, b with
  | none, q => q
  | q, none => q
  | some (x1, y1), some (x2, y2) =>
    let chord := fun (l : Nat) =>
      let x := (l * l + 2 * c.p - x1 - x2) % c.p
      some (x, (l * (x1 + c.p - x) + c.p - y1) % c.p)
    if x1 ≠ x2 then chord ((y2 + c.p - y1) * invMod c.p (x2 + c.p - x1))
    else if (y1 + y2) % c.p = 0 then none
    else chord ((3 * x1 * x1 + c.p - 3) * invMod c.p (2 * y1))

/-- A multiple of a point, by the number in the `k` low bits of `e`. -/
def Curve.mul (c : Curve) (q : Point) (e : Nat) : Nat → Point
  | 0 => none
  | k + 1 =>
    let r := c.mul q (e / 2) k
    if e.testBit 0 then c.add (c.add r r) q else c.add r r

/-- The multiple of the base point; the point of X || Y when it lies on the curve; X || Y of a point. -/
def Curve.base (c : Curve) (e : Nat) : Point := c.mul (some (c.gx, c.gy)) e 384
def Curve.point (c : Curve) (bs : List Byte) : Option (Nat × Nat) :=
  let x := beAt bs 0 c.bytes
  let y := beAt bs c.bytes c.bytes
  if bs.length = 2 * c.bytes && (decide (x < c.p) && (decide (y < c.p) && decide ((y * y + 3 * x) % c.p = (x * x * x + c.b) % c.p))) then some (x, y) else none
def Curve.spell (c : Curve) (a b : Nat) : List Byte := beBytes c.bytes a ++ beBytes c.bytes b

/-- The number that ECDSA takes from a digest. -/
def Curve.hashed (c : Curve) (digest : List Byte) : Nat := be (digest.take c.bytes)

/-- The public key X || Y of a private key. -/
@[irreducible] def ecPublic (p384 : Bool) (scalar : List Byte) : List Byte :=
  let c := curveOf p384
  match c.base (be scalar % c.n) with
  | some (x, y) => c.spell x y
  | none => []

/-- The x-coordinate of the shared point; none for a peer that is not on the curve or where the point is at infinity (12_keys_and_attestation.md R469). -/
@[irreducible] def ecShared (p384 : Bool) (scalar peer : List Byte) : Option (List Byte) :=
  let c := curveOf p384
  match c.point peer with
  | none => none
  | some q => (c.mul (some q) (be scalar % c.n) 384).map (fun a => beBytes c.bytes a.1)

/-- An ECDSA signature r || s of a digest, with the randomness at the count `n` of free values drawn. -/
@[irreducible] def ecSign (p384 : Bool) (scalar digest : List Byte) (n : Nat) : List Byte :=
  let c := curveOf p384
  let k := 1 + Config.ecNonce p384 n % (c.n - 1)
  let r := ((c.base k).map (fun a => a.1)).getD 0 % c.n
  c.spell r (invMod c.n k * (c.hashed digest + r * be scalar) % c.n)

/-- Does (r, s) verify as an ECDSA P-384 signature of the digest under the public key (02_ikiem_images.md R58)? -/
@[irreducible] def ecdsaVerify (key digest r s : List Byte) : Bool :=
  let c := curveP384
  let rn := be r
  let sn := be s
  match c.point key with
  | none => false
  | some q =>
    if rn = 0 || sn = 0 || c.n ≤ rn || c.n ≤ sn then false
    else
      let w := invMod c.n sn
      match c.add (c.base (c.hashed digest * w % c.n)) (c.mul (some q) (rn * w % c.n) 384) with
      | none => false
      | some a => a.1 % c.n == rn

end Sys2Proof.Machine
end

