-- ==== Sys2Proof/Machine/Sha.lean ====
section
/-!
DEFINITION. SHA-256 and SHA-384, which the spec names. PRESUMED (notes/assumptions/10.md): FIPS 180-4.
-/
namespace Sys2Proof.Machine

/-- What SHA-256 and SHA-384 differ in: bits of a word, rounds, the round constants and the initial value (entry `i` in word `i` of a number), and
the rotations of the functions of FIPS 180-4; the third of each small sigma is a shift. -/
structure ShaKind where
  w : Nat
  rounds : Nat
  consts : Nat
  start : Nat
  sumA : Nat × Nat × Nat
  sumE : Nat × Nat × Nat
  sig0 : Nat × Nat × Nat
  sig1 : Nat × Nat × Nat
deriving DecidableEq, Repr

def sha256Kind : ShaKind :=
  { w := 32, rounds := 64,
    consts := 0xC67178F2BEF9A3F7A4506CEB90BEFFFA8CC7020884C8781478A5636F748F82EE682E6FF35B9CCA4F4ED8AA4A391C0CB334B0BCB52748774C1E376C0819A4C116106AA070F40E3585D6990624D192E819C76C51A3C24B8B70A81A664BA2BFE8A192722C8581C2C92E766A0ABB650A735453380D134D2C6DFC2E1B213827B70A851429296706CA6351D5A79147C6E00BF3BF597FC7B00327C8A831C66D983E515276F988DA5CB0A9DC4A7484AA2DE92C6F240CA1CC0FC19DC6EFBE4786E49B69C1C19BF1749BDC06A780DEB1FE72BE5D74550C7DC3243185BE12835B01D807AA98AB1C5ED5923F82A459F111F13956C25BE9B5DBA5B5C0FBCF71374491428A2F98,
    start := 0x5BE0CD191F83D9AB9B05688C510E527FA54FF53A3C6EF372BB67AE856A09E667,
    sumA := (2, 13, 22), sumE := (6, 11, 25), sig0 := (7, 18, 3), sig1 := (17, 19, 10) }
def sha384Kind : ShaKind :=
  { w := 64, rounds := 80,
    consts := 0x6C44198C4A4758175FCB6FAB3AD6FAEC597F299CFC657E2A4CC5D4BECB3E42B6431D67C49C100D4C3C9EBE0A15C9BEBC32CAAB7B40C7249328DB77F523047D841B710B35131C471B113F9804BEF90DAE0A637DC5A2C898A606F067AA72176FBAF57D4F7FEE6ED178EADA7DD6CDE0EB1ED186B8C721C0C207CA273ECEEA26619CC67178F2E372532BBEF9A3F7B2C67915A4506CEBDE82BDE990BEFFFA23631E288CC702081A6439EC84C87814A1F0AB7278A5636F43172F60748F82EE5DEFB2FC682E6FF3D6B2B8A35B9CCA4F7763E3734ED8AA4AE3418ACB391C0CB3C5C95A6334B0BCB5E19B48A82748774CDF8EEB991E376C085141AB5319A4C116B8D2D0C8106AA07032BBD1B8F40E35855771202AD69906245565A910D192E819D6EF5218C76C51A30654BE30C24B8B70D0F89791A81A664BBC423001A2BFE8A14CF1036492722C851482353B81C2C92E47EDAEE6766A0ABB3C77B2A8650A73548BAF63DE53380D139D95B3DF4D2C6DFC5AC42AED2E1B21385C26C92627B70A8546D22FFC142929670A0E6E7006CA6351E003826FD5A79147930AA725C6E00BF33DA88FC2BF597FC7BEEF0EE4B00327C898FB213FA831C66D2DB43210983E5152EE66DFAB76F988DA831153B55CB0A9DCBD41FBD44A7484AA6EA6E4832DE92C6F592B0275240CA1CC77AC9C650FC19DC68B8CD5B5EFBE4786384F25E3E49B69C19EF14AD2C19BF174CF6926949BDC06A725C7123580DEB1FE3B1696B172BE5D74F27B896F550C7DC3D5FFB4E2243185BE4EE4B28C12835B0145706FBED807AA98A3030242AB1C5ED5DA6D8118923F82A4AF194F9B59F111F1B605D0193956C25BF348B538E9B5DBA58189DBBCB5C0FBCFEC4D3B2F7137449123EF65CD428A2F98D728AE22,
    start := 0x47B5481DBEFA4FA4DB0C2E0D64F98FA78EB44A876858151167332667FFC00B31152FECD8F70E59399159015A3070DD17629A292A367CD507CBBB9D5DC1059ED8,
    sumA := (28, 34, 39), sumE := (14, 18, 41), sig0 := (1, 8, 7), sig1 := (19, 61, 6) }

/-- Word `i` of a table; a rotation to the right; the two kinds of sums. -/
def ShaKind.at_ (k : ShaKind) (table i : Nat) : Nat := table >>> (k.w * i) % 2 ^ k.w
def ShaKind.rotr (k : ShaKind) (x n : Nat) : Nat := x >>> n + x * 2 ^ (k.w - n) % 2 ^ k.w
def ShaKind.big (k : ShaKind) (r : Nat × Nat × Nat) (x : Nat) : Nat := k.rotr x r.1 ^^^ (k.rotr x r.2.1 ^^^ k.rotr x r.2.2)
def ShaKind.small (k : ShaKind) (r : Nat × Nat × Nat) (x : Nat) : Nat := k.rotr x r.1 ^^^ (k.rotr x r.2.1 ^^^ x >>> r.2.2)

/-- The message schedule, latest word first. -/
def ShaKind.schedule (k : ShaKind) : Nat → List Nat → List Nat
  | 0, ws => ws
  | n + 1, ws =>
    k.schedule n (((k.small k.sig1 (ws.getD 1 0) + ws.getD 6 0 + k.small k.sig0 (ws.getD 14 0) + ws.getD 15 0) % 2 ^ k.w) :: ws)

/-- One round, on a to h, with its word and number. -/
def ShaKind.round (k : ShaKind) (v : List Nat) (wt : Nat × Nat) : List Nat :=
  match v with
  | [a, b, c, d, e, f, g, h] =>
    let t1 := h + k.big k.sumE e + ((e &&& f) ^^^ ((2 ^ k.w - 1 - e) &&& g)) + k.at_ k.consts wt.2 + wt.1
    let t2 := k.big k.sumA a + ((a &&& b) ^^^ ((a &&& c) ^^^ (b &&& c)))
    [(t1 + t2) % 2 ^ k.w, a, b, c, (d + t1) % 2 ^ k.w, e, f, g]
  | _ => v

/-- The hash value after a block. -/
def ShaKind.block (k : ShaKind) (hs : List Nat) (bs : List Byte) : List Nat :=
  let ws := (k.schedule (k.rounds - 16) (((List.range 16).map (fun i => beAt bs (k.w / 8 * i) (k.w / 8))).reverse)).reverse
  List.zipWith (fun (x y : Nat) => (x + y) % 2 ^ k.w) hs (ws.zipIdx.foldl k.round hs)

/-- The hash value after `n` blocks. -/
def ShaKind.blocks (k : ShaKind) : Nat → List Nat → List Byte → List Nat
  | 0, hs, _ => hs
  | n + 1, hs, bs => k.blocks n (k.block hs (bs.take (2 * k.w))) (bs.drop (2 * k.w))

/-- The digest of a byte string. -/
def ShaKind.digest (k : ShaKind) (bs : List Byte) : List Byte :=
  let size := 2 * k.w
  let pad := (size - (bs.length + 1 + k.w / 4) % size) % size
  let all := bs ++ (0x80 :: (List.replicate pad 0 ++ beBytes (k.w / 4) (8 * bs.length)))
  (k.blocks (all.length / size) ((List.range 8).map (k.at_ k.start)) all).flatMap (beBytes (k.w / 8))

/-- SHA-256 (14_tandem_redundancy.md R548), SHA-384 (02_ikiem_images.md R57): of the eight words of the longer function it gives six. -/
@[irreducible] def sha256 (bs : List Byte) : List Byte := sha256Kind.digest bs
@[irreducible] def sha384 (bs : List Byte) : List Byte := (sha384Kind.digest bs).take 48

end Sys2Proof.Machine
end

