-- ==== Sys2Proof/Machine/Crypto.lean ====
section
/-!
DEFINITION. What the standards build from the hashes: HMAC (RFC 2104), HKDF-SHA-384 (RFC 5869) and SP 800-108 in
counter mode (12_keys_and_attestation.md R474, R478, R479); and CRC-32C (02_ikiem_images.md R54).
-/
namespace Sys2Proof.Machine

/-- HMAC over a hash with blocks of `block` bytes. -/
def hmac (hash : List Byte → List Byte) (block : Nat) (key message : List Byte) : List Byte :=
  let k := padTo block (if block < key.length then hash key else key)
  hash (k.map (fun b => b ^^^ 0x5C) ++ hash (k.map (fun b => b ^^^ 0x36) ++ message))

/-- HMAC-SHA-384 and HMAC-SHA-256. -/
def hmac384 (key message : List Byte) : List Byte := hmac sha384 128 key message
def hmac256 (key message : List Byte) : List Byte := hmac sha256 64 key message

/-- HKDF-SHA-384 for 48 bytes of output: one block. -/
def hkdf384 (ikm salt info : List Byte) : List Byte := hmac384 (hmac384 salt ikm) (info ++ [1])

/-- SP 800-108 in counter mode (R478): `bits` of output under `ki` from a 16-byte label and a 32-byte context. -/
def derive108 (ki label context : List Byte) (bits : Nat) : List Byte :=
  let block := fun (i : Nat) => hmac384 ki (beBytes 4 i ++ (padTo 16 label ++ ([0] ++ (padTo 32 context ++ beBytes 4 bits))))
  ((List.range (ceilDiv bits 384)).flatMap (fun i => block (i + 1))).take (bits / 8)

/-- The order of curve P-384. -/
def p384Order : Nat := curveP384.n

/-- CRC-32C (Castagnoli, reflected): one bit, one byte, all bytes. -/
def crc32cBit (c : Nat) : Nat := if c % 2 = 1 then (c / 2) ^^^ 0x82F63B78 else c / 2
def crc32cByte (c b : Nat) : Nat := (List.range 8).foldl (fun c _ => crc32cBit c) (c ^^^ b)
def crc32c (bs : List Byte) : Nat := (bs.foldl (fun c b => crc32cByte c b.toNat) 0xFFFFFFFF) ^^^ 0xFFFFFFFF

/-- CRC-32 of IEEE 802.3 (reflected): one bit, one byte, all bytes. -/
def crc32Bit (c : Nat) : Nat := if c % 2 = 1 then (c / 2) ^^^ 0xEDB88320 else c / 2
def crc32Byte (c b : Nat) : Nat := (List.range 8).foldl (fun c _ => crc32Bit c) (c ^^^ b)
def crc32 (bs : List Byte) : Nat := (bs.foldl (fun c b => crc32Byte c b.toNat) 0xFFFFFFFF) ^^^ 0xFFFFFFFF

end Sys2Proof.Machine
end

