-- ==== Sys2Proof/Machine/Sparse.lean ====
section
/-!
DEFINITION. Sparse tables: an ascending list of (key, value) pairs in ONE canonical form, keys strictly rising and no
entry equal to what an unlisted key reads as. Register files, counters, flash and every replicated unit are held so.
`d` is always what an unlisted key reads as.
-/
namespace Sys2Proof.Machine

/-- A sparse table from numbers to `α`. -/
abbrev Sparse (α : Type) := List (Nat × α)

/-- The value at key `k`: the listed one, else what an unlisted key reads as. -/
def Sparse.get {α : Type} (d : Nat → α) : Sparse α → Nat → α
  | [], k => d k
  | (a, v) :: m, k => if a = k then v else Sparse.get d m k

/-- Lists `v` at `k`, at its place in the order. -/
def Sparse.ins {α : Type} : Sparse α → Nat → α → Sparse α
  | [], k, v => [(k, v)]
  | (a, w) :: m, k, v =>
    if k < a then (k, v) :: (a, w) :: m
    else if k = a then (k, v) :: m
    else (a, w) :: Sparse.ins m k v

/-- Takes every entry with key `k` out. -/
def Sparse.del {α : Type} : Sparse α → Nat → Sparse α
  | [], _ => []
  | (a, w) :: m, k => if a = k then Sparse.del m k else (a, w) :: Sparse.del m k

/-- Writes `v` at `k`, keeping the canonical form. -/
def Sparse.put {α : Type} [DecidableEq α] (d : Nat → α) (m : Sparse α) (k : Nat) (v : α) : Sparse α :=
  if v = d k then Sparse.del m k else Sparse.ins m k v

/-- Every listed key is above `k`. -/
def Sparse.above {α : Type} (k : Nat) : Sparse α → Bool
  | [] => true
  | (a, _) :: m => decide (k < a) && Sparse.above k m

/-- The canonical form: keys strictly rising, no entry equal to what an unlisted key reads as. -/
def Sparse.canon {α : Type} [DecidableEq α] (d : Nat → α) : Sparse α → Bool
  | [] => true
  | (a, v) :: m => decide (v ≠ d a) && (Sparse.above a m && Sparse.canon d m)

/-- Takes out every entry whose key `p` names: those keys read as unlisted again. -/
def Sparse.clear {α : Type} (p : Nat → Bool) : Sparse α → Sparse α
  | [] => []
  | (a, v) :: m => if p a then Sparse.clear p m else (a, v) :: Sparse.clear p m

/-- Writes consecutive values from key `k` on. -/
def Sparse.puts {α : Type} [DecidableEq α] (d : Nat → α) (m : Sparse α) (k : Nat) : List α → Sparse α
  | [] => m
  | v :: vs => Sparse.puts d (Sparse.put d m k v) (k + 1) vs

/-- Reads `n` consecutive values from key `k` on. -/
def Sparse.gets {α : Type} (d : Nat → α) (m : Sparse α) (k : Nat) : Nat → List α
  | 0 => []
  | n + 1 => Sparse.get d m k :: Sparse.gets d m (k + 1) n

end Sys2Proof.Machine
end

