-- ==== Sys2Proof/Machine/NetTypes.lean ====
section
/-!
DEFINITION. What the data plane holds, as plain data: Ethernet ports, frames on their way, table entries, the cistern, the
crossbar and the egress ports (04_ethernet_ports.md to 07_egress_scheduling.md).
-/
namespace Sys2Proof.Machine

/-- A full stamp (00_scope.md R18): nanoseconds and a fraction in units of 2^-16 ns. -/
structure Stamp where
  ns : Nat := 0
  frac : Nat := 0
deriving DecidableEq, Repr

/-- Link states (04_ethernet_ports.md R149). -/
inductive LinkState where
  | disabled | training | up | down | standby | roadworks
deriving DecidableEq, Repr

/-- MAC merge verification states (R165). -/
inductive VerifyState where
  | disabled | initial | verifying | succeeded | failed
deriving DecidableEq, Repr

/-- A frame that a port is still receiving (R154, R155): the identifier of what was handed to classification, the bytes that the
frame has with its FCS, whether the PCS signalled an error, the bytes arrived so far, MAX_LEN at its first byte, its stamp and
sequence number, and whether classification has it. -/
structure RxFrame where
  id : Nat
  bytes : List Byte
  codeErr : Bool
  arrived : Nat
  maxLen : Nat
  stamp : Stamp
  seq : Nat
  given : Bool
deriving DecidableEq, Repr

/-- A preemptable frame being reassembled (R166): its bytes so far, the number in its SMD, the next fragment count, MAX_LEN at its
first byte, its stamp and sequence number. -/
structure Assembly where
  bytes : List Byte
  number : Nat
  next : Nat
  maxLen : Nat
  stamp : Stamp
  seq : Nat
deriving DecidableEq, Repr

/-- A frame on its way through classification or held in the cistern: its bytes before the FCS, its bytes DA through FCS as
received, the ingress it counts at (0-28 ports, 29 host, 30 fieldbus, 31 crypto), the ingress where it first entered, its input
lane, the three fields of R22, the epoch it carries (R33), the district and class it brings, its colour, the MACsec result, its
passes through lane 24, whether its last byte has arrived and passed the checks, whether it was stored whole first (R156), the charge of R258, its
port's MAX_LEN at its first byte, and metadata byte 0x05 as decided. -/
structure Frame where
  id : Nat := 0
  bytes : List Byte := []
  rxLen : Nat := 0
  ingress : Nat := 0
  origin : Nat := 0
  lane : Nat := 0
  stamp : Stamp := {}
  source : Nat := 0
  seq : Nat := 0
  epoch : Nat := 0
  district : Option Nat := none
  cls : Option Nat := none
  colour : Nat := 0
  verified : Bool := false
  pass : Nat := 0
  whole : Bool := true
  forced : Bool := false
  provisional : Option Nat := none
  maxLen : Nat := 0
  flags : Nat := 0
deriving DecidableEq, Repr

/-- Where a copy goes: an Ethernet port, a host queue, the gateway with an ingress rule or with a culvert rule, the exception
flume (reason, stage), classification again through lane 24, or the lookaside crypto engine. -/
inductive Dest where
  | port (p : Nat)
  | host (q : Nat)
  | unwrap (rule : Nat)
  | wrap (rule : Nat)
  | fieldbus
  | exc (reason stage : Nat)
  | recirc
  | crypto
deriving DecidableEq, Repr

/-- An account of the cistern (06_switch_core.md R253, R256): direction (true: egress), lane, class, and the district of a
reservation or none for the default account. -/
structure Acct where
  egress : Bool
  lane : Nat
  cls : Nat
  district : Option Nat
deriving DecidableEq, Repr

/-- MIN, MAX and GUAR of a reservation in force. -/
structure Limits where
  min : Nat := 0
  max : Nat := 0
  guar : Nat := 0
deriving DecidableEq, Repr

/-- A frame held in the cistern (R235-R239, R259): the frame, the bank of each cell, its colour and drop-eligible flag, its
district and class, its charge and how it is backed, its ingress account, the egress account that backs it, whether it failed
its checks after cells had left. -/
structure Held where
  frame : Frame
  banks : List Nat := []
  dropElig : Bool := false
  district : Nat := 0
  charge : Nat := 0
  bIn : Nat := 0
  bEg : Nat := 0
  bSh : Nat := 0
  inAcct : Option Acct := none
  egAcct : Option Acct := none
  failed : Bool := false
deriving DecidableEq, Repr

/-- One copy of a held frame, with one descriptor (R237, R238): the frame's identifier, input lane, output lane, class,
destination, cut-through flag, egress account, the cells moved across the crossbar, and whether a cell of it was lost on a lane
after it had started on the wire, where it is stomped (R272, R273). -/
structure Copy where
  id : Nat
  frame : Nat
  inLane : Nat
  outLane : Nat
  cls : Nat
  dest : Dest
  cut : Bool
  acct : Option Acct
  moved : Nat := 0
  lost : Bool := false
deriving DecidableEq, Repr

/-- Bank states (R268); `drain` remembers that roadworks caused the retirement. -/
inductive BankState where
  | inService
  | retiring (roadworks : Bool)
  | roadworks
  | retired
deriving DecidableEq, Repr

/-- A bank: its state, since when it retires, whether allocation has stopped and its cells left the usable cells (R268), its window of
corrected errors and whether they were over CE_THRESH in it. -/
structure Bank where
  state : BankState := .inService
  since : Nat := 0
  stopped : Bool := false
  exceeded : Bool := false
  ce : Nat := 0
  ceFrom : Nat := 0
deriving DecidableEq, Repr

/-- Lane states (R275). -/
inductive LaneState where
  | inService | remapping | onSpare | out | roadworksOnSpare
deriving DecidableEq, Repr

/-- A lane: its state, when it failed, its CRC errors in the current millisecond and that millisecond's start. -/
structure Lane where
  state : LaneState := .inService
  failedAt : Nat := 0
  crc : Nat := 0
  crcFrom : Nat := 0
deriving DecidableEq, Repr

/-- A guarantee bucket (R246) in units of 10^-6 bit, and when it was last refilled. -/
structure Bucket where
  level : Int := 0
  last : Nat := 0
deriving DecidableEq, Repr

/-- The crossbar (R245-R252, R272-R275). Buckets by 256 x direction + 8 x lane + class; locks by output lane: input lane and
copy. `spareTest`: lane 27 is under roadworks; `spareDead`: lane 27 has failed. -/
structure XbrState where
  lane : Sparse Lane := []
  spareFor : Option Nat := none
  spareTest : Bool := false
  spareDead : Bool := false
  outOrder : List Nat := []
  gptr : Sparse Nat := []
  aptr : Sparse Nat := []
  lock : List (Nat × Nat × Nat) := []
  bucket : Sparse Bucket := []
deriving DecidableEq, Repr

/-- The cistern: held frames and copies, oldest first; reservations in force; banks; the bank of the next cell; CT_MASK, XOFF and
XON of each port record; the classes of each port in XOFF. -/
structure CisState where
  held : List Held := []
  copies : List Copy := []
  nextId : Nat := 1
  limits : List (Acct × Limits) := []
  bank : Sparse Bank := []
  nextBank : Nat := 0
  xoff : Sparse Nat := []
  descWas : Bool := false
deriving DecidableEq, Repr

/-- A table entry (05_classification.md R207): index, district and mask, validity and mask, key bytes, mask bytes (prefix tables:
the prefix length), result bytes; for learning entries the static flag and the last refresh (R210). -/
structure TblEntry where
  index : Nat
  district : Nat := 0
  dmask : Nat := 0xFFF
  valid : Nat := 0
  vmask : Nat := 0xFF
  key : List Byte := []
  mask : List Byte := []
  result : List Byte := []
  fixed : Bool := false
  refreshed : Int := 0
deriving DecidableEq, Repr

/-- One staged table write (R213): operation, table, entry. -/
structure TblWrite where
  op : Nat
  table : Nat
  entry : TblEntry
deriving DecidableEq, Repr

/-- Recovery state of an 802.1CB stream (R217): history as a mask of offsets. -/
structure Recovery where
  takeAny : Bool := true
  last : Nat := 0
  hist : Nat := 0
deriving DecidableEq, Repr

/-- Bucket levels of a weir in micro-bytes and its last update (R220, R221); full at reset. -/
structure WeirLevel where
  l1 : Nat := 0xF4240000000
  l2 : Nat := 0xF4240000000
  last : Nat := 0
deriving DecidableEq, Repr

/-- A weir's staged writes (R226): RATE1, RATE2, BURST1, BURST2. -/
structure WeirStage where
  rate1 : Option Word := none
  rate2 : Option Word := none
  burst1 : Option Word := none
  burst2 : Option Word := none
deriving DecidableEq, Repr

/-- The classification pipeline: frames waiting to be decided, oldest first; weir levels and staged writes; the exception lane's
weir (01_architecture.md R28); recovery states; parser roadworks. -/
structure PrsState where
  wait : List Frame := []
  weir : Sparse WeirLevel := []
  stage : Sparse WeirStage := []
  exc : WeirLevel := { l1 := 1250000000000, l2 := 1250000000000 }
  cb : Sparse Recovery := []
  roadworks : Bool := false
deriving DecidableEq, Repr

/-- The tables: entries of each table, the batch of each window, tables under roadworks, tables whose
checksum was last found to differ (R584). -/
structure TblState where
  entries : Sparse (List TblEntry) := []
  batch : Sparse (List TblWrite) := []
  works : List Nat := []
  sumBad : List Nat := []
deriving DecidableEq, Repr

/-- A staged selection (07_egress_scheduling.md R288): class, and the copy once a cell of it has moved. -/
structure Staged where
  cls : Nat
  express : Bool
  copy : Option Nat := none
  held : Bool := false
deriving DecidableEq, Repr

/-- A frame on the wire: its copy, class, express or preemptable, the bytes as sent without the FCS, when the first preamble bit of the
fragment on the wire left, the bytes sent in earlier fragments, whether it is suspended by preemption and since when, continuation
fragments, and the settings it started under (01_architecture.md R34): was its class shaped, and its idle slope. -/
structure OnWire where
  copy : Nat
  cls : Nat
  express : Bool
  bytes : List Byte
  start : Nat
  sent : Nat := 0
  suspended : Bool := false
  since : Nat := 0
  fragments : Nat := 0
  shaped : Bool := false
  slope : Nat := 0
deriving DecidableEq, Repr

/-- A frame in the S-lane buffer (R291): its copy and since when it waits. -/
structure SItem where
  copy : Nat
  since : Nat
deriving DecidableEq, Repr

/-- The credit of a shaped class (R304): in units of 2^-16 bit, and what the last update left over, in units of 10^-6 x 2^-32 bit. -/
structure Credit where
  bits : Int := 0
  rest : Nat := 0
deriving DecidableEq, Repr

/-- One egress port: staged selections and frames on the wire (an express frame and a suspended preemptable one at most), credit
of each shaped class (R303, R304) and deficit of each class, the pointer of each group, the preemption hold, and on an S-port the
attempts that collided and the copy they were of (04_ethernet_ports.md R176). -/
structure EgrPort where
  staged : List Staged := []
  wire : List OnWire := []
  credit : Sparse Credit := []
  deficit : Sparse Nat := []
  ptr : Sparse Nat := []
  hold : Bool := false
  attempts : Nat := 0
  tried : Nat := 0
deriving DecidableEq, Repr

/-- A gPTP message that the block sends (03_time_and_order.md R113-R116). -/
inductive PtpMsg where
  | sync (m : SyncMsg)
  | followUp (m : FollowUpMsg)
  | announce (m : AnnounceMsg)
  | pdelayReq (h : PtpHeader)
  | pdelayResp (m : PdelayResp)
  | pdelayRespFollowUp (m : PdelayRespFollowUp)
deriving DecidableEq, Repr

/-- One Ethernet port (04_ethernet_ports.md): link state and the signals of LINK_STATUS, the running speed's code, the frame
being received, a preemptable frame being reassembled, pauses in force and since when each has stood without a break (the last byte of
the pause or PFC frame that began it), whether the watchdog makes the port ignore them, XOFF signalled to the partner, gPTP messages that
wait for the transmitter with the time since when, verification, MACsec events raised (bit of each SA), PLCA status, the transmit
opportunity of this PLCA cycle and what is left of a burst (R174, R182), a backoff, and corrected and uncorrected codewords of the current
second. -/
structure EthPort where
  state : LinkState := .disabled
  signals : Nat := 0
  speed : Nat := 0
  rx : Option RxFrame := none
  assembly : Option Assembly := none
  linkPaused : Bool := false
  linkSince : Nat := 0
  ignorePause : Bool := false
  classPaused : Nat := 0
  classSince : Sparse Nat := []
  xoffSent : Nat := 0
  ptpWait : List (PtpMsg × Nat) := []
  verify : VerifyState := .disabled
  tries : Nat := 0
  faulted : List Nat := []
  pnRaised : List Nat := []
  plca : Bool := false
  turn : Bool := false
  burst : Nat := 0
  backoff : Bool := false
  fecFrom : Nat := 0
  fecBase : Nat := 0
  fecRaised : Bool := false
deriving DecidableEq, Repr

/-- The Ethernet ports and the egress ports with the S-lane buffer. -/
structure NetState where
  eth : Sparse EthPort := []
  egr : Sparse EgrPort := []
  sbuf : List SItem := []
deriving DecidableEq, Repr

end Sys2Proof.Machine
end

