-- ==== Sys2Proof/Machine/CanTypes.lean ====
section
/-!
DEFINITION. What the CAN controllers and the MVB controllers hold, as plain data (08_can_controllers.md, 09_gateway_and_culvert.md).
-/
namespace Sys2Proof.Machine

/-- Channel states of a CAN controller (R328). -/
inductive CanKind where
  | absent | integrating | errorActive | errorPassive | busOff | recovering | standby | roadworks
deriving DecidableEq, Repr

/-- A frame with its record (R343-R345, R356): full stamp, sequence number, SOF counter, secured-PDU result. -/
structure CanRecord where
  frame : CanFrame := {}
  stamp : Stamp := {}
  seq : Nat := 0
  sofc : Nat := 0
  verified : Bool := false
deriving DecidableEq, Repr

/-- A message object (R331-R336): whether the build has it, identifier and mask in force, the frame it holds with its record, and, for a secured PDU
that has contended, the payload whose retries carry the same bytes (R355). -/
structure CanObj where
  built : Bool := false
  ide : Bool := false
  id : Nat := 0
  mask : Nat := 0
  held : CanRecord := {}
  sealed : Option (List Byte) := none
deriving DecidableEq, Repr

/-- An entry of a transmit queue, with the payload of a secured PDU that has contended. -/
structure QueueEntry where
  frame : CanFrame
  sealed : Option (List Byte) := none
deriving DecidableEq, Repr

/-- What a channel offers to the bus (R340). -/
inductive Contender where
  | ref
  | ring (r : Nat)
  | obj (o : Nat)
  | queue
deriving DecidableEq, Repr

/-- Reference-message roles (R349). -/
inductive RefKind where
  | off | wait | following | backup | master
deriving DecidableEq, Repr

/-- A CAN channel: state, TEC and REC, the frame it is sending, whether it is receiving one, stamp and SOF counter of the frame on
the bus, the latest error and its phase, objects, queue filters (IDE, ID, MASK), queues, the reference-message role, whether a message
is pending, its next CYCLE, and the counts of time steps that its last message, and the one on the bus, knew of at their SOF. -/
structure CanChan where
  kind : CanKind := .absent
  tec : Nat := 0
  rxe : Nat := 0
  busy : Option (Contender × CanFrame) := none
  receiving : Bool := false
  sof : Option (Stamp × Nat) := none
  errKind : Nat := 0
  errData : Bool := false
  objs : Sparse CanObj := []
  filters : List (Bool × Nat × Nat) := []
  txq : List QueueEntry := []
  rxq : List CanRecord := []
  ref : RefKind := .off
  refPending : Bool := false
  cycle : Nat := 0
  refSteps : Nat := 0
  sofSteps : Nat := 0
deriving DecidableEq, Repr

/-- A secured PDU at run time (R357, R363): SPDU_CTL.EN and SPDU_FV, and whether a value at or above FV_THRESH has been used (R355). -/
structure Spdu where
  en : Bool := false
  fv : Nat := 0
  exceeded : Bool := false
deriving DecidableEq, Repr

/-- The CAN controllers: channels, secured PDUs by number, the data bytes of each path's message window (key 8 x channel + path), the
shared SOF counter in units of 2.5 ns (R345), and how often the primary domain has stepped (R347). -/
structure CanState where
  chan : Sparse CanChan := []
  spdu : Sparse Spdu := []
  win : Sparse (List Byte) := []
  sofc : Nat := 0
  steps : Nat := 0
deriving DecidableEq, Repr

/-- Channel states of an MVB controller (R395). -/
inductive MvbKind where
  | absent | init | device | backup | master | standby | roadworks
deriving DecidableEq, Repr

/-- A process-data port or a message telegram: bytes, stamp, sequence number; whether a telegram has come. -/
structure MvbData where
  bytes : List Byte := []
  stamp : Stamp := {}
  seq : Nat := 0
  came : Bool := false
deriving DecidableEq, Repr

/-- An MVB channel: state, the current master where known, the lines that carry valid frames and the one that is trusted, ports, message
queues, the basic period, the polls that wait for a reply (F_code, address), macro cycles completed, and an offer of mastership: the
device address offered to and the basic periods since. -/
structure MvbChan where
  kind : MvbKind := .absent
  master : Option Nat := none
  lineA : Bool := false
  lineB : Bool := false
  trustB : Bool := false
  ports : Sparse MvbData := []
  mdTx : List (List Byte) := []
  mdRx : List MvbData := []
  basic : Nat := 0
  polls : List (Nat × Nat) := []
  turns : Nat := 0
  offer : Option (Nat × Nat) := none
deriving DecidableEq, Repr

end Sys2Proof.Machine
end

