-- ==== Sys2Proof/Machine/GwyTypes.lean ====
section
/-!
DEFINITION. What the fieldbus gateway holds, as plain data (09_gateway_and_culvert.md).
-/
namespace Sys2Proof.Machine

/-- State of a signal rule (R401). -/
inductive SigKind where
  | never | fresh | timedOut | outOfRange
deriving DecidableEq, Repr

/-- A signal rule: state, the value in the target, the last update, whether its timeout has struck in this silence (R374). -/
structure SigState where
  kind : SigKind := .never
  value : Int := 0
  at_ : Nat := 0
  silent : Bool := false
deriving DecidableEq, Repr

/-- A target frame: its bytes, whether new bytes are held while the object's TXRQ is 1, and the updates held (R376). -/
structure TargetState where
  bytes : List Byte := []
  heldBytes : Bool := false
  started : Bool := false
deriving DecidableEq, Repr

/-- The sequence of a culvert rule (R382): the next SEQ and whether an encrypted rule has used its last. -/
structure CulSeq where
  next : Nat := 0
  exhausted : Bool := false
deriving DecidableEq, Repr

/-- A sequence state of an ingress rule (R386): TAKE_ANY, LAST, and the last accepted frame's time. -/
structure IngState where
  takeAny : Bool := true
  last : Nat := 0
  at_ : Nat := 0
deriving DecidableEq, Repr

/-- An ACF stream: the next sequence_num, the messages collected, the time of the first (R390) and the epoch it was routed under (R364). -/
structure AcfState where
  seqNum : Nat := 0
  msgs : List (List Byte) := []
  first : Nat := 0
  epoch : Option Nat := none
deriving DecidableEq, Repr

/-- A frame in the lookaside crypto engine (R381, R385): to be encrypted from the bytes after its header on, to be decrypted for an
ingress rule, or a frame that a multicast group sent to lane 26. `key` is the key the operation began with. -/
inductive CryptoJob where
  | encrypt (f : Frame) (body : Nat) (key : List Byte)
  | decrypt (f : Frame) (rule body : Nat) (key : List Byte)
  | pass (f : Frame)
deriving DecidableEq, Repr

/-- The epoch that a frame in the engine carries. -/
def CryptoJob.epoch : CryptoJob → Nat
  | .encrypt f _ _ => f.epoch
  | .decrypt f _ _ _ => f.epoch
  | .pass f => f.epoch

/-- The gateway: signal rules, target frames, culvert sequences, ingress states (key 2 x rule + state), ACF streams, the lookaside
crypto engine, oldest first, and culvert or AVTP frames that have reached the gateway on lane 22 (with DEST kind 0x6 when the
flag is set; the rule), oldest first. -/
structure GwyState where
  sig : Sparse SigState := []
  tgt : Sparse TargetState := []
  cul : Sparse CulSeq := []
  ing : Sparse IngState := []
  acf : Sparse AcfState := []
  crypto : List CryptoJob := []
  arrived : List (Bool × Nat × Frame) := []
deriving DecidableEq, Repr

end Sys2Proof.Machine
end

