-- ==== Sys2Proof/Machine/HbrTypes.lean ====
section
/-!
DEFINITION. What the host bridge holds, as plain data (11_host_bridge.md).
-/
namespace Sys2Proof.Machine

/-- States of the host link (R447). -/
inductive HostLink where
  | down | hold | up
deriving DecidableEq, Repr

/-- States of a transmit side (R438). -/
inductive TxSide where
  | disabled | running | stopped
deriving DecidableEq, Repr

/-- A queue pair: both sides, the cause of the last error, completed entries not announced, and whether the frame at HEAD was found
without its last descriptor since the last TAIL write. -/
structure QueuePair where
  tx : TxSide := .disabled
  rx : Bool := false
  err : Nat := 0
  fresh : Nat := 0
  short : Bool := false
deriving DecidableEq, Repr

/-- A transaction to an acknowledged window (R431): an acknowledged write's address and value, or a read that waits behind one. -/
structure AckWrite where
  addr : Nat
  value : Word
  read : Bool := false
deriving DecidableEq, Repr

/-- The host bridge: link, speed and width, whether HOLDOFF of the last epoch still runs; the acknowledged write that is forwarded and
the transactions held behind it, oldest first; queue pairs; the queue served last in each priority; MSI-X vectors unmasked and pending. -/
structure HbrState where
  link : HostLink := .down
  speed : Nat := 0
  width : Nat := 0
  holdoff : Bool := false
  ack : Option AckWrite := none
  held : List AckWrite := []
  qp : Sparse QueuePair := []
  served : Sparse Nat := []
  unmasked : Sparse Bool := []
  irq : Sparse Bool := []
deriving DecidableEq, Repr

end Sys2Proof.Machine
end

