-- ==== Sys2Proof/Machine/KeyTypes.lean ====
section
/-!
DEFINITION. What the key ledger holds, as plain data (12_keys_and_attestation.md).
-/
namespace Sys2Proof.Machine

/-- A slot (R459): attribute word and value. A 384-bit key lies whole at its even handle; its second slot has the attribute word
with PAIR and no value of its own (R462). -/
structure KeySlot where
  attr : Word := 0
  value : List Byte := []
deriving DecidableEq, Repr

/-- State of the random number generator (R484, R497). -/
inductive RngState where
  | startup | ok | failed
deriving DecidableEq, Repr

/-- The firmware that runs (R488): bank, signer, rollback index, version, SHA-384 over header bytes 0x00-0x3F. -/
structure Firmware where
  bank : Nat
  signer : Nat
  rollback : Nat
  version : Nat
  measure : List Byte
deriving DecidableEq, Repr

/-- The ledger: slots; the random numbers and the requests since the last seeding; the sealing root in force; running firmware;
the signer table that boot accepted and its count (R486, R488); whether the boot record was read since device reset; the slots
that a load left to be generated (R467). -/
structure KeyState where
  slot : Sparse KeySlot := []
  rng : RngState := .startup
  requests : Nat := 0
  seededAt : Nat := 0
  root : List Byte := []
  fw : Option Firmware := none
  signers : Nat := 0
  signerTable : List Byte := []
  booted : Bool := false
  due : List Nat := []
deriving DecidableEq, Repr

end Sys2Proof.Machine
end

