-- ==== Sys2Proof/Machine/LmpTypes.lean ====
section
/-!
DEFINITION. What the lamplight island, the switched feeds and the pins hold, as plain data (13_wake_sleep_power.md,
16_electrical_and_pins.md).
-/
namespace Sys2Proof.Machine

/-- Island states (R499). -/
inductive IslKind where
  | off | waking | run | sleeping | sleep
deriving DecidableEq, Repr

/-- States of a curfew ring (R517, R527). -/
inductive RingKind where
  | off | reset | normal | prepSleep | waitBusSleep | busSleep | limphome | passive
deriving DecidableEq, Repr

/-- What a ring message says (R514): RING to the successor, with SLEEP_ACK or not, ALIVE, LIMPHOME. -/
inductive RingOp where
  | ring (ack : Bool)
  | alive
  | limphome
deriving DecidableEq, Repr

/-- A curfew ring: state; member addresses, ascending; members that consented since the ring last went to PREP_SLEEP (R516); the message
waiting to be sent, with its destination address; transmissions in a row without acknowledgement; whether the token is here and
consent was complete when it came; in LIMPHOME whether a message was sent and acknowledged, whether a RING or ALIVE came, and whether
a message without SLEEP_IND came since the last TERROR; the island count at which the running timer elapses. -/
structure Ring where
  kind : RingKind := .off
  members : List Nat := []
  consented : List Nat := []
  out : Option (RingOp × Nat) := none
  unacked : Nat := 0
  token : Bool := false
  agreed : Bool := false
  sent : Bool := false
  heard : Bool := false
  awake : Bool := false
  due : Nat := 0
deriving DecidableEq, Repr

/-- States of a feed (R519, R528). -/
inductive FeedKind where
  | off | ramp | on | cool | latched | ovHold
deriving DecidableEq, Repr

/-- A feed: state, TRIPS, and the island counts of its latest trip and OFF command (R521). -/
structure Feed where
  kind : FeedKind := .off
  trips : Nat := 0
  tripAt : Option Nat := none
  offAt : Option Nat := none
deriving DecidableEq, Repr

/-- A false-wake window (R509) stays open for a source: decoders 0-31, pins 32-35. -/
abbrev WakeSource := Nat

/-- The island. `clock` is its count in units of 1/390625 tick, of which 40 ns hold 512 (R43: 32.768 kHz); `grace` the grace period of SLEEPING; `next` the
enables raised in WAKING, or still to be lowered in SLEEPING; `enables` the levels of PWR_EN0-5; `retry` that SLEEP was entered from
a rail failure; `later` the cause recorded after the grace period, with its island count; `errs` the decoders' error counters and `errOff` the decoders they
disarmed (R506); `pins` the accepted levels of the wake pins; `windows` the open confirmation windows; whether device reset is held and
the cause its release will read (R603, R613). -/
structure LmpState where
  kind : IslKind := .run
  grace : Bool := false
  next : Nat := 6
  enables : Nat := 0x3F
  railFails : Nat := 0
  retry : Bool := false
  sleepReq : Bool := false
  later : Option (Nat × Nat) := none
  errs : Sparse Nat := []
  errOff : List Nat := []
  pins : Nat := 0
  windows : List WakeSource := []
  ring : Sparse Ring := []
  feed : Sparse Feed := []
  clock : Nat := 0
  held : Bool := false
  cause : Nat := 1
deriving DecidableEq, Repr

/-- A multi-function pin (16_electrical_and_pins.md R620-R627): the function in force, whether a switch is in progress, the filtered level,
and, for a port LED, whether its activity interval runs and when it began (ns). -/
structure MfPin where
  func : Nat := 0
  switching : Bool := false
  level : Bool := false
  lit : Bool := false
  litAt : Option Nat := none
deriving DecidableEq, Repr

/-- The die sensors (R635, R636): whether the temperature has not fallen below its hysteresis since the latest warning, and whether VCORE
has stayed below 0.72 V since the latest count; and the levels of the rails that the brown-out monitor has seen, in mV (R611, R612), by the
rail's number. -/
structure PinSense where
  hot : Bool := false
  low : Bool := false
  rails : Sparse (Option Nat) := []
deriving DecidableEq, Repr

end Sys2Proof.Machine
end

