-- ==== Sys2Proof/Machine/MgtTypes.lean ====
section
/-!
DEFINITION. What the management plane and the debug port hold, as plain data (15_management_events_health.md).
-/
namespace Sys2Proof.Machine

/-- A timer in network time that can stand still: nanoseconds left, and the time since which it runs. -/
structure Timer where
  left : Nat := 0
  since : Option Nat := none
deriving DecidableEq, Repr

/-- States of the management plane (R566). -/
inductive MgtKind where
  | reset | loading | running | noFirmware
deriving DecidableEq, Repr

/-- A lease that is held (R589-R592): the path that holds it and its timer. -/
structure Lease where
  holder : Nat
  timer : Timer
deriving DecidableEq, Repr

/-- States of the roadworks request engine (R587). -/
inductive RwKind where
  | idle | entering | testing | held
deriving DecidableEq, Repr

/-- The request engine: its state, and KIND, INDEX and ACTION (HOLD) of the request it serves. -/
structure RwState where
  state : RwKind := .idle
  kind : Nat := 0
  index : Nat := 0
  hold : Bool := false
deriving DecidableEq, Repr

/-- The management plane and the debug port: state, watchdog, leases, the request engine; whether the debug port is unlocked and has
ever been since device reset, the signer of the last unlock, the challenge not yet answered, refused responses; and the boundary-scan
register as preloaded. -/
structure MgtState where
  state : MgtKind := .reset
  wdt : Timer := {}
  lease : Sparse (Option Lease) := []
  rw : RwState := {}
  unlocked : Bool := false
  opened : Bool := false
  challenge : Option (List Byte) := none
  signer : Nat := 0
  refusals : Nat := 0
  scan : List Bool := []
deriving DecidableEq, Repr

end Sys2Proof.Machine
end

