-- ==== Sys2Proof/Machine/TandemTypes.lean ====
section
/-!
DEFINITION. What the tandem controller holds, as plain data (14_tandem_redundancy.md).
-/
namespace Sys2Proof.Machine

/-- Member states (R541, R563). -/
inductive TdmKind where
  | solo | wait | alone | pairing | resync | paired | resolving | frozen | isolated | faulty
deriving DecidableEq, Repr

/-- Why resolution was triggered (R538, R550). -/
inductive Trigger where
  | mismatch | heartbeat | tfail
deriving DecidableEq, Repr

/-- A record waiting in the tandem transmit buffer (R536-R538): its order of precedence 1-3, TYPE, the SEQ of a mirror record, body, and
whether it belongs to a bulk, which is paced and takes no room in the buffer. -/
structure TdmRecord where
  precedence : Nat
  type : Nat
  seq : Nat
  body : List Byte
  bulk : Bool
deriving DecidableEq, Repr

/-- What is known of the partner: pairing identifier, position, state code, role, ID_HASH, epoch, overlay mask, digest and its
flags SYNCED and SLEEP_REQ, the ring states of its heartbeat. -/
structure Partner where
  pairId : Nat := 0
  position : Nat := 0
  state : Nat := 0xF
  active : Bool := false
  hash : Nat := 0
  epoch : Nat := 0
  overlays : Nat := 0
  digest : List Byte := []
  synced : Bool := false
  frozen : Bool := false
  sleepReq : Bool := false
  rings : Nat := 0
deriving DecidableEq, Repr

/-- Mirrored 802.1CB state of a stream (R538): take_any, REC, GEN_SEQ, HIST. -/
structure CbMirror where
  takeAny : Bool
  last : Nat
  genSeq : Nat
  hist : Nat
deriving DecidableEq, Repr

/-- Mirrored state of a curfew ring: state code, SLEEP_REQ flag, ms left on its running timer, member addresses, and when the
record came. -/
structure RingMirror where
  state : Nat
  sleepReq : Bool
  left : Nat
  members : List Nat
  cameAt : Nat
deriving DecidableEq, Repr

/-- Mirrored positions of a flume: WR, RD, MK, RL. -/
structure FlumeMirror where
  wr : Nat
  rd : Nat
  mark : Nat
  rl : Nat
deriving DecidableEq, Repr

/-- Mirrored last value of a signal rule: state code, value, stamp in ns. -/
structure GwMirror where
  state : Nat
  value : Nat
  ns : Nat
deriving DecidableEq, Repr

/-- A resolution in progress (R550-R552): trigger, when it began (ns), the member's own result with the first failing check, the
partner's result, whether RESOLVE_TO has elapsed, whether the trigger came in FROZEN, where mirroring stands still. -/
structure Resolution where
  trigger : Trigger
  since : Nat
  own : Option (Bool × Nat) := none
  partner : Option Bool := none
  expired : Bool := false
  frozen : Bool := false
deriving DecidableEq, Repr

/-- The tandem controller: state, role, DEGRADED, SYNCED; heartbeats arriving and heartbeats declared lost; TFAIL_IN restored, edges of
TFAIL_IN in a row, the level of TFAIL_OUT; the partner of the pairing; the position and whether it was sampled (R531); HOLDOFF running;
the transmit buffer, oldest first; the SEQ of the next mirror record and of the last one sent; the last mirror SEQ applied, none
while a BULK_START is awaited; a RESYNC_REQ that came in FROZEN; the digest number, the second `digestFrom` and its digests; the tandem
bytes of the millisecond from `rateFrom`; MM_RUN; what changed since its last mirror record; the mirrored store and the entries of
the bulk so far; the resolution in progress; for each stream the history offsets that only the takeover's guard set. -/
structure TdmState where
  state : TdmKind := .solo
  active : Bool := true
  degraded : Bool := false
  synced : Bool := false
  hbOk : Bool := false
  hbLost : Bool := false
  tfailOk : Bool := false
  tfailRun : Nat := 0
  tfailOut : Bool := false
  partner : Option Partner := none
  position : Nat := 0
  positioned : Bool := false
  holdoff : Bool := false
  tx : List TdmRecord := []
  nextSeq : Nat := 0
  sentSeq : Nat := 0xFFFFFFFF
  applied : Option Nat := none
  wantBulk : Bool := false
  dseq : Nat := 0
  digestFrom : Nat := 0
  digestUsed : Nat := 0
  rateFrom : Nat := 0
  rateUsed : Nat := 0
  mmRun : Nat := 0
  dirtyCb : List Nat := []
  dirtyFlume : List Nat := []
  dirtyGw : List Nat := []
  bulkCount : Nat := 0
  cb : Sparse (Option CbMirror) := []
  ring : Sparse (Option RingMirror) := []
  flume : Sparse (Option FlumeMirror) := []
  gw : Sparse (Option GwMirror) := []
  resolution : Option Resolution := none
  cbGuard : Sparse Nat := []
deriving DecidableEq, Repr

end Sys2Proof.Machine
end

