-- ==== Sys2Proof/Machine/State.lean ====
section
/-!
DEFINITION. The state of the block as plain data, every field at its reset value by default. Each block has its register file
and counters (`regs`) and a structure of its own for the state the spec names outside the registers. A unit that exists many
times is a sparse table whose unlisted entries are at reset.
-/
namespace Sys2Proof.Machine

/-- The register blocks (17_register_map.md R641). -/
inductive Block where
  | dev | img | tkp | eth | prs | tbl | xbr | cis | egr | can | mvb | gwy | flm | hbr | key | lmp | tdm | evt | mgt | pin
deriving DecidableEq, Repr

/-- One row of the register map: offset of the first instance, (stride, count) of each replication, outermost first, the value
at reset, the bits a write sets, the bits a write of 1 clears, and whether each access path has its own copy. -/
structure RegRow where
  off : Nat
  dims : List (Nat × Nat)
  reset : Nat
  rw : Nat
  w1c : Nat
  perPath : Bool
deriving DecidableEq, Repr

/-- Counters in a row: block, offset of the first, how many, (stride, count) of each replication. -/
structure CounterRow where
  block : Block
  off : Nat
  count : Nat
  dims : List (Nat × Nat)
deriving DecidableEq, Repr

/-- The registers and counters of one block: words by offset (a per-path copy at offset + 2^26 x path), counters by the offset
of their _LO register. Unlisted: the reset value; 0. -/
structure RegFile where
  word : Sparse Word := []
  count : Sparse (BitVec 40) := []
deriving DecidableEq, Repr

/-- The register files of all blocks. -/
structure RegSpace where
  dev : RegFile := {}
  img : RegFile := {}
  tkp : RegFile := {}
  eth : RegFile := {}
  prs : RegFile := {}
  tbl : RegFile := {}
  xbr : RegFile := {}
  cis : RegFile := {}
  egr : RegFile := {}
  can : RegFile := {}
  mvb : RegFile := {}
  gwy : RegFile := {}
  flm : RegFile := {}
  hbr : RegFile := {}
  key : RegFile := {}
  lmp : RegFile := {}
  tdm : RegFile := {}
  evt : RegFile := {}
  mgt : RegFile := {}
  pin : RegFile := {}
deriving DecidableEq, Repr

/-- What one access path holds (00_scope.md R9-R12): the latched high half and fraction of the pair read last, the staged low
half of the pair being written, and (the model's own) what the path's last read returned. -/
structure PathState where
  latch : Option (Nat × Word × Word) := none
  stage : Option (Nat × Word) := none
  lastRead : Word := 0
deriving DecidableEq, Repr

/-- A record of an image after merging: region, parcel scope, key and body (02_ikiem_images.md R55, R64). -/
structure Rec where
  region : Nat
  scope : Nat
  key : Nat
  body : List Byte
deriving DecidableEq, Repr

/-- A merged configuration: its records, overlay mask, slot, signed digest, base digest, version, rollback index and the entry of
the signer table that signed it. -/
structure Conf where
  recs : List Rec := []
  overlays : Nat := 0
  slot : Slot := .a
  digest : List Byte := []
  base : List Byte := []
  version : Nat := 0
  rollback : Nat := 0
  signer : Nat := 0
deriving DecidableEq, Repr

/-- Loader states (02_ikiem_images.md R99). -/
inductive LoaderState where
  | noImage | booting | running | staging | staged | armed | committing
deriving DecidableEq, Repr

/-- An arm record (02_ikiem_images.md R83): epoch, T, digest, overlay mask. -/
structure ArmRecord where
  epoch : Nat
  t : Nat
  digest : List Byte
  overlays : Nat
deriving DecidableEq, Repr

/-- A unit a commit may put under roadworks (02_ikiem_images.md R59, R89). -/
inductive Works where
  | port (p : Nat) | parser | table (t : Nat) | can (n : Nat) | mvb (n : Nat)
deriving DecidableEq, Repr

/-- A configuration that frames of an earlier epoch still carry (01_architecture.md R33), with the table entries and the values of
PRS_PORT_CFG[0-28] and PRS_MIRROR[0-15] it ended with. -/
structure Past where
  epoch : Nat
  conf : Conf
  tables : Sparse (List TblEntry)
  ports : List Word := []
  mirrors : List Word := []
deriving DecidableEq, Repr

/-- The image loader and epoch controller (02_ikiem_images.md). `outcome` is what a staging in progress will end with. -/
structure ImgState where
  state : LoaderState := .booting
  conf : Option Conf := none
  boot : Option Conf := none
  staged : Option Conf := none
  outcome : Option (Nat × Option Conf) := none
  armed : Option ArmRecord := none
  partner : Option ArmRecord := none
  abortRx : Bool := false
  decision : Option Bool := none
  kept : Option (Conf × Nat × Bool) := none
  refusedHold : Bool := false
  works : List Works := []
  worksFrom : Nat := 0
  history : List Past := []
deriving DecidableEq, Repr

/-- Servo states (03_time_and_order.md R120, R138). -/
inductive DomState where
  | disabled | freeRun | acquiring | locked | holdover | grandmaster
deriving DecidableEq, Repr

/-- A Sync waiting for its Follow_Up (03_time_and_order.md R119): identity, local receipt time (2^-16 ns) and correction. -/
structure PendingSync where
  seq : Nat
  clock : Nat
  portNum : Nat
  rx : Nat
  correction : Int
deriving DecidableEq, Repr

/-- An accepted Announce held for the best master clock algorithm. -/
structure Heard where
  rank : ClockRank
  steps : Nat
  clock : Nat
  portNum : Nat
deriving DecidableEq, Repr

/-- One gPTP domain (03_time_and_order.md R106, R120, R653). Time in units of 2^-32 ns; F and P in units of 2^-56. -/
structure Domain where
  state : DomState := .disabled
  time : Nat := 0
  f : Int := 0
  p : Int := 0
  lockRun : Nat := 0
  outliers : Nat := 0
  lockedSince : Bool := false
  fromGm : Bool := false
  deferred : Bool := false
  gm : Nat := 0
  steps : Nat := 0
  sync : Option PendingSync := none
  heard : Sparse (Option Heard) := []
  syncSeq : Nat := 0
  announceSeq : Nat := 0
  holdoverAt : Nat := 0
  lastPps : Option Nat := none
deriving DecidableEq, Repr

/-- The gPTP side of one port: the outstanding peer-delay request (sequence, sending time in 2^-16 ns), losses in a row, asCapable,
the times t3 and t4 of the last exchange, and the intervals a Signaling message set. -/
structure PtpPort where
  req : Option (Nat × Nat) := none
  reqSeq : Nat := 0
  answered : Bool := true
  lost : Nat := 0
  capable : Bool := false
  last : Option (Nat × Nat) := none
  linkInterval : Option Int := none
  syncInterval : Option Int := none
  announceInterval : Option Int := none
deriving DecidableEq, Repr

/-- Pulse per second (03_time_and_order.md R126-R130): edges accepted in a row, PPS_IN_OK, lost, edges since the loss, and the network
time (2^-32 ns) at which PPS out rose while it is high. -/
structure PpsState where
  inRow : Nat := 0
  ok : Bool := false
  lost : Bool := false
  sinceLoss : Nat := 0
  outSince : Option Nat := none
deriving DecidableEq, Repr

/-- The time keeper: at reset only domain 0 runs, in FREE_RUN from time 0 (R138). -/
structure TkpState where
  dom : Sparse Domain := [(0, { state := .freeRun })]
  port : Sparse PtpPort := []
  pps : PpsState := {}
  firstLock : Bool := false
deriving DecidableEq, Repr

/-- An item in a flume (10_flumes.md R404): its producer, length in slots, position of its first slot and bytes. -/
structure FlumeItem where
  producer : Nat
  slots : Nat
  pos : Nat
  bytes : List Byte
deriving DecidableEq, Repr

/-- One flume (10_flumes.md R403-R419): items not yet released, oldest first; the two copies of WR, RD, MK and RL; the credit of
each producer and the grants still owed to it since the layout load or a reset; the stale flag, whether E1161 may be raised
again, and the reset count. -/
structure Flume where
  items : List FlumeItem := []
  wr : Nat := 0
  rd : Nat := 0
  mark : Nat := 0
  rl : Nat := 0
  wr2 : Nat := 0
  rd2 : Nat := 0
  mark2 : Nat := 0
  rl2 : Nat := 0
  credit : Sparse Nat := []
  owed : Sparse Nat := []
  stale : Bool := false
  staleArmed : Bool := true
  epoch : Nat := 0
deriving DecidableEq, Repr

/-- The item a path's flume window shows (10_flumes.md R414). -/
structure FlumeWin where
  flume : Nat := 0
  slots : Nat := 0
  pos : Nat := 0
  bytes : List Byte := []
deriving DecidableEq, Repr

/-- The flumes and the item windows of paths 0-4. -/
structure FlmState where
  flume : Sparse Flume := []
  win : Sparse FlumeWin := []
deriving DecidableEq, Repr

/-- A stamped event record (15_management_events_health.md R571). -/
structure EventRec where
  stamp : Stamp
  source : Nat
  seq : Nat
  payload : List Byte
deriving DecidableEq, Repr

/-- A counter watcher's window (15_management_events_health.md R578): base count, start, whether it has raised. -/
structure Watch where
  base : Nat := 0
  start : Nat := 0
  raised : Bool := false
deriving DecidableEq, Repr

/-- The event system: records stamped and not yet offered to their destinations, oldest first; the hold of each source and
flume (key 2048 x flume + source); the watchers. -/
structure EvtState where
  offered : List EventRec := []
  hold : Sparse (Option EventRec) := []
  watch : Sparse Watch := []
deriving DecidableEq, Repr

/-- What leaves the block at its balls (the model's own record of it). -/
inductive Output where
  /-- Bytes written into host memory, and a message-signalled interrupt. -/
  | host (addr : Nat) (bytes : List Byte)
  | msix (vector : Nat)
  /-- A frame on an Ethernet port, DA through FCS; Verify, Respond and BEACON signals. -/
  | wire (port : Nat) (express : Bool) (bytes : List Byte)
  | verify (port : Nat)
  | respond (port : Nat)
  | beacon (port : Nat)
  /-- A gPTP message on a port with its frame, DA through FCS; the level of PPS out. -/
  | ptp (port : Nat) (m : PtpMsg) (bytes : List Byte)
  | pps (level : Bool)
  /-- A CAN frame that a channel puts on its bus; an MVB master frame (F_code, address); an MVB slave frame with its data. -/
  | can (ch : Nat) (f : CanFrame)
  | mvbMaster (ch fcode addr : Nat)
  | mvbSlave (ch fcode addr : Nat) (bytes : List Byte)
  /-- What the debug port shifts out: bytes, a word, the bits of a scan register; and the levels that EXTEST puts on the balls. -/
  | tapBytes (bs : List Byte)
  | tapWord (w : Word)
  | tapBits (bs : List Bool)
  | scan (bs : List Bool)
deriving DecidableEq, Repr

/-- What the fuses and the silicon fix (12_keys_and_attestation.md R490-R492): revision, blown anti-rollback fuses, identity,
revocations, the anchor once fused. -/
structure Fuses where
  revision : Nat := 0
  rollback : Nat := 0
  clockId : Nat := 0
  fwkey0Revoked : Bool := false
  signerRevoked : Nat := 0
  anchor : Option (List Byte) := none
deriving DecidableEq, Repr

/-- Why the machine could stop. No command of this block stops it: every error the spec names is state. -/
inductive Fault where
deriving DecidableEq, Repr

/-- Why a command has no meaning. -/
inductive Refusal where
  /-- Raised by exec for a command that has no meaning yet; safe: nothing is claimed of it. -/
  | notModelled (mnemonic : String)
deriving DecidableEq, Repr

/-- The block. -/
structure State where
  regs : RegSpace := {}
  paths : Sparse PathState := []
  seq : Sparse (BitVec 32) := []
  img : ImgState := {}
  tkp : TkpState := {}
  flm : FlmState := {}
  evt : EvtState := {}
  net : NetState := {}
  prs : PrsState := {}
  tbl : TblState := {}
  xbr : XbrState := {}
  cis : CisState := {}
  tdm : TdmState := {}
  key : KeyState := {}
  gwy : GwyState := {}
  can : CanState := {}
  mvb : Sparse MvbChan := []
  hbr : HbrState := {}
  lmp : LmpState := {}
  mf : Sparse MfPin := []
  sense : PinSense := {}
  mgt : MgtState := {}
  fuses : Fuses := {}
  flash : List Host.Cell := []
  out : List Output := []
  free : Nat := 0
  pending : List Instr := []
deriving DecidableEq, Repr

/-- The block right after reset. -/
def State.reset : State := {}

end Sys2Proof.Machine
end

