-- ==== Sys2Proof/Machine/RegMap.lean ====
section
/-!
DEFINITION. The register map (17_register_map.md R641-R644) as rows: for each register its offset in the block, the strides of
its replicated instances, its value at reset, and the bits a write sets (RW) or clears by ones (W1C). Field codes are those of
R6; a register that no row lists is reserved and reads 0.
-/
namespace Sys2Proof.Machine

/-- Registers of block DEV (00_scope.md). -/
def rowsDev : List RegRow := [
  ⟨0x0, [], 0x88280000, 0x0, 0x0, false⟩,  -- DEV_ID RO R5
  ⟨0x4, [], 0x0, 0x0, 0x0, false⟩,  -- DEV_CTL WO R598
  ⟨0x8, [], 0x1, 0x0, 0x0, false⟩]  -- DEV_RESET_CAUSE RO R603

/-- Registers of block IMG (02_ikiem_images.md). -/
def rowsImg : List RegRow := [
  ⟨0x0, [], 0xA0002, 0xFF0302, 0x0, false⟩,  -- IMG_CFG RW R98
  ⟨0x4, [], 0x1, 0x0, 0x0, false⟩,  -- IMG_STATUS RO R99
  ⟨0x8, [], 0x3, 0x0, 0x0, false⟩,  -- IMG_BOOT RO R100
  ⟨0xC, [(0x4, 3)], 0x0, 0x0, 0x0, false⟩,  -- IMG_SLOT_VER[s] RO R101
  ⟨0x18, [], 0x0, 0x0, 0x0, false⟩,  -- IMG_EPOCH RO R101
  ⟨0x1C, [], 0x0, 0x0, 0x0, false⟩,  -- IMG_OVL RO R101
  ⟨0x20, [], 0x3, 0xFFFF0003, 0x0, false⟩,  -- IMG_STAGE_SRC RW R101
  ⟨0x24, [], 0x0, 0x0, 0x0, false⟩,  -- IMG_CMD WO R101
  ⟨0x28, [], 0x0, 0xFFFFFFFF, 0x0, false⟩,  -- IMG_COMMIT_TIME_LO RW R101
  ⟨0x2C, [], 0x0, 0xFFFFFFFF, 0x0, false⟩,  -- IMG_COMMIT_TIME_HI RW R101
  ⟨0x30, [], 0x0, 0xFFFFFFFF, 0x0, false⟩,  -- IMG_COMMIT_EPOCH RW R101
  ⟨0x34, [], 0x0, 0x0, 0x0, false⟩,  -- IMG_ADMIT RO R101
  ⟨0x38, [], 0x0, 0x0, 0x0, false⟩,  -- IMG_ADMIT_REQ RO R101
  ⟨0x3C, [], 0x0, 0x0, 0x0, false⟩,  -- IMG_ADMIT_USABLE RO R101
  ⟨0x40, [], 0x0, 0x0, 0x0, false⟩,  -- IMG_SHRINK RO R101
  ⟨0x48, [], 0x0, 0x0, 0x0, false⟩,  -- IMG_LAST_COMMIT_NS_LO RO R101
  ⟨0x4C, [], 0x0, 0x0, 0x0, false⟩,  -- IMG_LAST_COMMIT_NS_HI RO R101
  ⟨0x80, [(0x4, 12)], 0x0, 0x0, 0x0, false⟩,  -- IMG_DIGEST[n] RO R101
  ⟨0xC0, [(0x4, 12)], 0x0, 0x0, 0x0, false⟩]  -- IMG_STAGED_DIGEST[n] RO R101

/-- Registers of block TKP (03_time_and_order.md). -/
def rowsTkp : List RegRow := [
  ⟨0x0, [], 0x0, 0x0, 0x0, false⟩,  -- TKP_CFG RO R142
  ⟨0x4, [], 0x1, 0x0, 0x0, false⟩,  -- TKP_STATUS RO R138
  ⟨0x8, [], 0x0, 0x0, 0x0, false⟩,  -- TKP_CMD WO R142
  ⟨0x10, [], 0x0, 0x0, 0x0, false⟩,  -- TKP_NOW_NS_LO LIVE R142
  ⟨0x14, [], 0x0, 0x0, 0x0, false⟩,  -- TKP_NOW_NS_HI LIVE R142
  ⟨0x18, [], 0x0, 0x0, 0x0, false⟩,  -- TKP_NOW_FRAC LIVE R142
  ⟨0x20, [], 0x0, 0xFFFFFFFF, 0x0, false⟩,  -- TKP_SET_NS_LO RW R142
  ⟨0x24, [], 0x0, 0xFFFFFFFF, 0x0, false⟩,  -- TKP_SET_NS_HI RW R142
  ⟨0x30, [], 0x3E80000, 0xFFFF001F, 0x0, false⟩,  -- TKP_PPS_IN_CFG RW R139
  ⟨0x34, [], 0x2, 0xFFFF0037, 0x0, false⟩,  -- TKP_PPS_OUT_CFG RW R140
  ⟨0x38, [], 0x5F5E100, 0xFFFFFFFF, 0x0, false⟩,  -- TKP_PPS_OUT_WIDTH RW R142
  ⟨0x3C, [], 0x0, 0x3FFFFFFF, 0x0, false⟩,  -- TKP_PPS_OUT_OFFSET RW R142
  ⟨0x40, [], 0x0, 0x0, 0x0, false⟩,  -- TKP_PPS_IN_NS_LO RO R142
  ⟨0x44, [], 0x0, 0x0, 0x0, false⟩,  -- TKP_PPS_IN_NS_HI RO R142
  ⟨0x48, [], 0x0, 0x0, 0x0, false⟩,  -- TKP_PPS_IN_FRAC RO R142
  ⟨0x4C, [], 0x0, 0xFFFFFFFF, 0x0, false⟩,  -- TKP_PPS_IN_COMP RW R142
  ⟨0x50, [], 0x12C, 0xFFFF, 0x0, false⟩,  -- TKP_HOLDOVER_MAX RW R142
  ⟨0x1000, [(0x100, 4)], 0x8, 0xFF0F, 0x0, false⟩,  -- DOM_CFG[d] RW R141
  ⟨0x1004, [(0x100, 4)], 0x0, 0x0, 0x0, false⟩,  -- DOM_STATUS[d] RO R142
  ⟨0x1008, [(0x100, 4)], 0xFEF8F8F8, 0xFFFFFFFF, 0x0, false⟩,  -- DOM_PRIO[d] RW R142
  ⟨0x100C, [(0x100, 4)], 0x52, 0xFF, 0x0, false⟩,  -- DOM_SERVO[d] RW R142
  ⟨0x1010, [(0x100, 4)], 0x80032, 0xFFFFFF, 0x0, false⟩,  -- DOM_LOCK[d] RW R142
  ⟨0x1014, [(0x100, 4)], 0x400003E8, 0xF0FFFFFF, 0x0, false⟩,  -- DOM_OUTLIER[d] RW R142
  ⟨0x1018, [(0x100, 4)], 0x186A0, 0xFFFFF, 0x0, false⟩,  -- DOM_SLEW[d] RW R142
  ⟨0x101C, [(0x100, 4)], 0xF4240, 0xFFFFFFFF, 0x0, false⟩,  -- DOM_STEP[d] RW R142
  ⟨0x1020, [(0x100, 4)], 0x0, 0x0, 0x0, false⟩,  -- DOM_OFFSET[d] RO R142
  ⟨0x1024, [(0x100, 4)], 0x0, 0x0, 0x0, false⟩,  -- DOM_RATE[d] RO R142
  ⟨0x1028, [(0x100, 4)], 0x0, 0x0, 0x0, false⟩,  -- DOM_NOW_NS_LO[d] LIVE R142
  ⟨0x102C, [(0x100, 4)], 0x0, 0x0, 0x0, false⟩,  -- DOM_NOW_NS_HI[d] LIVE R142
  ⟨0x1030, [(0x100, 4)], 0x0, 0x0, 0x0, false⟩,  -- DOM_GM_ID_LO[d] RO R142
  ⟨0x1034, [(0x100, 4)], 0x0, 0x0, 0x0, false⟩,  -- DOM_GM_ID_HI[d] RO R142
  ⟨0x1038, [(0x100, 4)], 0x0, 0xFFFFFFFF, 0x0, false⟩,  -- DOM_ROLE0[d] RW R142
  ⟨0x103C, [(0x100, 4)], 0x0, 0x3FFFFFF, 0x0, false⟩,  -- DOM_ROLE1[d] RW R142
  ⟨0x1040, [(0x100, 4)], 0x0, 0x0, 0x0, false⟩,  -- DOM_ROLE_ST0[d] RO R142
  ⟨0x1044, [(0x100, 4)], 0x0, 0x0, 0x0, false⟩,  -- DOM_ROLE_ST1[d] RO R142
  ⟨0x1048, [(0x100, 4)], 0x30300FD, 0xFFFFFFFF, 0x0, false⟩,  -- DOM_INTERVAL[d] RW R142
  ⟨0x8000, [(0x40, 29)], 0x10001, 0x1FF01, 0x0, false⟩,  -- PORT_CFG[p] RW R142
  ⟨0x8004, [(0x40, 29)], 0x0, 0x0, 0x0, false⟩,  -- PORT_STATUS[p] RO R142
  ⟨0x8008, [(0x40, 29)], 0x0, 0x0, 0x0, false⟩,  -- PORT_DELAY[p] RO R142
  ⟨0x800C, [(0x40, 29)], 0x0, 0x0, 0x0, false⟩,  -- PORT_RATIO[p] RO R142
  ⟨0x8010, [(0x40, 29)], 0x0, 0xFFFF, 0x0, false⟩,  -- PORT_RX_LAT[p] RW R142
  ⟨0x8014, [(0x40, 29)], 0x0, 0xFFFF, 0x0, false⟩,  -- PORT_TX_LAT[p] RW R142
  ⟨0x8018, [(0x40, 29)], 0x0, 0xFFFFFFFF, 0x0, false⟩,  -- PORT_ASYM[p] RW R142
  ⟨0x801C, [(0x40, 29)], 0x320, 0xFFFFFFFF, 0x0, false⟩]  -- PORT_THRESH[p] RW R142

/-- Registers of block ETH (04_ethernet_ports.md). -/
def rowsEth : List RegRow := [
  ⟨0x0, [(0x10000, 29)], 0x0, 0x0, 0x0, false⟩,  -- BUILD[p] RO R182
  ⟨0x4, [(0x10000, 29)], 0x0, 0x1, 0x0, false⟩,  -- ADMIN[p] RW R182
  ⟨0x8, [(0x10000, 29)], 0x1F402801, 0xFFFFFFFF, 0x0, false⟩,  -- LINK_CFG[p] RW R182
  ⟨0xC, [(0x10000, 29)], 0x0, 0x0, 0x0, false⟩,  -- LINK_STATUS[p] RO R182
  ⟨0x10, [(0x10000, 29)], 0x0, 0x0, 0x0, false⟩,  -- LINK_EPOCH[p] RO R182
  ⟨0x14, [(0x10000, 29)], 0x800, 0x3FFF, 0x0, false⟩,  -- MAC_CFG[p] RW R182
  ⟨0x18, [(0x10000, 29)], 0x0, 0xFFFFFFFF, 0x0, false⟩,  -- MAC_ADDR_LO[p] RW R182
  ⟨0x1C, [(0x10000, 29)], 0x0, 0xFFFF, 0x0, false⟩,  -- MAC_ADDR_HI[p] RW R182
  ⟨0x40, [(0x10000, 29)], 0xFFFF2064, 0xFFFFFFFF, 0x0, false⟩,  -- PAUSE_CFG[p] RW R182
  ⟨0x44, [(0x10000, 29)], 0x7FFF0000, 0xFFFFFFFF, 0x0, false⟩,  -- PFC_CFG[p] RW R182
  ⟨0x48, [(0x10000, 29)], 0x0, 0x0, 0x10000, false⟩,  -- PAUSE_STATUS[p] W1C R182
  ⟨0x50, [(0x10000, 29)], 0xA00, 0xFFFFC3, 0x0, false⟩,  -- MM_CFG[p] RW R182
  ⟨0x54, [(0x10000, 29)], 0x0, 0x0, 0x0, false⟩,  -- MM_STATUS[p] RO R182
  ⟨0x60, [(0x10000, 29)], 0x10E, 0xFFF03FF, 0x0, false⟩,  -- SEC_CFG[p] RW R182
  ⟨0x64, [(0x10000, 29)], 0x10, 0x13, 0x0, false⟩,  -- SEC_TXSC[p] RW R182
  ⟨0x68, [(0x10000, 29)], 0x0, 0xFFFFFFFF, 0x0, false⟩,  -- SEC_TX_SCI_LO[p] RW R182
  ⟨0x6C, [(0x10000, 29)], 0x0, 0xFFFFFFFF, 0x0, false⟩,  -- SEC_TX_SCI_HI[p] RW R182
  ⟨0x70, [(0x10000, 29)], 0xC0000000, 0xFFFFFFFF, 0x0, false⟩,  -- SEC_PN_THRESH_LO[p] RW R182
  ⟨0x74, [(0x10000, 29)], 0x0, 0xFFFFFFFF, 0x0, false⟩,  -- SEC_PN_THRESH_HI[p] RW R182
  ⟨0x78, [(0x10000, 29)], 0x0, 0xFFFFFFFF, 0x0, false⟩,  -- SEC_WINDOW[p] RW R182
  ⟨0x80, [(0x10000, 29)], 0x80000800, 0xC000FFFF, 0x0, false⟩,  -- PLCA_CFG[p] RW R182
  ⟨0x84, [(0x10000, 29)], 0x200080, 0xFFFFFF, 0x0, false⟩,  -- PLCA_TIMERS[p] RW R182
  ⟨0x88, [(0x10000, 29)], 0x0, 0x0, 0x0, false⟩,  -- PLCA_STATUS[p] RO R182
  ⟨0x1000, [(0x10000, 29), (0x40, 4)], 0x0, 0x80001FFF, 0x0, false⟩,  -- TXSA[an].SA_CTL[p] RW R182
  ⟨0x1008, [(0x10000, 29), (0x40, 4)], 0x1, 0xFFFFFFFF, 0x0, false⟩,  -- TXSA[an].NEXT_PN_LO[p] RW R182
  ⟨0x100C, [(0x10000, 29), (0x40, 4)], 0x0, 0xFFFFFFFF, 0x0, false⟩,  -- TXSA[an].NEXT_PN_HI[p] RW R182
  ⟨0x1010, [(0x10000, 29), (0x40, 4)], 0x0, 0xFFFFFFFF, 0x0, false⟩,  -- TXSA[an].SSCI[p] RW R182
  ⟨0x1014, [(0x10000, 29), (0x40, 4)], 0x0, 0xFFFFFFFF, 0x0, false⟩,  -- TXSA[an].SALT0[p] RW R182
  ⟨0x1018, [(0x10000, 29), (0x40, 4)], 0x0, 0xFFFFFFFF, 0x0, false⟩,  -- TXSA[an].SALT1[p] RW R182
  ⟨0x101C, [(0x10000, 29), (0x40, 4)], 0x0, 0xFFFFFFFF, 0x0, false⟩,  -- TXSA[an].SALT2[p] RW R182
  ⟨0x2000, [(0x10000, 29), (0x200, 16)], 0x0, 0x80000000, 0x0, false⟩,  -- RXSC_CFG[c][p] RW R182
  ⟨0x2008, [(0x10000, 29), (0x200, 16)], 0x0, 0xFFFFFFFF, 0x0, false⟩,  -- RXSC_SCI_LO[c][p] RW R182
  ⟨0x200C, [(0x10000, 29), (0x200, 16)], 0x0, 0xFFFFFFFF, 0x0, false⟩,  -- RXSC_SCI_HI[c][p] RW R182
  ⟨0x2040, [(0x10000, 29), (0x200, 16), (0x40, 4)], 0x0, 0x80001FFF, 0x0, false⟩,  -- RXSA[c][an].SA_CTL[p] RW R182
  ⟨0x2048, [(0x10000, 29), (0x200, 16), (0x40, 4)], 0x1, 0xFFFFFFFF, 0x0, false⟩,  -- RXSA[c][an].NEXT_PN_LO[p] RW R182
  ⟨0x204C, [(0x10000, 29), (0x200, 16), (0x40, 4)], 0x0, 0xFFFFFFFF, 0x0, false⟩,  -- RXSA[c][an].NEXT_PN_HI[p] RW R182
  ⟨0x2050, [(0x10000, 29), (0x200, 16), (0x40, 4)], 0x0, 0xFFFFFFFF, 0x0, false⟩,  -- RXSA[c][an].SSCI[p] RW R182
  ⟨0x2054, [(0x10000, 29), (0x200, 16), (0x40, 4)], 0x0, 0xFFFFFFFF, 0x0, false⟩,  -- RXSA[c][an].SALT0[p] RW R182
  ⟨0x2058, [(0x10000, 29), (0x200, 16), (0x40, 4)], 0x0, 0xFFFFFFFF, 0x0, false⟩,  -- RXSA[c][an].SALT1[p] RW R182
  ⟨0x205C, [(0x10000, 29), (0x200, 16), (0x40, 4)], 0x0, 0xFFFFFFFF, 0x0, false⟩]  -- RXSA[c][an].SALT2[p] RW R182

/-- Registers of block PRS (05_classification.md). -/
def rowsPrs : List RegRow := [
  ⟨0x0, [], 0x0, 0x0, 0x0, false⟩,  -- PRS_STATUS RO R232
  ⟨0x4, [], 0x0, 0x0, 0x3FF, false⟩,  -- PRS_ERR W1C R232
  ⟨0x100, [(0x4, 29)], 0x0, 0xFFFFF000, 0x0, false⟩,  -- PRS_PORT_CFG[p] RW R232
  ⟨0x200, [(0x4, 16)], 0x0, 0x8700FFFF, 0x0, false⟩,  -- PRS_MIRROR[m] RW R232
  ⟨0x100000, [(0x80, 16384)], 0x38, 0xFFF0003F, 0x0, false⟩,  -- WEIR_CFG[w] RW R232
  ⟨0x100004, [(0x80, 16384)], 0xBEBC20, 0xFFFFFF, 0x0, false⟩,  -- WEIR_RATE1[w] RW R232
  ⟨0x100008, [(0x80, 16384)], 0xBEBC20, 0xFFFFFF, 0x0, false⟩,  -- WEIR_RATE2[w] RW R232
  ⟨0x10000C, [(0x80, 16384)], 0x1000000, 0x1FFFFFF, 0x0, false⟩,  -- WEIR_BURST1[w] RW R232
  ⟨0x100010, [(0x80, 16384)], 0x1000000, 0x1FFFFFF, 0x0, false⟩,  -- WEIR_BURST2[w] RW R232
  ⟨0x100018, [(0x80, 16384)], 0x40000000, 0x0, 0x0, false⟩,  -- WEIR_LVL1_LO[w] LIVE R232
  ⟨0x10001C, [(0x80, 16384)], 0xF42, 0x0, 0x0, false⟩,  -- WEIR_LVL1_HI[w] LIVE R232
  ⟨0x100020, [(0x80, 16384)], 0x40000000, 0x0, 0x0, false⟩,  -- WEIR_LVL2_LO[w] LIVE R232
  ⟨0x100024, [(0x80, 16384)], 0xF42, 0x0, 0x0, false⟩]  -- WEIR_LVL2_HI[w] LIVE R232

/-- Registers of block TBL (05_classification.md). -/
def rowsTbl : List RegRow := [
  ⟨0x0, [(0x1000, 6)], 0x0, 0x0, 0x0, false⟩,  -- TBL_CMD[w] WO R234
  ⟨0x4, [(0x1000, 6)], 0x0, 0x0, 0x0, false⟩,  -- TBL_STATUS[w] RO R234
  ⟨0x8, [(0x1000, 6)], 0x0, 0x3FFFF, 0x0, false⟩,  -- TBL_INDEX[w] RW R234
  ⟨0xC, [(0x1000, 6)], 0xFFF0000, 0x8FFF0FFF, 0x0, false⟩,  -- TBL_DISTRICT[w] RW R234
  ⟨0x10, [(0x1000, 6)], 0xFF00, 0xFFFF, 0x0, false⟩,  -- TBL_VALID[w] RW R234
  ⟨0x14, [(0x1000, 6)], 0x0, 0x0, 0x0, false⟩,  -- TBL_BATCH[w] RO R234
  ⟨0x40, [(0x1000, 6), (0x4, 16)], 0x0, 0xFFFFFFFF, 0x0, false⟩,  -- TBL_KEY[n][w] RW R234
  ⟨0x80, [(0x1000, 6), (0x4, 16)], 0x0, 0xFFFFFFFF, 0x0, false⟩,  -- TBL_MASK[n][w] RW R234
  ⟨0xC0, [(0x1000, 6), (0x4, 4)], 0x0, 0xFFFFFFFF, 0x0, false⟩,  -- TBL_RESULT[n][w] RW R234
  ⟨0x8000, [], 0x8000012C, 0x8000FFFF, 0x0, false⟩,  -- TBL_LEARN_CFG RW R234
  ⟨0x8100, [(0x4, 31)], 0x0, 0x0, 0x0, false⟩,  -- TBL_OCC[t] RO R234
  ⟨0x8200, [(0x4, 31)], 0x0, 0x0, 0x0, false⟩]  -- TBL_SHAPE[t] RO R234

/-- Registers of block XBR (06_switch_core.md). -/
def rowsXbr : List RegRow := [
  ⟨0x0, [], 0x7, 0x7, 0x0, false⟩,  -- XBR_ARB_CTL RW R282
  ⟨0x4, [], 0x1F00, 0x0, 0x0, false⟩,  -- XBR_STATUS RO R282
  ⟨0x8, [], 0x0, 0x0, 0x0, false⟩,  -- XBR_LANE_OUT RO R282
  ⟨0xC, [], 0x3E80004, 0xFFFF00FF, 0x0, false⟩,  -- XBR_LANE_CFG RW R282
  ⟨0x10, [], 0x0, 0x0, 0xF, false⟩,  -- XBR_ERR W1C R282
  ⟨0x100, [(0x4, 28)], 0x0, 0x0, 0x0, false⟩]  -- XBR_LANE_ST[l] RO R282

/-- Registers of block CIS (06_switch_core.md). -/
def rowsCis : List RegRow := [
  ⟨0x0, [], 0x96804000, 0xFFFFFFFF, 0x0, false⟩,  -- CIS_CFG RW R285
  ⟨0x4, [], 0x3E80040, 0xFFFFFFFF, 0x0, false⟩,  -- CIS_ECC_CFG RW R285
  ⟨0x8, [], 0x0, 0x0, 0x0, false⟩,  -- CIS_STATUS RO R285
  ⟨0xC, [], 0x0, 0x0, 0xF, false⟩,  -- CIS_ERR W1C R285
  ⟨0x10, [], 0x0, 0x0, 0x0, false⟩,  -- CIS_RETIRED_LO RO R285
  ⟨0x14, [], 0x0, 0x0, 0x0, false⟩,  -- CIS_RETIRED_HI RO R285
  ⟨0x18, [], 0x7F000, 0x0, 0x0, false⟩,  -- CIS_USABLE RO R285
  ⟨0x1C, [], 0x7F000, 0x0, 0x0, false⟩,  -- CIS_POOL_SIZE RO R285
  ⟨0x20, [], 0x0, 0x0, 0x0, false⟩,  -- CIS_POOL_USED LIVE R285
  ⟨0x24, [], 0x0, 0x0, 0x0, false⟩,  -- CIS_CELLS_USED LIVE R285
  ⟨0x28, [], 0x0, 0x0, 0x0, false⟩,  -- CIS_DESC_USED LIVE R285
  ⟨0x30, [], 0x0, 0xFFF19F07, 0x0, false⟩,  -- CIS_ACCT_SEL RW R285
  ⟨0x34, [], 0x0, 0x0, 0x0, true⟩,  -- CIS_ACCT_MIN SNAP R285
  ⟨0x38, [], 0x0, 0x0, 0x0, true⟩,  -- CIS_ACCT_MAX SNAP R285
  ⟨0x3C, [], 0x0, 0x0, 0x0, true⟩,  -- CIS_ACCT_USED SNAP R285
  ⟨0x40, [], 0x0, 0x0, 0x0, true⟩,  -- CIS_ACCT_RES SNAP R285
  ⟨0x44, [], 0x0, 0x0, 0x0, true⟩,  -- CIS_ACCT_GUAR SNAP R285
  ⟨0x100, [(0x4, 29)], 0x0, 0x0, 0x0, false⟩]  -- CIS_PORT_ST[p] RO R285

/-- Registers of block EGR (07_egress_scheduling.md). -/
def rowsEgr : List RegRow := [
  ⟨0x0, [(0x4000, 29)], 0x0, 0x0, 0x0, false⟩,  -- EGR_CFG[p] RO R318
  ⟨0x4, [(0x4000, 29)], 0xFF0000, 0x0, 0x0, false⟩,  -- EGR_STATUS[p] RO R318
  ⟨0x8, [(0x4000, 29)], 0x0, 0x0, 0x1F, false⟩,  -- EGR_ERR[p] W1C R318
  ⟨0x10, [(0x4000, 29)], 0x0, 0x0, 0x0, false⟩,  -- EGR_BASE_LO[p] RO R318
  ⟨0x14, [(0x4000, 29)], 0x0, 0x0, 0x0, false⟩,  -- EGR_BASE_HI[p] RO R318
  ⟨0x18, [(0x4000, 29)], 0x0, 0x0, 0x0, false⟩,  -- EGR_CYCLE[p] RO R318
  ⟨0x1C, [(0x4000, 29)], 0x0, 0x0, 0x0, false⟩,  -- EGR_ENTRIES[p] RO R318
  ⟨0x20, [(0x4000, 29)], 0x0, 0x0, 0x0, false⟩,  -- EGR_CYCLE_START_LO[p] RO R318
  ⟨0x24, [(0x4000, 29)], 0x0, 0x0, 0x0, false⟩,  -- EGR_CYCLE_START_HI[p] RO R318
  ⟨0x40, [(0x4000, 29), (0x4, 8)], 0x0, 0x0, 0x0, false⟩,  -- EGR_CLASS[c][p] RO R318
  ⟨0x60, [(0x4000, 29), (0x4, 8)], 0x0, 0x0, 0x0, false⟩,  -- EGR_SLOPE[c][p] RO R318
  ⟨0x80, [(0x4000, 29), (0x4, 8)], 0xFFFFFFFF, 0x0, 0x0, false⟩,  -- EGR_WINDOW[c][p] RO R318
  ⟨0xA0, [(0x4000, 29), (0x4, 8)], 0x0, 0x0, 0x0, false⟩,  -- EGR_CREDIT[c][p] LIVE R318
  ⟨0xC0, [(0x4000, 29), (0x4, 8)], 0x0, 0x0, 0x0, false⟩,  -- EGR_DEFICIT[c][p] LIVE R318
  ⟨0x2000, [(0x4000, 29), (0x8, 1024)], 0x0, 0x0, 0x0, false⟩,  -- EGR_GCL_LO[n][p] RO R318
  ⟨0x2004, [(0x4000, 29), (0x8, 1024)], 0x0, 0x0, 0x0, false⟩]  -- EGR_GCL_HI[n][p] RO R318

/-- Registers of block CAN (08_can_controllers.md). -/
def rowsCan : List RegRow := [
  ⟨0x0, [(0x8000, 32)], 0x0, 0x0, 0x0, false⟩,  -- CAN_BUILD[n] RO R363
  ⟨0x4, [(0x8000, 32)], 0x6480, 0x0, 0x0, false⟩,  -- CAN_CFG[n] RO R363
  ⟨0x8, [(0x8000, 32)], 0x0, 0x0, 0x0, false⟩,  -- NBTP[n] RO R363
  ⟨0xC, [(0x8000, 32)], 0x0, 0x0, 0x0, false⟩,  -- DBTP[n] RO R363
  ⟨0x10, [(0x8000, 32)], 0x0, 0x0, 0x0, false⟩,  -- XBTP[n] RO R363
  ⟨0x14, [(0x8000, 32)], 0x0, 0x0, 0x0, false⟩,  -- TDC_CFG[n] RO R363
  ⟨0x18, [(0x8000, 32)], 0x0, 0x0, 0x0, false⟩,  -- XL_CFG[n] RO R363
  ⟨0x1C, [(0x8000, 32)], 0x0, 0x0, 0x0, false⟩,  -- CAN_CTL[n] W1S R363
  ⟨0x20, [(0x8000, 32)], 0xC0, 0x0, 0x0, false⟩,  -- CAN_STATUS[n] RO R363
  ⟨0x24, [(0x8000, 32)], 0x0, 0x0, 0x0, false⟩,  -- CAN_ERRCNT[n] RO R363
  ⟨0x28, [(0x8000, 32)], 0x0, 0x0, 0x7F, false⟩,  -- CAN_ERR[n] W1C R363
  ⟨0x2C, [(0x8000, 32)], 0x0, 0x0, 0x0, false⟩,  -- TDC_STATUS[n] RO R363
  ⟨0x40, [(0x8000, 32), (0x4, 4)], 0x0, 0x0, 0x0, false⟩,  -- OBJ_TXRQ[m][n] W1S R363
  ⟨0x50, [(0x8000, 32), (0x4, 4)], 0x0, 0x0, 0x0, false⟩,  -- OBJ_TXCAN[m][n] W1S R363
  ⟨0x60, [(0x8000, 32), (0x4, 4)], 0x0, 0x0, 0xFFFFFFFF, false⟩,  -- OBJ_NEWDAT[m][n] W1C R363
  ⟨0x70, [(0x8000, 32)], 0x0, 0x0, 0x0, false⟩,  -- QUEUE_CFG[n] RO R363
  ⟨0x74, [(0x8000, 32)], 0x0, 0x0, 0x0, false⟩,  -- QUEUE_STATUS[n] RO R363
  ⟨0x80, [(0x8000, 32)], 0x0, 0x0, 0x0, false⟩,  -- REF_CFG[n] RO R363
  ⟨0x84, [(0x8000, 32)], 0x0, 0x0, 0x0, false⟩,  -- REF_ID[n] RO R363
  ⟨0x88, [(0x8000, 32)], 0x0, 0x0, 0x0, false⟩,  -- REF_STATUS[n] RO R363
  ⟨0x8C, [(0x8000, 32)], 0x0, 0x0, 0x0, false⟩,  -- REF_OFFSET[n] RO R363
  ⟨0x90, [(0x8000, 32)], 0x0, 0x0, 0x0, false⟩,  -- REF_MASTER_NS_LO[n] RO R363
  ⟨0x94, [(0x8000, 32)], 0x0, 0x0, 0x0, false⟩,  -- REF_MASTER_NS_HI[n] RO R363
  ⟨0x98, [(0x8000, 32)], 0x0, 0x0, 0x0, false⟩,  -- REF_STAMP_NS_LO[n] RO R363
  ⟨0x9C, [(0x8000, 32)], 0x0, 0x0, 0x0, false⟩,  -- REF_STAMP_NS_HI[n] RO R363
  ⟨0xC0, [(0x8000, 32)], 0x0, 0x0, 0x0, false⟩,  -- SOFC_LO[n] LIVE R363
  ⟨0xC4, [(0x8000, 32)], 0x0, 0x0, 0x0, false⟩,  -- SOFC_HI[n] LIVE R363
  ⟨0xC8, [(0x8000, 32)], 0x0, 0x0, 0x0, false⟩,  -- SOFC_CORR[n] WO R363
  ⟨0xCC, [(0x8000, 32)], 0x0, 0x0, 0x0, true⟩,  -- CORR_CNT_LO[n] SNAP R363
  ⟨0xD0, [(0x8000, 32)], 0x0, 0x0, 0x0, true⟩,  -- CORR_CNT_HI[n] SNAP R363
  ⟨0xD4, [(0x8000, 32)], 0x0, 0x0, 0x0, true⟩,  -- CORR_NS_LO[n] SNAP R363
  ⟨0xD8, [(0x8000, 32)], 0x0, 0x0, 0x0, true⟩,  -- CORR_NS_HI[n] SNAP R363
  ⟨0xDC, [(0x8000, 32)], 0x0, 0x0, 0x0, true⟩,  -- CORR_FRAC[n] SNAP R363
  ⟨0xE0, [(0x8000, 32)], 0x0, 0x0, 0x0, false⟩,  -- SPDU_RANGE[n] RO R363
  ⟨0x100, [(0x8000, 32)], 0x0, 0xC000F87F, 0x0, true⟩,  -- MSG_SEL[n] RW R363
  ⟨0x104, [(0x8000, 32)], 0x0, 0x0, 0x0, true⟩,  -- MSG_CMD[n] WO R363
  ⟨0x108, [(0x8000, 32)], 0x0, 0x0, 0x0, true⟩,  -- MSG_STATUS[n] RO R363
  ⟨0x1000, [(0x8000, 32), (0x4, 128)], 0x0, 0x0, 0x0, false⟩,  -- OBJ_CFG[o][n] RO R363
  ⟨0x4000, [(0x8000, 32), (0x10, 1024)], 0x0, 0x80000000, 0x0, false⟩,  -- SPDU_CTL[j][n] RW R363
  ⟨0x4004, [(0x8000, 32), (0x10, 1024)], 0x0, 0x0, 0x0, false⟩,  -- SPDU_INFO[j][n] RO R363
  ⟨0x4008, [(0x8000, 32), (0x10, 1024)], 0x0, 0xFFFFFFFF, 0x0, false⟩,  -- SPDU_FV_LO[j][n] RW R363
  ⟨0x400C, [(0x8000, 32), (0x10, 1024)], 0x0, 0xFFFFFFFF, 0x0, false⟩,  -- SPDU_FV_HI[j][n] RW R363
  ⟨0x110, [(0x8000, 32)], 0x0, 0x9FFFFFFF, 0x0, true⟩,  -- MSG_ID[n] RW R363
  ⟨0x114, [(0x8000, 32)], 0x0, 0x0, 0x0, true⟩,  -- MSG_MASK[n] RO R363
  ⟨0x118, [(0x8000, 32)], 0x0, 0xF4000FFF, 0x0, true⟩,  -- MSG_CTRL[n] RW R363
  ⟨0x11C, [(0x8000, 32)], 0x0, 0xFFFF0000, 0x0, true⟩,  -- MSG_XL[n] RW R363
  ⟨0x120, [(0x8000, 32)], 0x0, 0xFFFFFFFF, 0x0, true⟩,  -- MSG_AF[n] RW R363
  ⟨0x124, [(0x8000, 32)], 0x0, 0x0, 0x0, true⟩,  -- MSG_STAMP_NS_LO[n] RO R363
  ⟨0x128, [(0x8000, 32)], 0x0, 0x0, 0x0, true⟩,  -- MSG_STAMP_NS_HI[n] RO R363
  ⟨0x12C, [(0x8000, 32)], 0x0, 0x0, 0x0, true⟩,  -- MSG_STAMP_FRAC[n] RO R363
  ⟨0x130, [(0x8000, 32)], 0x0, 0x0, 0x0, true⟩,  -- MSG_SEQ[n] RO R363
  ⟨0x134, [(0x8000, 32)], 0x0, 0x0, 0x0, true⟩,  -- MSG_SOFC_LO[n] RO R363
  ⟨0x138, [(0x8000, 32)], 0x0, 0x0, 0x0, true⟩,  -- MSG_SOFC_HI[n] RO R363
  ⟨0x140, [(0x8000, 32), (0x4, 16)], 0x0, 0xFFFFFFFF, 0x0, true⟩]  -- MSG_DATA[n][i] RW R363

/-- Registers of block MVB (09_gateway_and_culvert.md). -/
def rowsMvb : List RegRow := [
  ⟨0x0, [(0x8000, 2)], 0x0, 0x0, 0x0, false⟩,  -- MVB_BUILD[n] RO R402
  ⟨0x4, [(0x8000, 2)], 0x40000, 0x0, 0x0, false⟩,  -- MVB_CFG[n] RO R402
  ⟨0x8, [(0x8000, 2)], 0xA12C01AB, 0x0, 0x0, false⟩,  -- MVB_TIMING[n] RO R402
  ⟨0xC, [(0x8000, 2)], 0x0, 0x0, 0x0, false⟩,  -- MVB_CTL[n] W1S R402
  ⟨0x10, [(0x8000, 2)], 0x0, 0x0, 0x0, false⟩,  -- MVB_STATUS[n] RO R402
  ⟨0x14, [(0x8000, 2)], 0x0, 0x0, 0x1F, false⟩,  -- MVB_ERR[n] W1C R402
  ⟨0x100, [(0x8000, 2)], 0x0, 0xC0000FFF, 0x0, true⟩,  -- PORT_SEL[n] RW R402
  ⟨0x104, [(0x8000, 2)], 0x0, 0x0, 0x0, true⟩,  -- PORT_CMD[n] WO R402
  ⟨0x108, [(0x8000, 2)], 0x0, 0x0, 0x0, true⟩,  -- PORT_STATUS[n] RO R402
  ⟨0x10C, [(0x8000, 2)], 0x0, 0x0, 0x0, true⟩,  -- PORT_CFG[n] RO R402
  ⟨0x110, [(0x8000, 2)], 0x0, 0x0, 0x0, true⟩,  -- PORT_STAMP_NS_LO[n] RO R402
  ⟨0x114, [(0x8000, 2)], 0x0, 0x0, 0x0, true⟩,  -- PORT_STAMP_NS_HI[n] RO R402
  ⟨0x118, [(0x8000, 2)], 0x0, 0x0, 0x0, true⟩,  -- PORT_STAMP_FRAC[n] RO R402
  ⟨0x11C, [(0x8000, 2)], 0x0, 0x0, 0x0, true⟩,  -- PORT_SEQ[n] RO R402
  ⟨0x120, [(0x8000, 2)], 0x0, 0x0, 0x0, true⟩,  -- PORT_AGE[n] RO R402
  ⟨0x140, [(0x8000, 2), (0x4, 8)], 0x0, 0xFFFFFFFF, 0x0, true⟩]  -- PORT_DATA[i][n] RW R402

/-- Registers of block GWY (09_gateway_and_culvert.md). -/
def rowsGwy : List RegRow := [
  ⟨0x0, [], 0x0, 0x0, 0x0, false⟩,  -- GWY_CFG RO R401
  ⟨0x4, [], 0x0, 0x0, 0x0, false⟩,  -- GWY_SA_LO RO R401
  ⟨0x8, [], 0x0, 0x0, 0x0, false⟩,  -- GWY_SA_HI RO R401
  ⟨0x10, [], 0x0, 0x0, 0x7FF, false⟩,  -- GWY_ERR W1C R401
  ⟨0x20, [], 0x0, 0x1FFF, 0x0, false⟩,  -- GWY_SIG_SEL RW R401
  ⟨0x30, [], 0x0, 0xC0000FFF, 0x0, false⟩,  -- GWY_CUL_SEL RW R401
  ⟨0x24, [], 0x0, 0x0, 0x0, true⟩,  -- GWY_SIG_ST SNAP R401
  ⟨0x28, [], 0x0, 0x0, 0x0, true⟩,  -- GWY_SIG_VAL_LO SNAP R401
  ⟨0x2C, [], 0x0, 0x0, 0x0, true⟩,  -- GWY_SIG_VAL_HI SNAP R401
  ⟨0x34, [], 0x0, 0x0, 0x0, true⟩,  -- GWY_CUL_SEQ SNAP R401
  ⟨0x38, [], 0x0, 0x0, 0x0, true⟩]  -- GWY_CUL_ST SNAP R401

/-- Registers of block FLM (10_flumes.md). -/
def rowsFlm : List RegRow := [
  ⟨0x0, [], 0x0, 0x0, 0x0, false⟩,  -- FLM_STATUS RO R424
  ⟨0x4, [], 0x0, 0x0, 0xF, false⟩,  -- FLM_ERR W1C R424
  ⟨0x400, [(0x200, 5)], 0x0, 0x3F, 0x0, false⟩,  -- FLM_WIN_SEL[w] RW R424
  ⟨0x404, [(0x200, 5)], 0x0, 0x0, 0x0, false⟩,  -- FLM_WIN_INFO[w] RO R424
  ⟨0x408, [(0x200, 5)], 0x0, 0x0, 0x0, false⟩,  -- FLM_WIN_POS[w] RO R424
  ⟨0x500, [(0x200, 5), (0x4, 64)], 0x0, 0x0, 0x0, false⟩,  -- FLM_WIN_DATA[w][i] RO R424
  ⟨0x10000, [(0x80, 1536)], 0x0, 0x0, 0x0, false⟩,  -- FLM_CFG[f] RO R424
  ⟨0x10004, [(0x80, 1536)], 0x0, 0x0, 0x0, false⟩,  -- FLM_ITEM[f] RO R424
  ⟨0x10008, [(0x80, 1536)], 0x0, 0x0, 0x0, false⟩,  -- FLM_TIMEOUT[f] RO R424
  ⟨0x1000C, [(0x80, 1536)], 0x0, 0x0, 0x0, false⟩,  -- FLM_STATE[f] LIVE R424
  ⟨0x10010, [(0x80, 1536)], 0x0, 0x0, 0x0, false⟩,  -- FLM_WR[f] LIVE R424
  ⟨0x10014, [(0x80, 1536)], 0x0, 0x0, 0x0, false⟩,  -- FLM_RD[f] LIVE R424
  ⟨0x10018, [(0x80, 1536)], 0x0, 0x0, 0x0, false⟩,  -- FLM_MK[f] LIVE R424
  ⟨0x1001C, [(0x80, 1536)], 0x0, 0x0, 0x0, false⟩,  -- FLM_RL[f] LIVE R424
  ⟨0x10020, [(0x80, 1536)], 0x0, 0x0, 0x0, false⟩,  -- FLM_CREDIT[f] LIVE R424
  ⟨0x10024, [(0x80, 1536)], 0x0, 0x0, 0x0, false⟩,  -- FLM_CMD[f] WO R424
  ⟨0x10028, [(0x80, 1536)], 0x0, 0x0, 0x0, false⟩]  -- FLM_RESULT[f] RO R424

/-- Registers of block HBR (11_host_bridge.md). -/
def rowsHbr : List RegRow := [
  ⟨0x0, [], 0x1900320A, 0xFFC0FFFF, 0x0, false⟩,  -- HBR_CFG RW R458
  ⟨0x4, [], 0x0, 0x0, 0x0, false⟩,  -- HBR_STATUS RO R458
  ⟨0x8, [], 0x0, 0x0, 0x3FF, false⟩,  -- HBR_ERR W1C R458
  ⟨0xC, [], 0x0, 0x0, 0x0, false⟩,  -- HBR_LINK_EPOCH RO R458
  ⟨0x10, [], 0x0, 0x0, 0x0, false⟩,  -- HBR_ACK_LAST RO R458
  ⟨0x100, [(0x10, 16)], 0x2000000C, 0xE000001F, 0x0, false⟩,  -- WIN_CFG[w] RW R458
  ⟨0x104, [(0x10, 16)], 0x0, 0x3FFFFFF, 0x0, false⟩,  -- WIN_TARGET[w] RW R458
  ⟨0x200, [], 0x0, 0x0, 0x0, false⟩,  -- HBR_MBX_CMD WO R458
  ⟨0x204, [], 0x0, 0x0, 0x0, false⟩,  -- HBR_MBX_STATUS RO R458
  ⟨0x300, [(0x4, 64)], 0x0, 0xFFFFFFFF, 0x0, false⟩,  -- HBR_MBX_DATA[i] RW R458
  ⟨0x10000, [(0x40, 1024)], 0x0, 0xF0E007FF, 0x0, false⟩,  -- QP_CTL[q] RW R458
  ⟨0x10004, [(0x40, 1024)], 0x0, 0x0, 0x0, false⟩,  -- QP_STATUS[q] RO R458
  ⟨0x10008, [(0x40, 1024)], 0x0, 0xFFFFFFFF, 0x0, false⟩,  -- QP_TX_BASE_LO[q] RW R458
  ⟨0x1000C, [(0x40, 1024)], 0x0, 0xFFFFFFFF, 0x0, false⟩,  -- QP_TX_BASE_HI[q] RW R458
  ⟨0x10010, [(0x40, 1024)], 0x0, 0xFFFFFFFF, 0x0, false⟩,  -- QP_RX_BASE_LO[q] RW R458
  ⟨0x10014, [(0x40, 1024)], 0x0, 0xFFFFFFFF, 0x0, false⟩,  -- QP_RX_BASE_HI[q] RW R458
  ⟨0x10018, [(0x40, 1024)], 0x0, 0xFFFFFFFF, 0x0, false⟩,  -- QP_WB_LO[q] RW R458
  ⟨0x1001C, [(0x40, 1024)], 0x0, 0xFFFFFFFF, 0x0, false⟩,  -- QP_WB_HI[q] RW R458
  ⟨0x10020, [(0x40, 1024)], 0x33, 0xFF, 0x0, false⟩,  -- QP_SIZE[q] RW R458
  ⟨0x10024, [(0x40, 1024)], 0x0, 0xFFFFFFFF, 0x0, false⟩,  -- QP_IRQ[q] RW R458
  ⟨0x10028, [(0x40, 1024)], 0x0, 0x7FFF, 0x0, false⟩,  -- QP_TX_TAIL[q] RW R458
  ⟨0x1002C, [(0x40, 1024)], 0x0, 0x0, 0x0, false⟩,  -- QP_TX_HEAD[q] RO R458
  ⟨0x10030, [(0x40, 1024)], 0x0, 0x7FFF, 0x0, false⟩,  -- QP_RX_TAIL[q] RW R458
  ⟨0x10034, [(0x40, 1024)], 0x0, 0x0, 0x0, false⟩]  -- QP_RX_HEAD[q] RO R458

/-- Registers of block KEY (12_keys_and_attestation.md). -/
def rowsKey : List RegRow := [
  ⟨0x0, [], 0x40, 0x0, 0x0, false⟩,  -- KEY_STATUS RO R497
  ⟨0x4, [], 0x0, 0x0, 0x3F, false⟩,  -- KEY_ERR W1C R497
  ⟨0x8, [], 0x0, 0x0, 0x0, false⟩,  -- KEY_FUSE FUSED R497
  ⟨0xC, [], 0x23, 0x0, 0x0, false⟩,  -- KEY_BOOT RO R497
  ⟨0x10, [], 0x0, 0x0, 0x0, false⟩,  -- KEY_FW_VER RO R497
  ⟨0x14, [], 0x0, 0x0, 0x0, false⟩,  -- KEY_LEDGER_GEN RO R497
  ⟨0x18, [], 0x0, 0x0, 0x0, false⟩,  -- KEY_ATT_SEQ RO R497
  ⟨0x100, [(0x4, 44)], 0x0, 0x0, 0x0, false⟩,  -- KEY_MEAS[n] RO R497
  ⟨0x200, [(0x4, 24)], 0x0, 0x0, 0x0, false⟩,  -- KEY_ID_PUB[n] RO R497
  ⟨0x10000, [(0x4, 8192)], 0x0, 0x0, 0x0, false⟩,  -- KEY_ATTR[s] LIVE R497
  ⟨0x20000, [(0x400, 5)], 0x0, 0x0, 0x0, false⟩,  -- KEY_CMD[p] WO R497
  ⟨0x20004, [(0x400, 5)], 0x0, 0x0, 0x0, false⟩,  -- KEY_RESULT[p] RO R497
  ⟨0x20008, [(0x400, 5)], 0x0, 0x9FFF1FFF, 0x0, false⟩,  -- KEY_SLOT[p] RW R497
  ⟨0x2000C, [(0x400, 5)], 0x0, 0xFFFFFFFF, 0x0, false⟩,  -- KEY_ATTR_IN[p] RW R497
  ⟨0x20010, [(0x400, 5)], 0x0, 0x1FF, 0x0, false⟩,  -- KEY_LEN[p] RW R497
  ⟨0x20014, [(0x400, 5)], 0x0, 0x0, 0x0, false⟩,  -- KEY_OUT_LEN[p] RO R497
  ⟨0x20040, [(0x400, 5), (0x4, 12)], 0x0, 0xFFFFFFFF, 0x0, false⟩,  -- KEY_DRV[n][p] RW R497
  ⟨0x20100, [(0x400, 5), (0x4, 32)], 0x0, 0xFFFFFFFF, 0x0, false⟩,  -- KEY_IN[n][p] RW R497
  ⟨0x20200, [(0x400, 5), (0x4, 96)], 0x0, 0x0, 0x0, false⟩]  -- KEY_OUT[n][p] RO R497

/-- Registers of block LMP (13_wake_sleep_power.md). -/
def rowsLmp : List RegRow := [
  ⟨0x0, [], 0x2, 0x0, 0x0, false⟩,  -- LMP_STATUS RO R527
  ⟨0x4, [], 0x0, 0x0, 0x0, false⟩,  -- LMP_CMD WO R527
  ⟨0x8, [], 0x0, 0x0, 0x3F, false⟩,  -- LMP_ERR W1C R527
  ⟨0xC, [], 0x0, 0x0, 0xFFFFFFFF, false⟩,  -- LMP_CAUSE_LO W1C R527
  ⟨0x10, [], 0x20, 0x0, 0xBF, false⟩,  -- LMP_CAUSE_HI W1C R527
  ⟨0x14, [], 0x25, 0x0, 0x0, false⟩,  -- LMP_CAUSE_FIRST RO R527
  ⟨0x18, [], 0x0, 0x0, 0x0, false⟩,  -- LMP_CAUSE_TICK_LO RO R527
  ⟨0x1C, [], 0x0, 0x0, 0x0, false⟩,  -- LMP_CAUSE_TICK_HI RO R527
  ⟨0x20, [], 0x5320A32, 0x0, 0x0, false⟩,  -- LMP_CFG RO R527
  ⟨0x24, [], 0x1401, 0x0, 0x0, false⟩,  -- LMP_CFG2 RO R527
  ⟨0x28, [], 0x0, 0x0, 0x0, false⟩,  -- LMP_VIN LIVE R527
  ⟨0x30, [], 0x0, 0x0, 0x0, false⟩,  -- LMP_ISL_CNT_LO LIVE R527
  ⟨0x34, [], 0x0, 0x0, 0x0, false⟩,  -- LMP_ISL_CNT_HI LIVE R527
  ⟨0x38, [], 0x0, 0x0, 0x0, true⟩,  -- LMP_LATCH_CNT_LO SNAP R527
  ⟨0x3C, [], 0x0, 0x0, 0x0, true⟩,  -- LMP_LATCH_CNT_HI SNAP R527
  ⟨0x40, [], 0x0, 0x0, 0x0, true⟩,  -- LMP_LATCH_NS_LO SNAP R527
  ⟨0x44, [], 0x0, 0x0, 0x0, true⟩,  -- LMP_LATCH_NS_HI SNAP R527
  ⟨0x48, [], 0x0, 0xFFFFFFFF, 0x0, false⟩,  -- LMP_ALARM_LO RW R527
  ⟨0x4C, [], 0x0, 0xFFFF, 0x0, false⟩,  -- LMP_ALARM_HI RW R527
  ⟨0x50, [], 0x0, 0x0, 0x0, false⟩,  -- LMP_PIN_ST RO R527
  ⟨0x60, [(0x4, 6)], 0x80000101, 0x0, 0x0, false⟩,  -- PWR_SEQ[n] RO R527
  ⟨0x80, [(0x4, 4)], 0x40000004, 0x0, 0x0, false⟩,  -- WPIN_CFG[p] RO R527
  ⟨0x100, [(0x20, 32)], 0x0, 0x0, 0x0, false⟩,  -- WUF_ID[n] RO R527
  ⟨0x104, [(0x20, 32)], 0x0, 0x0, 0x0, false⟩,  -- WUF_MASK[n] RO R527
  ⟨0x108, [(0x20, 32)], 0x20020000, 0x0, 0x0, false⟩,  -- WUF_CTL[n] RO R527
  ⟨0x10C, [(0x20, 32)], 0x0, 0x0, 0x0, false⟩,  -- WUF_DATA_LO[n] RO R527
  ⟨0x110, [(0x20, 32)], 0x0, 0x0, 0x0, false⟩,  -- WUF_DATA_HI[n] RO R527
  ⟨0x114, [(0x20, 32)], 0x0, 0x0, 0x0, false⟩,  -- WUF_DMASK_LO[n] RO R527
  ⟨0x118, [(0x20, 32)], 0x0, 0x0, 0x0, false⟩,  -- WUF_DMASK_HI[n] RO R527
  ⟨0x11C, [(0x20, 32)], 0x0, 0x0, 0x0, false⟩,  -- WUF_ST[n] RO R527
  ⟨0x700, [(0x20, 4)], 0x0, 0x0, 0x0, false⟩,  -- RING_CFG[r] RO R527
  ⟨0x704, [(0x20, 4)], 0x1040064, 0x0, 0x0, false⟩,  -- RING_TMR[r] RO R527
  ⟨0x708, [(0x20, 4)], 0x5DC03E8, 0x0, 0x0, false⟩,  -- RING_TMR2[r] RO R527
  ⟨0x70C, [(0x20, 4)], 0x0, 0x0, 0x0, false⟩]  -- RING_ST[r] RO R527

/-- Registers of block TDM (14_tandem_redundancy.md). -/
def rowsTdm : List RegRow := [
  ⟨0x0, [], 0x40140064, 0x0, 0x0, false⟩,  -- TDM_CFG RO R563
  ⟨0x4, [], 0x19403C10, 0x0, 0x0, false⟩,  -- TDM_TIMING RO R563
  ⟨0x8, [], 0x32320000, 0x0, 0x0, false⟩,  -- TDM_MIRROR RO R563
  ⟨0xC, [], 0x3E8, 0x0, 0x0, false⟩,  -- TDM_DIG_CFG RO R563
  ⟨0x10, [], 0xFFFFFFFF, 0x0, 0x0, false⟩,  -- TDM_DIG_INGRESS RO R563
  ⟨0x14, [], 0x0, 0x0, 0x0, false⟩,  -- TDM_CMD WO R563
  ⟨0x18, [], 0xF00100, 0x0, 0x0, false⟩,  -- TDM_STATUS RO R563
  ⟨0x1C, [], 0x0, 0x0, 0xFF, false⟩,  -- TDM_ERR W1C R563
  ⟨0x20, [], 0x0, 0x0, 0x0, false⟩,  -- TDM_PAIR_ID RO R563
  ⟨0x24, [], 0x0, 0x0, 0x0, false⟩,  -- TDM_PARTNER_PAIR_ID RO R563
  ⟨0x28, [], 0x0, 0x0, 0x0, false⟩,  -- TDM_PARTNER_HASH_LO RO R563
  ⟨0x2C, [], 0x0, 0x0, 0x0, false⟩,  -- TDM_PARTNER_HASH_HI RO R563
  ⟨0x30, [], 0x0, 0x0, 0x0, false⟩,  -- TDM_PARTNER_EPOCH RO R563
  ⟨0x34, [], 0x0, 0x0, 0x0, false⟩,  -- TDM_LAST_MM RO R563
  ⟨0x38, [], 0x0, 0x0, 0x0, false⟩]  -- TDM_TAKEOVER RO R563

/-- Registers of block EVT (15_management_events_health.md). -/
def rowsEvt : List RegRow := [
  ⟨0x0, [], 0x0, 0x0, 0x0, false⟩,  -- EVT_STATUS RO R603
  ⟨0x4, [], 0x0, 0x0, 0x3, false⟩,  -- EVT_ERR W1C R603
  ⟨0x10000, [(0x8, 2048)], 0x7FF07FF, 0x0, 0x0, false⟩,  -- EVT_ROUTE0[e] RO R603
  ⟨0x10004, [(0x8, 2048)], 0x0, 0x0, 0x0, false⟩,  -- EVT_ROUTE1[e] RO R603
  ⟨0x20000, [(0x10, 256)], 0x0, 0x0, 0x0, false⟩,  -- WATCH_ADDR[k] RO R603
  ⟨0x20004, [(0x10, 256)], 0x0, 0x0, 0x0, false⟩,  -- WATCH_DELTA[k] RO R603
  ⟨0x20008, [(0x10, 256)], 0x0, 0x0, 0x0, false⟩]  -- WATCH_WIN[k] RO R603

/-- Registers of block MGT (15_management_events_health.md). -/
def rowsMgt : List RegRow := [
  ⟨0x0, [], 0x100, 0x0, 0x0, false⟩,  -- MGT_STATUS RO R603
  ⟨0x4, [], 0x0, 0x0, 0x7, false⟩,  -- MGT_ERR W1C R603
  ⟨0x8, [], 0x80000032, 0x8000FFFF, 0x0, false⟩,  -- MGT_WDT_CFG RW R603
  ⟨0xC, [], 0x0, 0x0, 0x0, false⟩,  -- MGT_WDT_KICK WO R603
  ⟨0x10, [], 0x0, 0x0, 0x0, false⟩,  -- MGT_WDT_LEFT LIVE R603
  ⟨0x14, [], 0x8000000A, 0x800000FF, 0x0, false⟩,  -- MGT_PATROL_CFG RW R603
  ⟨0x18, [], 0x0, 0x10F, 0x0, false⟩,  -- MGT_DBG_CTL RW R603
  ⟨0x20, [], 0x0, 0xF007003F, 0x0, false⟩,  -- MGT_RW_REQ RW R603
  ⟨0x24, [], 0x0, 0x0, 0x0, false⟩,  -- MGT_RW_CMD WO R603
  ⟨0x28, [], 0x0, 0x0, 0x0, false⟩,  -- MGT_RW_ST RO R603
  ⟨0x30, [], 0x0, 0x0, 0x0, false⟩,  -- MGT_SNAP_CMD WO R603
  ⟨0x34, [], 0x0, 0x0, 0x0, true⟩,  -- MGT_LEASE_RESULT RO R603
  ⟨0x1000, [(0x8, 64)], 0x0, 0x0, 0x0, false⟩,  -- LEASE_CMD[l] WO R603
  ⟨0x1004, [(0x8, 64)], 0x0, 0x0, 0x0, false⟩,  -- LEASE_ST[l] LIVE R603
  ⟨0x40000, [(0x800, 16)], 0x0, 0x3FFFFFF, 0x0, false⟩,  -- SNAP_GROUP[b] RW R603
  ⟨0x40004, [(0x800, 16)], 0x0, 0x0, 0x0, false⟩,  -- SNAP_ST[b] RO R603
  ⟨0x40008, [(0x800, 16)], 0x0, 0x0, 0x0, false⟩,  -- SNAP_NS_LO[b] RO R603
  ⟨0x4000C, [(0x800, 16)], 0x0, 0x0, 0x0, false⟩,  -- SNAP_NS_HI[b] RO R603
  ⟨0x40010, [(0x800, 16)], 0x0, 0x0, 0x0, false⟩,  -- SNAP_FRAC[b] RO R603
  ⟨0x40014, [(0x800, 16)], 0x0, 0x0, 0x0, false⟩,  -- SNAP_EPOCH[b] RO R603
  ⟨0x40400, [(0x800, 16), (0x8, 128)], 0x0, 0x0, 0x0, false⟩,  -- SNAP_VAL_LO[b][i] RO R603
  ⟨0x40404, [(0x800, 16), (0x8, 128)], 0x0, 0x0, 0x0, false⟩]  -- SNAP_VAL_HI[b][i] RO R603

/-- Registers of block PIN (16_electrical_and_pins.md). -/
def rowsPin : List RegRow := [
  ⟨0x0, [], 0x0, 0x0, 0x0, false⟩,  -- PIN_STATUS LIVE R640
  ⟨0x4, [], 0x0, 0x0, 0x3, false⟩,  -- PIN_ERR W1C R640
  ⟨0x8, [], 0x73500200, 0x0, 0x0, false⟩,  -- PIN_CFG RO R640
  ⟨0xC, [], 0xFFFF, 0x0, 0x0, false⟩,  -- PIN_VCORE_MIN RC R640
  ⟨0x10, [], 0x0, 0x0, 0x0, false⟩,  -- GPIO_IN0 LIVE R640
  ⟨0x14, [], 0x0, 0x0, 0x0, false⟩,  -- GPIO_IN1 LIVE R640
  ⟨0x18, [], 0x0, 0xFFFFFFFF, 0x0, false⟩,  -- GPIO_OUT0 RW R640
  ⟨0x1C, [], 0x0, 0xFFFF, 0x0, false⟩,  -- GPIO_OUT1 RW R640
  ⟨0x20, [], 0x0, 0x0, 0x0, false⟩,  -- GPIO_SET0 W1S R640
  ⟨0x24, [], 0x0, 0x0, 0x0, false⟩,  -- GPIO_SET1 W1S R640
  ⟨0x28, [], 0x0, 0x0, 0x0, false⟩,  -- GPIO_CLR0 W1C R640
  ⟨0x2C, [], 0x0, 0x0, 0x0, false⟩,  -- GPIO_CLR1 W1C R640
  ⟨0x100, [(0x4, 48)], 0x4000000, 0x0, 0x0, false⟩,  -- PIN_MF_CFG[m] RO R640
  ⟨0x200, [(0x4, 48)], 0x0, 0x0, 0x0, false⟩,  -- PIN_MF_ST[m] RO R640
  ⟨0x300, [(0x4, 43)], 0x0, 0x0, 0x0, false⟩,  -- PIN_FILT[i] RO R640
  ⟨0x500, [(0x10, 4)], 0x0, 0x0, 0x0, false⟩,  -- CAP_NS_LO[k] RO R640
  ⟨0x504, [(0x10, 4)], 0x0, 0x0, 0x0, false⟩,  -- CAP_NS_HI[k] RO R640
  ⟨0x508, [(0x10, 4)], 0x0, 0x0, 0x0, false⟩,  -- CAP_FRAC[k] RO R640
  ⟨0x8000, [(0x80, 4)], 0x20320064, 0x0, 0x0, false⟩,  -- FEED_CFG[f] RO R528
  ⟨0x8004, [(0x80, 4)], 0x64320A0A, 0x0, 0x0, false⟩,  -- FEED_LIM[f] RO R528
  ⟨0x8008, [(0x80, 4)], 0x1F4, 0x0, 0x0, false⟩,  -- FEED_EMAX[f] RO R528
  ⟨0x8010, [(0x80, 4)], 0x0, 0x0, 0x0, false⟩,  -- FEED_ST[f] RO R528
  ⟨0x8014, [(0x80, 4)], 0x0, 0x0, 0x0, false⟩,  -- FEED_LAST[f] RO R528
  ⟨0x800C, [(0x80, 4)], 0x0, 0x0, 0x0, false⟩]  -- FEED_CMD[f] WO R528

/-- Counters of every block: block, offset of the first, how many in a row, strides of the instances. -/
def counterRows : List CounterRow := [
  ⟨.img, 0x100, 6, []⟩,  -- R104
  ⟨.tkp, 0x60, 2, []⟩,  -- R143
  ⟨.tkp, 0x1080, 4, [(0x100, 4)]⟩,  -- R143
  ⟨.tkp, 0x8020, 4, [(0x40, 29)]⟩,  -- R143
  ⟨.eth, 0x400, 31, [(0x10000, 29)]⟩,  -- R179
  ⟨.eth, 0x500, 26, [(0x10000, 29)]⟩,  -- R179
  ⟨.eth, 0x600, 6, [(0x10000, 29)]⟩,  -- R179
  ⟨.eth, 0x680, 15, [(0x10000, 29)]⟩,  -- R179
  ⟨.eth, 0x700, 5, [(0x10000, 29)]⟩,  -- R179
  ⟨.eth, 0x740, 4, [(0x10000, 29)]⟩,  -- R179
  ⟨.prs, 0x400, 4, []⟩,  -- R230
  ⟨.prs, 0x1000, 10, [(0x80, 32)]⟩,  -- R230
  ⟨.prs, 0x20000, 3, [(0x20, 4096)]⟩,  -- R230
  ⟨.prs, 0x40000, 8, [(0x40, 1024)]⟩,  -- R230
  ⟨.prs, 0x100040, 6, [(0x80, 16384)]⟩,  -- R230
  ⟨.tbl, 0x8400, 5, []⟩,  -- R230
  ⟨.xbr, 0x1000, 4, [(0x40, 28)]⟩,  -- R280
  ⟨.cis, 0x400, 8, []⟩,  -- R280
  ⟨.cis, 0x1000, 2, [(0x10, 64)]⟩,  -- R280
  ⟨.egr, 0x400, 5, [(0x4000, 29), (0x40, 8)]⟩,  -- R316
  ⟨.egr, 0x600, 2, [(0x4000, 29)]⟩,  -- R316
  ⟨.can, 0x400, 28, [(0x8000, 32)]⟩,  -- R360
  ⟨.mvb, 0x400, 10, [(0x8000, 2)]⟩,  -- R400
  ⟨.gwy, 0x400, 26, []⟩,  -- R400
  ⟨.flm, 0x10040, 7, [(0x80, 1536)]⟩,  -- R422
  ⟨.hbr, 0x400, 14, []⟩,  -- R456
  ⟨.hbr, 0x20000, 7, [(0x40, 1024)]⟩,  -- R456
  ⟨.key, 0x400, 7, []⟩,  -- R495
  ⟨.lmp, 0x800, 9, []⟩,  -- R525
  ⟨.pin, 0x8040, 5, [(0x80, 4)]⟩,  -- R525
  ⟨.tdm, 0x400, 18, []⟩,  -- R561
  ⟨.evt, 0x400, 6, []⟩,  -- R601
  ⟨.mgt, 0x400, 13, []⟩,  -- R601
  ⟨.pin, 0x400, 8, []⟩]  -- R638

/-- The rows of a block. -/
def rowsOf : Block → List RegRow
  | .dev => rowsDev
  | .img => rowsImg
  | .tkp => rowsTkp
  | .eth => rowsEth
  | .prs => rowsPrs
  | .tbl => rowsTbl
  | .xbr => rowsXbr
  | .cis => rowsCis
  | .egr => rowsEgr
  | .can => rowsCan
  | .mvb => rowsMvb
  | .gwy => rowsGwy
  | .flm => rowsFlm
  | .hbr => rowsHbr
  | .key => rowsKey
  | .lmp => rowsLmp
  | .tdm => rowsTdm
  | .evt => rowsEvt
  | .mgt => rowsMgt
  | .pin => rowsPin

/-- The instance indices at which offset `r` (from the first instance) falls, or none between instances. -/
def instanceAt : List (Nat × Nat) → Nat → Option (List Nat)
  | [], r => if r = 0 then some [] else none
  | (stride, n) :: ds, r =>
    if r / stride < n then (instanceAt ds (r % stride)).map (fun is => (r / stride) :: is) else none

/-- Does the row list the register at offset `off`? -/
def RegRow.holds (row : RegRow) (off : Nat) : Bool :=
  decide (row.off ≤ off) && (instanceAt row.dims (off - row.off)).isSome

/-- The row of the register at an offset of a block; none for a reserved offset (R642). -/
def rowAt (b : Block) (off : Nat) : Option RegRow := (rowsOf b).find? (fun row => row.holds off)

/-- Reset values that differ from instance to instance (17_register_map.md): DOM_CFG, DOM_STATUS, CAN_BUILD, XBR_LANE_ST, PIN_FILT. -/
def resetAt (b : Block) (off : Nat) : Nat :=
  match b, (off : Nat) with
  | .tkp, 0x1000 => 0x9
  | .tkp, 0x1100 => 0x108
  | .tkp, 0x1200 => 0x208
  | .tkp, 0x1300 => 0x308
  | .tkp, 0x1004 => 1
  | .can, 0xE0000 => 0x80000000
  | .can, 0xE8000 => 0x80000000
  | .can, 0xF0000 => 0x80000000
  | .can, 0xF8000 => 0x80000000
  | .xbr, 0x16C => 6
  | .pin, 0x304 => 0x19
  | .pin, 0x318 => 0x19
  | .pin, 0x30C => 0x3
  | .pin, 0x310 => 0x2
  | .pin, 0x308 => 0x1
  | .pin, 0x31C => 0x1
  | .pin, 0x320 => 0x1
  | .pin, 0x324 => 0x1
  | .pin, 0x328 => 0x1
  | b, off => match rowAt b off with
    | some row => row.reset
    | none => 0

/-- Distance between the copies of a register that each access path has of its own. -/
def pathSpan : Nat := 0x4000000

/-- The value at reset of a key of a block's register file. -/
def resetWord (b : Block) (key : Nat) : Word := BitVec.ofNat 32 (resetAt b (key % pathSpan))

/-- The first address of each block (R641). -/
def Block.base : Block → Nat
  | .dev => 0
  | .img => 0x100000
  | .tkp => 0x200000
  | .eth => 0x300000
  | .prs => 0x500000
  | .tbl => 0x800000
  | .xbr => 0x1000000
  | .cis => 0x1080000
  | .egr => 0x1100000
  | .can => 0x1400000
  | .mvb => 0x1500000
  | .gwy => 0x1600000
  | .flm => 0x1700000
  | .hbr => 0x1800000
  | .key => 0x1900000
  | .lmp => 0x1A00000
  | .tdm => 0x1B00000
  | .evt => 0x1C00000
  | .mgt => 0x1C80000
  | .pin => 0x1D00000

/-- The first address beyond each block (R641). -/
def Block.top : Block → Nat
  | .dev => 0x100000
  | .img => 0x200000
  | .tkp => 0x300000
  | .eth => 0x4D0000
  | .prs => 0x800000
  | .tbl => 0x1000000
  | .xbr => 0x1080000
  | .cis => 0x1100000
  | .egr => 0x1174000
  | .can => 0x1500000
  | .mvb => 0x1510000
  | .gwy => 0x1700000
  | .flm => 0x1800000
  | .hbr => 0x1900000
  | .key => 0x1A00000
  | .lmp => 0x1B00000
  | .tdm => 0x1C00000
  | .evt => 0x1C80000
  | .mgt => 0x1D00000
  | .pin => 0x1E00000

/-- Every block. -/
def allBlocks : List Block :=
  [.dev, .img, .tkp, .eth, .prs, .tbl, .xbr, .cis, .egr, .can, .mvb, .gwy, .flm, .hbr, .key, .lmp, .tdm, .evt, .mgt, .pin]

/-- The block and offset of a live address (R641); none where no block lies (R642). -/
def locate (addr : Nat) : Option (Block × Nat) :=
  (allBlocks.find? (fun b => decide (b.base ≤ addr) && decide (addr < b.top))).map (fun b => (b, addr - b.base))

/-- The inspection mirror of the register space begins here (00_scope.md R13). -/
def mirrorBase : Nat := 0x2000000

/-- Bytes from a row's first counter to beyond its last. -/
def CounterRow.holds (row : CounterRow) (b : Block) (off : Nat) : Bool :=
  row.block == b && (decide (row.off ≤ off) &&
    ((List.range row.count).any (fun i => decide (row.off + 8 * i ≤ off) && (instanceAt row.dims (off - row.off - 8 * i)).isSome)))

/-- Is `off` the _LO offset of a counter of the block? -/
def isCounter (b : Block) (off : Nat) : Bool := counterRows.any (fun row => row.holds b off)

end Sys2Proof.Machine
end

