-- ==== Sys2Proof/Machine/Stored.lean ====
section
/-!
DEFINITION. What a register stores for a written value: the clamps the field tables state ("values above store", "0 is stored
as 1"), the same for a register write and for an image record (03_time_and_order.md R655, 04_ethernet_ports.md R654).
-/
namespace Sys2Proof.Machine

/-- Holds bits `hi:lo` within `least` and `most`. -/
def heldIn (hi lo least most : Nat) (w : Word) : Word := setField w hi lo (clamp least most (field w hi lo))

/-- Holds the signed bits `hi:lo` within `least` and `most`. -/
def heldSigned (hi lo : Nat) (least most : Int) (w : Word) : Word :=
  setField w hi lo (twos (hi + 1 - lo) (clampInt least most (signed (hi + 1 - lo) (field w hi lo))))

/-- Stores `alt` in bits `hi:lo` where they hold `v`. -/
def replacing (hi lo v alt : Nat) (w : Word) : Word := if field w hi lo = v then setField w hi lo alt else w

/-- What the register whose first instance is at `off` stores for the value `w`. -/
def storedAs (b : Block) (off : Nat) (w : Word) : Word :=
  match b, off with
  | .img, 0x0 => heldIn 23 16 0xA 0xFF w
  | .tkp, 0x30 => replacing 1 0 3 0 (heldIn 31 16 1 0xFFFF w)
  | .tkp, 0x38 => heldIn 31 0 1000 900000000 w
  | .tkp, 0x3C => heldIn 29 0 0 999999999 w
  | .tkp, 0x1010 => heldIn 23 16 1 0xFF w
  | .tkp, 0x1014 => heldIn 31 28 1 0xF w
  | .tkp, 0x1018 => heldIn 19 0 0 500000 w
  | .tkp, 0x1048 => heldIn 31 24 1 0xFF (heldIn 23 16 1 0xFF (heldSigned 15 8 (-3) 3 (heldSigned 7 0 (-7) 1 w)))
  | .tkp, 0x8000 => heldSigned 15 8 (-3) 5 w
  | .eth, 0x8 => heldIn 31 20 100 4000 (heldIn 19 10 0 1000 w)
  | .eth, 0x14 => heldIn 13 0 64 9216 w
  | .eth, 0x44 => heldIn 31 16 1 0xFFFF w
  | .eth, 0x50 => heldIn 15 8 1 128 w
  | .eth, 0x60 => replacing 7 6 3 0 (replacing 1 0 3 2 w)
  | .eth, 0x80 => heldIn 15 8 2 8 (heldIn 7 0 0 7 w)
  | .eth, 0x84 => heldIn 23 16 1 0xFF w
  | .prs, 0x100 => replacing 15 14 3 0 w
  | .prs, 0x100004 => heldIn 23 0 1 12500000 w
  | .prs, 0x100008 => heldIn 23 0 1 12500000 w
  | .prs, 0x10000C => heldIn 24 0 64 16777216 w
  | .prs, 0x100010 => heldIn 24 0 64 16777216 w
  | .xbr, 0xC => heldIn 31 16 100 0xFFFF (heldIn 7 0 1 0xFF w)
  | .cis, 0x0 => heldIn 31 25 0 100 (heldIn 24 20 0 16 (heldIn 19 0 0 524288 w))
  | .cis, 0x4 => heldIn 31 16 1 0xFFFF w
  | .flm, 0x400 => heldIn 5 0 0 39 w
  | .hbr, 0x0 => heldIn 31 22 0 1000 (heldIn 15 8 1 250 (heldIn 7 0 1 0xFF w))
  | .hbr, 0x100 => heldIn 4 0 12 20 w
  | .hbr, 0x10000 => replacing 30 29 3 0 w
  | .hbr, 0x10020 => heldIn 7 4 3 15 (heldIn 3 0 3 15 w)
  | .mgt, 0x8 => heldIn 15 0 10 0xFFFF w
  | .mgt, 0x14 => heldIn 7 0 1 0xFF w
  | .lmp, 0x20 => heldIn 31 24 1 0xFF (heldIn 23 20 1 0xF (heldIn 15 8 1 0xFF w))
  | .lmp, 0x24 => heldIn 15 8 1 0xFF (heldIn 7 0 1 0xFF w)
  | .lmp, 0x80 => heldIn 15 0 1 0xFFFF w
  | .tdm, 0x0 => heldIn 23 16 1 0xFF (heldIn 15 0 0 10000 w)
  | .tdm, 0x4 => heldIn 31 24 5 0xFF (heldIn 23 20 2 0xF (heldIn 15 8 45 0xFF w))
  | .tdm, 0x8 => heldIn 31 24 1 200 (heldIn 23 16 1 0xFF w)
  | .tdm, 0xC => heldIn 15 0 0 5000 w
  | .pin, 0x8 => heldIn 31 24 0 150 (heldIn 23 20 1 0xF (heldIn 13 8 2 0x3F w))
  | .pin, 0x8000 => heldIn 23 16 5 200 (heldIn 15 0 100 0xFFFF w)
  | .pin, 0x8004 => heldIn 15 8 1 0xFF (heldIn 7 0 1 0xFF w)
  | _, _ => w

/-- The register after a write of `v` over `old`: RW bits take `v`, W1C bits that are 1 in `v` are cleared, the rest is kept
(00_scope.md R6), and the field limits are applied. -/
def RegRow.written (row : RegRow) (b : Block) (old v : Word) : Word :=
  storedAs b row.off ((old &&& ~~~ word row.rw ||| v &&& word row.rw) &&& ~~~ (v &&& word row.w1c))

end Sys2Proof.Machine
end

