-- ==== Sys2Proof/Machine/Ops.lean ====
section
/-!
DEFINITION. The named operations every block uses: reading and writing registers and counters, the time of the primary domain,
stamping and sequence numbers, and raising an event (15_management_events_health.md R571, R572).
-/
namespace Sys2Proof.Machine

/-- The number of an access path (00_scope.md R10, 15_management_events_health.md R603): 0 the host, 1-4 the cores, 5 the debug
port. -/
def pathIndex : Path → Nat
  | .host => 0
  | .core n => n.val + 1
  | .debug => 5

/-- Does the path belong to a management core? -/
def isCore : Path → Bool
  | .core _ => true
  | _ => false

/-- The register file of a block. -/
def RegSpace.get (r : RegSpace) : Block → RegFile
  | .dev => r.dev
  | .img => r.img
  | .tkp => r.tkp
  | .eth => r.eth
  | .prs => r.prs
  | .tbl => r.tbl
  | .xbr => r.xbr
  | .cis => r.cis
  | .egr => r.egr
  | .can => r.can
  | .mvb => r.mvb
  | .gwy => r.gwy
  | .flm => r.flm
  | .hbr => r.hbr
  | .key => r.key
  | .lmp => r.lmp
  | .tdm => r.tdm
  | .evt => r.evt
  | .mgt => r.mgt
  | .pin => r.pin

/-- The register space with the file of one block replaced. -/
def RegSpace.put (r : RegSpace) (b : Block) (f : RegFile) : RegSpace :=
  match b with
  | .dev => { r with dev := f }
  | .img => { r with img := f }
  | .tkp => { r with tkp := f }
  | .eth => { r with eth := f }
  | .prs => { r with prs := f }
  | .tbl => { r with tbl := f }
  | .xbr => { r with xbr := f }
  | .cis => { r with cis := f }
  | .egr => { r with egr := f }
  | .can => { r with can := f }
  | .mvb => { r with mvb := f }
  | .gwy => { r with gwy := f }
  | .flm => { r with flm := f }
  | .hbr => { r with hbr := f }
  | .key => { r with key := f }
  | .lmp => { r with lmp := f }
  | .tdm => { r with tdm := f }
  | .evt => { r with evt := f }
  | .mgt => { r with mgt := f }
  | .pin => { r with pin := f }

/-- The word the register at `off` of a block holds. -/
def State.rd (s : State) (b : Block) (off : Nat) : Word := Sparse.get (resetWord b) (s.regs.get b).word off

/-- The state with the register at `off` holding `v`. -/
def State.wr (s : State) (b : Block) (off : Nat) (v : Word) : State :=
  { s with regs := s.regs.put b { s.regs.get b with word := Sparse.put (resetWord b) (s.regs.get b).word off v } }

/-- Bits `hi:lo` of the register at `off`. -/
def State.fld (s : State) (b : Block) (off hi lo : Nat) : Nat := field (s.rd b off) hi lo

/-- One bit of the register at `off`. -/
def State.flag (s : State) (b : Block) (off i : Nat) : Bool := bit (s.rd b off) i

/-- The state with bits `hi:lo` of the register at `off` holding `v`. -/
def State.setFld (s : State) (b : Block) (off hi lo v : Nat) : State := s.wr b off (setField (s.rd b off) hi lo v)

/-- Writes words to consecutive registers from `off` on. -/
def State.wrs (s : State) (b : Block) (off : Nat) : List Word → State
  | [] => s
  | v :: vs => State.wrs (s.wr b off v) b (off + 4) vs

/-- Writes a 64-bit value to the pair of registers at `off`. -/
def State.wr64 (s : State) (b : Block) (off v : Nat) : State := (s.wr b off (lo32 v)).wr b (off + 4) (hi32 v)

/-- The 64-bit value of the pair of registers at `off`. -/
def State.rd64 (s : State) (b : Block) (off : Nat) : Nat := (s.rd b off).toNat + 2 ^ 32 * (s.rd b (off + 4)).toNat

/-- `n` consecutive registers from `off` on. -/
def State.rds (s : State) (b : Block) (off n : Nat) : List Word := (List.range n).map (fun i => s.rd b (off + 4 * i))

/-- The key of a path's own copy of the register at `off`. -/
def onPath (p : Path) (off : Nat) : Nat := off + pathSpan * pathIndex p

/-- The counter at `off` of a block. -/
def State.count (s : State) (b : Block) (off : Nat) : Nat :=
  (Sparse.get (fun _ => (0 : BitVec 40)) (s.regs.get b).count off).toNat

/-- The state with the counter at `off` holding `n` modulo 2^40. -/
def State.setCount (s : State) (b : Block) (off n : Nat) : State :=
  { s with regs := s.regs.put b { s.regs.get b with count := Sparse.put (fun _ => 0) (s.regs.get b).count off (BitVec.ofNat 40 n) } }

/-- A domain's state and servo (03_time_and_order.md). -/
def State.dom (s : State) (d : Nat) : Domain := Sparse.get (fun _ => {}) s.tkp.dom d

/-- The state with domain `d` replaced. -/
def State.setDom (s : State) (d : Nat) (v : Domain) : State :=
  { s with tkp := { s.tkp with dom := Sparse.put (fun _ => {}) s.tkp.dom d v } }

/-- The primary domain (03_time_and_order.md R109). -/
def State.primary (s : State) : Nat := s.fld .tkp 0 1 0

/-- Primary-domain time in units of 2^-32 ns. -/
def State.now (s : State) : Nat := (s.dom s.primary).time

/-- Primary-domain time in ns. -/
def State.nowNs (s : State) : Nat := s.now / 2 ^ 32

/-- A time in units of 2^-32 ns as a full stamp (00_scope.md R18). -/
def stampOf (t : Nat) : Stamp := ⟨t / 2 ^ 32, t / 2 ^ 16 % 2 ^ 16⟩

/-- The full stamp of this instant. -/
def State.stamp (s : State) : Stamp := stampOf s.now

/-- The sequence number that source `id` takes next (03_time_and_order.md R134). -/
def State.seqOf (s : State) (id : Nat) : Nat := (Sparse.get (fun _ => (0 : BitVec 32)) s.seq id).toNat

/-- The state after source `id` has taken a sequence number. -/
def State.tookSeq (s : State) (id : Nat) : State :=
  { s with seq := Sparse.put (fun _ => 0) s.seq id (BitVec.ofNat 32 (s.seqOf id + 1)) }

/-- Code of a domain state (R138). -/
def DomState.code : DomState → Nat
  | .disabled => 0
  | .freeRun => 1
  | .acquiring => 2
  | .locked => 3
  | .holdover => 4
  | .grandmaster => 5

/-- Is the primary domain LOCKED, HOLDOVER or GRANDMASTER (R378, DISC)? -/
def State.disciplined (s : State) : Bool :=
  match (s.dom s.primary).state with
  | .locked => true
  | .holdover => true
  | .grandmaster => true
  | _ => false

/-- Payload fields of one, two, four, six and eight bytes (15_management_events_health.md R572). -/
def p1 (n : Nat) : List Byte := leBytes 1 n
def p2 (n : Nat) : List Byte := leBytes 2 n
def p4 (n : Nat) : List Byte := leBytes 4 n
def p6 (n : Nat) : List Byte := leBytes 6 n
def p8 (n : Nat) : List Byte := leBytes 8 n

/-- A signed payload field of four or eight bytes. -/
def p4i (i : Int) : List Byte := leBytes 4 (twos 32 i)
def p8i (i : Int) : List Byte := leBytes 8 (twos 64 i)

/-- A stamp in a payload: nanoseconds, then fraction. -/
def pStamp (t : Stamp) : List Byte := leBytes 8 t.ns ++ leBytes 2 t.frac

/-- Raises event `e`: stamps a record and hands it to the event system (15_management_events_health.md R571). -/
def State.emit (s : State) (e : Nat) (payload : List Byte) : State :=
  let r : EventRec := ⟨s.stamp, e, s.seqOf e, padTo 16 payload⟩
  { s.tookSeq e with evt := { s.evt with offered := s.evt.offered ++ [r] } }

/-- The event and payload for bit 39 of the counter at `off` (00_scope.md R17), as each chapter's table of events gives it. -/
def halfEvent (b : Block) (off : Nat) : Nat × List Byte :=
  match b with
  | .dev => (1610, p4 off)
  | .img => (20 + (off - 0x100) / 8, p4 off)
  | .tkp =>
    if off < 0x1000 then (125, p1 0xF ++ p4 off)
    else if off < 0x8000 then (125, p1 ((off - 0x1000) / 0x100) ++ p4 (off % 0x100))
    else (96 + (off - 0x8000) / 0x40, p4 (off % 0x40))
  | .eth => (128 + 8 * (off / 0x10000) + 7, p4 (off % 0x10000))
  | .prs =>
    if off < 0x20000 then (525, p4 off)
    else if off < 0x40000 then (526, p2 ((off - 0x20000) / 0x20) ++ p4 (off % 0x20))
    else if off < 0x80000 then (527, p2 ((off - 0x40000) / 0x40) ++ p4 (off % 0x40))
    else (528, p2 ((off - 0x100000) / 0x80) ++ p4 (off % 0x80))
  | .tbl => (529, p4 off)
  | .xbr => (544, p2 ((off - 0x1000) / 0x40) ++ p4 (off % 0x40))
  | .cis => if off < 0x1000 then (545, p2 0xFF ++ p4 off) else (545, p2 ((off - 0x1000) / 0x10) ++ p4 (off % 0x10))
  | .egr => (605, p2 (off / 0x4000) ++ p4 (off % 0x4000))
  | .can => (640 + 8 * (off / 0x8000) + 7, p4 (off % 0x8000))
  | .mvb => (896 + 64 * (off / 0x8000) + 2, p4 (off % 0x8000))
  | .gwy => (1035, p4 off)
  | .flm => (1162, p2 ((off - 0x10000) / 0x80) ++ p4 (off % 0x80))
  | .hbr => if off < 0x20000 then (1298, p4 off) else (1299, p2 ((off - 0x20000) / 0x40) ++ p4 (off % 0x40))
  | .key => (1422, p4 off)
  | .lmp => (1502, p4 off)
  | .tdm => (1552, p4 off)
  | .evt => (1610, p4 off)
  | .mgt => (1610, p4 off)
  | .pin => if off < 0x8000 then (1736, p4 off) else (1780, p2 ((off - 0x8000) / 0x80) ++ p4 (off % 0x80))

/-- Counts `n` more (00_scope.md R15), raising the counter's event on the 0-to-1 transition of bit 39 (R17). -/
def State.bumpBy (s : State) (b : Block) (off n : Nat) : State :=
  let new := (s.count b off + n) % 2 ^ 40
  let s' := s.setCount b off new
  if (s.count b off).testBit 39 then s'
  else if new.testBit 39 then s'.emit (halfEvent b off).1 (halfEvent b off).2
  else s'

/-- Counts one more. -/
def State.bump (s : State) (b : Block) (off : Nat) : State := s.bumpBy b off 1

/-- Counts one more at each of the offsets. -/
def State.bumps (s : State) (b : Block) : List Nat → State
  | [] => s
  | o :: os => State.bumps (s.bump b o) b os

/-- Sets bit `i` of a W1C error register; event `e` is raised only when the bit goes from 0 to 1. -/
def State.setErr (s : State) (b : Block) (off i e : Nat) (payload : List Byte) : State :=
  if s.flag b off i then s else (s.wr b off (setBit (s.rd b off) i true)).emit e payload

/-- Clears the counters of a block in a range of offsets: they restart at 0, and a watcher's window on one of them takes base 0
(00_scope.md R15, 15_management_events_health.md R578). -/
def State.restartCounters (s : State) (b : Block) (lo hi : Nat) : State :=
  let inside := fun k => decide (lo ≤ k) && decide (k < hi)
  let watchHit := fun (k : Nat) =>
    decide (b.base + lo ≤ (s.rd .evt (0x20000 + 0x10 * k)).toNat) && decide ((s.rd .evt (0x20000 + 0x10 * k)).toNat < b.base + hi)
  let rebase := s.evt.watch.foldl (init := s.evt.watch)
    (fun m kv => if watchHit kv.1 then Sparse.put (fun _ => ({} : Watch)) m kv.1 { kv.2 with base := 0 } else m)
  { s with
    regs := s.regs.put b { s.regs.get b with count := Sparse.clear inside (s.regs.get b).count },
    evt := { s.evt with watch := rebase } }

/-- Lets a timer run for `ns` from `now`. -/
def startTimer (now ns : Nat) : Timer := ⟨ns, some now⟩

/-- Nanoseconds a timer has left. -/
def timerLeft (t : Timer) (now : Nat) : Nat :=
  match t.since with
  | none => t.left
  | some a => t.left - (now - a)

/-- Stops a timer with the time it has left. -/
def holdTimer (t : Timer) (now : Nat) : Timer := ⟨timerLeft t now, none⟩

/-- Lets a timer go on with the time it has left. -/
def resumeTimer (t : Timer) (now : Nat) : Timer := ⟨timerLeft t now, some now⟩

/-- Lets a register access act: while device reset is held nothing of the block answers (16_electrical_and_pins.md R611). -/
def State.awake (s : State) (f : State → State) : State := if s.lmp.held then s else f s

/-- Records what leaves the block. -/
def State.send (s : State) (o : Output) : State := { s with out := o :: s.out }

/-- Draws `n` free bytes. -/
def State.drawBytes (s : State) (n : Nat) : State × List Byte :=
  ({ s with free := s.free + n }, (List.range n).map (fun i => Config.freeByte (s.free + i)))

/-- Draws a free number. -/
def State.drawNat (s : State) : State × Nat := ({ s with free := s.free + 1 }, Config.freeNat s.free)

/-- Bytes of flash (02_ikiem_images.md R47): erased bytes read 0xFF (notes/assumptions/3.md). -/
def State.flashBytes (s : State) (off n : Nat) : List Byte := Sparse.gets (fun _ => 0xFF) s.flash off n

/-- Flash is in canonical form: addresses strictly rising, no erased byte listed. -/
def Memory.wf (m : List Host.Cell) : Bool := Sparse.canon (fun _ => (0xFF : Byte)) m

/-- The state with bytes of flash replaced. -/
def State.flashPut (s : State) (off : Nat) (bs : List Byte) : State := { s with flash := Sparse.puts (fun _ => 0xFF) s.flash off bs }

/-- The state with `n` bytes of flash erased. -/
def State.flashErase (s : State) (off n : Nat) : State :=
  { s with flash := Sparse.clear (fun a => decide (off ≤ a) && decide (a < off + n)) s.flash }

end Sys2Proof.Machine
end

