-- ==== Sys2Proof/Machine/Net.lean ====
section
/-!
DEFINITION. What the blocks of the data plane share: ports and their lanes, speeds, link state, and the records of the
configuration in force (04_ethernet_ports.md R145-R149, 01_architecture.md R29, R33).
-/
namespace Sys2Proof.Machine

/-- An Ethernet port. -/
def State.port (s : State) (p : Nat) : EthPort := Sparse.get (fun _ => {}) s.net.eth p

/-- The state with an Ethernet port replaced. -/
def State.setPort (s : State) (p : Nat) (v : EthPort) : State :=
  { s with net := { s.net with eth := Sparse.put (fun _ => {}) s.net.eth p v } }

/-- An egress port. -/
def State.egress (s : State) (p : Nat) : EgrPort := Sparse.get (fun _ => {}) s.net.egr p

/-- The state with an egress port replaced. -/
def State.setEgress (s : State) (p : Nat) (v : EgrPort) : State :=
  { s with net := { s.net with egr := Sparse.put (fun _ => {}) s.net.egr p v } }

/-- Offset of a register of port `p` in block ETH and in block EGR (R145; 07_egress_scheduling.md R317). -/
def ethReg (p off : Nat) : Nat := 0x10000 * p + off
def egrReg (p off : Nat) : Nat := 0x4000 * p + off

/-- Is the port one of S0-S7? -/
def isSPort (p : Nat) : Bool := decide (21 ≤ p)

/-- The crossbar lane of a port (01_architecture.md R29). -/
def laneOf (p : Nat) : Nat := if p < 4 then p else if p = 4 then 25 else if p < 21 then p - 1 else 20

/-- The port on a lane, where the lane serves one port. -/
def portOfLane (l : Nat) : Option Nat :=
  if l < 4 then some l else if l < 20 then some (l + 1) else if l = 25 then some 4 else none

/-- MODE of a port's build (R146). -/
def State.buildMode (s : State) (p : Nat) : Nat := s.fld .eth (ethReg p 0) 3 0

/-- Rate of a build in Mbit/s (R146). -/
def buildRate (mode : Nat) : Nat :=
  match mode with
  | 1 => 25000
  | 2 => 25000
  | 3 => 10000
  | 4 => 1000
  | 5 => 10000
  | 6 => 5000
  | 7 => 2500
  | 8 => 1000
  | 9 => 10000
  | 10 => 1000
  | 11 => 10
  | _ => 0

/-- Mbit/s of a code of LINK_STATUS.SPEED (R182), and the code of a rate. -/
def speedRate (code : Nat) : Nat :=
  match code with
  | 1 => 10
  | 2 => 100
  | 3 => 1000
  | 4 => 2500
  | 5 => 5000
  | 6 => 10000
  | 7 => 25000
  | _ => 0
def speedCode (rate : Nat) : Nat := ((List.range 8).find? (fun c => decide (0 < c) && speedRate c == rate)).getD 0

/-- Running speed of a port in Mbit/s (R148). -/
def State.runRate (s : State) (p : Nat) : Nat :=
  if (s.port p).speed = 0 then buildRate (s.buildMode p) else speedRate (s.port p).speed

/-- Code of a link state in LINK_STATUS.STATE. -/
def LinkState.code : LinkState → Nat
  | .disabled => 0
  | .training => 1
  | .up => 2
  | .down => 3
  | .standby => 4
  | .roadworks => 5

/-- Moves a port to a link state, raising its link event on a change (R149, R180). -/
def State.setLink (s : State) (p : Nat) (new : LinkState) : State :=
  let old := (s.port p).state
  if old = new then s
  else (s.setPort p { s.port p with state := new }).emit (128 + 8 * p)
    (p1 old.code ++ (p1 new.code ++ (p4 (s.rd .eth (ethReg p 0x10)).toNat ++ p1 (s.port p).speed)))

/-- The records of a configuration. -/
def confRecs (c : Option Conf) : List Rec :=
  match c with
  | none => []
  | some c => c.recs

/-- The body of the record of a region with a scope and key. -/
def recBody (rs : List Rec) (region scope key : Nat) : Option (List Byte) :=
  (rs.find? (fun r => r.region == region && (r.scope == scope && r.key == key))).map (fun r => r.body)

/-- The records of one region. -/
def regionRecs (rs : List Rec) (region : Nat) : List Rec := rs.filter (fun r => r.region == region)

/-- The epoch in force. -/
def State.epoch (s : State) : Nat := (s.rd .img 0x18).toNat

/-- The records in force. -/
def State.recs (s : State) : List Rec := confRecs s.img.conf

/-- The records that a frame carrying an epoch is decided under (01_architecture.md R33). -/
def State.recsAt (s : State) (epoch : Nat) : List Rec :=
  if epoch = s.epoch then s.recs
  else match s.img.history.find? (fun h => h.epoch == epoch) with
    | some h => h.conf.recs
    | none => s.recs

/-- The entries of a table that a frame carrying an epoch sees. -/
def State.tableAt (s : State) (epoch t : Nat) : List TblEntry :=
  if epoch = s.epoch then Sparse.get (fun _ => []) s.tbl.entries t
  else match s.img.history.find? (fun h => h.epoch == epoch) with
    | some h => Sparse.get (fun _ => []) h.tables t
    | none => Sparse.get (fun _ => []) s.tbl.entries t

/-- What a frame carrying an epoch sees of a register of block PRS: its value now, or the one the epoch ended with. -/
def State.prsAt (s : State) (epoch off i : Nat) (past : Past → List Word) : Word :=
  if epoch = s.epoch then s.rd .prs (off + 4 * i)
  else match s.img.history.find? (fun h => h.epoch == epoch) with
    | some h => (past h)[i]?.getD 0
    | none => s.rd .prs (off + 4 * i)

/-- PRS_PORT_CFG of a port, and PRS_MIRROR of a session, as a frame's epoch has them (R193, R33). -/
def State.portCfg (s : State) (epoch p : Nat) : Word := s.prsAt epoch 0x100 p (fun h => h.ports)
def State.mirrorCfg (s : State) (epoch m : Nat) : Word := s.prsAt epoch 0x200 m (fun h => h.mirrors)

/-- Is this the frame's first pass from the port it arrived on? -/
def Frame.fromPort (f : Frame) : Bool := decide (f.ingress < 29) && decide (f.pass = 0) && decide (f.lane = laneOf f.ingress)

/-- The first district of a frame (R194): that of its port, or the one it brings. -/
def State.firstDistrict (s : State) (f : Frame) : Nat :=
  if f.fromPort then field (s.portCfg f.epoch f.ingress) 31 20 else f.district.getD 0

/-- Counts a set PRS_ERR bit and its event E512 + bit: ingress, district, then what the bit concerns (05_classification.md R229). -/
def State.prsErr (s : State) (i ingress district : Nat) (what : List Byte) : State :=
  s.setErr .prs 4 i (512 + i) (p2 ingress ++ (p2 district ++ what))

/-- Offset of counter `k` of an ingress of the classification pipeline (R230). -/
def prsCounter (ingress k : Nat) : Nat := 0x1000 + 0x80 * ingress + 8 * k

/-- A frame meets parser roadworks and is dropped (02_ikiem_images.md R89; R230). -/
def State.roadworksDrop (s : State) (f : Frame) : State :=
  let s1 := (s.bump .prs (prsCounter f.ingress 9)).bump .prs (0x20010 + 0x20 * s.firstDistrict f)
  if f.fromPort then s1.bump .eth (ethReg f.ingress 0x4E0) else s1

end Sys2Proof.Machine
end

