-- ==== Sys2Proof/Machine/Parse.lean ====
section
/-!
DEFINITION. The parse graph (05_classification.md R183-R191): nodes, the walk over a frame, the effective end, truncation and
length conflicts. A malformed graph never reaches it: staging refuses one (R186).
-/
namespace Sys2Proof.Machine

/-- A transition of a node: value, mask, next node. -/
structure Trans where
  value : Nat
  mask : Nat
  next : Nat
deriving DecidableEq, Repr

/-- A parse-graph node (R183). -/
structure Node where
  role : Nat
  l3 : Bool
  l4 : Bool
  terminal : Bool
  lenBase : Nat
  lenOff : Nat
  lenMask : Nat
  lenShift : Nat
  lenUnit : Nat
  selOff : Nat
  selWidth : Nat
  defaultNext : Nat
  trans : List Trans
deriving DecidableEq, Repr

/-- A node from the 64-byte body of its record. -/
def nodeOf (b : List Byte) : Node :=
  { role := leAt b 0 1, l3 := (leAt b 1 1).testBit 0, l4 := (leAt b 1 1).testBit 1, terminal := (leAt b 1 1).testBit 2,
    lenBase := leAt b 2 2, lenOff := leAt b 4 1, lenMask := leAt b 5 1, lenShift := leAt b 6 1, lenUnit := leAt b 7 1,
    selOff := leAt b 8 1, selWidth := leAt b 9 1, defaultNext := leAt b 10 1,
    trans := (List.range (Nat.min 8 (leAt b 11 1))).map (fun i =>
      ⟨leAt b (0x10 + 6 * i) 2, leAt b (0x12 + 6 * i) 2, leAt b (0x14 + 6 * i) 1⟩) }

/-- A header instance: the node that made it (64 for a header that no node made), its role, offset and length. -/
structure Hdr where
  node : Nat
  role : Nat
  off : Nat
  len : Nat
deriving DecidableEq, Repr

/-- What the walk found (R185-R190): `ip`, `ip4`, `ip6` and `udp` the declared ends of the first such headers; `bad` an IHL or data offset
below 5; `short4` a total length of an IPv4 header below its length; `hop` a payload length of 0 of an IPv6 header with a Hop-by-Hop
header. -/
structure Parsed where
  hdrs : List Hdr := []
  effEnd : Nat := 0
  truncated : Bool := false
  l3 : Option Nat := none
  l4 : Option Nat := none
  ip : Option (Nat × Nat) := none
  ip4 : Option Nat := none
  ip6 : Option Nat := none
  udp : Option Nat := none
  bad : Bool := false
  short4 : Bool := false
  hop : Bool := false
deriving DecidableEq, Repr

/-- Bytes of the parse window (R187). -/
def window : Nat := 192

/-- One byte of a frame. -/
def byteAt (bs : List Byte) (i : Nat) : Nat := leAt bs i 1

/-- Length of the header that `n` would make at `off`, or none where IHL or the data offset is below 5 (R184). `sel` is the
selector value read at the previous node. -/
def headerLen (bs : List Byte) (n : Node) (off : Nat) (sel : Option Nat) : Option Nat :=
  match n.role with
  | 1 => some 14
  | 2 => some 4
  | 3 => some (if (byteAt bs off).testBit 5 then 16 else 8)
  | 4 => some 6
  | 5 => let ihl := byteAt bs off % 16
         if ihl < 5 then none else some (4 * ihl)
  | 6 => some 40
  | 7 => some (if sel = some 44 then 8 else 8 + 8 * byteAt bs (off + 1))
  | 8 => some 8
  | 9 => let o := byteAt bs (off + 12) / 16
         if o < 5 then none else some (4 * o)
  | _ => some (if n.lenOff = 0xFF then n.lenBase
               else n.lenBase + ((byteAt bs (off + n.lenOff)) &&& n.lenMask) / 2 ^ n.lenShift * n.lenUnit)

/-- The bytes a header's length is read from lie before this offset in the header. -/
def lenNeeds (n : Node) : Nat :=
  match n.role with
  | 3 => 1
  | 5 => 1
  | 7 => 2
  | 9 => 13
  | _ => 0

/-- Records a header (R185, R189): its instance, the layer starts, and the end it declares. -/
def Parsed.record (p : Parsed) (bs : List Byte) (i : Nat) (n : Node) (off len : Nat) : Parsed :=
  let p := { p with hdrs := p.hdrs ++ [⟨i, n.role, off, len⟩],
                    l3 := if n.l3 && p.l3.isNone then some off else p.l3,
                    l4 := if n.l4 && p.l4.isNone then some off else p.l4,
                    short4 := p.short4 || (decide (n.role = 5) && decide (beAt bs (off + 2) 2 < len)),
                    hop := p.hop || (decide (n.role = 6) && (decide (beAt bs (off + 4) 2 = 0) && decide (byteAt bs (off + 6) = 0))) }
  if n.role = 5 && p.ip4.isNone then
    let e := off + beAt bs (off + 2) 2
    { p with ip4 := some e, ip := if p.ip.isNone then some (4, e) else p.ip, effEnd := Nat.min p.effEnd e }
  else if n.role = 6 && p.ip6.isNone then
    let e := off + 40 + beAt bs (off + 4) 2
    { p with ip6 := some e, ip := if p.ip.isNone then some (6, e) else p.ip, effEnd := Nat.min p.effEnd e }
  else if n.role = 8 && p.udp.isNone then
    let e := off + beAt bs (off + 4) 2
    { p with udp := some e, effEnd := Nat.min p.effEnd e }
  else p

/-- The walk from node `i` at offset `off` (R185-R188); `fuel` is more than the 17 headers that it can need. -/
def walk (nodes : List Node) (bs : List Byte) : Nat → Nat → Nat → Option Nat → Parsed → Parsed
  | 0, _, _, _, p => p
  | fuel + 1, i, off, sel, p =>
    match nodes[i]? with
    | none => p
    | some n =>
      let beyond := fun (e : Nat) => decide (window < e) && decide (window < p.effEnd)
      if p.effEnd < off + lenNeeds n && decide (p.effEnd ≤ window) then p
      else if beyond (off + lenNeeds n) then { p with truncated := true }
      else match headerLen bs n off sel with
        | none => { p with bad := true }
        | some len =>
          if p.effEnd < off + len && decide (p.effEnd ≤ window) then p
          else if beyond (off + len) then { p with truncated := true }
          else if 16 ≤ p.hdrs.length then { p with truncated := true }
          else if n.role = 2 && decide (3 ≤ (p.hdrs.filter (fun h => h.role == 2)).length) then { p with truncated := true }
          else if n.role = 7 && decide (4 ≤ (p.hdrs.filter (fun h => h.role == 7)).length) then { p with truncated := true }
          else
            let q := p.record bs i n off len
            if n.terminal || (n.role = 3 && (byteAt bs off).testBit 3) then q
            else
              let sel := if n.selOff = 0xFF || decide (len < n.selOff + n.selWidth) then none
                         else some (beAt bs (off + n.selOff) n.selWidth)
              let next := match sel with
                | none => n.defaultNext
                | some v => match n.trans.find? (fun t => v &&& t.mask == t.value) with
                  | some t => t.next
                  | none => n.defaultNext
              if next = 0xFF then q else walk nodes bs fuel next (off + len) sel q

/-- Parses a frame's bytes before its FCS. -/
def parse (nodes : List Node) (bs : List Byte) : Parsed := walk nodes bs 18 0 0 none { effEnd := bs.length }

/-- The conflict code of R190, the lowest that applies; 0 for none. -/
def Parsed.conflict (p : Parsed) (len : Nat) : Nat :=
  let past := fun (e : Option Nat) => match e with
    | some e => decide (len < e)
    | none => false
  let runsPast := fun (e : Option Nat) => match e with
    | some e => decide (e < len) && decide (60 < len)
    | none => false
  let udpDiffers := match p.udp, p.ip with
    | some u, some (_, e) => decide (u ≠ e)
    | _, _ => false
  if past p.ip4 || past p.ip6 || past p.udp then 1
  else if runsPast p.ip4 || runsPast p.ip6 then 2
  else if udpDiffers then 3
  else if p.short4 then 4
  else if p.bad then 5
  else if p.hop then 6
  else 0

/-- The nodes of a configuration's parse graph, in order of their number (R183). -/
def graphOf (rs : List Rec) : List Node :=
  (List.range 64).filterMap (fun i => (recBody rs 2 0xFFFF i).map nodeOf)

/-- The tag headers, outermost first. -/
def Parsed.tags (p : Parsed) : List Hdr := p.hdrs.filter (fun h => h.role == 2)

/-- The VID of the k-th tag; 0 where there is none (R201). -/
def Parsed.vid (p : Parsed) (bs : List Byte) (k : Nat) : Nat :=
  match p.tags[k]? with
  | some h => beAt bs h.off 2 % 4096
  | none => 0

end Sys2Proof.Machine
end

