-- ==== Sys2Proof/Machine/Weirs.lean ====
section
/-!
DEFINITION. Weirs (05_classification.md R220-R226): refill, the RFC 2698 and RFC 4115 meters, staged writes, and the fixed weir of
the exception lane (01_architecture.md R28). Levels are micro-bytes; a rate unit of 8 kb/s is one micro-byte per ns.
-/
namespace Sys2Proof.Machine

/-- Offset of a register of weir `w`. -/
def weirReg (w off : Nat) : Nat := 0x100000 + 0x80 * w + off

/-- A weir's levels. -/
def State.weir (s : State) (w : Nat) : WeirLevel := Sparse.get (fun _ => {}) s.prs.weir w

/-- The state with a weir's levels replaced. -/
def State.setWeir (s : State) (w : Nat) (v : WeirLevel) : State :=
  { s with prs := { s.prs with weir := Sparse.put (fun _ => {}) s.prs.weir w v } }

/-- Rates and bursts of a meter: RATE1, RATE2 in micro-bytes per ns, BURST1, BURST2 in bytes. -/
structure Rates where
  rate1 : Nat
  rate2 : Nat
  burst1 : Nat
  burst2 : Nat
deriving DecidableEq, Repr

/-- The levels refilled to instant `t` ns (R221): a stamp before the last update adds nothing, and the last update becomes `t`. -/
def WeirLevel.refilled (l : WeirLevel) (r : Rates) (t : Nat) : WeirLevel :=
  let d := t - l.last
  { l1 := Nat.min (r.burst1 * 1000000) (l.l1 + r.rate1 * d), l2 := Nat.min (r.burst2 * 1000000) (l.l2 + r.rate2 * d), last := t }

/-- The RFC 2698 meter (R222): `b` micro-bytes, colour 0 green, 1 yellow, 2 red. -/
def meter2698 (aware : Bool) (colour b : Nat) (l : WeirLevel) : Nat × WeirLevel :=
  if aware && colour == 2 then (2, l)
  else if l.l2 < b then (2, l)
  else if (aware && colour == 1) || decide (l.l1 < b) then (1, { l with l2 := l.l2 - b })
  else (0, { l with l1 := l.l1 - b, l2 := l.l2 - b })

/-- The RFC 4115 meter (R223). -/
def meter4115 (aware : Bool) (colour b : Nat) (l : WeirLevel) : Nat × WeirLevel :=
  if aware && colour == 2 then (2, l)
  else if !(aware && colour == 1) && decide (b ≤ l.l1) then (0, { l with l1 := l.l1 - b })
  else if b ≤ l.l2 then (1, { l with l2 := l.l2 - b })
  else (2, l)

/-- The rates in force of weir `w`. -/
def State.weirRates (s : State) (w : Nat) : Rates :=
  ⟨s.fld .prs (weirReg w 4) 23 0, s.fld .prs (weirReg w 8) 23 0, s.fld .prs (weirReg w 0xC) 24 0, s.fld .prs (weirReg w 0x10) 24 0⟩

/-- Frame size of R222 in micro-bytes. -/
def sizeAdjusted (len : Nat) (adj : Int) : Nat := ((len : Int) + adj).toNat * 1000000

/-- A frame of `len` bytes, stamped at `t` ns, meets weir `w` (R221-R224): the weir's result, counted. -/
def State.meter (s : State) (w t len colour : Nat) : State × Nat :=
  let cfg := s.rd .prs (weirReg w 0)
  let l := (s.weir w).refilled (s.weirRates w) t
  let b := sizeAdjusted len (signed 7 (field cfg 29 23))
  let r := if bit cfg 31 then meter4115 (bit cfg 30) colour b l else meter2698 (bit cfg 30) colour b l
  (((s.setWeir w r.2).bump .prs (weirReg w (0x40 + 8 * r.1))).bumpBy .prs (weirReg w (0x58 + 8 * r.1)) len, r.1)

/-- The exception lane's weir (01_architecture.md R28): RFC 2698, colour-blind, 200 Mb/s and 1,250,000 bytes twice. -/
def State.meterExc (s : State) (t len : Nat) : State × Nat :=
  let l := s.prs.exc.refilled ⟨25000, 25000, 1250000, 1250000⟩ t
  let r := meter2698 false 0 (len * 1000000) l
  ({ s with prs := { s.prs with exc := r.2 } }, r.1)

/-- Levels above the bursts in force are clamped to them (R226). -/
def State.clampWeir (s : State) (w : Nat) : State :=
  let r := s.weirRates w
  let l := s.weir w
  s.setWeir w { l with l1 := Nat.min l.l1 (r.burst1 * 1000000), l2 := Nat.min l.l2 (r.burst2 * 1000000) }

/-- Puts new values of WEIR_CFG, RATE1, RATE2, BURST1 and BURST2 in force: levels are refilled under the old rates to this
instant, then clamped (R221, R226). -/
def State.setWeirWords (s : State) (w : Nat) (ws : List Word) : State :=
  let now := (s.weir w).refilled (s.weirRates w) s.nowNs
  (((s.setWeir w now).wrs .prs (weirReg w 0) ws)).clampWeir w

/-- A weir's staged writes. -/
def State.weirStage (s : State) (w : Nat) : WeirStage := Sparse.get (fun _ => {}) s.prs.stage w

/-- The state with a weir's staged writes replaced. -/
def State.setWeirStage (s : State) (w : Nat) (v : WeirStage) : State :=
  { s with prs := { s.prs with stage := Sparse.put (fun _ => {}) s.prs.stage w v } }

end Sys2Proof.Machine
end

