-- ==== Sys2Proof/Machine/Stages.lean ====
section
/-!
DEFINITION. Match-action stages (05_classification.md R199-R209): keys, lookups, action sets and how they combine over stages 0-11.
-/
namespace Sys2Proof.Machine

/-- An action set (R202). -/
structure Action where
  ops : Nat := 0
  cls : Nat := 0
  session : Nat := 0
  reason : Nat := 0
  dest : Nat := 0
  weir : Nat := 0xFFFF
  edit : Nat := 0xFFFF
  fn : Nat := 0
  stream : Nat := 0
  district : Nat := 0
deriving DecidableEq, Repr

/-- An action set from its 16 bytes. -/
def actionOf (b : List Byte) : Action :=
  { ops := leAt b 0 1, cls := leAt b 1 1 % 8, session := leAt b 1 1 / 8 % 16, reason := leAt b 2 1, dest := leAt b 4 4,
    weir := leAt b 8 2, edit := leAt b 10 2, fn := leAt b 12 2 / 2 ^ 14, stream := leAt b 12 2 % 1024, district := leAt b 14 2 % 4096 }

/-- OPS bits. -/
def Action.fwd (a : Action) : Bool := a.ops.testBit 0
def Action.drops (a : Action) : Bool := a.ops.testBit 1
def Action.exc (a : Action) : Bool := a.ops.testBit 2
def Action.mirrors (a : Action) : Bool := a.ops.testBit 3
def Action.recircs (a : Action) : Bool := a.ops.testBit 4
def Action.setsClass (a : Action) : Bool := a.ops.testBit 5
def Action.setsDistrict (a : Action) : Bool := a.ops.testBit 6
def Action.stops (a : Action) : Bool := a.ops.testBit 7

/-- A stage program (R199): table, fields (HDR, OFF, LEN) and MISS. -/
structure Program where
  table : Nat := 0xFF
  fields : List (Nat × Nat × Nat) := []
  miss : Action := { weir := 0xFFFF, edit := 0xFFFF }
deriving DecidableEq, Repr

/-- A stage program from its record's body; without a record, one that changes nothing. -/
def programOf (body : Option (List Byte)) : Program :=
  match body with
  | none => {}
  | some b => { table := leAt b 0 1,
                fields := (List.range (Nat.min 8 (leAt b 1 1))).map (fun i =>
                  (leAt b (4 + 4 * i) 1, leAt b (5 + 4 * i) 1, leAt b (6 + 4 * i) 1)),
                miss := actionOf (slice b 0x24 16) }

/-- What a frame has become so far in the stages. -/
structure Ctx where
  frame : Frame
  parsed : Parsed
  district : Nat
  cls : Nat
  colour : Nat
  untrusted : Bool := false
  l2only : Bool := false
  de : Bool := false
  setPcp : Option Nat := none
  dest : Option Nat := none
  edit : Option Nat := none
  stream : Option (Nat × Nat) := none
  exc : Option (Nat × Nat) := none
  mirror : Option Nat := none
  drop : Bool := false
  recirc : Bool := false
  killed : Bool := false
  done : Bool := false
deriving DecidableEq, Repr

/-- Metadata byte 0x00 of an ingress (R201). -/
def ingressCode (i : Nat) : Nat := if i < 29 then i else i + 3

/-- Metadata byte 0x05 (R201). -/
def Ctx.flags (c : Ctx) : Nat :=
  c.parsed.truncated.toNat + 2 * c.untrusted.toNat + 4 * c.frame.verified.toNat + 16 * c.frame.pass

/-- The 16 metadata bytes (R201). -/
def Ctx.metadata (c : Ctx) : List Byte :=
  padTo 16 ([byte (ingressCode c.frame.ingress), byte c.cls] ++ (beBytes 2 c.district ++ ([byte c.colour, byte c.flags] ++
    (beBytes 2 (c.parsed.vid c.frame.bytes 0) ++ (beBytes 2 (c.parsed.vid c.frame.bytes 1) ++ [byte c.parsed.hdrs.length])))))

/-- Where a header reference starts in the frame (R200); none for metadata or an absent header. -/
def Parsed.start (p : Parsed) (hdr : Nat) : Option Nat :=
  if hdr < 0x40 then (p.hdrs.find? (fun h => h.node == hdr)).map (fun h => h.off)
  else if hdr < 0x80 then (p.hdrs.reverse.find? (fun h => h.node == hdr - 0x40)).map (fun h => h.off)
  else if hdr = 0x80 then some 0
  else if hdr = 0x81 then p.l3
  else if hdr = 0x82 then p.l4
  else none

/-- A field's bytes where it is present (R200, R188). -/
def Ctx.field (c : Ctx) (f : Nat × Nat × Nat) : Option (List Byte) :=
  let (hdr, off, len) := f
  if hdr = 0x83 then if off + len ≤ 16 then some (slice c.metadata off len) else none
  else match c.parsed.start hdr with
    | none => none
    | some a =>
      let hidden := c.l2only && (match c.parsed.l3 with
        | some l => decide (l ≤ a + off)
        | none => false)
      if a + off + len ≤ window && decide (a + off + len ≤ c.parsed.effEnd) && !hidden then some (slice c.frame.bytes (a + off) len)
      else none

/-- A field as it reads: an absent one as zeros (R200). -/
def Ctx.reads (c : Ctx) (f : Nat × Nat × Nat) : List Byte := (c.field f).getD (List.replicate f.2.2 0)

/-- The key of a stage: its bytes and the validity byte (R200). -/
def Ctx.key (c : Ctx) (fs : List (Nat × Nat × Nat)) : List Byte × Nat :=
  (fs.flatMap c.reads,
   ((List.range fs.length).map (fun i => match fs[i]? with
     | some f => if (c.field f).isSome then 2 ^ i else 0
     | none => 0)).sum)

/-- Kinds of table (R207). -/
inductive TableKind where
  | learning | exact | ternary | span | index
deriving DecidableEq, Repr

/-- The kind of table `t`. -/
def tableKind (t : Nat) : TableKind :=
  if t = 0 then .learning else if t < 16 then .exact else if t < 24 then .ternary else if t < 28 then .span else .index

/-- ENTRIES and KEY_BYTES of a table's shape in a set of records (R656); none where the table is absent. -/
def shapeIn (rs : List Rec) (t : Nat) : Option (Nat × Nat) := (recBody rs 3 t 0).map (fun b => (leAt b 0 4, leAt b 4 1))

/-- Number of leading bits in which two byte strings agree, at most `n`. -/
def agreeing (n : Nat) (a b : List Byte) : Bool :=
  be (padTo 16 a) / 2 ^ (128 - n) == be (padTo 16 b) / 2 ^ (128 - n)

/-- PREFIX_LEN of a prefix entry. -/
def TblEntry.prefixLen (e : TblEntry) : Nat := leAt e.mask 0 1

/-- Bytes equal under a mask, as far as the mask reaches. -/
def maskedEq (mask a b : List Byte) : Bool :=
  (List.range mask.length).all (fun i => byteAt a i &&& byteAt mask i == byteAt b i &&& byteAt mask i)

/-- The entry a key finds (R196, R208): an exact entry, the matching ternary entry with the lowest index, or the longest
matching prefix (whose key is FIELD[0] alone). -/
def findEntry (kind : TableKind) (es : List TblEntry) (district : Nat) (key : List Byte) (valid : Nat) (field0 : List Byte) :
    Option TblEntry :=
  match kind with
  | .exact => es.find? (fun e => e.district == district && (e.valid == valid && e.key == key))
  | .ternary => (sortBy (fun a b => decide (a.index ≤ b.index)) es).find? (fun e =>
      (e.district &&& e.dmask == district &&& e.dmask) && ((e.valid &&& e.vmask == valid &&& e.vmask) && maskedEq e.mask e.key key))
  | .span => (sortBy (fun x y => decide (y.prefixLen ≤ x.prefixLen)) es).find? (fun e =>
      e.district == district && agreeing e.prefixLen e.key field0)
  | _ => none

/-- The action set of a stage (R199, R207): the matching entry's, else MISS; a table absent or under roadworks always misses. -/
def State.stageAction (s : State) (c : Ctx) (pg : Program) : Action :=
  if pg.table = 0xFF || s.tbl.works.contains pg.table then pg.miss
  else if 1 ≤ pg.table && decide (pg.table ≤ 27) && (shapeIn (s.recsAt c.frame.epoch) pg.table).isNone then pg.miss
  else
    let k := c.key pg.fields
    match findEntry (tableKind pg.table) (s.tableAt c.frame.epoch pg.table) c.district k.1 k.2 ((pg.fields.head?.map c.reads).getD []) with
    | some e => actionOf e.result
    | none => pg.miss

/-- A district definition (R192). -/
structure District where
  portMask : Nat
  laneMask : Nat
  learn : Bool
  floodGroup : Nat
  weirBase : Nat
  weirCount : Nat
  hostqBase : Nat
  hostqCount : Nat
  learnLimit : Nat
deriving DecidableEq, Repr

/-- A district from its record's body. -/
def districtOf (b : List Byte) : District :=
  ⟨leAt b 0 4, leAt b 4 1, (leAt b 5 1).testBit 0, leAt b 6 2, leAt b 8 2, leAt b 10 2, leAt b 12 2, leAt b 14 2, leAt b 16 4⟩

/-- The definition of a district in the epoch a frame carries. -/
def State.districtAt (s : State) (epoch d : Nat) : Option District := (recBody (s.recsAt epoch) 6 0xFFFF d).map districtOf

/-- What an action set does before its weir (R204): each field only with its OPS bit; SET_CLASS not for an untrusted frame. -/
def Ctx.apply (c : Ctx) (stage : Nat) (a : Action) : Ctx :=
  { c with
    dest := if a.fwd && decide (a.dest / 2 ^ 28 ≠ 0) then some a.dest else c.dest,
    cls := if a.setsClass && !c.untrusted then a.cls else c.cls,
    district := if a.setsDistrict && decide (stage < 2) then a.district else c.district,
    exc := if a.exc then some (a.reason, stage) else c.exc,
    mirror := if a.mirrors then some a.session else c.mirror,
    edit := if a.edit = 0xFFFF then c.edit else some a.edit,
    stream := if a.fn = 0 then c.stream else some (a.fn, a.stream),
    drop := c.drop || a.drops,
    recirc := c.recirc || a.recircs,
    done := c.done || a.stops }

/-- A frame meets the weir of a stage (R198, R224, R225). -/
def State.stageWeir (s : State) (c : Ctx) (d : District) (w : Nat) : State × Ctx :=
  if w = 0xFFFF then (s, c)
  else if d.weirBase ≤ w && decide (w < d.weirBase + d.weirCount) then
    let (s, colour) := s.meter w c.frame.stamp.ns c.frame.rxLen c.colour
    let cfg := s.rd .prs (weirReg w 0)
    let remark := field cfg 22 20
    let c := { c with colour := Nat.max c.colour colour }
    match field cfg (2 * colour + 1) (2 * colour) with
    | 0 => (s, c)
    | 1 => (s, { c with cls := if c.untrusted then c.cls else remark, setPcp := some remark })
    | 2 => (s, { c with de := true })
    | _ => (s.bump .prs (prsCounter c.frame.ingress 5), { c with killed := true, done := true })
  else ((s.bump .prs (prsCounter c.frame.ingress 4)).prsErr 3 c.frame.ingress c.district (p2 w), { c with killed := true, done := true })

/-- A frame whose district is not defined is dropped (R195). -/
def State.districtMissing (s : State) (c : Ctx) : State × Ctx :=
  ((s.bump .prs (prsCounter c.frame.ingress 3)).prsErr 2 c.frame.ingress c.district [], { c with killed := true, done := true })

/-- One stage (R199-R204). -/
def State.runStage (s : State) (c : Ctx) (i : Nat) : State × Ctx :=
  if c.done then (s, c)
  else
    let a := s.stageAction c (programOf (recBody (s.recsAt c.frame.epoch) 4 i i))
    let c1 := c.apply i a
    match s.districtAt c.frame.epoch c1.district with
    | none => s.districtMissing c1
    | some d => s.stageWeir c1 d a.weir

/-- Stages 0-11 in order. -/
def State.runStages (s : State) (c : Ctx) : State × Ctx := (List.range 12).foldl (fun sc i => sc.1.runStage sc.2 i) (s, c)

end Sys2Proof.Machine
end

