-- ==== Sys2Proof/Machine/Edits.lean ====
section
/-!
DEFINITION. Edit programs (05_classification.md R206), tag remarks (R225) and 802.1CB sequence generation and recovery
(R215-R219) on the bytes of a frame.
-/
namespace Sys2Proof.Machine

/-- A frame's bytes with its header instances, the end of what an edit may write (the parse window, R206) and of what it may read (the
effective end, R189), all kept in step while bytes are inserted and removed; `failed` holds the counter of the ingress that a failing
operation counts. -/
structure Edited where
  bytes : List Byte
  hdrs : List Hdr
  l3 : Option Nat
  l4 : Option Nat
  reach : Nat := 0
  readTo : Nat := 0
  failed : Option Nat := none
deriving DecidableEq, Repr

/-- Inserts bytes at an offset; what began there or later moves. -/
def Edited.insert (e : Edited) (at_ : Nat) (new : List Byte) : Edited :=
  let move := fun (o : Nat) => if at_ ≤ o then o + new.length else o
  { e with bytes := e.bytes.take at_ ++ (new ++ e.bytes.drop at_),
           hdrs := e.hdrs.map (fun h => { h with off := move h.off }), l3 := e.l3.map move, l4 := e.l4.map move,
           reach := e.reach + new.length, readTo := e.readTo + new.length }

/-- Removes `n` bytes at an offset with the headers that begin inside them; what began later moves. -/
def Edited.remove (e : Edited) (at_ n : Nat) : Edited :=
  let move := fun (o : Nat) => if at_ + n ≤ o then o - n else o
  { e with bytes := e.bytes.take at_ ++ e.bytes.drop (at_ + n),
           hdrs := (e.hdrs.filter (fun h => !(decide (at_ ≤ h.off) && decide (h.off < at_ + n)))).map (fun h => { h with off := move h.off }),
           l3 := e.l3.map move, l4 := e.l4.map move, reach := e.reach - n, readTo := e.readTo - n }

/-- Writes bytes over the frame. DEDUCED: a write that would leave the parse window is skipped whole, as one that names a header not
present is (R206; notes/assumptions/158.md). -/
def Edited.write (e : Edited) (at_ : Nat) (new : List Byte) : Edited :=
  if at_ + new.length ≤ e.reach then { e with bytes := overwrite e.bytes at_ new } else e

/-- May an operation read `n` bytes at an offset (R189)? -/
def Edited.mayRead (e : Edited) (at_ n : Nat) : Bool := decide (at_ + n ≤ e.readTo)

/-- The tag headers, outermost first. -/
def Edited.tags (e : Edited) : List Hdr := e.hdrs.filter (fun h => h.role == 2)

/-- Where a header reference starts (R200). -/
def Edited.start (e : Edited) (hdr : Nat) : Option Nat :=
  Parsed.start { hdrs := e.hdrs, l3 := e.l3, l4 := e.l4 } hdr

/-- Incremental update of a one's complement checksum when a 16-bit word changes from `m` to `m'` (RFC 1624). -/
def checksumUpdate (sum m m' : Nat) : Nat :=
  let t := (65535 - sum) + (65535 - m) + m'
  let t := t % 65536 + t / 65536
  65535 - (t % 65536 + t / 65536)

/-- Replaces the 16-bit word at `at_` of the IPv4 header at `ip`, updating the header checksum. -/
def Edited.ipWord (e : Edited) (ip at_ new : Nat) : Edited :=
  let old := beAt e.bytes at_ 2
  let sum := beAt e.bytes (ip + 10) 2
  (e.write at_ (beBytes 2 new)).write (ip + 10) (beBytes 2 (checksumUpdate sum old new))

/-- May an operation on the IP header read what it needs: for IPv4 up to the header checksum, for IPv6 up to the hop limit? -/
def Edited.ipReads (e : Edited) (h : Hdr) : Bool := e.mayRead h.off (if h.role = 5 then 12 else 8)

/-- The first IP header. -/
def Edited.ip (e : Edited) : Option Hdr := e.hdrs.find? (fun h => h.role == 5 || h.role == 6)

/-- Sets PCP of the outer tag; nothing without a tag. -/
def Edited.setPcp (e : Edited) (pcp : Nat) : Edited :=
  match e.tags with
  | [] => e
  | t :: _ => e.write t.off [byte (byteAt e.bytes t.off % 32 + 32 * pcp)]

/-- Sets DEI of the outer tag; nothing without a tag. -/
def Edited.setDei (e : Edited) : Edited :=
  match e.tags with
  | [] => e
  | t :: _ => e.write t.off [byte (byteAt e.bytes t.off ||| 16)]

/-- Ingress counters that a failing edit counts: prs.drop.ttl and prs.drop.action. -/
def ttlCounter : Nat := 8
def actionCounter : Nat := 6

/-- One operation of an edit program: OP, HDR, OFF, LEN, VALUE (R206). DEDUCED: an operation that would have to read a byte at or after the
effective end is skipped (R189; notes/assumptions/158.md). -/
def Edited.op (e : Edited) (op hdr off len value : Nat) : Edited :=
  match op with
  | 1 => match e.start hdr with
    | none => e
    | some a => e.write (a + off) (beBytes len (value % 256 ^ len))
  | 2 =>
    if 3 ≤ e.tags.length || decide (9216 < e.bytes.length + 8) then { e with failed := some actionCounter }
    else
      let e1 := e.insert 12 (beBytes 4 value)
      { e1 with hdrs := (e1.hdrs.filter (fun h => decide (h.off < 14))) ++ (⟨64, 2, 14, 4⟩ :: e1.hdrs.filter (fun h => !decide (h.off < 14))) }
  | 3 => match e.tags with
    | [] => e
    | t :: _ =>
      let e1 := { e with hdrs := e.hdrs.filter (fun h => h.off != t.off) }
      e1.remove (t.off - 2) 4
  | 4 => match e.ip with
    | none => e
    | some h =>
      let at_ := if h.role = 5 then h.off + 8 else h.off + 7
      if !e.ipReads h then e
      else if byteAt e.bytes at_ ≤ 1 then { e with failed := some ttlCounter }
      else if h.role = 5 then e.ipWord h.off at_ (beAt e.bytes at_ 2 - 256)
      else e.write at_ [byte (byteAt e.bytes at_ - 1)]
  | 5 => match e.tags with
    | [] => e
    | t :: _ => e.write t.off [byte (byteAt e.bytes t.off % 16 + 16 * (value % 16))]
  | 6 => match e.ip with
    | none => e
    | some h =>
      if !e.ipReads h then e
      else if h.role = 5 then e.ipWord h.off h.off (byteAt e.bytes h.off * 256 + byteAt e.bytes (h.off + 1) % 4 + 4 * (value % 64))
      else e.write h.off (beBytes 2 (beAt e.bytes h.off 2 / 4096 * 4096 + value % 64 * 64 + beAt e.bytes h.off 2 % 64))
  | _ => e

/-- The operations of a program in order, up to 0x00 or a failure. -/
def Edited.run (e : Edited) (program : List Byte) : Nat → Nat → Edited
  | 0, _ => e
  | n + 1, i =>
    let op := leAt program (8 * i) 1
    if op = 0 then e
    else
      let e1 := e.op op (leAt program (8 * i + 1) 1) (leAt program (8 * i + 2) 1) (leAt program (8 * i + 3) 1) (leAt program (8 * i + 4) 4)
      if e1.failed.isSome then e1 else Edited.run e1 program n (i + 1)

/-- The R-TAG of a parsed frame. -/
def Edited.rtag (e : Edited) : Option Hdr := e.hdrs.find? (fun h => h.role == 4)

/-- Inserts an R-TAG after the last VLAN tag (R216). -/
def Edited.addRtag (e : Edited) (seq : Nat) : Edited :=
  let at_ := match e.tags.getLast? with
    | some t => t.off + 2
    | none => 12
  e.insert at_ ([0xF1, 0xC1, 0, 0] ++ beBytes 2 seq)

/-- Removes the R-TAG (R217). -/
def Edited.dropRtag (e : Edited) : Edited :=
  match e.rtag with
  | none => e
  | some h => ({ e with hdrs := e.hdrs.filter (fun x => x.off != h.off) } : Edited).remove (h.off - 2) 6

/-- Offset of counter `k` of stream `i` (R230). -/
def cbCounter (i k : Nat) : Nat := 0x40000 + 0x40 * i + 8 * k

/-- Recovery state of a stream. -/
def State.recovery (s : State) (k : Nat) : Recovery := Sparse.get (fun _ => {}) s.prs.cb k

/-- The state with a stream's recovery state replaced; its mirror record is due (14_tandem_redundancy.md R545). -/
def State.setRecovery (s : State) (k : Nat) (r : Recovery) : State :=
  { s with prs := { s.prs with cb := Sparse.put (fun _ => {}) s.prs.cb k r },
           tdm := { s.tdm with dirtyCb := if s.tdm.dirtyCb.contains k then s.tdm.dirtyCb else s.tdm.dirtyCb ++ [k] } }

/-- What recovery decides (R217): the new state, whether the frame passes, and the counters that count besides cb.passed and
cb.discarded, with how much cb.lost grows. -/
structure Recovered where
  next : Recovery
  pass : Bool
  rogue : Bool := false
  outOfOrder : Bool := false
  lost : Nat := 0
deriving DecidableEq, Repr

/-- The recovery function of R217: `alg` 1 is match recovery, `history` HISTORY, `seq` the frame's sequence. -/
def recover (r : Recovery) (alg history seq : Nat) : Recovered :=
  if r.takeAny then { next := ⟨false, seq, 1⟩, pass := true }
  else
    let d := signed 16 ((seq + 65536 - r.last) % 65536)
    if alg = 1 then if d = 0 then { next := r, pass := false } else { next := { r with last := seq }, pass := true }
    else if (history : Int) ≤ d || d ≤ -(history : Int) then { next := r, pass := false, rogue := true }
    else if d ≤ 0 then
      let o := (-d).toNat
      if r.hist.testBit o then { next := r, pass := false }
      else { next := { r with hist := r.hist + 2 ^ o }, pass := true, outOfOrder := true }
    else
      let n := d.toNat
      let leaving := (List.range n).map (fun i => if r.hist.testBit (history - 1 - i) then 0 else 1)
      { next := { r with last := seq, hist := (r.hist * 2 ^ n + 1) % 2 ^ history }, pass := true, lost := leaving.sum }

/-- The 802.1CB entry of a stream. -/
def State.streamEntry (s : State) (k : Nat) : List Byte :=
  match (Sparse.get (fun _ => []) s.tbl.entries 30).find? (fun e => e.index == k) with
  | some e => padTo 16 e.result
  | none => []

/-- Writes GEN_SEQ of a stream into its entry. -/
def State.setGenSeq (s : State) (k v : Nat) : State :=
  let es := (Sparse.get (fun _ => []) s.tbl.entries 30).map (fun e =>
    if e.index = k then { e with result := overwrite (padTo 16 e.result) 4 (leBytes 2 v) } else e)
  { s with tbl := { s.tbl with entries := Sparse.put (fun _ => []) s.tbl.entries 30 es },
           tdm := { s.tdm with dirtyCb := if s.tdm.dirtyCb.contains k then s.tdm.dirtyCb else s.tdm.dirtyCb ++ [k] } }

/-- Sequence generation for a frame of stream `k` (R216). -/
def State.generate (s : State) (e : Edited) (k : Nat) : State × Edited :=
  let seq := leAt (s.streamEntry k) 4 2
  ((s.setGenSeq k ((seq + 1) % 65536)).bump .prs (cbCounter k 0), e.addRtag seq)

/-- Sequence recovery of a frame of stream `k` (R217): whether it passes. -/
def State.recoverFrame (s : State) (e : Edited) (k : Nat) (strip : Bool) : State × Edited × Bool :=
  match e.rtag with
  | none => ((s.bump .prs (cbCounter k 2)).bump .prs (cbCounter k 6), e, false)
  | some h =>
    let b := s.streamEntry k
    let r := recover (s.recovery k) (leAt b 0 1) (leAt b 1 1) (beAt e.bytes (h.off + 2) 2)
    let s1 := s.setRecovery k r.next
    let s2 := if r.rogue then s1.bump .prs (cbCounter k 4) else s1
    let s3 := if r.outOfOrder then s2.bump .prs (cbCounter k 3) else s2
    let s4 := s3.bumpBy .prs (cbCounter k 5) r.lost
    let d := signed 16 ((beAt e.bytes (h.off + 2) 2 + 65536 - (s.recovery k).last) % 65536)
    let mask := Sparse.get (fun _ => 0) s.tdm.cbGuard k
    let s5 := if !r.pass && decide (d ≤ 0) && mask.testBit (-d).toNat then s4.bump .tdm 0x480
      else if r.pass && decide (0 < d) then
        { s4 with tdm := { s4.tdm with cbGuard := Sparse.put (fun _ => 0) s4.tdm.cbGuard k (mask * 2 ^ d.toNat % 2 ^ 32) } }
      else s4
    (s5.bump .prs (cbCounter k (if r.pass then 1 else 2)), if r.pass && strip then e.dropRtag else e, r.pass)

end Sys2Proof.Machine
end

