-- ==== Sys2Proof/Machine/Tables.lean ====
section
/-!
DEFINITION. Table memories (05_classification.md R207-R214): entries, learning, run-time writes and batches. Where the device places
an exact, prefix or learning entry is its choice (R657): this model takes the lowest free index.
-/
namespace Sys2Proof.Machine

/-- The entries of a table. -/
def State.table (s : State) (t : Nat) : List TblEntry := Sparse.get (fun _ => []) s.tbl.entries t

/-- The state with the entries of a table replaced. -/
def State.setTable (s : State) (t : Nat) (es : List TblEntry) : State :=
  { s with tbl := { s.tbl with entries := Sparse.put (fun _ => []) s.tbl.entries t es } }

/-- The stored bytes of an entry: what tells it apart from every other entry of its table, then its result. -/
def TblEntry.stored (e : TblEntry) : List Byte :=
  leBytes 2 e.district ++ (leBytes 2 e.dmask ++ (leBytes 1 e.valid ++ (leBytes 1 e.vmask ++ (e.key ++ (e.mask ++ e.result)))))

/-- The checksum of a table's valid entries, which every write and invalidation keeps in step (R584 of chapter 15). -/
def tableSum (es : List TblEntry) : Nat := es.foldl (fun a e => a ^^^ crc32c (leBytes 4 e.index ++ e.stored)) 0

/-- The lowest index below `n` that no entry has. -/
def freeIndex (es : List TblEntry) (n : Nat) : Option Nat :=
  (List.range (Nat.min n (es.length + 1))).find? (fun i => !es.any (fun e => e.index == i))

/-- Entries that table 0 can hold (R207). -/
def learnSize : Nat := 65536

/-- Key bytes of a learning entry: MAC, then VID (R234). -/
def learnKey (mac : List Byte) (vid : Nat) : List Byte := padTo 6 mac ++ leBytes 2 vid

/-- The learning entry of a district, VID and MAC. -/
def State.station (s : State) (district vid : Nat) (mac : List Byte) : Option TblEntry :=
  (s.table 0).find? (fun e => e.district == district && e.key == learnKey mac vid)

/-- The port of a learning entry. -/
def TblEntry.port (e : TblEntry) : Nat := leAt e.result 0 1 % 32

/-- The body of one entry of a LEARN mirror record (14_tandem_redundancy.md R538): OP, PORT, DISTRICT, VID, MAC, AGE. -/
def learnRecord (op port district vid : Nat) (mac : List Byte) (age : Nat) : List Byte :=
  [byte op, byte port] ++ (beBytes 2 district ++ (beBytes 2 vid ++ (padTo 6 mac ++ (beBytes 2 age ++ [0, 0]))))

/-- Does a resolution run whose pairing still mirrors: there is a partner, and the trigger did not come in FROZEN
(14_tandem_redundancy.md R541, R552)? -/
def State.resolvingMirror (s : State) : Bool :=
  decide (s.tdm.state = .resolving) && (s.tdm.partner.isSome && (s.tdm.resolution.map (fun r => !r.frozen)).getD false)

/-- Is the member an active one with a standby to mirror to (14_tandem_redundancy.md R545)? -/
def State.mirroring (s : State) : Bool := s.tdm.active && (decide (s.tdm.state = .paired) || s.resolvingMirror)

/-- Puts a record in the tandem transmit buffer (14_tandem_redundancy.md R536, R540): a mirror record takes the next SEQ and
is lost with MIRROR_OVERFLOW where the 256 KiB buffer is full, and its SEQ is then as though sent; a digest record is not sent above half of it. -/
def State.queueTandem (s : State) (precedence type : Nat) (body : List Byte) : State :=
  let used := (s.tdm.tx.map (fun r => if r.bulk then 0 else 16 + r.body.length)).sum
  if precedence = 2 && decide (262144 < used + 16 + body.length) then
    ({ s with tdm := { s.tdm with nextSeq := (s.tdm.nextSeq + 1) % 2 ^ 32, sentSeq := s.tdm.nextSeq } }.setErr .tdm 0x1C 3 1547 (p4 0)).bump .tdm 0x460
  else if precedence = 3 && decide (131072 < used) then s.bump .tdm 0x458
  else
    let s1 := { s with tdm := { s.tdm with
      tx := s.tdm.tx ++ [⟨precedence, type, s.tdm.nextSeq, body, false⟩],
      nextSeq := if precedence = 2 then (s.tdm.nextSeq + 1) % 2 ^ 32 else s.tdm.nextSeq } }
    if precedence = 3 then s1.bump .tdm 0x438 else s1

/-- Mirrors a change of the learning table (R545). -/
def State.mirrorLearn (s : State) (op port district vid : Nat) (mac : List Byte) : State :=
  if s.mirroring then s.queueTandem 2 0x10 (beBytes 2 1 ++ ([0, 0] ++ learnRecord op port district vid mac 0)) else s

/-- A refused learning request (R210). -/
def State.learnRefused (s : State) (port district : Nat) (mac : List Byte) : State :=
  (s.bump .tbl 0x8410).prsErr 8 port district mac

/-- Learns a station (R210): refreshes, moves or adds a dynamic entry, or refuses the request. -/
def State.learn (s : State) (district vid : Nat) (mac : List Byte) (port limit : Nat) : State :=
  if s.tbl.works.contains 0 then s.learnRefused port district mac
  else match s.station district vid mac with
  | some e =>
    if e.fixed then s
    else
      let es := (s.table 0).map (fun x => if x.index = e.index then { x with result := [byte port], refreshed := s.nowNs } else x)
      if e.port = port then s.setTable 0 es
      else ((((s.setTable 0 es).bump .tbl 0x8408).prsErr 9 port district mac)).mirrorLearn 1 port district vid mac
  | none =>
    let mine := ((s.table 0).filter (fun e => e.district == district && !e.fixed)).length
    match freeIndex (s.table 0) learnSize with
    | none => s.learnRefused port district mac
    | some i =>
      if limit ≠ 0 && decide (limit ≤ mine) then s.learnRefused port district mac
      else
        let e : TblEntry := { index := i, district := district, key := learnKey mac vid, result := [byte port], refreshed := s.nowNs }
        ((s.setTable 0 ((s.table 0) ++ [e])).bump .tbl 0x8400).mirrorLearn 1 port district vid mac

/-- Removes the dynamic entries that point to a port, each counted in tbl.learn.flushed (R150, R210). -/
def State.flushPort (s : State) (port : Nat) : State :=
  let gone := fun (e : TblEntry) => !e.fixed && e.port == port
  let n := ((s.table 0).filter gone).length
  let s1 := (s.setTable 0 ((s.table 0).filter (fun e => !gone e))).bumpBy .tbl 0x8420 n
  if n = 0 then s else s1.mirrorLearn 3 port 0 0 []

/-- The shape in force of a table (TBL_SHAPE, R234): entries, key bytes, type code. -/
def State.shapeSize (s : State) (t : Nat) : Nat := s.fld .tbl (0x8200 + 4 * t) 18 0
def State.shapeKey (s : State) (t : Nat) : Nat := s.fld .tbl (0x8200 + 4 * t) 27 22
def State.shapeType (s : State) (t : Nat) : Nat := s.fld .tbl (0x8200 + 4 * t) 31 28

end Sys2Proof.Machine
end

