-- ==== Sys2Proof/Machine/Cistern.lean ====
section
/-!
DEFINITION. The cistern (06_switch_core.md R235-R271): cells and banks, accounts and admission, release, XOFF, frames and copies
dropped. What an account uses is always computed from the frames it holds.
-/
namespace Sys2Proof.Machine

/-- Descriptors of the device (R237). -/
def descriptors : Nat := 65536

/-- Cells of a frame of `n` stored bytes (R235). -/
def cellsOf (n : Nat) : Nat := ceilDiv n 64

/-- Cells of a held frame. -/
def Held.cells (h : Held) : Nat := cellsOf h.frame.bytes.length

/-- A held frame by its identifier. -/
def State.heldFrame (s : State) (id : Nat) : Option Held := s.cis.held.find? (fun h => h.frame.id == id)

/-- A copy by its identifier. -/
def State.copyOf (s : State) (id : Nat) : Option Copy := s.cis.copies.find? (fun c => c.id == id)

/-- The held frame of a copy. -/
def State.frameOf (s : State) (c : Copy) : Held := (s.heldFrame c.frame).getD { frame := {} }

/-- A bank. -/
def State.bank (s : State) (b : Nat) : Bank := Sparse.get (fun _ => {}) s.cis.bank b

/-- The state with a bank replaced. -/
def State.setBank (s : State) (b : Nat) (v : Bank) : State :=
  { s with cis := { s.cis with bank := Sparse.put (fun _ => {}) s.cis.bank b v } }

/-- Is a bank in service? -/
def State.bankIn (s : State) (b : Nat) : Bool := (s.bank b).state = .inService

/-- Banks in RETIRING, RETIRED or ROADWORKS (R285). -/
def State.banksRetired (s : State) : Nat := ((List.range 64).filter (fun b => !s.bankIn b)).length

/-- Usable cells (02_ikiem_images.md R91; R268). -/
def State.usable (s : State) : Nat := 520192 - 8192 * ((List.range 64).filter (fun b => (s.bank b).stopped)).length

/-- The usable cells as the check at a commit instant sees them: a bank that retires is gone (R270). -/
def State.usableAtT (s : State) : Nat :=
  520192 - 8192 * ((List.range 64).filter (fun b => (s.bank b).stopped || (match (s.bank b).state with
    | .retiring _ => true
    | _ => false))).length

/-- Sum of the minima in force. -/
def minSum (ls : List (Acct × Limits)) : Nat := (ls.map (fun e => e.2.min)).sum

/-- The shared pool (R259). -/
def State.poolSize (s : State) : Nat := s.usable - minSum s.cis.limits

/-- Limits of an account (R256). -/
def State.limitsOf (s : State) (a : Acct) : Limits :=
  match a.district with
  | none => { max := Nat.min (s.fld .cis 0 19 0) s.usable }
  | some _ => ((s.cis.limits.find? (fun e => e.1 == a)).map (fun e => e.2)).getD {}

/-- The account a frame or copy of a district is charged to (R256). -/
def State.acctFor (s : State) (egress : Bool) (lane cls district : Nat) : Acct :=
  let a : Acct := ⟨egress, lane, cls, some district⟩
  if s.cis.limits.any (fun e => e.1 == a) && (egress || decide (lane ≠ 23 ∧ lane ≠ 24 ∧ lane ≠ 26)) then a
  else ⟨egress, lane, cls, none⟩

/-- Cells an account holds (R259, R262). -/
def State.acctUsed (s : State) (a : Acct) : Nat :=
  if a.egress then ((s.cis.copies.filter (fun c => c.acct == some a)).map (fun c => (s.frameOf c).charge)).sum
  else ((s.cis.held.filter (fun h => h.inAcct == some a)).map (fun h => h.charge)).sum

/-- Cells backed by an account's own reservation. -/
def State.acctRes (s : State) (a : Acct) : Nat :=
  if a.egress then ((s.cis.held.filter (fun h => h.egAcct == some a)).map (fun h => h.bEg)).sum
  else ((s.cis.held.filter (fun h => h.inAcct == some a)).map (fun h => h.bIn)).sum

/-- Shared cells in use. -/
def State.poolUsed (s : State) : Nat := (s.cis.held.map (fun h => h.bSh)).sum

/-- All cells held. -/
def State.cellsUsed (s : State) : Nat := (s.cis.held.map (fun h => h.charge)).sum

/-- Output lanes with a fixed pool, and its size (R257). -/
def fixedPool (lane : Nat) : Option Nat :=
  if lane = 23 then some 1024 else if lane = 24 then some 1024 else if lane = 26 then some 2048 else none

/-- Cells charged to the fixed pool of an output lane. -/
def State.fixedUsed (s : State) (lane : Nat) : Nat :=
  ((s.cis.copies.filter (fun c => c.outLane == lane)).map (fun c => (s.frameOf c).charge)).sum

/-- Body of the port record of region 0x07 (R254). -/
def State.portRecord (s : State) (p : Nat) : Option (List Byte) := recBody s.recs 7 0xFFFF (2 ^ 18 + 256 * p)

/-- CT_MASK, XOFF and XON of a port in force (R254, R255). -/
def State.ctMask (s : State) (p : Nat) : Nat := ((s.portRecord p).map (fun b => leAt b 0 1)).getD 0
def State.xoffAt (s : State) (p c : Nat) : Nat := ((s.portRecord p).map (fun b => leAt b (4 + 2 * c) 2)).getD 0
def State.xonAt (s : State) (p c : Nat) : Nat := ((s.portRecord p).map (fun b => leAt b (20 + 2 * c) 2)).getD 0

/-- The class a held frame was decided in: that of its ingress account, else of its first copy. -/
def State.heldClass (s : State) (h : Held) : Nat :=
  match h.inAcct with
  | some a => a.cls
  | none => ((s.cis.copies.find? (fun c => c.frame == h.frame.id)).map (fun c => c.cls)).getD 0

/-- Cells held by frames of a port and class, over all districts (R264). -/
def State.portCells (s : State) (p c : Nat) : Nat :=
  ((s.cis.held.filter (fun h => h.frame.ingress == p && s.heldClass h == c)).map (fun h => h.charge)).sum

/-- The classes of a port in XOFF after the thresholds are applied to the cells held now (R264). -/
def State.xoffNow (s : State) (p : Nat) : Nat :=
  ((List.range 8).map (fun c =>
    let was := (Sparse.get (fun _ => 0) s.cis.xoff p).testBit c
    let n := s.portCells p c
    if s.xoffAt p c = 0 || isSPort p then 0
    else if s.xoffAt p c ≤ n then 2 ^ c
    else if n ≤ s.xonAt p c then 0
    else if was then 2 ^ c else 0)).sum

/-- Applies the XOFF thresholds of every port. -/
def State.updateXoff (s : State) : State :=
  { s with cis := { s.cis with xoff := (List.range 21).foldl (fun m p => Sparse.put (fun _ => 0) m p (s.xoffNow p)) s.cis.xoff } }

/-- Releases every frame that no copy reads any more (R239, R262), unlocks lanes of copies that are gone (R250), and lets E543
be raised again once a descriptor is free (R279). -/
def State.release (s : State) : State :=
  let live := fun (h : Held) => s.cis.copies.any (fun c => c.frame == h.frame.id)
  let s1 := { s with
    cis := { s.cis with held := s.cis.held.filter live, descWas := s.cis.descWas && decide (descriptors ≤ s.cis.copies.length) },
    xbr := { s.xbr with lock := s.xbr.lock.filter (fun l => s.cis.copies.any (fun c => c.id == l.2.2)) } }
  s1.updateXoff

/-- Drops copies, leaving the rest of each frame. -/
def State.dropCopies (s : State) (gone : Copy → Bool) : State :=
  ({ s with cis := { s.cis with copies := s.cis.copies.filter (fun c => !gone c) } }).release

/-- Drops frames with all their copies. -/
def State.dropFrames (s : State) (gone : Held → Bool) : State :=
  let ids := (s.cis.held.filter gone).map (fun h => h.frame.id)
  s.dropCopies (fun c => ids.contains c.frame)

/-- A fresh identifier. -/
def State.freshId (s : State) : State := { s with cis := { s.cis with nextId := s.cis.nextId + 1 } }

/-- A frame arrives at classification: it waits there, or is dropped under parser roadworks (02_ikiem_images.md R89). -/
def State.toClassify (s : State) (f : Frame) : State :=
  if s.prs.roadworks then s.roadworksDrop f else { s with prs := { s.prs with wait := s.prs.wait ++ [f] } }

/-- The parser enters roadworks: the frames waiting in it are lost and counted (02_ikiem_images.md R88). -/
def State.beginParserWorks (s : State) : State :=
  s.prs.wait.foldl (fun (t : State) f => t.roadworksDrop f) { s with prs := { s.prs with wait := [], roadworks := true } }

/-- The banks of `n` cells from bank `b` on: consecutive banks in service, wrapping (R236). -/
def State.banksFrom (s : State) (b : Nat) : Nat → List Nat
  | 0 => []
  | n + 1 =>
    let k := ((List.range 64).find? (fun i => s.bankIn ((b + i) % 64))).getD 0
    (b + k) % 64 :: State.banksFrom s ((b + k + 1) % 64) n

/-- Counts one admission drop (R260): the check's counter, and rx.drop.overflow of an Ethernet port. -/
def State.admitDrop (s : State) (f : Frame) (off : Nat) : State :=
  let s1 := s.bump .cis off
  if f.ingress < 29 then s1.bump .eth (ethReg f.ingress 0x4D8) else s1

/-- One destination copy that classification asks for: output lane, class, destination, cut-through. -/
structure CopyReq where
  lane : Nat
  cls : Nat
  dest : Dest
  cut : Bool
deriving DecidableEq, Repr

/-- What the cistern decides of a frame (R259): the counter of the first failing check, or the copies kept and the backing. -/
inductive Admission where
  | refused (counter : Nat)
  | admitted (keep : List (CopyReq × Option Acct)) (bIn bEg bSh : Nat) (inAcct egAcct : Option Acct)
deriving DecidableEq, Repr

/-- The charge of a frame at its first cell (R258). -/
def chargeOf (f : Frame) : Nat :=
  match f.provisional with
  | some n => n
  | none => cellsOf f.bytes.length

/-- The admission decision (R257, R259). -/
def State.admission (s : State) (f : Frame) (district cls : Nat) (de : Bool) (reqs : List CopyReq) : Admission :=
  let l := chargeOf f
  let fits := fun (r : CopyReq) => match fixedPool r.lane with
    | some cap => decide (s.fixedUsed r.lane + l ≤ cap)
    | none => false
  let fixed := (reqs.filter fits).map (fun r => (r, (none : Option Acct)))
  let others := reqs.filter (fun r => (fixedPool r.lane).isNone)
  if descriptors < s.cis.copies.length + reqs.length then .refused 0x408
  else if others.isEmpty then
    if fixed.isEmpty then .refused 0x418 else .admitted fixed 0 0 0 none none
  else
    let i := s.acctFor false f.lane cls district
    if (s.limitsOf i).max < s.acctUsed i + l then .refused 0x410
    else
      let keep := (others.map (fun r => (r, some (s.acctFor true r.lane r.cls district)))).filter
        (fun e => match e.2 with
          | some a => decide (s.acctUsed a + l ≤ (s.limitsOf a).max)
          | none => false)
      match keep with
      | [] => .refused 0x418
      | (r, a) :: rest =>
        let e := a.getD i
        let bIn := if de then 0 else Nat.min l ((s.limitsOf i).min - s.acctRes i)
        let bEg := if de then 0 else Nat.min (l - bIn) ((s.limitsOf e).min - s.acctRes e)
        let bSh := l - bIn - bEg
        if de && decide (s.poolSize * s.fld .cis 0 31 25 / 100 < s.poolUsed + l) then .refused 0x420
        else if s.poolSize < s.poolUsed + bSh then .refused 0x428
        else .admitted ((r, a) :: rest ++ fixed) bIn bEg bSh (some i) (some e)

/-- Copies refused by their egress account or fixed pool alone: cis.drop.egress counts them (R259). -/
def State.egressRefused (s : State) (f : Frame) (district : Nat) (reqs : List CopyReq) : Nat :=
  (reqs.filter (fun r => match fixedPool r.lane with
    | some cap => decide (cap < s.fixedUsed r.lane + chargeOf f)
    | none =>
      let a := s.acctFor true r.lane r.cls district
      decide ((s.limitsOf a).max < s.acctUsed a + chargeOf f))).length

/-- Adds the copies of an admitted frame to the queues, in destination order. -/
def State.addCopies (s : State) (f : Frame) : List (CopyReq × Option Acct) → State
  | [] => s
  | (r, a) :: rest =>
    let c : Copy := { id := s.cis.nextId, frame := f.id, inLane := f.lane, outLane := r.lane, cls := r.cls, dest := r.dest,
                      cut := r.cut, acct := a }
    State.addCopies ({ s with cis := { s.cis with copies := s.cis.copies ++ [c] } }).freshId f rest

/-- The charge returned at the last cell (R261): from the shared pool first, then the egress reserve, then the ingress reserve. -/
def Held.settled (h : Held) : Held :=
  let d := h.charge - h.cells
  let fromSh := Nat.min d h.bSh
  let fromEg := Nat.min (d - fromSh) h.bEg
  { h with frame := { h.frame with whole := true, provisional := none }, charge := h.charge - d,
           bSh := h.bSh - fromSh, bEg := h.bEg - fromEg, bIn := h.bIn - (d - fromSh - fromEg) }

/-- The last byte of frame `id` has arrived and passed the checks (R242, R261). -/
def State.frameWhole (s : State) (id : Nat) : State :=
  ({ s with cis := { s.cis with held := s.cis.held.map (fun (h : Held) => if h.frame.id = id then h.settled else h) } }).updateXoff

/-- Admits or drops a decided frame (R259, R260): every copy that its egress account refuses counts, whatever check drops the frame after. -/
def State.admitFrame (s : State) (f : Frame) (district cls : Nat) (de : Bool) (reqs : List CopyReq) : State :=
  match s.admission f district cls de reqs with
  | .refused off =>
    let s1 := if off = 0x408 then s.wr .cis 0xC (setBit (s.rd .cis 0xC) 0 true) else s
    if off = 0x418 then
      let s2 := s1.bumpBy .cis 0x418 (s.egressRefused f district reqs)
      if f.ingress < 29 then s2.bump .eth (ethReg f.ingress 0x4D8) else s2
    else if off < 0x418 then s1.admitDrop f off
    else (s1.bumpBy .cis 0x418 (s.egressRefused f district reqs)).admitDrop f off
  | .admitted keep bIn bEg bSh inA egA =>
    let h : Held := { frame := f, banks := s.banksFrom s.cis.nextBank (cellsOf f.bytes.length), dropElig := de, district := district,
                      charge := chargeOf f, bIn := bIn, bEg := bEg, bSh := bSh, inAcct := inA, egAcct := egA }
    let s1 := s.bumpBy .cis 0x418 (s.egressRefused f district reqs)
    let s2 := { s1 with cis := { s1.cis with
      held := s1.cis.held ++ [h], nextBank := ((h.banks.getLast?.getD s1.cis.nextBank) + 1) % 64 } }
    let s3 := (s2.addCopies f keep).bump .cis 0x400
    let full := decide (descriptors ≤ s3.cis.copies.length)
    let s4 := if full && !s3.cis.descWas then s3.emit 543 (p4 s3.cis.copies.length) else s3
    let s5 := ({ s4 with cis := { s4.cis with descWas := full } }).updateXoff
    if f.whole then s5.frameWhole f.id else s5

/-- Frame `id` failed a check of 04_ethernet_ports.md R154 or its link epoch ended: its cut-through copies that have left are
stomped at the wire, every other copy is dropped unsent (R242). -/
def State.frameFailed (s : State) (id : Nat) : State :=
  let s1 := { s with cis := { s.cis with held := s.cis.held.map (fun (h : Held) => if h.frame.id = id then { h with failed := true } else h) } }
  let started := fun (c : Copy) => s.net.egr.any (fun e => e.2.wire.any (fun w => w.copy == c.id))
  s1.dropCopies (fun c => c.frame == id && !started c)

/-- Retires the excess of the minima in the fixed order of 02_ikiem_images.md R94: class 0 first, then district 4,095 down, egress
before ingress, higher lane first. -/
def giveOrder (a b : Acct × Limits) : Bool :=
  if a.1.cls ≠ b.1.cls then decide (a.1.cls < b.1.cls)
  else if a.1.district ≠ b.1.district then decide (b.1.district.getD 0 < a.1.district.getD 0)
  else if a.1.egress ≠ b.1.egress then a.1.egress
  else decide (b.1.lane ≤ a.1.lane)

/-- Takes `n` cells from the minima, first record first. -/
def shrinkBy : Nat → List (Acct × Limits) → List (Acct × Limits)
  | _, [] => []
  | n, (a, l) :: rest => (a, { l with min := l.min - n }) :: shrinkBy (n - l.min) rest

/-- Backing after limits fell (R263): what a reserve no longer backs, the shared pool backs. -/
def rebacked (limits : Acct → Limits) : List Held → Sparse Nat → Sparse Nat → (Acct → Nat) → List Held
  | [], _, _, _ => []
  | h :: hs, usedIn, usedEg, key =>
    let inKey := (h.inAcct.map key).getD 0
    let egKey := (h.egAcct.map key).getD 0
    let inRoom := ((h.inAcct.map (fun a => (limits a).min)).getD 0) - Sparse.get (fun _ => 0) usedIn inKey
    let egRoom := ((h.egAcct.map (fun a => (limits a).min)).getD 0) - Sparse.get (fun _ => 0) usedEg egKey
    let bIn := Nat.min h.bIn inRoom
    let bEg := Nat.min h.bEg egRoom
    { h with bIn := bIn, bEg := bEg, bSh := h.bSh + (h.bIn - bIn) + (h.bEg - bEg) } ::
      rebacked limits hs (Sparse.put (fun _ => 0) usedIn inKey (Sparse.get (fun _ => 0) usedIn inKey + bIn))
        (Sparse.put (fun _ => 0) usedEg egKey (Sparse.get (fun _ => 0) usedEg egKey + bEg)) key

/-- A number for an account, different for different accounts. -/
def acctKey (a : Acct) : Nat :=
  (a.egress.toNat * 32 + a.lane) * 8 + a.cls + 512 * (match a.district with | none => 0 | some d => d + 1)

/-! ### Guarantee buckets (R246): 10^-6 bit; direction 0 ingress, 1 egress -/

/-- The key of a bucket. -/
def bucketKey (dir l c : Nat) : Nat := 256 * dir + 8 * l + c

/-- Sum of the GUAR rates of a direction, lane and class, in units of 8 kb/s. -/
def State.guarRate (s : State) (dir l c : Nat) : Nat :=
  ((s.cis.limits.filter (fun e => (e.1.egress == (dir == 1)) && (e.1.lane == l && e.1.cls == c))).map (fun e => e.2.guar)).sum

/-- A bucket's level now: refilled from network time, at most +2,048 bits. -/
def State.bucketNow (s : State) (dir l c : Nat) : Int :=
  let b := Sparse.get (fun _ => ({} : Bucket)) s.xbr.bucket (bucketKey dir l c)
  clampInt (-2048000000) 2048000000 (b.level + 8 * (s.guarRate dir l c : Int) * ((s.nowNs - b.last : Nat) : Int))

/-- The state with a bucket at a level as of now. -/
def State.setBucket (s : State) (dir l c : Nat) (level : Int) : State :=
  { s with xbr := { s.xbr with bucket := Sparse.put (fun _ => {}) s.xbr.bucket (bucketKey dir l c) ⟨level, s.nowNs⟩ } }

/-- Refills at the rates in force every bucket that has one: the rates are about to change. -/
def State.settleBuckets (s : State) : State :=
  s.cis.limits.foldl (fun (t : State) e =>
    if e.2.guar = 0 then t
    else t.setBucket e.1.egress.toNat e.1.lane e.1.cls (s.bucketNow e.1.egress.toNat e.1.lane e.1.cls)) s

/-- The buckets that a set of limits refills begin to do so now (those that the limits in force refill are settled already). -/
def State.startBuckets (s : State) (ls : List (Acct × Limits)) : State :=
  ls.foldl (fun (t : State) e =>
    if e.2.guar = 0 || decide (s.guarRate e.1.egress.toNat e.1.lane e.1.cls ≠ 0) then t
    else t.setBucket e.1.egress.toNat e.1.lane e.1.cls (s.bucketNow e.1.egress.toNat e.1.lane e.1.cls)) s

/-- Puts limits in force; held cells stay charged and are backed again (R263), and time before it refilled at the old rates (R246). -/
def State.setLimits (s : State) (ls : List (Acct × Limits)) : State :=
  let s0 := s.settleBuckets.startBuckets ls
  let s1 := { s0 with cis := { s0.cis with limits := ls } }
  { s1 with cis := { s1.cis with held := rebacked s1.limitsOf s1.cis.held [] [] acctKey } }

/-- Shrinks the reservations to the usable cells (02_ikiem_images.md R94, R95); the cells removed. DESIGN CHOICE (notes/assumptions/154.md):
R95 does not say whether a maximum that alone is cut sets SHRUNK; here SHRUNK tells of minima. -/
def State.shrink (s : State) : State × Nat :=
  let ls := s.cis.limits.map (fun e => (e.1, { e.2 with max := Nat.min e.2.max s.usable }))
  let excess := minSum ls - s.usable
  if excess = 0 then (s.setLimits ls, 0)
  else
    let s1 := s.setLimits (shrinkBy excess (sortBy giveOrder ls))
    ((s1.wr .img 0x40 (word ((s.rd .img 0x40).toNat + excess))).setFld .img 4 17 17 1, excess)

end Sys2Proof.Machine
end

