-- ==== Sys2Proof/Machine/KeyOps.lean ====
section
/-!
DEFINITION. The key ledger's operations (12_keys_and_attestation.md R459-R488): slots and attribute words, policy, the frame of a
command, use by the data plane, the sealing root, boot records and firmware packages.
-/
namespace Sys2Proof.Machine

/-- Slots of the ledger (R459). -/
def keySlots : Nat := 8192

/-- A slot. -/
def State.keySlot (s : State) (h : Nat) : KeySlot := Sparse.get (fun _ => {}) s.key.slot h

/-- Fields of an attribute word (R460). -/
def attrValid (w : Word) : Bool := bit w 31
def attrUsage (w : Word) : Nat := field w 30 29
def attrOrigin (w : Word) : Nat := field w 28 27
def attrExportable (w : Word) : Bool := bit w 26
def attrAttest (w : Word) : Bool := bit w 25
def attrPair (w : Word) : Bool := bit w 24
def attrAlg (w : Word) : Nat := field w 23 20
def attrDistrict (w : Word) : Nat := field w 11 0

/-- Key bytes of an algorithm (R461); none for a code that is not used. -/
def keyBytes (alg : Nat) : Option Nat :=
  match alg with
  | 0 => some 16
  | 1 => some 32
  | 2 => some 32
  | 3 => some 32
  | 4 => some 32
  | 5 => some 48
  | 6 => some 32
  | 7 => some 48
  | 8 => some 32
  | 9 => some 48
  | _ => none

/-- Does a key of the algorithm take two slots (R462)? -/
def isPairAlg (alg : Nat) : Bool := keyBytes alg = some 48

/-- Is an algorithm one of an EC key pair, and is it on P-384? -/
def isEcAlg (alg : Nat) : Bool := decide (4 ≤ alg) && decide (alg ≤ 7)
def isP384 (alg : Nat) : Bool := alg == 5 || alg == 7

/-- The usages an algorithm allows (R461). -/
def usageAllowed (alg usage : Nat) : Bool :=
  match alg with
  | 0 => decide (usage ≤ 2)
  | 1 => decide (usage ≤ 2)
  | 2 => decide (usage ≤ 1)
  | 3 => decide (usage ≤ 1)
  | 4 => usage == 0
  | 5 => usage == 0
  | 6 => usage == 3
  | 7 => usage == 3
  | 8 => usage == 3
  | 9 => usage == 3
  | _ => false

/-- Is an attribute word legal (R460, R461)? -/
def attrLegal (w : Word) : Bool :=
  usageAllowed (attrAlg w) (attrUsage w) &&
    ((!attrExportable w || attrOrigin w == 1) && (!attrAttest w || (attrAlg w == 3 && attrUsage w == 0)))

/-- The attribute word a command writes: VALID, the origin, and what KEY_ATTR_IN gives of USAGE, EXPORTABLE, ATTEST, ALG and
DISTRICT (R497). -/
def attrFor (attrIn : Word) (origin : Nat) : Word := setField ((attrIn &&& 0x66F00FFF) ||| 0x80000000) 28 27 origin

/-- The policy record of a slot: ALLOW and FLAGS (R465). -/
def policyOf (rs : List Rec) (h : Nat) : Option (Word × Nat) :=
  if keySlots ≤ h then none else (recBody rs 0x0F 0xFFFF h).map (fun b => (word (leAt b 0 4), leAt b 4 1))

/-- Is the word what the policy in force lets a command write into slot `h` (R462, R466)? -/
def State.policyAllows (s : State) (h : Nat) (w : Word) : Bool :=
  match policyOf s.recs h with
  | none => false
  | some (allow, flags) =>
    (w &&& 0x66F00FFF) == (allow &&& 0x66F00FFF) && (flags.testBit (1 + attrOrigin w) && (!isPairAlg (attrAlg w) || decide (h % 2 = 0)))

/-- Does slot `h` hold a key that commands and units may name (R462)? -/
def State.keyUsable (s : State) (h : Nat) : Bool := attrValid (s.keySlot h).attr && !attrPair (s.keySlot h).attr

/-- Is the target empty, its second slot included (R469)? -/
def State.targetEmpty (s : State) (h alg : Nat) : Bool :=
  !attrValid (s.keySlot h).attr && (!isPairAlg alg || !attrValid (s.keySlot (h + 1)).attr)

/-- One slot write or emptying, which KEY_LEDGER_GEN counts (R497). -/
def State.putSlot (s : State) (h : Nat) (v : KeySlot) : State :=
  let s1 := { s with key := { s.key with slot := Sparse.put (fun _ => {}) s.key.slot h v } }
  s1.wr .key 0x14 (s.rd .key 0x14 + 1)

/-- Fills a slot, and its second slot for a 384-bit key, in one step (R462, R463). -/
def State.fillSlot (s : State) (h : Nat) (w : Word) (value : List Byte) : State :=
  let s1 := s.putSlot h ⟨w, value⟩
  if isPairAlg (attrAlg w) then s1.putSlot (h + 1) ⟨setBit w 24 true, []⟩ else s1

/-- Empties a slot and its pair half in one step; the number of slots emptied. -/
def State.emptySlot (s : State) (h : Nat) : State × Nat :=
  let a := (s.keySlot h).attr
  if !attrValid a then (s, 0)
  else if isPairAlg (attrAlg a) then
    let first := if attrPair a then h - 1 else h
    ((s.putSlot first {}).putSlot (first + 1) {}, 2)
  else (s.putSlot h {}, 1)

/-- Counts in KEY_ERR and raises its event: path, OP, RESULT (R494). -/
def State.keyErr (s : State) (i path op result : Nat) : State := s.setErr .key 4 i (1416 + i) (p1 path ++ (p1 op ++ p1 result))

/-- Offset of a register in the window of a path (R496). -/
def keyReg (path off : Nat) : Nat := 0x20000 + 0x400 * path + off

/-- What a command finds in its path's window. -/
structure KeyReq where
  path : Nat
  tgt : Nat
  src : Nat
  root : Bool
  attrIn : Word
  len : Nat
  drv : List Byte
  input : List Byte
deriving DecidableEq, Repr

/-- The window of a path as a request. -/
def State.keyReq (s : State) (p : Nat) : KeyReq :=
  let slot := s.rd .key (keyReg p 8)
  { path := p, tgt := field slot 12 0, src := field slot 28 16, root := bit slot 31, attrIn := s.rd .key (keyReg p 0xC),
    len := s.fld .key (keyReg p 0x10) 8 0, drv := bytesOf (s.rds .key (keyReg p 0x40) 12), input := bytesOf (s.rds .key (keyReg p 0x100) 32) }

/-- What a command answers: the state, RESULT and the bytes for KEY_OUT. -/
structure KeyAnswer where
  state : State
  result : Nat
  out : List Byte
deriving DecidableEq, Repr

/-- The code of the first failing check (R470). -/
def firstFail : List (Bool × Nat) → Option Nat
  | [] => none
  | (ok, code) :: rest => if ok then firstFail rest else some code

/-- Runs a command's effect when every check passes; otherwise answers the first failure. -/
def State.keyChecked (s : State) (checks : List (Bool × Nat)) (run : State → KeyAnswer) : KeyAnswer :=
  match firstFail checks with
  | some code => ⟨s, code, []⟩
  | none => run s

/-- A command on a path (R468-R470): KEY_OUT is cleared when it starts; RESULT, the output and the counters at its end. The debug
port has no window. A flash or fuse error (0xB) is no refusal: it ends a command that passed its checks. -/
def State.keyCommand (s : State) (path : Path) (op : Nat) (run : KeyReq → State → KeyAnswer) : State :=
  if path = .debug then s
  else
    let p := pathIndex path
    let s0 := (s.wrs .key (keyReg p 0x200) (List.replicate 96 0)).wr .key (keyReg p 0x14) 0
    let a := run (s.keyReq p) s0
    let s1 := a.state.wr .key (keyReg p 4) (word a.result)
    if a.result = 0 then
      ((s1.wrs .key (keyReg p 0x200) (wordsOf a.out)).wr .key (keyReg p 0x14) (word a.out.length)).bump .key 0x400
    else if a.result = 0xB then s1
    else (s1.bump .key 0x408).keyErr 0 p op a.result

/-- Are random numbers available (R470, R484)? -/
def State.rngOk (s : State) : Bool := s.key.rng = .ok

/-- A request to the DRBG for `n` bytes (R483). -/
def State.drbg (s : State) (n : Nat) : State × List Byte :=
  { s with key := { s.key with requests := s.key.requests + 1 } }.drawBytes n

/-- A fresh key value of an algorithm (R469): DRBG output, or the private key of a new EC key pair. -/
def State.freshKey (s : State) (alg : Nat) : State × List Byte :=
  if isEcAlg alg then
    let (s1, n) := ({ s with key := { s.key with requests := s.key.requests + 1 } }, s.free)
    ({ s1 with free := s1.free + 1 }, Config.ecScalar (isP384 alg) n)
  else s.drbg ((keyBytes alg).getD 0)

/-- The AES key that a data-plane unit gets for a handle (R461-R463, R168, R381): valid, not a second half, no attestation secret, of
the district, AES, and usable for encryption (usage 0) or decryption (usage 1). -/
def State.aesKey (s : State) (h usage district : Nat) : Option (List Byte) :=
  let k := s.keySlot h
  if s.keyUsable h && (!attrAttest k.attr && (attrAlg k.attr ≤ 1 && (attrUsage k.attr == usage && attrDistrict k.attr == district))) then
    some k.value
  else none

/-! ### Boot records and firmware packages -/

/-- A copy of the boot record in flash (R485, R486). -/
def State.bootCopy (s : State) (i : Nat) : List Byte := s.flashBytes (0x1000 * i) 0x200

/-- Is a copy valid (R486)? -/
def bootCopyValid (b : List Byte) : Bool :=
  slice b 0 4 == [0x46, 0x56, 0x42, 0x52] && leAt b 0x1FC 4 == crc32c (b.take 0x1FC)

/-- Serial-number order: is `a` later than `b` modulo 2^32? -/
def serialAfter (a b : Nat) : Bool := decide (0 < (a + 2 ^ 32 - b) % 2 ^ 32) && decide ((a + 2 ^ 32 - b) % 2 ^ 32 < 2 ^ 31)

/-- The winning copy (R486). -/
def State.bootWinner (s : State) : Option Nat :=
  match bootCopyValid (s.bootCopy 0), bootCopyValid (s.bootCopy 1) with
  | true, true => if serialAfter (leAt (s.bootCopy 1) 4 4) (leAt (s.bootCopy 0) 4 4) then some 1 else some 0
  | true, false => some 0
  | false, true => some 1
  | false, false => none

/-- The fields of the boot record: active bank, signer count, signer table. -/
def bootActive (b : List Byte) : Nat := leAt b 8 1 % 2
def bootCount (b : List Byte) : Nat := Nat.min 4 (leAt b 9 1)
def bootTable (b : List Byte) : List Byte := slice b 0x10 448

/-- Flash offset of a firmware bank (R485). -/
def bankOffset (b : Nat) : Nat := 0x100000 + 0x100000 * b

/-- Why a package fails (R488, coded as KEY_BOOT.REASON0), or the firmware it holds. A format other than 0x0001 counts as no magic. -/
def State.checkFirmware (s : State) (off bank : Nat) : Nat × Option Firmware :=
  let h := s.flashBytes off 256
  let len := leAt h 0x0C 4
  let signer := leAt h 6 1
  if slice h 0 4 ≠ [0x46, 0x56, 0x46, 0x57] ∨ leAt h 4 2 ≠ 1 then (1, none)
  else if 0x100000 - 256 < len then (2, none)
  else if sha384 (s.flashBytes (off + 256) len) ≠ slice h 0x10 48 then (3, none)
  else if 1 < signer || !ecdsaVerify (Config.fwKey signer) (sha384 (h.take 0x40)) (slice h 0x40 48) (slice h 0x70 48) then (4, none)
  else if signer = 0 && s.fuses.fwkey0Revoked then (5, none)
  else if leAt h 7 1 < s.fuses.rollback then (6, none)
  else (0, some ⟨bank, signer, leAt h 7 1, leAt h 8 4, sha384 (h.take 0x40)⟩)

/-- The signer key that a key identifier names (R486, 02_ikiem_images.md R58): its table index and public key, unrevoked. -/
def State.signerKey (s : State) (ident : List Byte) : Option (Nat × List Byte) :=
  ((List.range s.key.signers).find? (fun i => slice s.key.signerTable (112 * i) 16 == ident && !s.fuses.signerRevoked.testBit i)).map
    (fun i => (i, slice s.key.signerTable (112 * i + 16) 96))

/-! ### The sealing root -/

/-- The measurement record (R473). -/
def State.measurement (s : State) : List Byte :=
  let flags := s.fuses.anchor.isNone.toNat + 2 * s.mgt.opened.toNat + 4 * (s.flag .img 4 16).toNat + 8 * s.key.fw.isNone.toNat
  let image := s.img.conf
  [0x46, 0x56, 0x4D, 0x52, 1, byte s.fuses.revision, byte flags, byte s.fuses.rollback] ++
    (leBytes 4 ((s.key.fw.map (fun f => f.version)).getD 0) ++ (leBytes 4 ((image.map (fun c => c.version)).getD 0) ++
    ([byte ((s.key.fw.map (fun f => f.rollback)).getD 0), byte ((image.map (fun c => c.rollback)).getD 0)] ++ (List.replicate 14 0 ++
    (padTo 48 Config.romDigest ++ (padTo 48 ((s.key.fw.map (fun f => f.measure)).getD []) ++ padTo 48 ((image.map (fun c => c.base)).getD [])))))))

/-- The sealing root of a measurement record (R474). -/
def sealingRoot (revision : Nat) (m : List Byte) : List Byte :=
  hkdf384 Config.fusedSecret (sha384 (m.take 7 ++ slice m 0x20 144))
    ([0x46, 0x56, 0x53, 0x52, 1, byte revision] ++ List.replicate 10 0)

/-- Forms the sealing root anew (R475). -/
def State.formRoot (s : State) (cause : Nat) : State :=
  let m := s.measurement
  let s1 := { s with key := { s.key with root := sealingRoot s.fuses.revision m } }
  ((s1.wrs .key 0x100 (wordsOf m)).wr .key 0 (setBit (s1.rd .key 0) 5 true)).emit 1410 (p1 cause ++ padTo 8 (sha384 m))

/-- The identity key's private scalar with counter `c` (R479). -/
def identityScalar (c : Nat) : List Byte :=
  hkdf384 Config.fusedSecret (List.replicate 48 0) ([0x46, 0x56, 0x49, 0x44, 1, byte c] ++ List.replicate 10 0)

/-- The identity key: the first counter whose scalar is neither 0 nor at least the curve order (R479). -/
def identityKey : List Byte :=
  let fits := fun (c : Nat) => decide (0 < be (identityScalar c)) && decide (be (identityScalar c) < p384Order)
  identityScalar (((List.range 256).find? fits).getD 0)

end Sys2Proof.Machine
end

