-- ==== Sys2Proof/Machine/Macsec.lean ====
section
/-!
DEFINITION. The inline MACsec engines (04_ethernet_ports.md R167-R173, IEEE 802.1AE): the SecTAG, keys and packet numbers, protection
on transmit, validation and replay check on receive.
-/
namespace Sys2Proof.Machine

/-- EtherType of a frame. -/
def etherType (bs : List Byte) : Nat := beAt bs 12 2

/-- Is MACsec built on the port, and is it on (R181, SEC_CFG)? -/
def State.macsecBuilt (s : State) (p : Nat) : Bool := s.flag .eth (ethReg p 0) 7
def State.macsecOn (s : State) (p : Nat) : Bool := s.macsecBuilt p && s.flag .eth (ethReg p 0x60) 9

/-- Does the frame bypass the engine (R169)? -/
def State.macsecBypass (s : State) (p : Nat) (bs : List Byte) : Bool :=
  etherType bs == 0x888E || (etherType bs == 0x88F7 && s.flag .eth (ethReg p 0x60) 3)

/-- Offset of a transmit SA, and of a receive SC and its SA (R181). -/
def txSa (p an : Nat) : Nat := ethReg p (0x1000 + 0x40 * an)
def rxSc (p c : Nat) : Nat := ethReg p (0x2000 + 0x200 * c)
def rxSa (p c an : Nat) : Nat := rxSc p c + 0x40 * (an + 1)

/-- Is extended packet numbering in use, and which algorithm must a key have (R167, R168)? -/
def State.xpn (s : State) (p : Nat) : Bool := decide (2 ≤ s.fld .eth (ethReg p 0x60) 5 4)
def State.secAlg (s : State) (p : Nat) : Nat := s.fld .eth (ethReg p 0x60) 4 4

/-- The key of the SA at `sa` for a usage (R168). -/
def State.saKey (s : State) (p sa usage : Nat) : Option (List Byte) :=
  let h := s.fld .eth sa 12 0
  if attrAlg (s.keySlot h).attr = s.secAlg p then s.aesKey h usage (s.fld .eth (ethReg p 0x60) 27 16) else none

/-- The SCI in a register pair, byte 0 in bits 7:0 of _LO (R182). -/
def State.sciAt (s : State) (off : Nat) : List Byte := leBytes 8 (s.rd64 .eth off)

/-- The confidentiality offset in bytes (R167). -/
def State.confOffset (s : State) (p : Nat) : Nat :=
  match s.fld .eth (ethReg p 0x60) 7 6 with
  | 1 => 30
  | 2 => 50
  | _ => 0

/-- The initialisation vector (IEEE 802.1AE): SCI and PN, or SSCI and PN combined with the salt under XPN. -/
def State.secIv (s : State) (p sa : Nat) (sci : List Byte) (pn : Nat) : List Byte :=
  if s.xpn p then
    xorBytes (beBytes 4 (s.rd .eth (sa + 0x10)).toNat ++ beBytes 8 pn) (bytesOf (s.rds .eth (sa + 0x14) 3))
  else sci ++ beBytes 4 pn

/-- Raises the key-fault event of an SA once until the SA is next written (R168, R180): direction 0 receive, 1 transmit. -/
def State.keyFault (s : State) (p dir sc an sa : Nat) : State :=
  let e := s.port p
  if e.faulted.contains sa then s
  else (s.setPort p { e with faulted := e.faulted ++ [sa] }).emit (128 + 8 * p + 5)
    (p1 dir ++ (p2 sc ++ (p1 an ++ p2 (s.fld .eth sa 12 0))))

/-- Offset of a MACsec counter (R179). -/
def secCounter (p off : Nat) : Nat := ethReg p off

/-- The SecTAG of a frame with `n` bytes of secure data. -/
def secTag (encrypt : Bool) (an n pn : Nat) (sci : Option (List Byte)) : List Byte :=
  let tci := (if sci.isSome then 32 else 0) + (if encrypt then 12 else 0) + an
  [0x88, 0xE5, byte tci, byte (if n < 48 then n else 0)] ++ (beBytes 4 (pn % 2 ^ 32) ++ sci.getD [])

/-- Protects a frame for the wire (R169, R171); none where it is dropped. -/
def State.protect (s : State) (p : Nat) (bs : List Byte) : State × Option (List Byte) :=
  if !s.macsecBuilt p then (s, some bs)
  else if s.macsecBypass p bs then (s.bump .eth (ethReg p 0x6F0), some bs)
  else if !s.macsecOn p then (s, some bs)
  else
    let an := s.fld .eth (ethReg p 0x64) 1 0
    let sa := txSa p an
    let pn := s.rd64 .eth (sa + 8)
    if !s.flag .eth sa 31 || pn == 0 || (!s.xpn p && decide (2 ^ 32 ≤ pn)) then (s.bump .eth (ethReg p 0x6E0), none)
    else match s.saKey p sa 0 with
    | none => ((s.bump .eth (ethReg p 0x6E8)).keyFault p 1 0 an sa, none)
    | some key =>
      let encrypt := s.flag .eth (ethReg p 0x60) 8
      let sci := s.sciAt (ethReg p 0x68)
      let body := bs.drop 12
      let clear := if encrypt then body.take (s.confOffset p) else body
      let tag := secTag encrypt an body.length pn (if s.flag .eth (ethReg p 0x64) 4 then some sci else none)
      let sealed := gcmSeal key (s.secIv p sa sci pn) (bs.take 12 ++ (tag ++ clear)) (body.drop clear.length)
      let next := (pn + 1) % 2 ^ 64
      let s1 := (s.wr64 .eth (sa + 8) next).bump .eth (ethReg p (if encrypt then 0x6D8 else 0x6D0))
      let e := s1.port p
      let s2 := if s1.rd64 .eth (ethReg p 0x70) ≤ next && !e.pnRaised.contains an then
          (s1.setPort p { e with pnRaised := e.pnRaised ++ [an] }).emit (128 + 8 * p + 4) (p1 an ++ p4 (next / 2 ^ 32))
        else s1
      (s2, some (bs.take 12 ++ (tag ++ (clear ++ sealed))))

/-- What the engine makes of a received frame (R170): the bytes delivered and whether they were verified, or none. -/
structure SecResult where
  state : State
  bytes : Option (List Byte)
  verified : Bool := false
deriving DecidableEq, Repr

/-- The fields of a SecTAG. -/
structure SecTag where
  tci : Nat
  sl : Nat
  pn : Nat
  len : Nat
  sci : List Byte
deriving DecidableEq, Repr

/-- Reads the SecTAG of a frame. -/
def secTagOf (bs : List Byte) : SecTag :=
  let tci := leAt bs 14 1
  let sc := tci.testBit 5
  { tci := tci, sl := leAt bs 15 1, pn := beAt bs 16 4, len := if sc then 28 else 20,
    sci := if sc then slice bs 20 8 else slice bs 6 6 ++ (if tci.testBit 4 then [0, 0] else [0, 1]) }

/-- Do the tag checks pass (R170)? -/
def SecTag.ok (t : SecTag) (n : Nat) : Bool :=
  let data := n - t.len - 16
  !t.tci.testBit 7 && (t.tci.testBit 3 == t.tci.testBit 2 && (decide (t.len + 16 ≤ n) &&
    (if t.sl = 0 then decide (48 ≤ data) else decide (t.sl < 48) && (data == t.sl || (decide (t.sl < data) && n == 60)))))

/-- The enabled receive SC of a tag. Without an explicit SCI and without ES or SCB, it is the lowest enabled one (point to point). -/
def State.scOf (s : State) (p : Nat) (t : SecTag) : Option Nat :=
  let named := t.tci.testBit 5 || t.tci.testBit 6 || t.tci.testBit 4
  (List.range 16).find? (fun c => s.flag .eth (rxSc p c) 31 && (!named || s.sciAt (rxSc p c + 8) == t.sci))

/-- The full packet number of a tag against the next expected one (IEEE 802.1AE, extended packet numbering). -/
def recoverPn (xpn : Bool) (next low : Nat) : Nat :=
  if !xpn then low
  else if next.testBit 31 && !low.testBit 31 then (next / 2 ^ 32 + 1) % 2 ^ 32 * 2 ^ 32 + low
  else next / 2 ^ 32 * 2 ^ 32 + low

/-- One more in a MACsec counter of a port. -/
def State.secCount (s : State) (p off : Nat) : State := s.bump .eth (ethReg p off)

/-- The frame of an association whose check value failed (R170): what the mode lets pass. -/
def State.badCheck (s : State) (p mode : Nat) (encrypted : Bool) (bs body : List Byte) : SecResult :=
  if encrypted then ⟨s.secCount p 0x690, if mode = 0 then some bs else none, false⟩
  else ⟨s.secCount p 0x688, if mode = 0 then some bs else if mode = 1 then some (bs.take 12 ++ body) else none, false⟩

/-- The frame of an association with packet number `pn` and a good check value: the replay window, and the next number (R170, R171). -/
def State.goodCheck (s : State) (p mode sa pn : Nat) (bs open_ : List Byte) : SecResult :=
  let next := s.rd64 .eth (sa + 8)
  if s.flag .eth (ethReg p 0x60) 2 && decide (pn + (s.rd .eth (ethReg p 0x78)).toNat < next) then
    ⟨s.secCount p 0x698, if mode = 0 then some bs else none, false⟩
  else if pn < next then
    ⟨s.secCount p 0x6A0, some (if mode = 0 then bs else bs.take 12 ++ open_), mode ≠ 0⟩
  else
    ⟨(s.secCount p 0x680).wr64 .eth (sa + 8) ((pn + 1) % 2 ^ 64), some (if mode = 0 then bs else bs.take 12 ++ open_), mode ≠ 0⟩

/-- A frame with a SecTAG of an association in use and its key. -/
def State.openSec (s : State) (p mode c sa : Nat) (t : SecTag) (key bs : List Byte) : SecResult :=
  let pn := recoverPn (s.xpn p) (s.rd64 .eth (sa + 8)) t.pn
  let size := if t.sl = 0 then bs.length - t.len - 16 else t.sl
  let clearLen := if t.tci.testBit 3 then Nat.min (s.confOffset p) size else size
  let clear := slice bs t.len clearLen
  match gcmOpen key (s.secIv p sa (s.sciAt (rxSc p c + 8)) pn) (bs.take t.len ++ clear)
      (slice bs (t.len + clearLen) (size - clearLen + 16)) with
  | none => s.badCheck p mode (t.tci.testBit 3) bs (slice bs t.len size)
  | some x => s.goodCheck p mode sa pn bs (clear ++ x)

/-- Validates a received frame's bytes before the FCS (R168-R170). -/
def State.validate (s : State) (p : Nat) (bs : List Byte) : SecResult :=
  let mode := if s.macsecOn p then s.fld .eth (ethReg p 0x60) 1 0 else 0
  let t := secTagOf bs
  if !s.macsecBuilt p then ⟨s, some bs, false⟩
  else if s.macsecBypass p bs then ⟨s.secCount p 0x6C8, some bs, false⟩
  else if etherType bs ≠ 0x88E5 then ⟨s.secCount p 0x6A8, if mode = 2 then none else some bs, false⟩
  else if !t.ok bs.length then ⟨s.secCount p 0x6B0, if mode = 0 then some bs else none, false⟩
  else match (s.scOf p t).bind (fun c => if s.flag .eth (rxSa p c (t.tci % 4)) 31 then some c else none) with
    | none => ⟨s.secCount p 0x6B8, if mode = 0 || (mode = 1 && !t.tci.testBit 3) then some bs else none, false⟩
    | some c =>
      match s.saKey p (rxSa p c (t.tci % 4)) 1 with
      | none =>
        if s.macsecOn p then ⟨(s.secCount p 0x6C0).keyFault p 0 c (t.tci % 4) (rxSa p c (t.tci % 4)), none, false⟩
        else ⟨s.secCount p 0x6C0, some bs, false⟩
      | some key => s.openSec p mode c (rxSa p c (t.tci % 4)) t key bs

/-- Must a received frame be stored whole before forwarding (R156)? -/
def State.storedWhole (s : State) (p : Nat) (bs : List Byte) : Bool :=
  s.macsecOn p && (decide (1 ≤ s.fld .eth (ethReg p 0x60) 1 0) && (!s.macsecBypass p bs && etherType bs == 0x88E5))

end Sys2Proof.Machine
end

