-- ==== Sys2Proof/Machine/PinOps.lean ====
section
/-!
DEFINITION. The multi-function pins (16_electrical_and_pins.md R620-R629): what a pin drives, edges, port LEDs.
-/
namespace Sys2Proof.Machine

/-- A pin, and the state with it replaced. -/
def State.pin (s : State) (m : Nat) : MfPin := Sparse.get (fun _ => {}) s.mf m
def State.setPin (s : State) (m : Nat) (v : MfPin) : State := { s with mf := Sparse.put (fun _ => {}) s.mf m v }

/-- PIN_MF_CFG of a pin (R640). -/
def State.pinCfg (s : State) (m : Nat) : Word := s.rd .pin (0x100 + 4 * m)

/-- GPIO_OUT of a pin. -/
def State.gpioOut (s : State) (m : Nat) : Bool := s.flag .pin (0x18 + 4 * (m / 32)) (m % 32)

/-- What a safe state drives (R621): nothing where it is high impedance. -/
def safeDrive (safe : Nat) : Option Bool := if safe = 1 then some false else if safe = 2 then some true else none

/-- Does the LED of a pin show its port UP, with or without activity (R626)? `up` is whether the port is UP. -/
def ledOn (mode : Nat) (up lit : Bool) : Bool := if mode = 0 then up else if mode = 1 then lit else if mode = 2 then up && !lit else false

/-- The level that a pin drives; nothing where it does not (R614, R620-R627). -/
def State.pinDrive (s : State) (m : Nat) (up : Bool) : Option Bool :=
  let v := s.pin m
  let cfg := s.pinCfg m
  if s.lmp.held then none
  else if v.switching then safeDrive (field cfg 29 28)
  else if v.func = 1 then (if bit cfg 25 && s.gpioOut m then none else some (s.gpioOut m))
  else if v.func = 2 && 41 ≤ m then some (ledOn (field cfg 7 6) up v.lit)
  else none

/-- Port `p` counts a frame in rx.ok or tx.ok: its LEDs start an activity interval, in mode 0b10 at most once per 100 ms (R626). -/
def State.ledActivity (s : State) (p : Nat) : State :=
  s.mf.foldl (fun (t : State) e =>
    let cfg := t.pinCfg e.1
    let mode := field cfg 7 6
    let early := match e.2.litAt with
      | some a => decide (t.nowNs < a + 100000000)
      | none => false
    if e.2.func = 2 && !e.2.switching && 41 ≤ e.1 && field cfg 4 0 = p && (mode = 1 || (mode = 2 && !early))
    then t.setPin e.1 { e.2 with lit := true, litAt := some t.nowNs } else t) s

/-- Is an edge to `level` one that EDGE_EV selects (R623, R624)? -/
def edgeSelected (cfg : Word) (level : Bool) : Bool := bit cfg (if level then 22 else 23)

/-- A commit or boot load loads a pin's configuration: a change of FUNC starts a switch (R627). -/
def State.loadPin (s : State) (m : Nat) (cfg : Word) : State :=
  let v := s.pin m
  let s1 := s.wr .pin (0x100 + 4 * m) cfg
  if v.func = field cfg 31 30 && !v.switching then s1 else s1.setPin m { v with switching := true, lit := false, litAt := none }

end Sys2Proof.Machine
end

