-- ==== Sys2Proof/Machine/Wire.lean ====
section
/-!
DEFINITION. The MAC at the wire (04_ethernet_ports.md R153, R154, R178): FCS and stomp, size and cast counters, sending a frame,
MAC control frames.
-/
namespace Sys2Proof.Machine

/-- The FCS of a frame's bytes (R153), and the stomp: its bitwise inverse (R154). -/
def fcsOf (bs : List Byte) : List Byte := leBytes 4 (crc32 bs)
def stompOf (bs : List Byte) : List Byte := leBytes 4 (0xFFFFFFFF - crc32 bs)

/-- The size bin of a frame of `n` bytes, DA through FCS (R179). -/
def sizeBin (n : Nat) : Nat :=
  if n ≤ 64 then 0 else if n ≤ 127 then 1 else if n ≤ 255 then 2 else if n ≤ 511 then 3 else if n ≤ 1023 then 4
  else if n ≤ 1518 then 5 else if n ≤ 2047 then 6 else 7

/-- The cast counter of a destination address after a first offset: unicast, multicast, broadcast. -/
def castCounter (base : Nat) (da : List Byte) : Nat :=
  if da == List.replicate 6 (0xFF : Byte) then base + 16 else if (leAt da 0 1).testBit 0 then base + 8 else base

/-- Counts a frame sent (R178): good frames in tx.ok, octets and casts; stomped ones in tx.stomped; size bins for both. -/
def State.countTx (s : State) (p : Nat) (bs : List Byte) (stomped : Bool) : State :=
  let n := bs.length + 4
  let s1 := s.bump .eth (ethReg p (0x570 + 8 * sizeBin n))
  if stomped then s1.bump .eth (ethReg p 0x5B0)
  else (((s1.bump .eth (ethReg p 0x500)).ledActivity p).bumpBy .eth (ethReg p 0x508) n).bump .eth (ethReg p (castCounter 0x510 (bs.take 6)))

/-- A frame padded for the wire (R153). -/
def padded (bs : List Byte) : List Byte := if bs.length < 60 then padTo 60 bs else bs

/-- Sends a frame, protected already, on a port. -/
def State.sendWire (s : State) (p : Nat) (express stomped : Bool) (bs : List Byte) : State :=
  let b := padded bs
  (s.countTx p b stomped).send (.wire p express (b ++ (if stomped then stompOf b else fcsOf b)))

/-- The MAC address of a port (R182). -/
def State.macAddr (s : State) (p : Nat) : List Byte :=
  beBytes 2 (s.fld .eth (ethReg p 0x1C) 15 0) ++ beBytes 4 (s.rd .eth (ethReg p 0x18)).toNat

/-- Destination of pause and PFC frames (R157). -/
def macControlDa : List Byte := [0x01, 0x80, 0xC2, 0x00, 0x00, 0x01]

/-- Is this a gPTP frame to the group address of the time keeper, which takes it at the port (05_classification.md R184)? -/
def isGptp (bs : List Byte) : Bool := etherType bs == 0x88F7 && bs.take 6 == [0x01, 0x80, 0xC2, 0x00, 0x00, 0x0E]

/-- Is a pause in force that stops the whole port, or a class (R158, R159, R162)? -/
def State.portPaused (s : State) (p : Nat) : Bool := (s.port p).linkPaused && !(s.port p).ignorePause
def State.classPaused (s : State) (p c : Nat) : Bool := s.portPaused p || ((s.port p).classPaused.testBit c && !(s.port p).ignorePause)

/-- Is the MAC merge sublayer built on the port (R147)? -/
def State.mmBuilt (s : State) (p : Nat) : Bool := s.flag .eth (ethReg p 0) 8

/-- Is preemption active on the port (R163)? -/
def State.preempting (s : State) (p : Nat) : Bool :=
  s.mmBuilt p && (s.flag .eth (ethReg p 0x50) 0 && ((s.port p).verify = .succeeded || s.flag .eth (ethReg p 0x50) 1))

/-- Is class `c` sent as preemptable now (R310)? -/
def State.preemptable (s : State) (p c : Nat) : Bool := s.preempting p && (s.fld .eth (ethReg p 0x50) 23 16).testBit c

/-- Since when the pause that stops a class now has stood without a break: the last byte of the frame that began it (R158, R159). -/
def State.pausedSince (s : State) (p c : Nat) : Nat :=
  let q := s.port p
  let cls := Sparse.get (fun _ => 0) q.classSince c
  if q.linkPaused then (if q.classPaused.testBit c then Nat.min q.linkSince cls else q.linkSince) else cls

/-! ### MAC control frames due (R160, R161) -/

/-- What a port would signal now: bits 7:0 the classes under PFC, bit 8 pause. -/
def State.xoffWanted (s : State) (p : Nat) : Nat :=
  let en := s.fld .eth (ethReg p 0x44) 15 8
  let x := Sparse.get (fun _ => 0) s.cis.xoff p
  if en ≠ 0 then x &&& en else if s.flag .eth (ethReg p 0x40) 14 && decide (x ≠ 0) then 256 else 0

/-- What has newly gone to XOFF since the last MAC control frame, and what has come back to XON. -/
def State.xoffNew (s : State) (p : Nat) : Nat := s.xoffWanted p &&& (511 - (s.port p).xoffSent)
def State.xonNew (s : State) (p : Nat) : Nat := (s.port p).xoffSent &&& (511 - s.xoffWanted p)

/-- May the port send MAC control frames at all (R160): in UP, with a MAC address, on no S-port? -/
def State.controlAble (s : State) (p : Nat) : Bool :=
  !isSPort p && ((s.port p).state = .up && s.macAddr p != List.replicate 6 0)

/-- Is a MAC control frame due? It is the next frame on the wire (R161). -/
def State.controlDue (s : State) (p : Nat) : Bool :=
  s.controlAble p && (decide (s.xoffNew p ≠ 0) || (s.flag .eth (ethReg p 0x40) 13 && decide (s.xonNew p ≠ 0)))

/-! ### PLCA (R174, R175) -/

/-- May an S-port send at all: PLCA status, a coordinator, or CSMA/CD (R175, PLCA_CFG)? -/
def State.plcaMaySend (s : State) (p : Nat) : Bool :=
  !s.flag .eth (ethReg p 0x80) 31 || ((s.port p).plca || (s.fld .eth (ethReg p 0x80) 7 0 == 0 || s.flag .eth (ethReg p 0x80) 30))

end Sys2Proof.Machine
end

