-- ==== Sys2Proof/Machine/Egress.lean ====
section
/-!
DEFINITION. Egress scheduling (07_egress_scheduling.md R286-R313): schedule position and gates, guard bands, credits, groups,
eligibility and selection.
-/
namespace Sys2Proof.Machine

/-! ### Sluice schedules (R293-R298) -/

/-- Is a schedule running, its length, base and cycle (R295, R318)? -/
def State.gateEn (s : State) (p : Nat) : Bool := s.flag .egr (egrReg p 0) 0
def State.gateCount (s : State) (p : Nat) : Nat := s.fld .egr (egrReg p 0x1C) 10 0
def State.gateBase (s : State) (p : Nat) : Nat := s.rd64 .egr (egrReg p 0x10)
def State.gateCycle (s : State) (p : Nat) : Nat := s.fld .egr (egrReg p 0x18) 29 0

/-- Interval, gates and operation of an entry. -/
structure GateEntry where
  interval : Nat
  gates : Nat
  op : Nat
deriving DecidableEq, Repr

/-- The entries in force. -/
def State.gateList (s : State) (p : Nat) : List GateEntry :=
  (List.range (s.gateCount p)).map (fun n =>
    let hi := s.rd .egr (egrReg p (0x2004 + 8 * n))
    ⟨(s.rd .egr (egrReg p (0x2000 + 8 * n))).toNat, field hi 7 0, field hi 9 8⟩)

/-- The position in the cycle at time `t` ns (R296). -/
def State.gatePos (s : State) (p t : Nat) : Nat := (((t : Int) - (s.gateBase p : Int)) % (s.gateCycle p : Int)).toNat

/-- The entry that holds position `pos` and what is left of it. -/
def entryAt : List GateEntry → Nat → Nat → Option (Nat × GateEntry × Nat)
  | [], _, _ => none
  | e :: es, pos, n => if pos < e.interval then some (n, e, e.interval - pos) else entryAt es (pos - e.interval) (n + 1)

/-- Is a schedule in force? -/
def State.scheduled (s : State) (p : Nat) : Bool := s.gateEn p && decide (0 < s.gateCycle p)

/-- The gate states in force at time `t` (R295, R296). -/
def State.gatesAt (s : State) (p t : Nat) : Nat :=
  if s.scheduled p then ((entryAt (s.gateList p) (s.gatePos p t) 0).map (fun x => x.2.1.gates)).getD 0xFF else 0xFF

/-- How long class `c` stays open through entries in a row. -/
def openRun (c : Nat) : List GateEntry → Nat
  | [] => 0
  | e :: es => if e.gates.testBit c then e.interval + openRun c es else 0

/-- How long class `c` stays open without a break from time `t` on, in ns; none without end (R301). -/
def State.openFor (s : State) (p c t : Nat) : Option Nat :=
  if !s.scheduled p then none
  else
    let es := s.gateList p
    if es.all (fun e => e.gates.testBit c) then none
    else match entryAt es (s.gatePos p t) 0 with
      | none => none
      | some (n, e, left) =>
        if e.gates.testBit c then some (left + openRun c (es.drop (n + 1) ++ es.take n)) else some 0

/-- The longest unbroken open time of class `c` (R302): runs are taken over two cycles, so that one may cross the boundary. -/
def windowOf (c : Nat) (es : List GateEntry) : Nat :=
  let runs := (List.range es.length).map (fun n => openRun c (es.drop n ++ es.take n))
  runs.foldl Nat.max 0

/-- EGR_WINDOW of class `c`: all ones where its gate is open in every entry or no schedule runs. -/
def State.windowFor (s : State) (p c : Nat) : Nat :=
  if !s.scheduled p || (s.gateList p).all (fun e => e.gates.testBit c) then 0xFFFFFFFF else windowOf c (s.gateList p)

/-! ### Copies at a port -/

/-- Bytes arrived of a held frame: all of it once whole, else what its port has received (R155). -/
def State.arrivedOf (s : State) (h : Held) : Nat :=
  if h.frame.whole then h.frame.bytes.length
  else match (s.port h.frame.origin).rx with
    | some r => if r.id = h.frame.id then Nat.min r.arrived h.frame.bytes.length else 0
    | none => 0

/-- Is a copy, or its frame, lost after it had started on the wire: nothing more of it moves? -/
def State.broken (s : State) (c : Copy) : Bool := (s.frameOf c).failed || c.lost

/-- Is the copy's next cell ready (R242)? -/
def State.ready (s : State) (c : Copy) : Bool :=
  let h := s.frameOf c
  if s.broken c then false
  else if h.frame.whole then decide (c.moved < h.cells)
  else c.cut && decide (64 * (c.moved + 1) ≤ s.arrivedOf h)

/-- Has the copy crossed its lane wholly? -/
def State.crossed (s : State) (c : Copy) : Bool := decide ((s.frameOf c).cells ≤ c.moved)

/-- The head copies of the queues (input lane, output lane, class) that have cells to move, in order. -/
def headsOf (left : Copy → Bool) : List Copy → List (Nat × Nat × Nat) → List Copy
  | [], _ => []
  | c :: cs, seen =>
    let k := (c.inLane, c.outLane, c.cls)
    if left c || seen.contains k then headsOf left cs seen else c :: headsOf left cs (k :: seen)

/-- Every head copy: one that has crossed or is lost has left its queue. -/
def State.heads (s : State) : List Copy := headsOf (fun c => s.crossed c || s.broken c) s.cis.copies []

/-- Has the port taken the copy: is it staged or on the wire? -/
def EgrPort.has (e : EgrPort) (k : Nat) : Bool := e.staged.any (fun x => x.copy == some k) || e.wire.any (fun w => w.copy == k)

/-- Ready head copies of class `c` for port `p` that it has not taken yet: of its lane's queues, or for an S-port the frames in the S-lane
buffer (R286, R291). -/
def State.portHeads (s : State) (p c : Nat) : List Copy :=
  if isSPort p then
    ((s.net.sbuf.filterMap (fun i => s.copyOf i.copy)).filter (fun x => x.cls == c && (x.dest == .port p && !s.broken x))).take 1
  else s.heads.filter (fun x => x.cls == c && (x.outLane == laneOf p && (s.ready x && !(s.egress p).has x.id)))

/-! ### The frame on the wire (R288; 04_ethernet_ports.md R164) -/

/-- The frame on the wire now. -/
def EgrPort.active (e : EgrPort) : Option OnWire := e.wire.find? (fun w => !w.suspended)

/-- Bytes that a frame has sent of its current fragment, its preamble of 8 bytes left out. -/
def State.fragmentSent (s : State) (p : Nat) (w : OnWire) : Nat := (s.nowNs - w.start) * s.runRate p / 8000 - 8

/-- Bytes that a preemptable fragment sends at least (R164). -/
def State.leastFragment (s : State) (p : Nat) : Nat := 64 * (1 + s.fld .eth (ethReg p 0x50) 7 6) - 4

/-- Bytes that the frame on the wire has left, its FCS included. -/
def State.bytesLeft (s : State) (p : Nat) (w : OnWire) : Nat := w.bytes.length + 4 - (w.sent + s.fragmentSent p w)

/-- May the frame on the wire be preempted now (R164)? -/
def State.mayPreempt (s : State) (p : Nat) (w : OnWire) : Bool :=
  !w.express && (decide (s.leastFragment p ≤ s.fragmentSent p w) && decide (64 ≤ s.bytesLeft p w))

/-- Wire time of `n` bytes in ns, rounded up. -/
def State.wireTime (s : State) (p n : Nat) : Nat := ceilDiv (8000 * n) (s.runRate p)

/-- Bytes that a preemptable frame on the wire sends before it may be preempted, where R164 lets it be preempted at all. -/
def State.toPreempt (s : State) (p : Nat) (w : OnWire) : Option Nat :=
  let n := s.leastFragment p - s.fragmentSent p w
  if !w.express && decide (n + 64 ≤ s.bytesLeft p w) then some n else none

/-- The projected start instant of a selection (R288): the wire is free once the frame on it has ended with its gap of 12 bytes, or, for
an express selection under preemption, once that frame is preempted, its mCRC of 4 bytes sent. -/
def State.wireFree (s : State) (p : Nat) (express : Bool) : Nat :=
  match (s.egress p).active with
  | none => s.nowNs
  | some w =>
    match (if express && s.preempting p then s.toPreempt p w else none) with
    | some n => s.nowNs + s.wireTime p (n + 16)
    | none => s.nowNs + s.wireTime p (s.bytesLeft p w + 12)

/-- May the port make its next selection (R288, R310): the wire idle or with at most 100 ns to run, or a preemptable frame there that does
not keep an express class waiting? A preemptable selection waits for the frame that is suspended. -/
def State.maySelect (s : State) (p : Nat) (express : Bool) : Bool :=
  let e := s.egress p
  (match e.active with
    | none => true
    | some w => (express && (s.preempting p && !w.express)) || decide (s.wireTime p (s.bytesLeft p w) ≤ 100)) &&
    (express || !e.wire.any (fun w => w.suspended))

/-! ### Transmit buffers (R288, R289, R291) -/

/-- Cells of a copy that its port has sent. -/
def State.cellsSent (s : State) (p : Nat) (c : Copy) : Nat :=
  match (s.egress p).wire.find? (fun w => w.copy == c.id) with
  | some w => Nat.min c.moved ((w.sent + (if w.suspended then 0 else s.fragmentSent p w)) / 64)
  | none => 0

/-- Cells in the buffer of the unit on an output lane: what has crossed and is not sent, or not taken yet. -/
def State.bufferCells (s : State) (l : Nat) : Nat :=
  ((s.cis.copies.filter (fun c => c.outLane == l)).map (fun c => match c.dest with
    | .port p => c.moved - s.cellsSent p c
    | _ => c.moved)).sum

/-- Cells that the buffer of an output lane's unit holds: 16 KiB of a SerDes port, 64 KiB of the S-ports; for any other unit the spec gives
no size, and the model asks no more of it than room for one largest frame (notes/assumptions/153.md). -/
def unitCells (l : Nat) : Nat := if l = 20 then 1024 else if (portOfLane l).isSome then 256 else Config.unitRoom l + 144

/-- Has the buffer of an output lane's unit room for one cell (R245, R289, R291)? -/
def State.unitRoom (s : State) (l : Nat) : Bool := decide (s.bufferCells l < unitCells l)

/-! ### Guard bands (R299-R301) -/

/-- Does MACsec add to the copy, and how much (R299, R309)? -/
def State.secAdds (s : State) (p : Nat) (bs : List Byte) : Nat :=
  if s.macsecOn p && !s.macsecBypass p bs then (if s.flag .eth (ethReg p 0x64) 4 then 32 else 24) else 0

/-- The guard length G of a copy (R299). -/
def State.guardLen (s : State) (p : Nat) (c : Copy) : Nat :=
  let f := (s.frameOf c).frame
  let base := Nat.max 60 (if c.cut then f.maxLen - 4 else f.bytes.length) + 4
  let ctl := if !isSPort p && (s.flag .eth (ethReg p 0x40) 14 || decide (s.fld .eth (ethReg p 0x44) 15 8 ≠ 0)) then 84 else 0
  base + s.secAdds p f.bytes + 20 + ctl

/-- The guard length that the class needs (R300). -/
def State.guardFor (s : State) (p : Nat) (c : Copy) : Nat :=
  if s.preemptable p c.cls then Nat.min (s.guardLen p c) (64 * (1 + s.fld .eth (ethReg p 0x50) 7 6) + 20) else s.guardLen p c

/-- Does a guard length fit into `t` ns at the running speed, GUARD_ADD included (R301)? -/
def State.guardFits (s : State) (p n : Nat) (room : Option Nat) : Bool :=
  match room with
  | none => true
  | some t => decide (8000 * n + s.fld .egr (egrReg p 0) 31 16 * s.runRate p ≤ t * s.runRate p)

/-! ### Credits (R303-R306) -/

/-- Offset of EGR_CLASS and EGR_SLOPE of a class. -/
def egrClass (p c : Nat) : Nat := egrReg p (0x40 + 4 * c)
def egrSlope (p c : Nat) : Nat := egrReg p (0x60 + 4 * c)

/-- Is a class shaped, and its idle slope limited to the running speed, in units of 8 kb/s (R305)? -/
def State.cbsEn (s : State) (p c : Nat) : Bool := s.flag .egr (egrClass p c) 31
def State.idleSlope (s : State) (p c : Nat) : Nat := Nat.min (s.fld .egr (egrSlope p c) 21 0) (125 * s.runRate p)

/-- Credit of a class, and in units of 2^-16 bit. -/
def State.creditOf (s : State) (p c : Nat) : Credit := Sparse.get (fun _ => {}) (s.egress p).credit c
def State.credit (s : State) (p c : Nat) : Int := (s.creditOf p c).bits

/-- The least and the greatest credit (R304), in units of 2^-16 bit. -/
def creditMin : Int := -(2 ^ 47)
def creditMax : Int := 2 ^ 47 - 1

/-- One unit of 2^-16 bit in the units in which slopes add up over time: a slope in 10^-6 bit per ns, a time in units of 2^-32 ns. -/
def creditUnit : Nat := 10 ^ 6 * 2 ^ 16

/-- A credit after `dt` units of 2^-32 ns at a slope in 10^-6 bit per ns, at most `most`. -/
def Credit.after (k : Credit) (slope : Int) (dt : Nat) (most : Int) : Credit :=
  let n := slope * (dt : Int) + (k.rest : Int)
  let bits := k.bits + n / (creditUnit : Int)
  if bits < creditMin then ⟨creditMin, 0⟩ else if most ≤ bits then ⟨most, 0⟩ else ⟨bits, (n % (creditUnit : Int)).toNat⟩

/-- Does a ready copy of the class wait (R303): at the head of a queue, staged, or suspended by preemption? -/
def State.copyWaits (s : State) (p c : Nat) : Bool :=
  let e := s.egress p
  !(s.portHeads p c).isEmpty || (e.staged.any (fun x => x.cls == c && (x.copy.bind s.copyOf).isSome) || e.wire.any (fun w => w.cls == c && w.suspended))

/-- The shaped frame of a class on the wire now. -/
def State.shapedOnWire (s : State) (p c : Nat) : Option OnWire := (s.egress p).wire.find? (fun w => w.cls == c && (!w.suspended && w.shaped))

/-- The credit of a class after `dt` units of 2^-32 ns in which nothing changes but, at the end, a gate (R303): the first row that applies.
One unit of slope is 8 x 10^-6 bit per ns. A frame on the wire keeps the slope it started with (01_architecture.md R34). -/
def State.creditStep (s : State) (p c : Nat) (gateOpen : Bool) (k : Credit) (dt : Nat) : Credit :=
  let idle : Int := 8 * (s.idleSlope p c : Int)
  match s.shapedOnWire p c with
  | some w => k.after (8 * (w.slope : Int) - 1000 * (s.runRate p : Int)) dt creditMax
  | none =>
    if s.classPaused p c || !gateOpen then k
    else if s.copyWaits p c then k.after idle dt creditMax
    else if k.bits < 0 then k.after idle dt 0
    else {}

/-- The credit of a class after the time from `t` on, in units of 2^-32 ns, entry of the schedule by entry: `n` bounds the entries. -/
def State.creditOver (s : State) (p c : Nat) : Nat → Nat → Nat → Credit → Credit
  | 0, t, dt, k => s.creditStep p c ((s.gatesAt p (t / 2 ^ 32)).testBit c) k dt
  | n + 1, t, dt, k =>
    let gateOpen := (s.gatesAt p (t / 2 ^ 32)).testBit c
    match (if s.scheduled p then entryAt (s.gateList p) (s.gatePos p (t / 2 ^ 32)) 0 else none) with
    | none => s.creditStep p c gateOpen k dt
    | some (_, _, left) =>
      let step := 2 ^ 32 * (t / 2 ^ 32 + left) - t
      if dt ≤ step then s.creditStep p c gateOpen k dt
      else State.creditOver s p c n (t + step) (dt - step) (s.creditStep p c gateOpen k step)

/-- The credit of a class `dt` units of 2^-32 ns after the time `t`. -/
def State.creditAfter (s : State) (p c t dt : Nat) : Credit := s.creditOver p c 64 t dt (s.creditOf p c)

/-- The credit that a class will have at `t` ns, when the wire is free (R288): its own frame on the wire has ended by then. -/
def State.creditAt (s : State) (p c t : Nat) : Int :=
  match s.shapedOnWire p c with
  | some w => (s.creditOf p c).bits + 2 ^ 16 * ((8 * (w.slope : Int) - 1000 * (s.runRate p : Int)) * (s.wireTime p (s.bytesLeft p w) : Int)) / (10 ^ 6 : Nat)
  | none => (s.creditAfter p c s.now (2 ^ 32 * t - s.now)).bits

/-- The shaped classes of all ports: the registers that say CBS_EN. -/
def State.shaped (s : State) : List (Nat × Nat) :=
  (s.regs.egr.word.filter (fun e => decide (e.1 % 0x4000 < 0x60) && (decide (0x40 ≤ e.1 % 0x4000) && bit e.2 31))).map
    (fun e => (e.1 / 0x4000, (e.1 % 0x4000 - 0x40) / 4))

/-- Lets `dt` units of 2^-32 ns from the time `t` on pass over every shaped class (R303, R304). -/
def State.accrueCredits (s : State) (t dt : Nat) : State :=
  s.shaped.foldl (fun (u : State) pc =>
    let e := u.egress pc.1
    u.setEgress pc.1 { e with credit := Sparse.put (fun _ => {}) e.credit pc.2 (s.creditAfter pc.1 pc.2 t dt) }) s

/-- Counts in EGR_ERR and raises E576 + p: bit number and class (R315). -/
def State.egrErr (s : State) (p i c : Nat) : State := s.setErr .egr (egrReg p 8) i (576 + p) (p1 i ++ p1 c)

/-- SLOPE_OVER when the limited slopes sum to more than the running speed of a port below its build rate (R305). -/
def State.checkSlopes (s : State) (p : Nat) : State :=
  let sum := ((List.range 8).map (fun c => if s.cbsEn p c then s.idleSlope p c else 0)).sum
  if s.runRate p < buildRate (s.buildMode p) && decide (125 * s.runRate p < sum) then s.egrErr p 2 0 else s

/-- Offset of a counter of a class (R316). -/
def egrCounter (p c k : Nat) : Nat := egrReg p (0x400 + 0x40 * c + 8 * k)

/-! ### Eligibility and selection (R286-R310) -/

/-- The longest guard length among the ready head copies of a class. -/
def State.longestGuard (s : State) (p c : Nat) : Nat := ((s.portHeads p c).map (fun x => s.guardFor p x)).foldl Nat.max 0

/-- Is class `c` of port `p` eligible at `t` ns (R286, R288)? -/
def State.eligible (s : State) (p t c : Nat) : Bool :=
  (s.port p).state = .up && (!(s.portHeads p c).isEmpty && (!s.classPaused p c && ((s.gatesAt p t).testBit c &&
    (s.guardFits p (s.longestGuard p c) (s.openFor p c t) && (!s.cbsEn p c || decide (0 ≤ s.creditAt p c t))))))

/-- Drops the head copies whose guard time exceeds the class's longest window, until the heads fit (R302). -/
def State.dropUnfit (s : State) (p c : Nat) : Nat → State
  | 0 => s
  | n + 1 =>
    let w := s.windowFor p c
    if w = 0xFFFFFFFF then s
    else match (s.portHeads p c).find? (fun x => !s.guardFits p (s.guardFor p x) (some w)) with
      | none => s
      | some x =>
        let s1 := { s with net := { s.net with sbuf := s.net.sbuf.filter (fun i => i.copy != x.id) } }
        State.dropUnfit (((s1.dropCopies (fun y => y.id == x.id)).bump .egr (egrCounter p c 2)).egrErr p 0 c) p c n

/-- Group of a class, and its quantum (R307). -/
def State.groupOf (s : State) (p c : Nat) : Nat := s.fld .egr (egrClass p c) 17 16
def State.quantumOf (s : State) (p c : Nat) : Nat := s.fld .egr (egrClass p c) 15 0

/-- Classes of a group, highest first. -/
def State.groupClasses (s : State) (p g : Nat) : List Nat := ((List.range 8).filter (fun c => s.groupOf p c == g)).reverse

/-- Deficit of a class. -/
def EgrPort.deficitOf (e : EgrPort) (c : Nat) : Nat := Sparse.get (fun _ => 0) e.deficit c

/-- L(c): the length, DA through FCS and MACsec overhead, of the longest ready head copy (R309). -/
def State.drrLength (s : State) (p c : Nat) : Nat :=
  ((s.portHeads p c).map (fun x =>
    let f := (s.frameOf x).frame
    Nat.max 60 (if x.cut then f.maxLen - 4 else f.bytes.length) + 4 + s.secAdds p f.bytes)).foldl Nat.max 0

/-- The next lower class of a group, wrapping to the highest. -/
def nextLower (classes : List Nat) (c : Nat) : Nat := ((classes.find? (fun x => decide (x < c))).orElse (fun _ => classes.head?)).getD c

/-- The deficit round-robin of a group (R309), with a bound on its turns. -/
def State.selectInGroup (s : State) (p g : Nat) (classes : List Nat) (can : Nat → Bool) : Nat → State × Option Nat
  | 0 => (s, none)
  | n + 1 =>
    let e := s.egress p
    let c := Sparse.get (fun _ => classes.headD 0) e.ptr g
    let l := s.drrLength p c
    if can c && decide (l ≤ e.deficitOf c) then
      (s.setEgress p { e with deficit := Sparse.put (fun _ => 0) e.deficit c (e.deficitOf c - l) }, some c)
    else
      let d := if (s.portHeads p c).isEmpty then Sparse.put (fun _ => 0) e.deficit c 0 else e.deficit
      let c' := nextLower classes c
      let gained := Sparse.get (fun _ => 0) d c' + (if can c' then s.quantumOf p c' else 0)
      let e' := { e with ptr := Sparse.put (fun _ => classes.headD 0) e.ptr g c', deficit := Sparse.put (fun _ => 0) d c' gained }
      State.selectInGroup (s.setEgress p e') p g classes can n

/-- Priority level of a class: its number, or that of its group's highest class (R287). -/
def State.levelOf (s : State) (p c : Nat) : Nat :=
  if s.groupOf p c = 0 then c else ((s.groupClasses p (s.groupOf p c)).headD c)

/-- The class selected for a start at `t` ns among those that `among` admits (R287, R309). -/
def State.selectClass (s : State) (p t : Nat) (among : Nat → Bool) : State × Option Nat :=
  let can := fun (c : Nat) => among c && s.eligible p t c
  match sortBy (fun a b => decide (s.levelOf p b ≤ s.levelOf p a)) ((List.range 8).filter can) with
  | [] => (s, none)
  | c :: _ =>
    if s.groupOf p c = 0 then (s, some c)
    else s.selectInGroup p (s.groupOf p c) (s.groupClasses p (s.groupOf p c)) can 4096

/-- The staged selections of a port whose copy is not dropped. -/
def State.stagedNow (s : State) (p : Nat) : List Staged :=
  (s.egress p).staged.filter (fun x => match x.copy with
    | none => true
    | some k => (s.copyOf k).isSome)

/-- Stages a selection for a SerDes port (R288, R310): one for all classes, or one each for express and preemptable classes while
preemption is active. -/
def State.stageFrom (s : State) (p : Nat) (express : Bool) (among : Nat → Bool) : State :=
  if (s.stagedNow p).any (fun x => x.express == express) || !s.maySelect p express then s
  else match s.selectClass p (s.wireFree p express) among with
    | (s1, some c) =>
      let e := s1.egress p
      s1.setEgress p { e with staged := s.stagedNow p ++ [{ cls := c, express := express }] }
    | (s1, none) => s1

/-- Is a staged frame waiting behind a pause (R290)? -/
def State.stagingHeld (s : State) (p : Nat) : Bool := (s.stagedNow p).any (fun x => x.held)

/-- EGRESS_SELECT on a SerDes port (R288, R302, R310). -/
def State.egressSelectPort (s : State) (p : Nat) : State :=
  if isSPort p || s.stagingHeld p then s
  else
    let s1 := (List.range 8).foldl (fun t c => t.dropUnfit p c 64) s
    if s1.preempting p then
      (s1.stageFrom p true (fun c => !s1.preemptable p c)).stageFrom p false (fun c => s1.preemptable p c)
    else s1.stageFrom p true (fun _ => true)

end Sys2Proof.Machine
end

