-- ==== Sys2Proof/Machine/Flume.lean ====
section
/-!
DEFINITION. Flumes (10_flumes.md R403-R424): producers and credits, grants, the consumer's commands, flume reset.
-/
namespace Sys2Proof.Machine

/-- A flume. -/
def State.flume (s : State) (f : Nat) : Flume := Sparse.get (fun _ => {}) s.flm.flume f

/-- Offset of a register of flume `f` (R423). -/
def flumeReg (f off : Nat) : Nat := 0x10000 + 0x80 * f + off

/-- The state with flume `f` replaced; after a change of RL the positions of a mirrored flume are due to be mirrored
(14_tandem_redundancy.md R545). -/
def State.setFlume (s : State) (f : Nat) (v : Flume) : State :=
  let dirty := s.tdm.dirtyFlume
  let due := if s.flag .flm (flumeReg f 0) 30 && (decide ((s.flume f).rl ≠ v.rl) && !dirty.contains f) then dirty ++ [f] else dirty
  { s with flm := { s.flm with flume := Sparse.put (fun _ => {}) s.flm.flume f v }, tdm := { s.tdm with dirtyFlume := due } }

/-- Is the flume present (R406)? -/
def State.flumePresent (s : State) (f : Nat) : Bool := s.flag .flm (flumeReg f 0) 31

/-- Ring size in slots (R403). -/
def State.flumeSlots (s : State) (f : Nat) : Nat := 32 * s.fld .flm (flumeReg f 0) 12 0

/-- ROLE, CONSUMER, MAX_ITEM, ALLOT and TIMEOUT_MS of a flume. -/
def State.flumeRole (s : State) (f : Nat) : Nat := s.fld .flm (flumeReg f 0) 26 24
def State.flumeConsumer (s : State) (f : Nat) : Nat := s.fld .flm (flumeReg f 0) 23 20
def State.flumeMaxItem (s : State) (f : Nat) : Nat := s.fld .flm (flumeReg f 4) 8 0
def State.flumeAllot (s : State) (f : Nat) : Nat := s.fld .flm (flumeReg f 4) 31 16
def State.flumeTimeout (s : State) (f : Nat) : Nat := s.fld .flm (flumeReg f 8) 15 0

/-- Producers of a role (R408). -/
def roleProducers (role : Nat) : Nat := if role = 1 then 3 else 1

/-- The present flume with a role that allows only one. -/
def State.flumeWithRole (s : State) (role : Nat) : Option Nat :=
  (List.range 1536).find? (fun f => s.flumePresent f && s.flumeRole f == role)

/-- The distance from position `a` forward to position `b`, modulo 2^32 (R405). -/
def fromTo (a b : Nat) : Nat := (b + 2 ^ 32 - a % 2 ^ 32) % 2 ^ 32

/-- Slots of an item of `n` bytes (R404). -/
def slotsOf (n : Nat) : Nat := ceilDiv n 32

/-- Credit of a producer. -/
def Flume.creditOf (f : Flume) (p : Nat) : Nat := Sparse.get (fun _ => 0) f.credit p

/-- Sum of all producers' credits. -/
def Flume.credits (f : Flume) : Nat := (f.credit.map (fun e => e.2)).sum

/-- Free space (R410). An accepted item is behind WR at once, so no item is in the head. -/
def State.flumeFree (s : State) (f : Nat) : Nat :=
  s.flumeSlots f - fromTo (s.flume f).rl (s.flume f).wr - (s.flume f).credits

/-- A producer hands flume `f` an item (R409-R411): the state after, and whether it was accepted. -/
def State.flumeOffer (s : State) (f p : Nat) (bytes : List Byte) : State × Bool :=
  if s.flumePresent f then
    let fl := s.flume f
    let n := slotsOf bytes.length
    if 1 ≤ n && (n ≤ s.flumeMaxItem f && n ≤ fl.creditOf p) then
      let wr := (fl.wr + n) % 2 ^ 32
      let s := s.setFlume f { fl with
        items := fl.items ++ [⟨p, n, fl.wr, bytes⟩], wr := wr, wr2 := wr,
        credit := Sparse.put (fun _ => 0) fl.credit p (fl.creditOf p - n) }
      ((s.bump .flm (flumeReg f 0x40)).bumpBy .flm (flumeReg f 0x48) n, true)
    else (s.bump .flm (flumeReg f 0x58), false)
  else (s, false)

/-- Grants still owed to a producer from the layout load or a flume reset, which asks for two in a row (R410). -/
def Flume.owedTo (f : Flume) (p : Nat) : Nat := Sparse.get (fun _ => 0) f.owed p

/-- Is a grant to producer `p` due (R410)? -/
def State.grantDue (s : State) (f p : Nat) : Bool :=
  s.flumePresent f && (decide (p < roleProducers (s.flumeRole f)) &&
    (decide (0 < (s.flume f).owedTo p) || decide ((s.flume f).creditOf p < s.flumeAllot f)))

/-- A grant decision (R410, R411): a due grant is given where ALLOT slots are free, else withheld with ALLOT_SHORT. -/
def State.flumeGrant (s : State) (f p : Nat) : State × Bool :=
  if s.grantDue f p then
    let fl := s.flume f
    if s.flumeAllot f ≤ s.flumeFree f then
      (s.setFlume f { fl with
        credit := Sparse.put (fun _ => 0) fl.credit p (fl.creditOf p + s.flumeAllot f),
        owed := Sparse.put (fun _ => 0) fl.owed p (fl.owedTo p - 1) }, true)
    else (s.setErr .flm 4 0 1152 (p2 f), false)
  else (s, false)

/-- The two grants that every producer of a flume is owed after the layout load and after a reset (R410, R418). -/
def owedAll (role : Nat) : Sparse Nat := (List.range (roleProducers role)).map (fun p => (p, 2))

/-- Empties the window of a path. -/
def State.clearFlumeWin (s : State) (path : Nat) : State :=
  { s with flm := { s.flm with win := Sparse.put (fun _ => {}) s.flm.win path {} } }

/-- A flume reset (R418): `code` names the position, `a` and `b` its copies; for cause 2 0xFF, the slot's position and 0. -/
def State.flumeReset (s : State) (f cause code a b : Nat) : State :=
  let fl := s.flume f
  let s1 := s.setFlume f { epoch := (fl.epoch + 1) % 2 ^ 16, owed := owedAll (s.flumeRole f) }
  let s2 := (s1.bumpBy .flm (flumeReg f 0x60) fl.items.length).bump .flm (flumeReg f 0x70)
  s2.emit 1160 (p2 f ++ (p1 cause ++ (p1 code ++ (p4 a ++ (p4 b ++ p4 fl.items.length)))))

/-- Stores the result of a command in FLM_RESULT. -/
def State.flumeResult (s : State) (f r : Nat) : State := s.wr .flm (flumeReg f 0x28) (word r)

/-- The item at RD. -/
def Flume.head (f : Flume) : Option FlumeItem := f.items.find? (fun i => i.pos == f.rd)

/-- The checks a command passes first (R412, R413): presence, then the consumer's path. -/
def State.flumeCommand (s : State) (path : Path) (f : Nat) (run : State → State) : State :=
  if s.flumePresent f then
    if path ≠ .debug && s.flumeConsumer f == pathIndex path then run s
    else (s.flumeResult f 2).setErr .flm 4 2 1154 (p2 f)
  else s.flumeResult f 5

/-- READ and PEEK (R413-R415, R417): `ue` is the slot of the item whose word is found uncorrectable. -/
def State.flumeFetch (s : State) (path : Path) (f : Nat) (advance : Bool) (ue : Option Nat) : State :=
  let fl := s.flume f
  match fl.head with
  | none => s.flumeResult f 1
  | some i =>
    match ue with
    | some k => ((s.flumeReset f 2 0xFF ((i.pos + k % i.slots) % 2 ^ 32) 0).clearFlumeWin (pathIndex path)).flumeResult f 3
    | none =>
      let rd := if advance then (fl.rd + i.slots) % 2 ^ 32 else fl.rd
      let s := s.setFlume f { fl with rd := rd, rd2 := rd, stale := false, staleArmed := true }
      let s := { s with flm := { s.flm with win := Sparse.put (fun _ => {}) s.flm.win (pathIndex path) ⟨f, i.slots, i.pos, i.bytes⟩ } }
      let s := if advance then s.bump .flm (flumeReg f 0x50) else s
      s.flumeResult f 0

/-- The flume with space released up to position `to`. -/
def Flume.released (fl : Flume) (end_ : Nat) : Flume :=
  { fl with items := fl.items.filter (fun i => fromTo fl.rl end_ ≤ fromTo fl.rl i.pos), rl := end_, rl2 := end_ }

/-- MARK, REWIND, RELEASE and RELEASE_MARK (R413). -/
def Flume.marked (fl : Flume) : Flume := { fl with mark := fl.rd, mark2 := fl.rd }
def Flume.rewound (fl : Flume) : Flume := { fl with rd := fl.mark, rd2 := fl.mark }
def Flume.releasedRead (fl : Flume) : Flume := ({ fl with mark := fl.rd, mark2 := fl.rd } : Flume).released fl.rd
def Flume.releasedMark (fl : Flume) : Flume := fl.released fl.mark

end Sys2Proof.Machine
end

