-- ==== Sys2Proof/Machine/Crossbar.lean ====
section
/-!
DEFINITION. The roundabout and its lanes (06_switch_core.md R240-R252, R272-R276), bank errors and retirement (R265-R271), and what the
units on lanes 20-26 take (R227, R291; 05_classification.md R204; 15_management_events_health.md R580).
-/
namespace Sys2Proof.Machine

/-! ### Lanes (R272-R275, 01_architecture.md R32) -/

/-- A lane, and the state with it replaced. -/
def State.lane (s : State) (l : Nat) : Lane := Sparse.get (fun _ => {}) s.xbr.lane l
def State.setLane (s : State) (l : Nat) (v : Lane) : State := { s with xbr := { s.xbr with lane := Sparse.put (fun _ => {}) s.xbr.lane l v } }

/-- Does the lane take part in arbitration (R251)? -/
def State.laneServed (s : State) (l : Nat) : Bool :=
  match (s.lane l).state with
  | .inService => true
  | .onSpare => true
  | .roadworksOnSpare => true
  | _ => false

/-- Is lane 27 serving a lane, under roadworks or dead? -/
def State.spareBusy (s : State) : Bool := s.xbr.spareFor.isSome || s.xbr.spareTest
def State.spareFree (s : State) : Bool := s.xbr.spareFor.isNone && !s.xbr.spareDead

/-- Offset of a counter of a lane (R280). -/
def xbrCounter (l k : Nat) : Nat := 0x1000 + 0x40 * l + 8 * k

/-- The ports on a lane. -/
def portsOn (l : Nat) : List Nat := (List.range 29).filter (fun p => laneOf p == l)

/-- Drops copies lost on a lane: each frame counts once in xbr.lane.lost, one that is lost already not again, and a copy on the wire is
stomped (R273, R266). The frame's other copies go on. -/
def State.laneLoses (s : State) (l : Nat) (gone : Copy → Bool) : State :=
  let hit := fun (c : Copy) => gone c && !s.broken c
  let frames := ((s.cis.copies.filter hit).map (fun c => c.frame)).eraseDups
  let onWire := fun (c : Copy) => s.net.egr.any (fun e => e.2.wire.any (fun w => w.copy == c.id))
  let s1 := s.dropCopies (fun c => hit c && !onWire c)
  ({ s1 with cis := { s1.cis with copies := s1.cis.copies.map (fun (c : Copy) => if hit c then { c with lost := true } else c) } }).bumpBy .xbr
    (xbrCounter l 3) frames.length

/-- Drops the frames that the ports on a lane are receiving, counted in xbr.lane.lost (R273). -/
def State.dropReceiving (s : State) (l : Nat) : State :=
  (portsOn l).foldl (fun t p =>
    let t0 := if (t.port p).assembly.isSome then (t.setPort p { t.port p with assembly := none }).bump .xbr (xbrCounter l 3) else t
    match (t0.port p).rx with
    | none => t0
    | some r =>
      let t1 := t0.setPort p { t0.port p with rx := none }
      ({ t1 with prs := { t1.prs with wait := t1.prs.wait.filter (fun (f : Frame) => f.id != r.id) } }.frameFailed r.id).bump .xbr (xbrCounter l 3)) s

/-- A unit delivers a frame on its lane: it waits for classification, or is lost with a lane that no transfer crosses (R273;
01_architecture.md R32). -/
def State.enter (s : State) (f : Frame) : State :=
  if s.laneServed f.lane then s.toClassify f else s.bump .xbr (xbrCounter f.lane 3)

/-- Counts in XBR_ERR. Its bits have no events of their own (R279). -/
def State.xbrErr (s : State) (i : Nat) : State := s.wr .xbr 0x10 (setBit (s.rd .xbr 0x10) i true)

/-- Drops the copies that a lane without service would carry, in or out (01_architecture.md R32). -/
def State.outLoses (s : State) (l : Nat) : State := s.laneLoses l (fun c => (c.outLane == l || c.inLane == l) && !s.crossed c)

/-- Lane `l` goes OUT while lane 27 is busy or dead (R32, R275). -/
def State.laneOut (s : State) (l : Nat) : State :=
  let s1 := s.setLane l { s.lane l with state := .out, failedAt := s.nowNs }
  let s2 := { s1 with xbr := { s1.xbr with outOrder := s1.xbr.outOrder ++ [l] } }
  ((s2.xbrErr 3).outLoses l).emit 534 (p2 l ++ p2 (s.xbr.spareFor.getD 0x1F))

/-- The roadworks request that serves a unit is abandoned (15_management_events_health.md R587). -/
def State.rwAbandoned (s : State) (kind index : Nat) : State :=
  let r := s.mgt.rw
  if r.state ≠ .idle && (r.kind == kind && r.index == index) then
    (({ s with mgt := { s.mgt with rw := {} } }).setFld .mgt 0x28 9 8 2).emit 1602 (p1 kind ++ (p2 index ++ p1 2))
  else s

/-- Lane `l` fails, with the cause of E532 (R272, R273, R275); a lane that lane 27 serves fails lane 27 with it. Roadworks that the failure
ends have not passed: E535 says fail (R274, R279; notes/assumptions/155.md). -/
def State.failLane (s : State) (l cause : Nat) : State :=
  match (s.lane l).state with
  | .inService =>
    let s1 := ((s.xbrErr (cause - 1)).emit 532 (p2 l ++ p1 cause)).dropReceiving l
    if s1.spareFree then
      let s2 := { s1 with xbr := { s1.xbr with spareFor := some l, spareTest := false } }
      let s3 := if s.xbr.spareTest then (s2.emit 535 (p2 27 ++ p1 1)).rwAbandoned 2 27 else s2
      (s3.setLane l { s3.lane l with state := .remapping, failedAt := s.nowNs }).laneLoses l
        (fun c => (c.outLane == l || c.inLane == l) && (decide (0 < c.moved) && !s.crossed c))
    else s1.laneOut l
  | .onSpare =>
    let s1 := (((s.xbrErr (cause - 1)).xbrErr 2).emit 532 (p2 27 ++ p1 cause)).dropReceiving l
    ({ s1 with xbr := { s1.xbr with spareFor := none, spareDead := true } }).laneOut l
  | .roadworksOnSpare =>
    let s1 := (((s.xbrErr (cause - 1)).xbrErr 2).emit 532 (p2 27 ++ p1 cause)).dropReceiving l
    ((({ s1 with xbr := { s1.xbr with spareFor := none, spareDead := true } }).laneOut l).emit 535 (p2 l ++ p1 1)).rwAbandoned 2 l
  | _ => s

/-- The unit of a lane is reconnected through lane 27 (R275). -/
def State.laneOnSpare (s : State) (l : Nat) : State :=
  let s1 := { s with xbr := { s.xbr with spareFor := some l, outOrder := s.xbr.outOrder.filter (fun x => x != l) } }
  (s1.setLane l { s1.lane l with state := .onSpare }).emit 533 (p2 l ++ p4 ((s.nowNs - (s.lane l).failedAt) / 1000))

/-- Lane 27 is released: the lane longest OUT takes it (R32). -/
def State.releaseSpare (s : State) : State :=
  let s1 := { s with xbr := { s.xbr with spareFor := none } }
  match s1.xbr.outOrder with
  | l :: _ => if s1.spareFree then s1.laneOnSpare l else s1
  | [] => s1

/-- The self-test of a lane under roadworks ends (R274, R275); for lane 27 itself a failure takes it out of use. -/
def State.laneTested (s : State) (l : Nat) (pass : Bool) : State :=
  let result := p2 l ++ p1 (if pass then 0 else 1)
  if l = 27 then
    if s.xbr.spareTest then
      let s1 := { s with xbr := { s.xbr with spareTest := false, spareDead := !pass } }
      (if pass then s1.restartCounters .xbr (xbrCounter 27 0) (xbrCounter 27 4) else s1.xbrErr 2).emit 535 result
    else s
  else if (s.lane l).state = .roadworksOnSpare then
    if pass then
      (((s.setLane l {}).restartCounters .xbr (xbrCounter l 0) (xbrCounter l 4)).emit 535 result).releaseSpare
    else (s.setLane l { s.lane l with state := .onSpare }).emit 535 result
  else s

/-- A cell on lane `l` fails its CRC (R272): counted, and at CRC_THRESH within 1 ms the lane fails. -/
def State.laneCrc (s : State) (l : Nat) : State :=
  let a := s.lane l
  let fresh := decide (1000000 ≤ s.nowNs - a.crcFrom)
  let n := if fresh then 1 else a.crc + 1
  let s1 := (s.setLane l { a with crc := n, crcFrom := if fresh then s.nowNs else a.crcFrom }).bump .xbr (xbrCounter l 2)
  if s.fld .xbr 0xC 7 0 ≤ n then s1.failLane l 1 else s1

/-! ### Banks (R265-R271) -/

/-- Counts in CIS_ERR. Its bits have no events of their own (R279). -/
def State.cisErr (s : State) (i : Nat) : State := s.wr .cis 0xC (setBit (s.rd .cis 0xC) i true)

/-- Is RETIRE_MAX reached (R267)? -/
def State.retireLimit (s : State) : Bool := decide (s.fld .cis 0 24 20 ≤ s.banksRetired)

/-- Places anew the cells that have not arrived yet of frames being received: banks in service have changed (R236, R268). -/
def State.replaceCells (s : State) : State :=
  { s with cis := { s.cis with held := s.cis.held.map (fun (h : Held) =>
    if h.frame.whole then h
    else
      let there := h.banks.take (ceilDiv (s.arrivedOf h) 64)
      { h with banks := there ++ s.banksFrom (there.getLast?.elim (h.banks.headD 0) (fun b => (b + 1) % 64)) (h.cells - there.length) }) } }

/-- A bank begins retirement (R267, R268); the trigger codes are 1 uncorrectable error, 2 corrected errors, 3 roadworks. -/
def State.beginRetire (s : State) (b trigger : Nat) : State :=
  if !s.bankIn b then s
  else if s.retireLimit then (s.cisErr 1).emit 541 (p2 b ++ p1 trigger)
  else (s.setBank b { s.bank b with state := .retiring (trigger == 3), since := s.nowNs }).replaceCells

/-- Banks begin retirement at one time: in ascending order (R269). -/
def State.beginRetires (s : State) (bs : List (Nat × Nat)) : State :=
  (sortBy (fun (a b : Nat × Nat) => decide (a.1 ≤ b.1)) bs).foldl (fun (t : State) b => t.beginRetire b.1 b.2) s

/-- A corrected error in a bank (R265, R267): counted, also in the bank's CE_WINDOW. -/
def State.ceCounted (s : State) (b : Nat) : State :=
  let k := s.bank b
  let fresh := decide (1000000 * s.fld .cis 4 31 16 ≤ s.nowNs - k.ceFrom)
  (s.setBank b { k with ce := if fresh then 1 else k.ce + 1, ceFrom := if fresh then s.nowNs else k.ceFrom, exceeded := !fresh && k.exceeded }).bump .cis
    (0x1000 + 0x10 * b)

/-- Do the corrected errors of a bank's window exceed CE_THRESH, for the first time in it (R267)? -/
def State.ceOver (s : State) (b : Nat) : Bool :=
  let most := s.fld .cis 4 15 0
  decide (most ≠ 0) && (decide (most < (s.bank b).ce) && !(s.bank b).exceeded)

/-- Reports corrected errors over CE_THRESH. -/
def State.ceReported (s : State) (b : Nat) : State :=
  ((s.setBank b { s.bank b with exceeded := true }).cisErr 2).emit 539 (p2 b ++ p4 (s.bank b).ce)

/-- A corrected error and its report; the bank that retires for it, if any. -/
def State.bankCeSeen (s : State) (b : Nat) : State × List (Nat × Nat) :=
  let s1 := s.ceCounted b
  if s1.ceOver b then (s1.ceReported b, [(b, 2)]) else (s1, [])

/-- A corrected error in a bank (R265, R267). -/
def State.bankCe (s : State) (b : Nat) : State := (s.bankCeSeen b).1.beginRetires (s.bankCeSeen b).2

/-- Drops frames found uncorrectable (R266): their copies on the wire are stomped. A frame that is lost already counts no more. -/
def State.dropUe (s : State) (gone : Held → Bool) (counter : Nat) : State :=
  let ids := (s.cis.held.filter (fun h => gone h && !h.failed)).map (fun h => h.frame.id)
  (ids.foldl (fun t i => t.frameFailed i) s).bumpBy .cis counter ids.length

/-- An uncorrectable error at a word of a bank and its report (R265, R266): source 0 a frame read, 1 the patrol. -/
def State.bankUeSeen (s : State) (b wordAddr source : Nat) (gone : Held → Bool) : State :=
  (((s.bump .cis (0x1008 + 0x10 * b)).cisErr 3).emit 538 (p2 b ++ (p2 wordAddr ++ p1 source))).dropUe gone 0x430

/-- An uncorrectable error at a word of a bank (R265-R267). -/
def State.bankUe (s : State) (b wordAddr source : Nat) (gone : Held → Bool) : State := (s.bankUeSeen b wordAddr source gone).beginRetire b 1

/-- Does a bank retire with its allocation not stopped yet? -/
def State.stopping (s : State) (b : Nat) : Bool :=
  match (s.bank b).state with
  | .retiring _ => !(s.bank b).stopped
  | _ => false

/-- Allocation in one retiring bank has stopped (R268): the usable cells fall and reservations shrink. -/
def State.stopAlloc (s : State) (b : Nat) : State :=
  let (s1, cut) := (s.setBank b { s.bank b with stopped := true }).shrink
  s1.emit 540 (p2 b ++ (p4 s1.usable ++ p4 cut))

/-- Allocation in a retiring bank has stopped: a lower bank that began retirement at the same time goes first (R269). -/
def State.allocStopped (s : State) (b : Nat) : State :=
  if s.stopping b then
    ((List.range (b + 1)).filter (fun k => s.stopping k && (s.bank k).since == (s.bank b).since)).foldl (fun (t : State) k => t.stopAlloc k) s
  else s

/-- Every frame with a cell in a retiring bank is dropped and freed (R268). -/
def State.drainDone (s : State) (b : Nat) : State :=
  match (s.bank b).state with
  | .retiring works =>
    if (s.bank b).stopped then
      (s.dropUe (fun h => h.banks.contains b) 0x438).setBank b { s.bank b with state := if works then .roadworks else .retired }
    else s
  | _ => s

/-- A bank's built-in self-test ends (R268, R15). -/
def State.bistDone (s : State) (b : Nat) (pass : Bool) : State :=
  if (s.bank b).state = .roadworks then
    if pass then (((s.setBank b {}).replaceCells).restartCounters .cis (0x1000 + 0x10 * b) (0x1010 + 0x10 * b)).emit 542 (p2 b ++ p1 0)
    else (s.setBank b { s.bank b with state := .retired }).emit 542 (p2 b ++ p1 1)
  else s

/-! ### The roundabout (R245-R252) -/

/-- Takes 512 bits from a bucket, which never falls below -2,048 bits. -/
def State.takeBucket (s : State) (dir l c : Nat) : State :=
  s.setBucket dir l c (clampInt (-2048000000) 2048000000 (s.bucketNow dir l c - 512000000))

/-- Is class `c` open at output lane `o` in this slot (R245, R289, R291)? -/
def State.laneOpen (s : State) (o c : Nat) : Bool :=
  s.unitRoom o && (match portOfLane o with
    | some p => (s.egress p).staged.any (fun x => x.cls == c && (match x.copy with
        | none => true
        | some k => ((s.copyOf k).map (fun y => !s.crossed y)).getD false))
    | none => true)

/-- Request levels (R247). -/
inductive Level where
  | none | b | g | l
deriving DecidableEq, Repr

/-- The order of levels. -/
def Level.rank : Level → Nat
  | .none => 0
  | .b => 1
  | .g => 2
  | .l => 3

/-- Does a head copy qualify at level G (R247)? -/
def State.atG (s : State) (c : Copy) : Bool :=
  s.flag .xbr 0 2 && (decide (0 < s.bucketNow 0 c.inLane c.cls) || decide (0 < s.bucketNow 1 c.outLane c.cls))

/-- The lock of an output lane: input lane and copy. It holds until the copy has crossed or is dropped (R250). -/
def State.lockOf (s : State) (o : Nat) : Option (Nat × Nat) :=
  (s.xbr.lock.find? (fun l => l.1 == o && ((s.copyOf l.2.2).map (fun c => !s.broken c)).getD false)).map (fun l => l.2)

/-- The copy that would move from `i` to `o`, and its level (R247, R248), among the ready open heads `hs`. -/
def State.request (s : State) (hs : List Copy) (i o : Nat) : Level × Option Copy :=
  match s.lockOf o with
  | some (i', k) =>
    if i = i' then match s.copyOf k with
      | some c => if s.ready c then (.l, some c) else (.none, none)
      | none => (.none, none)
    else (.none, none)
  | none =>
    let mine := sortBy (fun (a b : Copy) => decide (b.cls ≤ a.cls)) (hs.filter (fun c => c.inLane == i && c.outLane == o))
    match mine.find? (fun c => s.atG c), mine with
    | some c, _ => (.g, some c)
    | none, c :: _ => (.b, some c)
    | none, [] => (.none, none)

/-- The first element at or after `p`, ascending modulo 28. -/
def roundFirst (p : Nat) (xs : List Nat) : Option Nat := (List.range 28).findSome? (fun k => xs.find? (fun x => x == (p + k) % 28))

/-- What a round of matching has so far. -/
structure Matching where
  pairs : List (Nat × Nat) := []
  gptr : Sparse Nat := []
  aptr : Sparse Nat := []
deriving DecidableEq, Repr

/-- One round of request, grant and accept (R249) over the input and output lanes that have requests. -/
def matchRound (level : Nat → Nat → Level) (locked : Nat → Option Nat) (ins outs : List Nat) (first : Bool) (m : Matching) : Matching :=
  let fi := ins.filter (fun i => !m.pairs.any (fun p => p.1 == i))
  let fo := outs.filter (fun o => !m.pairs.any (fun p => p.2 == o))
  let grants : List (Nat × Nat) := fo.filterMap (fun o =>
    match locked o with
    | some i => if fi.contains i && level i o = .l then some (i, o) else none
    | none =>
      let best := (fi.map (fun i => (level i o).rank)).foldl Nat.max 0
      if best = 0 then none
      else (roundFirst (Sparse.get (fun _ => 0) m.gptr o) (fi.filter (fun i => (level i o).rank == best))).map (fun i => (i, o)))
  fi.foldl (fun (m : Matching) i =>
    let mine := (grants.filter (fun g => g.1 == i)).map (fun g => g.2)
    let best := (mine.map (fun o => (level i o).rank)).foldl Nat.max 0
    match roundFirst (Sparse.get (fun _ => 0) m.aptr i) (mine.filter (fun o => (level i o).rank == best)) with
    | none => m
    | some o =>
      let m1 := { m with pairs := m.pairs ++ [(i, o)] }
      if first && decide (best ≠ 3) then
        { m1 with gptr := Sparse.put (fun _ => 0) m.gptr o ((i + 1) % 28), aptr := Sparse.put (fun _ => 0) m.aptr i ((o + 1) % 28) }
      else m1) m

/-- The header and item of an exception copy (15_management_events_health.md R580). -/
def exceptionItem (h : Held) (c : Copy) (reason stage : Nat) : List Byte :=
  let f := h.frame
  let body := f.bytes
  leBytes 8 f.stamp.ns ++ (leBytes 2 f.stamp.frac ++ (leBytes 2 f.source ++ (leBytes 4 f.seq ++ (leBytes 4 f.epoch ++
    ([byte reason, byte (c.cls % 8 + 8 * f.colour)] ++ (leBytes 2 h.district ++ (leBytes 2 body.length ++
    ([byte (ingressCode f.ingress), byte f.flags, byte stage, 0, 0, 0] ++ body))))))))

/-- A copy leaves the cistern: its unit has it whole. -/
def State.takeCopy (s : State) (k : Nat) : State := s.dropCopies (fun c => c.id == k)

/-- What the unit on an output lane does with a copy that has crossed (R227, R291, 05_classification.md R204). Lane 21 keeps it until
the host bridge takes it; a port has it in its transmit buffer, or in the S-lane buffer. -/
def State.arrive (s : State) (c : Copy) : State :=
  let h := s.frameOf c
  match c.dest with
  | .port _ => s
  | .host _ => s
  | .unwrap r => { s with gwy := { s.gwy with arrived := s.gwy.arrived ++ [(false, r, h.frame)] } }.takeCopy c.id
  | .wrap r => { s with gwy := { s.gwy with arrived := s.gwy.arrived ++ [(true, r, h.frame)] } }.takeCopy c.id
  | .fieldbus => (s.takeCopy c.id).bump .gwy 0x490
  | .exc reason stage =>
    let s1 := s.takeCopy c.id
    match s1.flumeWithRole 2 with
    | none => ((s1.bump .prs 0x410).prsErr 6 h.frame.ingress h.district [])
    | some f =>
      let (s2, ok) := s1.flumeOffer f 0 (exceptionItem h c reason stage)
      if ok then s2.bump .prs 0x400 else (s2.bump .prs 0x410).prsErr 6 h.frame.ingress h.district []
  | .recirc =>
    let s1 := s.takeCopy c.id
    let f := { h.frame with id := s1.cis.nextId, lane := 24, pass := h.frame.pass + 1, whole := true, provisional := none }
    s1.freshId.enter f
  | .crypto =>
    let s1 := s.takeCopy c.id
    let f := { h.frame with id := s1.cis.nextId, whole := true, provisional := none }
    { s1.freshId with gwy := { s1.gwy with crypto := s1.gwy.crypto ++ [.pass f] } }

/-- Moves one cell of a copy from `i` to `o` (R246, R248, R250). -/
def State.moveCell (s : State) (c : Copy) : State :=
  let n := (s.frameOf c).cells
  let s1 := ((s.takeBucket 0 c.inLane c.cls).takeBucket 1 c.outLane c.cls).bumps .xbr [xbrCounter c.inLane 0, xbrCounter c.outLane 1]
  let s2 := { s1 with cis := { s1.cis with copies := s1.cis.copies.map (fun (x : Copy) => if x.id = c.id then { x with moved := x.moved + 1 } else x) } }
  let s3 := match portOfLane c.outLane with
    | none => if c.outLane = 20 && c.moved = 0 then { s2 with net := { s2.net with sbuf := s2.net.sbuf ++ [(⟨c.id, s2.nowNs⟩ : SItem)] } } else s2
    | some p =>
      let e := s2.egress p
      if e.has c.id then s2
      else match e.staged.findIdx? (fun (x : Staged) => x.cls == c.cls && x.copy.isNone) with
        | none => s2
        | some j => s2.setEgress p { e with staged := e.staged.mapIdx (fun k (x : Staged) => if k = j then { x with copy := some c.id } else x) }
  let done := decide (n ≤ c.moved + 1)
  let others := s3.xbr.lock.filter (fun (l : Nat × Nat × Nat) => l.1 != c.outLane)
  let s4 := { s3 with xbr := { s3.xbr with lock := if done then others else others ++ [(c.outLane, c.inLane, c.id)] } }
  if done then s4.arrive { c with moved := c.moved + 1 } else s4

/-- The matches of a slot and the round-robin pointers after it (R249). -/
def State.matching (s : State) : Matching × List Copy :=
  let hs := s.heads.filter (fun c => s.ready c && (s.laneOpen c.outLane c.cls && (s.laneServed c.inLane && s.laneServed c.outLane)))
  let locked := s.xbr.lock.filter (fun l => s.laneServed l.1 && s.laneServed l.2.1)
  let ins := (sortBy (fun a b => decide (a ≤ b)) ((hs.map (fun c => c.inLane)) ++ locked.map (fun l => l.2.1))).eraseDups
  let outs := (sortBy (fun a b => decide (a ≤ b)) ((hs.map (fun c => c.outLane)) ++ locked.map (fun l => l.1))).eraseDups
  let level := fun i o => (s.request hs i o).1
  let lock := fun o => (s.lockOf o).map (fun l => l.1)
  let rounds := s.fld .xbr 0 1 0 + 1
  ((List.range rounds).foldl (fun m k => matchRound level lock ins outs (k == 0) m) { gptr := s.xbr.gptr, aptr := s.xbr.aptr }, hs)

/-- Does a fault of the slot strike a copy's next cell: on one of its lanes, or in the bank it is read from? -/
def State.faultHits (s : State) (c : Copy) : SlotFault → Bool
  | .crc l => l.val == c.inLane || l.val == c.outLane
  | .ce b => (s.frameOf c).banks[c.moved]? == some b.val
  | .ue b _ => (s.frameOf c).banks[c.moved]? == some b.val

/-- Takes out of the faults of a slot those of a copy's cell: each fault strikes one cell, a CRC fails once for a lane and cell, several
words of one cell may be in error. -/
def State.takeFaults (s : State) (c : Copy) : List SlotFault → List SlotFault × List SlotFault
  | [] => ([], [])
  | f :: fs =>
    let r := s.takeFaults c fs
    let twice := match f with
      | .crc _ => r.1.contains f
      | _ => false
    if s.faultHits c f && !twice then (f :: r.1, r.2) else (r.1, f :: r.2)

/-- One fault strikes a copy's cell (R265, R266, R272); the bank that retires for it, if any. -/
def State.strike (s : State) (c : Copy) : SlotFault → State × List (Nat × Nat)
  | .ce b => s.bankCeSeen b.val
  | .ue b w => (s.bankUeSeen b.val w.val 0 (fun h => h.frame.id == c.frame), [(b.val, 1)])
  | .crc l => ((s.laneLoses l.val (fun x => x.id == c.id)).laneCrc l.val, [])

/-- What a slot has done so far: the state, the faults that have struck no cell yet, the banks that are to retire. -/
structure SlotRun where
  state : State
  faults : List SlotFault
  retire : List (Nat × Nat) := []
deriving DecidableEq, Repr

/-- Moves the cell of one match, or loses it to a fault. -/
def SlotRun.move (r : SlotRun) (c : Copy) : SlotRun :=
  let x := r.state.takeFaults c r.faults
  let y := x.1.foldl (fun (a : State × List (Nat × Nat)) f => ((a.1.strike c f).1, a.2 ++ (a.1.strike c f).2)) (r.state, [])
  let safe := x.1.all (fun f => match f with
    | .ce _ => true
    | _ => false)
  ⟨if safe then y.1.moveCell c else y.1, x.2, r.retire ++ y.2⟩

/-- Copies for a lane that is OUT, or from one, are dropped and counted there (R32). -/
def State.dropOut (s : State) : State :=
  (List.range 27).foldl (fun (t : State) l =>
    if (s.lane l).state = .out && t.cis.copies.any (fun c => (c.outLane == l || c.inLane == l) && !t.crossed c) then t.outLoses l else t) s

/-- Copies for a port that is absent are dropped when they reach the head (01_architecture.md R35). -/
def State.dropAbsent (s : State) : State :=
  (s.heads.filter (fun c => match c.dest with
    | .port p => s.buildMode p == 0 && decide (c.moved = 0)
    | _ => false)).foldl (fun (t : State) c => t.laneLoses c.outLane (fun x => x.id == c.id)) s

/-- One cell slot (R249): banks that fail in it begin retirement in ascending order (R269). -/
def State.slot (s : State) (faults : List SlotFault) : State :=
  let s1 := s.dropOut.dropAbsent
  let (m, hs) := s1.matching
  let s2 := { s1 with xbr := { s1.xbr with gptr := m.gptr, aptr := m.aptr } }
  let chosen := m.pairs.filterMap (fun p => (s1.request hs p.1 p.2).2)
  let r := chosen.foldl (fun (r : SlotRun) c => if r.state.cis.copies.any (fun x => x.id == c.id) then r.move c else r) ⟨s2, faults, []⟩
  r.state.beginRetires r.retire

end Sys2Proof.Machine
end

