-- ==== Sys2Proof/Machine/Culvert.lean ====
section
/-!
DEFINITION. Culverts (09_gateway_and_culvert.md R366-R368, R378-R383): the header, the foreign frame's check, wrapping under a
culvert rule, and frames the gateway places on lane 22.
-/
namespace Sys2Proof.Machine

/-- The body of a gateway record of a type (R367). -/
def gwyRec (rs : List Rec) (type index : Nat) : Option (List Byte) := recBody rs 0x0D 0xFFFF (2 ^ 28 * type + index)

/-- Counts a gateway drop: its counter and GWY_ERR.DROP, or KEY_FAULT for gwy.drop.key (R398, R401). -/
def State.gwyErr (s : State) (i : Nat) : State := s.setErr .gwy 0x10 i (1024 + i) []
def State.gwyDrop (s : State) (off : Nat) : State := (s.bump .gwy off).gwyErr (if off = 0x460 then 10 else 0)

/-- ORIGIN as this member sends it (R368). -/
def State.gwyOrigin (s : State) (rs : List Rec) : Nat :=
  ((gwyRec rs 0 0).map (fun b => leAt b 0 2)).getD 0 / 2 * 2 + s.tdm.position % 2

/-- Source address of the frames the gateway builds (R368). -/
def gwySa (rs : List Rec) : List Byte := ((gwyRec rs 0 0).map (fun b => slice b 4 6)).getD (List.replicate 6 0)

/-- The culvert header (R378). -/
structure CulHeader where
  kind : Nat
  flags : Nat
  origin : Nat
  tunnel : Nat
  source : Nat
  seq : Nat
  stamp : Nat
  len : Nat
deriving DecidableEq, Repr

/-- The 20 bytes of a header. -/
def CulHeader.bytes (h : CulHeader) : List Byte :=
  [byte (16 + h.kind), byte h.flags] ++ (beBytes 2 h.origin ++ (beBytes 2 h.tunnel ++ (beBytes 2 h.source ++ (beBytes 4 h.seq ++
    (beBytes 4 h.stamp ++ (beBytes 2 h.len ++ [0, 0]))))))

/-- A frame as the gateway places it on lane 22 (R33, R133, R364, R380): stamped now, with the next number of `source`. -/
def State.gwyFrame (s : State) (source epoch district cls : Nat) (bytes : List Byte) : State × Frame :=
  let f : Frame := { id := s.cis.nextId, bytes := bytes, rxLen := bytes.length + 4, ingress := 30, origin := 30, lane := 22,
                     stamp := s.stamp, source := source, seq := s.seqOf source, epoch := epoch, district := some district, cls := some cls,
                     maxLen := 9216 }
  ({ s.tookSeq source with cis := { s.cis with nextId := s.cis.nextId + 1 } }, f)

/-- A culvert rule's sequence. -/
def State.culSeq (s : State) (rule : Nat) : CulSeq := Sparse.get (fun _ => {}) s.gwy.cul rule

/-- The state with a culvert rule's sequence replaced. -/
def State.setCulSeq (s : State) (rule : Nat) (v : CulSeq) : State :=
  { s with gwy := { s.gwy with cul := Sparse.put (fun _ => {}) s.gwy.cul rule v } }

/-- The outer frame before the culvert header: DA, SA, the tag, EtherType 0x88B5 (R378). -/
def culOuter (rule sa : List Byte) : List Byte :=
  slice rule 4 6 ++ (sa ++ ((if (leAt rule 0 1).testBit 2 then [0x81, 0x00] ++ beBytes 2 (leAt rule 0xA 2) else []) ++ [0x88, 0xB5]))

/-- Wraps a foreign frame under a culvert rule (R366, R378-R382): kind, VERIFIED, DISC, SOURCE and short stamp of what is inside,
with its check field. -/
def State.culvertWrap (s : State) (epoch rule kind : Nat) (verified disc : Bool) (source stamp : Nat) (foreign : List Byte) : State :=
  let rs := s.recsAt epoch
  match gwyRec rs 4 rule with
  | none => s
  | some b =>
    let enc := (leAt b 0 1).testBit 1
    let q := s.culSeq rule
    let district := leAt b 2 2 % 4096
    let key := if enc then s.aesKey (leAt b 0xC 2) 0 district else none
    if !(leAt b 0 1).testBit 0 then s
    else if !s.tdm.active then s.gwyDrop 0x458
    else if enc && q.exhausted then s.gwyDrop 0x468
    else if enc && key.isNone then s.gwyDrop 0x460
    else
      let head : CulHeader :=
        { kind := kind, flags := enc.toNat + 2 * verified.toNat + 4 * disc.toNat, origin := s.gwyOrigin rs, tunnel := rule,
          source := source, seq := q.next, stamp := stamp % 2 ^ 32, len := foreign.length }
      let outer := culOuter b (gwySa rs)
      let s1 := s.setCulSeq rule ⟨(q.next + 1) % 2 ^ 32, enc && q.next == 0xFFFFFFFF⟩
      let s2 := if enc && q.next + 1 == 0xC0000000 then s1.gwyErr 9 else s1
      let (s3, f) := (s2.bump .gwy 0x470).gwyFrame (0x880 + rule) epoch district (leAt b 1 1 % 8) (outer ++ (head.bytes ++ foreign))
      match key with
      | some k => { s3 with gwy := { s3.gwy with crypto := s3.gwy.crypto ++ [.encrypt f (outer.length + 20) k] } }
      | none => s3.enter f

/-- The initialisation vector of an encrypted culvert (R381): ORIGIN, TUNNEL, SEQ, zeros, from the header's bytes. -/
def culIv (header : List Byte) : List Byte := slice header 2 4 ++ (slice header 8 4 ++ [0, 0, 0, 0])

end Sys2Proof.Machine
end

