-- ==== Sys2Proof/Machine/PtpFrames.lean ====
section
/-!
DEFINITION. gPTP frames at the port: messages as bytes (the formats of IEEE 802.1AS-2020, notes/assumptions/55.md), their way onto the
wire through the MACsec engine and the MAC counters, the wait behind a pause, and the checks of a received header
(03_time_and_order.md R119, R143; 04_ethernet_ports.md R158, R169, R171, R178).
-/
namespace Sys2Proof.Machine

/-- The gPTP side of a port. -/
def State.ptp (s : State) (p : Nat) : PtpPort := Sparse.get (fun _ => {}) s.tkp.port p

/-- The state with the gPTP side of a port replaced. -/
def State.setPtp (s : State) (p : Nat) (v : PtpPort) : State := { s with tkp := { s.tkp with port := Sparse.put (fun _ => {}) s.tkp.port p v } }

/-- Offset of a gPTP register of a port, and of a register of a domain (03_time_and_order.md R137). -/
def tkpPort (p off : Nat) : Nat := 0x8000 + 0x40 * p + off
def domReg (d off : Nat) : Nat := 0x1000 + 0x100 * d + off

/-! ### Messages as bytes -/

/-- A timestamp, and a port identity. -/
def ptpTimeBytes (t : PtpTime) : List Byte := beBytes 6 t.sec ++ beBytes 4 t.ns
def portIdBytes (clock port : Nat) : List Byte := beBytes 8 clock ++ beBytes 2 port

/-- The header of a message of a type with its flags. -/
def ptpHeaderBytes (h : PtpHeader) (type flags : Nat) : List Byte :=
  [byte (16 * h.majorSdo + type), byte (16 + h.version)] ++ (beBytes 2 h.length ++ ([byte h.domain, 0] ++ (beBytes 2 flags ++
    (beBytes 8 (twos 64 h.correction) ++ ([0, 0, 0, 0] ++ (portIdBytes h.clock h.portNum ++ (beBytes 2 h.seq ++
    [0, byte (twos 8 h.logInterval)])))))))

/-- The Follow_Up information TLV. -/
def followUpTlv (rateOffset : Int) : List Byte :=
  [0x00, 0x03, 0x00, 0x1C, 0x00, 0x80, 0xC2, 0x00, 0x00, 0x01] ++ (beBytes 4 (twos 32 rateOffset) ++ List.replicate 18 0)

/-- A rank as an Announce carries it, between priority1 and grandmasterIdentity. -/
def clockRankBytes (r : ClockRank) : List Byte :=
  [byte r.priority1, byte r.clockClass, byte r.accuracy] ++ (beBytes 2 r.variance ++ (byte r.priority2 :: beBytes 8 r.identity))

/-- A message as bytes. -/
def PtpMsg.bytes : PtpMsg → List Byte
  | .sync m => ptpHeaderBytes m.hdr 0x0 0x0208 ++ List.replicate 10 0
  | .pdelayReq h => ptpHeaderBytes h 0x2 0x0008 ++ List.replicate 20 0
  | .pdelayResp m => ptpHeaderBytes m.hdr 0x3 0x0208 ++ (ptpTimeBytes m.receipt ++ portIdBytes m.reqClock m.reqPort)
  | .followUp m => ptpHeaderBytes m.hdr 0x8 0x0008 ++ (ptpTimeBytes m.origin ++ followUpTlv m.rateOffset)
  | .pdelayRespFollowUp m => ptpHeaderBytes m.hdr 0xA 0x0008 ++ (ptpTimeBytes m.origin ++ portIdBytes m.reqClock m.reqPort)
  | .announce m => ptpHeaderBytes m.hdr 0xB 0x0008 ++ (List.replicate 13 0 ++ (clockRankBytes m.rank ++ (beBytes 2 m.steps ++ (0xA0 ::
      ([0x00, 0x08] ++ (beBytes 2 (8 * m.trace.length) ++ m.trace.flatMap (beBytes 8)))))))

/-- The message in its frame, before the FCS. -/
def ptpFrame (sa : List Byte) (m : PtpMsg) : List Byte := [0x01, 0x80, 0xC2, 0x00, 0x00, 0x0E] ++ (sa ++ ([0x88, 0xF7] ++ m.bytes))

/-! ### Onto the wire -/

/-- Puts a message on the wire of a port: the frame is protected as any other (R169, R171) and counted in the MAC's and the time keeper's
counters (R178, R143); one for which no packet number is left is dropped. -/
def State.transmitPtp (s : State) (p : Nat) (m : PtpMsg) : State :=
  match s.protect p (ptpFrame (s.macAddr p) m) with
  | (s1, none) => s1
  | (s1, some b) => ((s1.countTx p (padded b) false).send (.ptp p m (padded b ++ fcsOf (padded b)))).bump .tkp (tkpPort p 0x30)

/-- Must a message wait: the transmitter begins no frame in a pause (R158), while a MAC control frame is due (R161), or on an S-port
without PLCA status that has no fallback (R175)? -/
def State.ptpWaits (s : State) (p : Nat) : Bool := s.portPaused p || (s.controlDue p || (isSPort p && !s.plcaMaySend p))

/-- The message sent `by_` (2^-16 ns) after it was made: the correction of a message with a sending time grows by the wait. -/
def PtpMsg.delayed (by_ : Nat) : PtpMsg → PtpMsg
  | .followUp m => .followUp { m with hdr := { m.hdr with correction := m.hdr.correction + by_ } }
  | .pdelayRespFollowUp m => .pdelayRespFollowUp { m with hdr := { m.hdr with correction := m.hdr.correction + by_ } }
  | m => m

/-- Sends a message on a port, or lets it wait for the transmitter. -/
def State.sendPtp (s : State) (p : Nat) (m : PtpMsg) : State :=
  if s.ptpWaits p then s.setPort p { s.port p with ptpWait := (s.port p).ptpWait ++ [(m, s.now / 65536)] } else s.transmitPtp p m

/-- A request that waited left the port later. -/
def PtpPort.reqDelayed (q : PtpPort) (m : PtpMsg) (by_ : Nat) : PtpPort :=
  match m with
  | .pdelayReq _ => { q with req := q.req.map (fun r => (r.1, r.2 + by_)) }
  | _ => q

/-- Sends one message that has waited since `since`. -/
def State.sendLate (s : State) (p : Nat) (m : PtpMsg) (since : Nat) : State :=
  let by_ := s.now / 65536 - since
  (s.setPtp p ((s.ptp p).reqDelayed m by_)).transmitPtp p (m.delayed by_)

/-- Sends what waited, once the transmitter may begin frames again. -/
def State.releasePtp (s : State) (p : Nat) : State :=
  if (s.port p).ptpWait.isEmpty || s.ptpWaits p then s
  else (s.port p).ptpWait.foldl (fun (t : State) x => t.sendLate p x.1 x.2) (s.setPort p { s.port p with ptpWait := [] })

/-- Sends what waited on any port. -/
def State.releaseAllPtp (s : State) : State := (s.net.eth.map (fun e => e.1)).foldl (fun (t : State) p => t.releasePtp p) s

/-! ### Received headers (R119) -/

/-- The enabled domain of a domainNumber. -/
def State.domainOf (s : State) (n : Nat) : Option Nat :=
  (List.range 4).find? (fun d => decide ((s.dom d).state ≠ .disabled) && s.fld .tkp (domReg d 0) 15 8 == n)

/-- The first failing check of codes 0x1 to 0x4: `least` is the minimum length of the type, `times` its timestamps. -/
def State.headerReject (s : State) (h : PtpHeader) (least : Nat) (times : List PtpTime) : Option Nat :=
  if h.majorSdo ≠ 1 || decide (h.version ≠ 2) then some 1
  else if (s.domainOf h.domain).isNone then some 2
  else if h.length < least || decide (h.carried < h.length) then some 3
  else if times.any (fun t => decide (1000000000 ≤ t.ns)) then some 4
  else none

/-- Rejects a message (R119). -/
def State.rejectPtp (s : State) (p code : Nat) : State := (s.bump .tkp (tkpPort p 0x28)).setFld .tkp (tkpPort p 4) 11 8 code

/-- Accepts a message (R143). -/
def State.acceptPtp (s : State) (p : Nat) : State := s.bump .tkp (tkpPort p 0x20)

/-- The header that the bytes of a message begin with, as far as R119 asks of it. -/
def ptpHeaderOf (bs : List Byte) : PtpHeader :=
  { majorSdo := leAt bs 0 1 / 16, version := leAt bs 1 1 % 16, domain := leAt bs 4 1, length := beAt bs 2 2, carried := bs.length,
    seq := beAt bs 30 2, clock := beAt bs 20 8, portNum := beAt bs 28 2, correction := signed 64 (beAt bs 8 8), logInterval := signed 8 (leAt bs 33 1) }

/-- A gPTP frame that a port has received. A message of a type that IEEE 802.1AS-2020 knows is a command of its own; any other is rejected
by the first of the checks of its header that fails, else with code 0xB (R119). -/
def State.gptpFrameIn (s : State) (p : Nat) (bs : List Byte) : State :=
  let m := bs.drop 14
  if [0x0, 0x2, 0x3, 0x8, 0xA, 0xB, 0xC].contains (leAt m 0 1 % 16) then s
  else s.rejectPtp p ((s.headerReject (ptpHeaderOf m) 34 []).getD 0xB)

end Sys2Proof.Machine
end

