-- ==== Sys2Proof/Machine/Port.lean ====
section
/-!
DEFINITION. Ethernet ports at work (04_ethernet_ports.md, 07_egress_scheduling.md R288-R312): frames going onto the wire and leaving
it, preemption, the S-ports, frames received, pause and PFC, link epochs, MAC merge verification.
-/
namespace Sys2Proof.Machine

/-! ### Transmit -/

/-- Suspends the preemptable frame on the wire. -/
def State.suspend (s : State) (p : Nat) : State :=
  let e := s.egress p
  s.setEgress p { e with wire := e.wire.map (fun (w : OnWire) =>
    if w.suspended then w else { w with suspended := true, since := s.nowNs, sent := w.sent + s.fragmentSent p w }) }

/-- Counts in a counter of the MAC merge sublayer, where it is built (R178). -/
def State.mmCount (s : State) (p off : Nat) : State := if s.mmBuilt p then s.bump .eth (ethReg p off) else s

/-- Resumes the suspended frame with a continuation fragment. -/
def State.resume (s : State) (p : Nat) : State :=
  let e := s.egress p
  (s.setEgress p { e with wire := e.wire.map (fun (w : OnWire) =>
    if w.suspended then { w with suspended := false, start := s.nowNs, fragments := w.fragments + 1 } else w) }).mmCount p 0x620

/-- Puts a copy on the wire of a port: MACsec protects it under the SA of this instant (R171); a tandem frame from the switch core is
dropped on TL (14_tandem_redundancy.md R535). -/
def State.startFrame (s : State) (p : Nat) (c : Copy) (express : Bool) : State :=
  let bytes := (s.frameOf c).frame.bytes
  if p = 4 && etherType bytes == 0x88B6 then (s.takeCopy c.id).bump .tdm 0x430
  else match s.protect p bytes with
  | (s1, none) => s1.takeCopy c.id
  | (s1, some b) =>
    let e := s1.egress p
    let w : OnWire := { copy := c.id, cls := c.cls, express := express, bytes := padded b, start := s.nowNs,
                        shaped := s.cbsEn p c.cls, slope := s.idleSlope p c.cls }
    s1.setEgress p { e with wire := e.wire ++ [w] }

/-- Does a pause that began more than 100 ns ago stop a staged selection (R290)? -/
def State.stagedBlocked (s : State) (p : Nat) (x : Staged) : Bool := s.classPaused p x.cls && decide (100 < s.nowNs - s.pausedSince p x.cls)

/-- Notes the staged selections that wait behind a pause: each counts once (R290). -/
def State.holdStaged (s : State) (p : Nat) : State :=
  let hit := fun (x : Staged) => s.stagedBlocked p x && !x.held
  let e := s.egress p
  ((s.stagedNow p).filter hit).foldl (fun (t : State) x => (t.bump .egr (egrReg p 0x608)).egrErr p 3 x.cls)
    (if e.staged.any hit then s.setEgress p { e with staged := e.staged.map (fun (x : Staged) => if hit x then { x with held := true } else x) } else s)

/-- The staged selection, express or not, whose copy has reached the transmit buffer and that no pause stops. -/
def State.stagedReady (s : State) (p : Nat) (express : Bool) : Option (Staged × Copy) :=
  ((s.egress p).staged.filterMap (fun x =>
    if x.express = express && !s.stagedBlocked p x then
      (x.copy.bind s.copyOf).bind (fun c => if 0 < c.moved then some (x, c) else none)
    else none)).head?

/-- Starts a staged frame. -/
def State.startStaged (s : State) (p : Nat) (x : Staged) (c : Copy) : State :=
  let e := s.egress p
  (s.setEgress p { e with staged := e.staged.filter (fun y => y != x) }).startFrame p c x.express

/-- Is now the last point at which the preemptable frame on the wire can be preempted before its gate closes (R300)? It is, once a point
40 ns later (the least time that passes in the model) would leave fewer than 64 bytes of the frame, or no time for the mCRC. -/
def State.closePreempts (s : State) (p : Nat) (w : OnWire) : Bool :=
  match s.openFor p w.cls s.nowNs with
  | none => false
  | some room =>
    let later := 40 * s.runRate p / 8000 + 1
    decide (room < s.wireTime p (s.bytesLeft p w)) && (decide (room < 40 + s.wireTime p 4) || decide (s.bytesLeft p w < 64 + later))

/-- Suspends the preemptable frame on the wire where its gate closes upon it. -/
def State.preemptClosing (s : State) (p : Nat) : State :=
  match (s.egress p).active with
  | some w => if s.preempting p && (s.mayPreempt p w && s.closePreempts p w) then s.suspend p else s
  | none => s

/-- As time passes, every port suspends the preemptable frame whose gate closes upon it. -/
def State.preemptClosings (s : State) : State := (s.net.egr.map (fun e => e.1)).foldl (fun (t : State) p => t.preemptClosing p) s

/-- Has the gate of a suspended frame closed since it was suspended? -/
def State.gateClosedSince (s : State) (p : Nat) (w : OnWire) : Bool :=
  match s.openFor p w.cls w.since with
  | none => false
  | some d => decide (s.nowNs < w.since) || decide (w.since + d ≤ s.nowNs)

/-- Is the frame suspended at the last point before its gate closes (R300): could it neither end before the close nor be preempted again?
A point within 40 ns is no later point in the model. -/
def State.closesFirst (s : State) (p : Nat) (w : OnWire) : Bool :=
  match s.openFor p w.cls s.nowNs with
  | none => false
  | some room =>
    let left := w.bytes.length + 4 - w.sent
    decide (room < s.wireTime p (8 + left)) && (decide (room < 40 + s.wireTime p (s.leastFragment p + 12)) ||
      decide (left < s.leastFragment p + 64 + (40 * s.runRate p / 8000 + 1)))

/-- May the suspended frame go on: its gate is open, opened anew where the close kept the frame, and neither the hold nor an express frame
keeps it, unless preemption is no longer active or that frame is of its own class (R164, R300, R311)? -/
def State.mayResume (s : State) (p : Nat) (w : OnWire) : Bool :=
  (s.gatesAt p s.nowNs).testBit w.cls && (s.gateClosedSince p w || !s.closesFirst p w) && (!s.preempting p || !(s.egress p).hold) &&
    (match s.stagedReady p true with
    | none => true
    | some (_, c) => !s.preempting p || c.cls == w.cls)

/-- The wire is idle: a suspended frame goes on, or a staged one starts, express first. -/
def State.startNext (s : State) (p : Nat) : State :=
  let e := s.egress p
  match e.wire.find? (fun w => w.suspended), s.stagedReady p true with
  | some w, x =>
    if s.mayResume p w then s.resume p
    else match x with
      | some (x, c) => if c.cls = w.cls then s else s.startStaged p x c
      | none => s
  | none, some (x, c) => s.startStaged p x c
  | none, none =>
    if e.hold && s.preempting p then s
    else match s.stagedReady p false with
      | some (x, c) => s.startStaged p x c
      | none => s

/-- An express frame, the hold or a closing gate preempts the frame `w` on the wire. -/
def State.preemptNow (s : State) (p : Nat) (w : OnWire) : State :=
  if !(s.preempting p && s.mayPreempt p w) then s
  else match s.stagedReady p true with
    | some (x, c) => if c.cls = w.cls then s else (s.suspend p).startStaged p x c
    | none => if (s.egress p).hold || s.closePreempts p w then s.suspend p else s

/-- FRAME_TX_START on a SerDes port (R164, R290, R300, R310, R311). A MAC control frame that is due goes first (R161). -/
def State.txStart (s : State) (p : Nat) : State :=
  let s1 := s.holdStaged p
  if s1.controlDue p then s1
  else match (s1.egress p).active with
  | some w => s1.preemptNow p w
  | none => s1.startNext p

/-- The bytes of a frame that leaves the wire: all, or what a stomped one has sent by now of the bytes that have crossed. -/
def State.sentBytes (s : State) (p : Nat) (w : OnWire) (c : Copy) : List Byte :=
  if s.broken c then w.bytes.take (Nat.min (w.sent + s.fragmentSent p w) (64 * c.moved)) else w.bytes

/-- A frame leaves the wire: counted, also in the class's counters (R316), its copy taken out of the cistern (R262). -/
def State.frameOut (s : State) (p : Nat) (w : OnWire) (c : Copy) : State :=
  let e := s.egress p
  let sent := s.sentBytes p w c
  ((((s.setEgress p { e with wire := e.wire.filter (fun x => x != w), attempts := 0 }).sendWire p w.express (s.broken c) sent).bump
    .egr (egrCounter p w.cls 0)).bumpBy .egr (egrCounter p w.cls 1) ((padded sent).length + 4)).takeCopy c.id

/-! ### S-ports (R291, R292, R174-R176) -/

/-- A frame of the S-lane buffer starts on its port. -/
def State.startBuffered (s : State) (p : Nat) (c : Copy) : State :=
  ({ s with net := { s.net with sbuf := s.net.sbuf.filter (fun i => i.copy != c.id) } }).startFrame p c true

/-- Does the frame that collided last still wait in its backoff (R176)? -/
def State.inBackoff (s : State) (p : Nat) : Bool := (s.port p).backoff && (s.copyOf (s.egress p).tried).isSome

/-- The collided frame whose backoff is over. -/
def State.retryNext (s : State) (p : Nat) : Option Copy :=
  if (s.egress p).attempts = 0 then none else (s.copyOf (s.egress p).tried).filter (fun c => s.net.sbuf.any (fun i => i.copy == c.id))

/-- An S-port that may send now tests eligibility again and sends a frame that fits (R291); one that has collided goes first. -/
def State.sendFitting (s : State) (p : Nat) : State :=
  match s.retryNext p with
  | some c => s.startBuffered p c
  | none =>
    let s1 := (List.range 8).foldl (fun t c => t.dropUnfit p c 64) s
    match s1.selectClass p s1.nowNs (fun _ => true) with
    | (s2, some c) => match (s2.portHeads p c).head? with
      | some x => s2.startBuffered p x
      | none => s2
    | (s2, none) => s2

/-- Is PLCA in use on the port now: enabled, and status up or its own role that of the coordinator (R174, R175)? -/
def State.plcaRuns (s : State) (p : Nat) : Bool :=
  s.flag .eth (ethReg p 0x80) 31 && ((s.port p).plca || s.fld .eth (ethReg p 0x80) 7 0 == 0)

/-- May an S-port begin a frame now: the wire its own, no backoff, and under PLCA the one opportunity that its node ID has in a cycle of
NODE_COUNT (R174)? -/
def State.mayBegin (s : State) (p : Nat) : Bool :=
  isSPort p && ((s.port p).state = .up && ((s.egress p).active.isNone && (!s.inBackoff p && (s.plcaMaySend p &&
    (!s.plcaRuns p || ((s.port p).turn && decide (s.fld .eth (ethReg p 0x80) 7 0 < s.fld .eth (ethReg p 0x80) 15 8)))))))

/-- PLCA_TX_OPPORTUNITY (R291, R174): an opportunity taken is used up, with BURST_COUNT further frames to follow (PLCA_TIMERS). -/
def State.plcaOpportunity (s : State) (p : Nat) : State :=
  if !s.mayBegin p then s
  else
    let s1 := s.setPort p { s.port p with turn := false, burst := if s.plcaRuns p then s.fld .eth (ethReg p 0x84) 15 8 else 0 }
    s1.sendFitting p

/-- A frame of an S-port has left: a burst goes on with the next frame that fits (PLCA_TIMERS.BURST_COUNT). -/
def State.burstOn (s : State) (p : Nat) : State :=
  if isSPort p && (decide (0 < (s.port p).burst) && (s.plcaRuns p && (s.port p).state = .up)) then
    (s.setPort p { s.port p with burst := (s.port p).burst - 1 }).sendFitting p
  else s

/-- FRAME_TX_END (R154, R262): the frame leaves the wire, stomped after the bytes sent by now where it failed after bytes had
left; a cut-through frame whose last byte has not arrived stays. -/
def State.txEnd (s : State) (p : Nat) : State :=
  let e := s.egress p
  match e.active with
  | none => s
  | some w => match s.copyOf w.copy with
    | none => s.setEgress p { e with wire := e.wire.filter (fun x => x != w) }
    | some c => if !(s.frameOf c).frame.whole && !s.broken c then s else (s.frameOut p w c).burstOn p

/-- Collisions of a copy so far. -/
def EgrPort.triedOf (e : EgrPort) (k : Nat) : Nat := if e.tried = k then e.attempts else 0

/-- COLLISION (R176): a link that is no longer UP sends the frame no more (R151). -/
def State.collide (s : State) (p : Nat) : State :=
  let e := s.egress p
  match e.active with
  | none => s
  | some w =>
    if !isSPort p then s
    else
      let n := e.triedOf w.copy + 1
      let again := decide (n < 16) && (s.port p).state = .up
      let s1 := (s.setEgress p { e with wire := e.wire.filter (fun x => x != w), attempts := if again then n else 0, tried := w.copy }).bump
        .eth (ethReg p 0x5C0)
      if again then
        let s2 := s1.setPort p { s1.port p with backoff := true, burst := 0 }
        { s2 with net := { s2.net with sbuf := ⟨w.copy, s.nowNs⟩ :: s2.net.sbuf } }
      else (s1.takeCopy w.copy).bump .eth (ethReg p (if n < 16 then 0x5B8 else 0x5C8))

/-- BACKOFF_EXPIRY (R176): the frame is attempted again, unless the port may not send now (R152, R175): then it waits in the buffer. -/
def State.retry (s : State) (p : Nat) : State :=
  if !(s.port p).backoff then s
  else
    let s1 := s.setPort p { s.port p with backoff := false }
    match s1.retryNext p with
    | some c => if (s1.port p).state = .up && ((s1.egress p).active.isNone && s1.plcaMaySend p) then s1.startBuffered p c else s1
    | none => s1

/-- Frames that have waited 100 ms in the S-lane buffer are dropped (R292). -/
def State.dropStale (s : State) : State :=
  (s.net.sbuf.filter (fun i => decide (100000000 ≤ s.nowNs - i.since))).foldl (fun (t : State) i =>
    match t.copyOf i.copy with
    | none => t
    | some c => match c.dest with
      | .port p =>
        let t1 := { t with net := { t.net with sbuf := t.net.sbuf.filter (fun x => x.copy != i.copy) } }
        ((t1.takeCopy c.id).bump .egr (egrCounter p c.cls 4)).egrErr p 4 c.cls
      | _ => t) s

/-! ### Gates (R296, R298, R311) -/

/-- Applies an entry's operation to the preemption hold of a port. -/
def State.holdBy (s : State) (p op : Nat) : State :=
  let e := s.egress p
  if !s.preempting p then s
  else if op = 1 then
    if e.hold then s else (s.setEgress p { e with hold := true }).bump .egr (egrReg p 0x600)
  else if op = 2 then s.setEgress p { e with hold := false }
  else s

/-- A suspended frame goes on where its gate has opened on an idle wire (R300). -/
def State.resumeOpen (s : State) (p : Nat) : State :=
  let e := s.egress p
  if e.active.isSome || s.controlDue p then s
  else match e.wire.find? (fun w => w.suspended) with
    | some w => if s.mayResume p w then s.resume p else s
    | none => s

/-- GATE_CHANGE: the schedule position reaches the entry in force now. -/
def State.gateChange (s : State) (p : Nat) : State :=
  if !s.scheduled p then s
  else match entryAt (s.gateList p) (s.gatePos p s.nowNs) 0 with
    | none => s
    | some (_, e, _) => ((s.holdBy p e.op).preemptClosing p).resumeOpen p

/-- Operations of the entries that a forward step from `a` to `b` ns skips or enters, in order (R298): one cycle at most. A step that
comes round to an earlier position of its entry has skipped every entry. -/
def State.skippedOps (s : State) (p a b : Nat) : List Nat :=
  let es := s.gateList p
  match entryAt es (s.gatePos p a) 0, entryAt es (s.gatePos p b) 0 with
  | some (i, _, _), some (j, _, _) =>
    let after := es.drop (i + 1) ++ es.take (i + 1)
    let round := decide (s.gateCycle p ≤ b - a) || (i == j && decide (s.gatePos p b < s.gatePos p a))
    let n := if round then es.length else (j + es.length - i) % es.length
    ((if n = es.length then es.drop (j + 1) ++ es.take (j + 1) else after.take n)).map (fun e => e.op)
  | _, _ => []

/-- After a forward step of primary-domain time the last hold or release among the skipped entries decides (R298). -/
def State.gatesStepped (s : State) (a b : Nat) : State :=
  (List.range 29).foldl (fun (t : State) p =>
    if t.scheduled p then ((t.skippedOps p a b).reverse.find? (fun o => decide (o ≠ 0))).elim t (fun o => t.holdBy p o) else t) s

/-! ### Receive (R154-R159, R166) -/

/-- The first check of R154 that fails, as the offset of its counter. -/
def macCheck (f : WireFrame) (maxLen : Nat) : Option Nat :=
  let n := f.bytes.length
  if f.codeErr then some 0x4C8
  else if n < 64 then some 0x4B8
  else if maxLen < n then some 0x4C0
  else if f.bytes.drop (n - 4) ≠ fcsOf (f.bytes.take (n - 4)) then some 0x4B0
  else none

/-- Counts a frame in its receive size bin (R178). -/
def State.countRxBin (s : State) (p n maxLen : Nat) : State :=
  if 64 ≤ n && decide (n ≤ maxLen) then s.bump .eth (ethReg p (0x470 + 8 * sizeBin n)) else s

/-- Counts a good frame (R178). -/
def State.countRx (s : State) (p : Nat) (bytes : List Byte) : State :=
  (((s.bump .eth (ethReg p 0x400)).ledActivity p).bumpBy .eth (ethReg p 0x408) bytes.length).bump .eth (ethReg p (castCounter 0x410 (bytes.take 6)))

/-- A PFC frame's effect on the classes that honour PFC (R159). -/
def pfcMask (enabled vector : Nat) (times : List Nat) (old : Nat) : Nat :=
  ((List.range 8).map (fun c =>
    if enabled.testBit c && vector.testBit c then (if times.getD c 0 = 0 then 0 else 2 ^ c)
    else if old.testBit c then 2 ^ c else 0)).sum

/-- Counts a frame that bypasses the MACsec engine, where it is built (R169). -/
def State.bypassCounted (s : State) (p off : Nat) : State := if s.macsecBuilt p then s.bump .eth (ethReg p off) else s

/-- A pause frame takes effect (R158): zero quanta end the pause, others begin or renew it. -/
def State.pauseIn (s : State) (p q : Nat) : State :=
  let e := s.port p
  s.setPort p { e with linkPaused := decide (q ≠ 0), linkSince := if e.linkPaused then e.linkSince else s.nowNs }

/-- A PFC frame takes effect on the classes that honour PFC (R159): a class that it stops anew is stopped since now. -/
def State.pfcIn (s : State) (p vector : Nat) (times : List Nat) : State :=
  let e := s.port p
  let now := pfcMask (s.fld .eth (ethReg p 0x44) 7 0) vector times e.classPaused
  s.setPort p { e with
    classPaused := now,
    classSince := (bitsOf 8 now).foldl (fun (m : Sparse Nat) c =>
      if e.classPaused.testBit c then m else Sparse.put (fun _ => 0) m c s.nowNs) e.classSince }

/-- A MAC control frame, its bytes before the FCS (R157-R159, R162): it bypasses the MACsec engine (R169), and S-ports have no pause
functions to count (R178). -/
def State.macControl (s : State) (p : Nat) (bs : List Byte) (whole : List Byte) : State :=
  let da := bs.take 6
  let mine := da == macControlDa || da == s.macAddr p
  let op := beAt bs 14 2
  let s0 := s.bypassCounted p 0x6C8
  if !mine || (decide (op ≠ 1) && decide (op ≠ 0x101)) || (op == 0x101 && decide (256 ≤ beAt bs 16 2)) then s0.bump .eth (ethReg p 0x4D0)
  else if isSPort p then s0.countRx p whole
  else if op = 1 then
    let s1 := (s0.countRx p whole).bump .eth (ethReg p 0x428)
    if !s.flag .eth (ethReg p 0x40) 15 || decide (s.fld .eth (ethReg p 0x44) 7 0 ≠ 0) || (s.port p).ignorePause then s1
    else s1.pauseIn p (beAt bs 16 2)
  else
    let v := beAt bs 16 2
    let s1 := (s0.countRx p whole).bumps .eth ((bitsOf 8 v).map (fun c => ethReg p (0x430 + 8 * c)))
    if (s.port p).ignorePause then s1
    else s1.pfcIn p v ((List.range 8).map (fun c => beAt bs (18 + 2 * c) 2))

/-- The frame a port hands to classification. -/
def State.rxToFrame (s : State) (p id maxLen seq : Nat) (t : Stamp) (bytes : List Byte) (rxLen : Nat) (verified whole forced : Bool) : Frame :=
  { id := id, bytes := bytes, rxLen := rxLen, ingress := p, origin := p, lane := laneOf p, stamp := t, source := 0x800 + p, seq := seq,
    epoch := s.epoch, verified := verified, whole := whole, forced := forced, maxLen := maxLen, provisional := some (ceilDiv (maxLen - 4) 64) }

/-- A frame that passed the MAC checks, from its first byte at `t` (R152, R157, R169, 14_tandem_redundancy.md R535); `tandem` takes a
tandem frame on TL. The time keeper takes a gPTP frame: what it says is the row of its message. -/
def State.rxGood (s : State) (tandem : State → List Byte → State) (p maxLen seq : Nat) (t : Stamp) (whole : List Byte) : State :=
  let bs := whole.take (whole.length - 4)
  if (s.port p).state = .standby then s.bump .eth (ethReg p 0x4E8)
  else if etherType bs = 0x8808 then s.macControl p bs whole
  else
    let s1 := s.countRx p whole
    if !s1.laneServed (laneOf p) then s1.bump .xbr (xbrCounter (laneOf p) 3)
    else
      let r := s1.validate p bs
      match r.bytes with
      | none => r.state
      | some b =>
        if p = 4 && etherType b == 0x88B6 then tandem r.state b
        else if isGptp b then r.state.gptpFrameIn p b
        else
          let f := r.state.rxToFrame p r.state.cis.nextId maxLen seq t b whole.length r.verified true (s1.storedWhole p bs)
          r.state.freshId.toClassify f

end Sys2Proof.Machine
end

