-- ==== Sys2Proof/Machine/Regs.lean ====
section
/-!
DEFINITION. Storing written values: the plain write of a register by its row, and the staging of 64-bit values (00_scope.md R6, R12).
-/
namespace Sys2Proof.Machine

/-- What a path holds. -/
def State.path (s : State) (p : Path) : PathState := Sparse.get (fun _ => {}) s.paths (pathIndex p)

/-- The state with what a path holds replaced. -/
def State.setPath (s : State) (p : Path) (v : PathState) : State := { s with paths := Sparse.put (fun _ => {}) s.paths (pathIndex p) v }

/-- The key of the register at `off` for a path: its own copy where the row says so. -/
def RegRow.key (row : RegRow) (p : Path) (off : Nat) : Nat := if row.perPath then onPath p off else off

/-- What the register at `off` would store for a write of `v`: its key and new word; none where no register lies. -/
def State.storedWord (s : State) (p : Path) (b : Block) (off : Nat) (v : Word) : Option (Nat × Word) :=
  (rowAt b off).map (fun row => (row.key p off, row.written b (s.rd b (row.key p off)) v))

/-- The plain write of a register (R6). -/
def State.store (s : State) (p : Path) (b : Block) (off : Nat) (v : Word) : State :=
  match s.storedWord p b off v with
  | none => s
  | some (k, w) => s.wr b k w

/-- Stages the low half of the 64-bit value at address `addr` (R12). -/
def State.stageLow (s : State) (p : Path) (addr : Nat) (v : Word) : State := s.setPath p { s.path p with stage := some (addr, v) }

/-- The low half that a write of the high half stores: the staged one, or the current one (R12). -/
def State.lowFor (s : State) (p : Path) (addr : Nat) (current : Word) : Word :=
  match (s.path p).stage with
  | some (a, v) => if a = addr then v else current
  | none => current

/-- The stage of the value at `addr` is used up. -/
def State.unstage (s : State) (p : Path) (addr : Nat) : State :=
  match (s.path p).stage with
  | some (a, _) => if a = addr then s.setPath p { s.path p with stage := none } else s
  | none => s

/-- The write of the high half of the value at `off` (R12). -/
def State.storeHigh (s : State) (p : Path) (b : Block) (off : Nat) (v : Word) : State :=
  let addr := b.base + off
  let s1 := s.store p b off (s.lowFor p addr (s.rd b off))
  (s1.unstage p addr).store p b (off + 4) v

end Sys2Proof.Machine
end

