-- ==== Sys2Proof/Machine/Link.lean ====
section
/-!
DEFINITION. Frames arriving byte by byte and in fragments, link epochs, pause and PFC sent and watched, MAC merge verification, PLCA
beacons (04_ethernet_ports.md R149-R176).
-/
namespace Sys2Proof.Machine

/-! ### Reception (R154-R156, R166) -/

/-- The receive stamp of a port now: PORT_RX_LAT is subtracted (03_time_and_order.md R108). -/
def State.rxStamp (s : State) (p : Nat) : Stamp :=
  stampOf ((s.now : Int) - 2 ^ 32 * signed 16 (s.fld .tkp (0x8010 + 0x40 * p) 15 0)).toNat

/-- Takes the stamp and the sequence number of a frame whose first byte arrives on a port. -/
def State.rxBegin (s : State) (p : Nat) : State × Stamp × Nat := (s.tookSeq (0x800 + p), s.rxStamp p, s.seqOf (0x800 + p))

/-- Does the port's receiver take frames: a link in UP, STANDBY or ROADWORKS? -/
def State.receiving (s : State) (p : Nat) : Bool :=
  match (s.port p).state with
  | .up => true
  | .standby => true
  | .roadworks => true
  | _ => false

/-- A frame received whole: the checks of R154, then its way on. -/
def State.rxWhole (s : State) (tandem : State → List Byte → State) (p maxLen seq : Nat) (t : Stamp) (f : WireFrame) : State :=
  let s1 := s.countRxBin p f.bytes.length maxLen
  match macCheck f maxLen with
  | some off => s1.bump .eth (ethReg p off)
  | none =>
    if (s.port p).state = .roadworks then (s1.countRx p f.bytes).bump .eth (ethReg p 0x4E0)
    else s1.rxGood tandem p maxLen seq t f.bytes

/-- MAX_LEN of a port. -/
def State.maxLen (s : State) (p : Nat) : Nat := s.fld .eth (ethReg p 0x14) 13 0

/-- May a frame be handed to classification before its last byte (R155-R157, R170)? -/
def State.earlyGiven (s : State) (p : Nat) (bs : List Byte) : Bool :=
  (s.port p).state = .up && (decide (etherType bs ≠ 0x8808) && (s.laneServed (laneOf p) && (!s.storedWhole p bs &&
    (!(p == 4 && etherType bs == 0x88B6) && (!isGptp bs && (s.validate p bs).bytes == some bs)))))

/-- The first `n` bytes of a frame have arrived: from 64 bytes on classification may have it (R155). -/
def State.rxFirst (s : State) (p n : Nat) (f : WireFrame) : State :=
  if !s.receiving p || (s.port p).rx.isSome || decide (n < 64) || decide (f.bytes.length < n) then s
  else
    let (s1, t, seq) := s.rxBegin p
    let bs := f.bytes.take (f.bytes.length - 4)
    let id := s.cis.nextId
    let given := s.earlyGiven p bs
    let s2 := s1.setPort p { s1.port p with
      rx := some { id := id, bytes := f.bytes, codeErr := f.codeErr, arrived := n, maxLen := s.maxLen p, stamp := t, seq := seq, given := given } }
    if given then s2.freshId.toClassify (s.rxToFrame p id (s.maxLen p) seq t bs f.bytes.length false false false) else s2

/-- More bytes of the frame being received have arrived. -/
def State.rxMore (s : State) (p n : Nat) : State :=
  match (s.port p).rx with
  | none => s
  | some r => s.setPort p { s.port p with rx := some { r with arrived := Nat.min r.bytes.length (Nat.max r.arrived n) } }

/-- A frame given to classification early is whole: the cistern or the frames that wait hold it whole now. -/
def State.earlyWhole (s : State) (id : Nat) : State :=
  let s1 := s.frameWhole id
  { s1 with prs := { s1.prs with wait := s1.prs.wait.map (fun (f : Frame) => if f.id = id then { f with whole := true } else f) } }

/-- A frame given early fails: it goes no further (R154). -/
def State.earlyFailed (s : State) (id : Nat) : State :=
  ({ s with prs := { s.prs with wait := s.prs.wait.filter (fun (f : Frame) => f.id != id) } }).frameFailed id

/-- The last byte of the frame being received has arrived. -/
def State.rxLast (s : State) (tandem : State → List Byte → State) (p : Nat) : State :=
  match (s.port p).rx with
  | none => s
  | some r =>
    let f : WireFrame := ⟨r.bytes, r.codeErr⟩
    let s0 := s.setPort p { s.port p with rx := none }
    if !r.given then s0.rxWhole tandem p r.maxLen r.seq r.stamp f
    else
      let s1 := s0.countRxBin p r.bytes.length r.maxLen
      match macCheck f r.maxLen with
      | some off => (s1.bump .eth (ethReg p off)).earlyFailed r.id
      | none =>
        let v := (s1.countRx p r.bytes).validate p (r.bytes.take (r.bytes.length - 4))
        if v.bytes.isSome then v.state.earlyWhole r.id else v.state.earlyFailed r.id

/-- The mCRC of the fragments so far (IEEE 802.3br). -/
def mcrcOf (bs : List Byte) : List Byte := leBytes 4 (crc32 bs ^^^ 0x0000FFFF)

/-- Drops the preemptable frame being reassembled. -/
def State.dropAssembly (s : State) (p : Nat) : State := s.setPort p { s.port p with assembly := none }

/-- A fragment joined to the frame being reassembled: a non-final one needs its mCRC, a final one its FCS (R166). -/
def State.joinFragment (s : State) (tandem : State → List Byte → State) (p : Nat) (a : Assembly) (g : Fragment) : State :=
  let bs := a.bytes ++ g.bytes
  if g.final then
    let s1 := s.dropAssembly p
    if g.check = fcsOf bs then (s1.mmCount p 0x600).rxWhole tandem p a.maxLen a.seq a.stamp ⟨bs ++ g.check, false⟩
    else (s1.countRxBin p (bs.length + 4) a.maxLen).mmCount p 0x608
  else if g.check = mcrcOf bs then s.setPort p { s.port p with assembly := some { a with bytes := bs, next := (a.next + 1) % 4 } }
  else (s.dropAssembly p).mmCount p 0x608

/-- A fragment arrives (R166): a start while a frame is unfinished is a missing final fragment. -/
def State.rxFragment (s : State) (tandem : State → List Byte → State) (p : Nat) (g : Fragment) : State :=
  if !s.receiving p || !(s.mmBuilt p && s.flag .eth (ethReg p 0x50) 0) then s
  else if g.smdErr then (s.dropAssembly p).mmCount p 0x610
  else if g.start then
    let s0 := if (s.port p).assembly.isSome then s.mmCount p 0x608 else s
    let (s1, t, seq) := s0.rxBegin p
    s1.joinFragment tandem p { bytes := [], number := g.frameNumber.val, next := 3, maxLen := s.maxLen p, stamp := t, seq := seq } g
  else
    let s1 := s.mmCount p 0x618
    match (s.port p).assembly with
    | none => s1.mmCount p 0x610
    | some a =>
      if a.number = g.frameNumber.val && a.next == g.fragCount.val then s1.joinFragment tandem p a g
      else (s1.dropAssembly p).mmCount p 0x610

/-- A MAC control frame named by its fields arrives whole and good. -/
def State.rxControl (s : State) (p : Nat) (body : List Byte) : State :=
  let bs := padded body
  let whole := bs ++ [0, 0, 0, 0]
  if !s.receiving p then s
  else
    let s1 := (s.tookSeq (0x800 + p)).countRxBin p whole.length (s.maxLen p)
    match (s.port p).state with
    | .standby => s1.bump .eth (ethReg p 0x4E8)
    | .roadworks => (s1.countRx p whole).bump .eth (ethReg p 0x4E0)
    | _ => s1.macControl p bs whole

/-- The bytes of a pause and of a PFC frame. -/
def pauseFrame (da sa : List Byte) (quanta : Nat) : List Byte := da ++ (sa ++ ([0x88, 0x08, 0x00, 0x01] ++ beBytes 2 quanta))
def pfcFrame (da sa : List Byte) (vector : Nat) (times : List Nat) : List Byte :=
  da ++ (sa ++ ([0x88, 0x08, 0x01, 0x01] ++ (beBytes 2 vector ++ ((List.range 8).map (fun c => beBytes 2 (times.getD c 0))).flatten)))

/-! ### Link epochs (R149-R151) -/

/-- Sets asCapable, raising E81 on a change (03_time_and_order.md R115). -/
def State.setCapable (s : State) (p : Nat) (v : Bool) : State :=
  if (s.ptp p).capable = v then s
  else (s.setPtp p { s.ptp p with capable := v }).emit 81 (p2 p ++ (p1 v.toNat ++ p4 (s.rd .tkp (tkpPort p 8)).toNat))

/-- Peer delay starts afresh (R151; 03_time_and_order.md R115). -/
def State.freshDelay (s : State) (p : Nat) : State :=
  let q := s.ptp p
  let s1 := s.setPtp p { q with req := none, answered := true, lost := 0, last := none }
  ((s1.wr .tkp (tkpPort p 8) 0).wr .tkp (tkpPort p 0xC) 0).setCapable p false

/-- The frames a port is receiving are cut off, the one being reassembled with them (R150, R178). -/
def State.cutReception (s : State) (p : Nat) : State :=
  let s0 := if (s.port p).assembly.isSome then (s.dropAssembly p).bump .eth (ethReg p 0x4F0) else s
  match (s0.port p).rx with
  | none => s0
  | some r =>
    let s1 := (s0.setPort p { s0.port p with rx := none }).bump .eth (ethReg p 0x4F0)
    if r.given then s1.earlyFailed r.id else s1

/-- Discards the frames queued for a port, each counted in tx.drop.link; `keepWire` lets the frame on the wire finish (R149, R150). -/
def State.discardQueued (s : State) (p : Nat) (keepWire : Bool) : State :=
  let e := s.egress p
  let kept := if keepWire then e.wire.filter (fun w => !w.suspended) else []
  let gone := fun (c : Copy) => c.dest == .port p && !(kept.any (fun w => w.copy == c.id))
  let mine := s.cis.copies.filter gone
  let s1 := s.setEgress p { e with staged := [], wire := kept, attempts := 0 }
  let s2 := { s1 with net := { s1.net with sbuf := s1.net.sbuf.filter (fun i => !(mine.any (fun c => c.id == i.copy))) } }
  (s2.dropCopies gone).bumpBy .eth (ethReg p 0x5B8) mine.length

/-- Verification after a link epoch has ended (R165). -/
def VerifyState.afterEpoch : VerifyState → VerifyState
  | .succeeded => .initial
  | .failed => .initial
  | .verifying => .initial
  | v => v

/-- A link epoch ends (R150, R151, R165). -/
def State.endLinkEpoch (s : State) (p : Nat) (keepWire : Bool) : State :=
  let s1 := s.wr .eth (ethReg p 0x10) (s.rd .eth (ethReg p 0x10) + 1)
  let s2 := (s1.discardQueued p keepWire).cutReception p
  let q := s2.port p
  let s3 := s2.setPort p { q with
    assembly := none, linkPaused := false, classPaused := 0, classSince := [], ignorePause := false, xoffSent := 0, ptpWait := [],
    turn := false, burst := 0, backoff := false,
    verify := q.verify.afterEpoch, speed := 0, signals := 0 }
  (s3.flushPort p).freshDelay p

/-- Sends Verify when a link in UP finds verification in INITIAL (R165). -/
def State.startVerify (s : State) (p : Nat) : State :=
  let q := s.port p
  if q.verify = .initial && q.state = .up then (s.setPort p { q with verify := .verifying, tries := 1 }).send (.verify p) else s

/-- ADMIN.EN becomes 1 (R149). -/
def State.portOn (s : State) (p : Nat) : State :=
  let s1 := s.wr .eth (ethReg p 4) 1
  if (s.port p).state = .disabled && s.buildMode p ≠ 0 then s1.setLink p .training else s1

/-- ADMIN.EN becomes 0 (R149). -/
def State.portOff (s : State) (p : Nat) : State :=
  let s1 := s.wr .eth (ethReg p 4) 0
  match (s.port p).state with
  | .up => (s1.endLinkEpoch p true).setLink p .disabled
  | .standby => (s1.endLinkEpoch p true).setLink p .disabled
  | .down => (s1.endLinkEpoch p true).setLink p .disabled
  | .training => (s1.endLinkEpoch p true).setLink p .disabled
  | _ => s1

/-- The link of a TRAINING port comes up (R148, R149): UP, or STANDBY on a standby member,
whose TL comes UP (14_tandem_redundancy.md R534). `code` is the speed a PHY reports, `remote` whether the partner signals a remote fault.
On a link that is up the report changes REMOTE_FAULT alone (notes/assumptions/157.md). -/
def State.linkUp (s : State) (p code : Nat) (remote : Bool) : State :=
  let q := s.port p
  let fault := if remote then 8 else 0
  if q.state ≠ .training then
    if q.state = .up || q.state = .standby then s.setPort p { q with signals := (q.signals &&& 0x37) ||| fault } else s
  else
    let mode := s.buildMode p
    let most := buildRate mode
    let reports := decide (5 ≤ mode) && (decide (mode ≤ 8) || mode == 10)
    let speed := if reports && (decide (0 < speedRate code) && decide (speedRate code ≤ most)) then code else speedCode most
    let signals := 1 + (if s.flag .eth (ethReg p 0) 6 then 2 else 0) + (if s.fld .eth (ethReg p 0) 5 4 = 2 then 32 else 0) + fault
    let s1 := s.setPort p { q with speed := speed, signals := signals }
    ((s1.setLink p (if s.tdm.active || p = 4 then .up else .standby)).startVerify p).checkSlopes p

/-- The signals of LINK_STATUS, bits 13:8, after a loss. -/
def lossSignals (old : Nat) : LinkLoss → Nat
  | .signal => 0
  | .blockLock => 0
  | .hiBer => old ||| 16
  | .localFault => old ||| 4
  | .restart => old &&& 0x3D

/-- The link of an UP or STANDBY port is lost (R149). -/
def State.linkLost (s : State) (p : Nat) (why : LinkLoss) : State :=
  let down := fun (old : Nat) =>
    let s1 := (s.endLinkEpoch p false).bump .eth (ethReg p 0x718)
    (s1.setPort p { s1.port p with signals := lossSignals old why }).setLink p .down
  match (s.port p).state with
  | .up => down (s.port p).signals
  | .standby => down (s.port p).signals
  | _ => s

/-- Training starts over (R149). -/
def State.trainFailed (s : State) (p : Nat) : State :=
  if (s.port p).state = .training then s.bump .eth (ethReg p 0x720) else s

/-- HOLDOFF has elapsed in DOWN (R149). -/
def State.holdoffOver (s : State) (p : Nat) : State :=
  if (s.port p).state = .down then (s.setPort p { s.port p with signals := 0 }).setLink p .training else s

/-- Roadworks begins on a port (R149). -/
def State.beginPortWorks (s : State) (p : Nat) : State :=
  if (s.port p).state = .roadworks then s else (s.endLinkEpoch p false).setLink p .roadworks

/-- Roadworks ends on a port: its counters restart (R149, R15). -/
def State.endPortWorks (s : State) (p : Nat) : State :=
  if (s.port p).state ≠ .roadworks then s
  else
    (s.restartCounters .eth (ethReg p 0x400) (ethReg p 0x800)).setLink p
      (if s.flag .eth (ethReg p 4) 0 && decide (s.buildMode p ≠ 0) then .training else .disabled)

/-- The tandem role becomes standby, or active again (R149): what was queued is lost (01_architecture.md R46), and the MAC begins no
frame (R152). -/
def State.toStandby (s : State) (p : Nat) : State :=
  if (s.port p).state = .up then
    let s1 := s.discardQueued p true
    (s1.setPort p { s1.port p with ptpWait := [], turn := false, burst := 0, backoff := false }).setLink p .standby
  else s
def State.fromStandby (s : State) (p : Nat) : State :=
  if (s.port p).state = .standby then (s.setLink p .up).startVerify p else s

/-! ### Pause and PFC sent (R160, R161) -/

/-- May a MAC control frame go out now: as the next frame on the wire, or preempting one (R160, R161)? -/
def State.controlFits (s : State) (p : Nat) : Bool :=
  s.controlAble p && (match (s.egress p).active with
    | none => true
    | some w => s.preempting p && s.mayPreempt p w)

/-- Puts a MAC control frame on the wire, preempting the frame there. -/
def State.sendControl (s : State) (p : Nat) (bs : List Byte) : State :=
  ((if (s.egress p).active.isSome then s.suspend p else s).bypassCounted p 0x6F0).sendWire p true false bs

/-- Sends PFC for the classes of `off` in XOFF and of `on` in XON. -/
def State.sendPfc (s : State) (p off on : Nat) : State :=
  let q := s.fld .eth (ethReg p 0x40) 31 16
  let v := off ||| on
  let times := (List.range 8).map (fun c => if off.testBit c then q else 0)
  (s.sendControl p (pfcFrame macControlDa (s.macAddr p) v times)).bumps .eth ((bitsOf 8 v).map (fun c => ethReg p (0x530 + 8 * c)))

/-- Sends a pause frame. -/
def State.sendPause (s : State) (p quanta : Nat) : State :=
  (s.sendControl p (pauseFrame macControlDa (s.macAddr p) quanta)).bump .eth (ethReg p 0x528)

/-- Signals what changed since the last MAC control frame (R160): XON only with TX_XON. -/
def State.signalXoff (s : State) (p : Nat) : State :=
  let want := s.xoffWanted p
  let ended := if s.flag .eth (ethReg p 0x40) 13 then s.xonNew p else 0
  if want = (s.port p).xoffSent || !s.controlFits p then s
  else
    let new := s.xoffNew p
    let s1 := s.setPort p { s.port p with xoffSent := want }
    let s2 := if new.testBit 8 then s1.sendPause p (s.fld .eth (ethReg p 0x40) 31 16)
      else if ended.testBit 8 then s1.sendPause p 0 else s1
    if decide (new % 256 ≠ 0) || decide (ended % 256 ≠ 0) then s2.sendPfc p (want % 256) (ended % 256) else s2

/-- Repeats the frame while XOFF persists (R160). -/
def State.repeatXoff (s : State) (p : Nat) : State :=
  let want := s.xoffWanted p &&& (s.port p).xoffSent
  if want = 0 || !s.controlFits p then s
  else if want = 256 then s.sendPause p (s.fld .eth (ethReg p 0x40) 31 16)
  else s.sendPfc p want 0

/-! ### Pause watchdog (R162) -/

/-- The transmitter or a class has stayed paused for WD. -/
def State.watchdogTrip (s : State) (p : Nat) : State :=
  let q := s.port p
  if s.fld .eth (ethReg p 0x40) 11 0 = 0 || (!q.linkPaused && q.classPaused == 0) then s
  else
    let s1 := (s.wr .eth (ethReg p 0x48) (setBit (s.rd .eth (ethReg p 0x48)) 16 true)).emit (128 + 8 * p + 2)
      (p1 q.linkPaused.toNat ++ p1 q.classPaused)
    if s.flag .eth (ethReg p 0x40) 12 then s1.setPort p { q with ignorePause := true, linkPaused := false, classPaused := 0, classSince := [] } else s1

/-- WD_TRIP is cleared. -/
def State.watchdogClear (s : State) (p : Nat) : State :=
  (s.wr .eth (ethReg p 0x48) (setBit (s.rd .eth (ethReg p 0x48)) 16 false)).setPort p { s.port p with ignorePause := false }

/-- The pause of a port, or of a class, runs out. -/
def State.pauseOver (s : State) (p : Nat) (c : Option (Fin 8)) : State :=
  let q := s.port p
  match c with
  | none => s.setPort p { q with linkPaused := false }
  | some c => s.setPort p { q with classPaused := if q.classPaused.testBit c.val then q.classPaused - 2 ^ c.val else q.classPaused }

/-! ### MAC merge verification (R163, R165) -/

/-- A write of MM_CFG: EN or VERIFY_DIS may start or stop verification. -/
def State.mmWrite (s : State) (p : Nat) (stored : Word) : State :=
  let s1 := s.wr .eth (ethReg p 0x50) stored
  let q := s1.port p
  if isSPort p then s
  else if !bit stored 0 || bit stored 1 then s1.setPort p { q with verify := .disabled }
  else if q.verify = .disabled && s.flag .eth (ethReg p 0) 8 then (s1.setPort p { q with verify := .initial }).startVerify p
  else s1

/-- VERIFY_TIME elapses in VERIFYING. In STANDBY the MAC sends no frames (R152): verification waits there (notes/assumptions/156.md). -/
def State.verifyLate (s : State) (p : Nat) : State :=
  let q := s.port p
  if q.verify ≠ .verifying || q.state ≠ .up then s
  else if q.tries < 3 then (s.setPort p { q with tries := q.tries + 1 }).send (.verify p)
  else ((s.setPort p { q with verify := .failed }).mmCount p 0x628).emit (128 + 8 * p + 3) (p1 4)

/-- A Verify arrives. -/
def State.verifyIn (s : State) (p : Nat) : State :=
  if (s.port p).state = .up && (s.mmBuilt p && s.flag .eth (ethReg p 0x50) 0) then s.send (.respond p) else s

/-- A Respond arrives. -/
def State.respondIn (s : State) (p : Nat) : State :=
  let q := s.port p
  if q.verify = .verifying then (s.setPort p { q with verify := .succeeded }).emit (128 + 8 * p + 3) (p1 3) else s

/-! ### PLCA (R174, R175) -/

/-- Is the port the coordinator of its segment? -/
def State.coordinator (s : State) (p : Nat) : Bool :=
  isSPort p && (s.flag .eth (ethReg p 0x80) 31 && (s.fld .eth (ethReg p 0x80) 7 0 == 0 && (s.port p).state = .up))

/-- Sets PLCA status, raising the PLCA event on a change. -/
def State.setPlca (s : State) (p : Nat) (up : Bool) : State :=
  if (s.port p).plca = up then s
  else (s.setPort p { s.port p with plca := up }).emit (128 + 8 * p + 6) (p1 up.toNat ++ p1 0)

/-- A PLCA cycle begins with its BEACON: every node has one transmit opportunity in it (R174). -/
def State.cycleBegins (s : State) (p : Nat) : State := s.setPort p { s.port p with turn := true }

/-- The coordinator sends its BEACON. -/
def State.sendBeacon (s : State) (p : Nat) : State :=
  if s.coordinator p then (((s.send (.beacon p)).bump .eth (ethReg p 0x740)).setPlca p true).cycleBegins p else s

/-- A BEACON arrives. -/
def State.beaconIn (s : State) (p : Nat) : State :=
  if !isSPort p || (s.port p).state ≠ .up then s
  else
    let s1 := s.bump .eth (ethReg p 0x748)
    if s.coordinator p then (s1.bump .eth (ethReg p 0x750)).emit (128 + 8 * p + 6) (p1 (s.port p).plca.toNat ++ p1 1)
    else if s.flag .eth (ethReg p 0x80) 31 then (s1.setPlca p true).cycleBegins p else s1

/-- No BEACON has come for 4,000 bit times. -/
def State.plcaLost (s : State) (p : Nat) : State :=
  if isSPort p && (s.port p).plca && !s.coordinator p then (s.bump .eth (ethReg p 0x758)).setPlca p false else s

/-! ### FEC and PCS counters (R178-R180) -/

/-- The PCS reports block errors and codewords; more uncorrected ones than FEC_ALARM within one second raise the FEC event. -/
def State.fecReport (s : State) (p blocks corrected uncorrected : Nat) : State :=
  let s1 := s.bumpBy .eth (ethReg p 0x700) blocks
  if s.fld .eth (ethReg p 0) 5 4 = 0 then s1
  else
    let q := s.port p
    let fresh := decide (1000000000 ≤ s.nowNs - q.fecFrom)
    let n := (if fresh then 0 else q.fecBase) + uncorrected
    let most := s.fld .eth (ethReg p 8) 9 0
    let raise := decide (most ≠ 0) && (decide (most < n) && (fresh || !q.fecRaised))
    let s2 := (s1.bumpBy .eth (ethReg p 0x708) corrected).bumpBy .eth (ethReg p 0x710) uncorrected
    let s3 := s2.setPort p { s2.port p with
      fecFrom := if fresh then s.nowNs else q.fecFrom, fecBase := n, fecRaised := raise || (!fresh && q.fecRaised) }
    if raise then s3.emit (128 + 8 * p + 1) (p4 n) else s3

/-! ### Live values of the status registers (R182) -/

/-- LINK_STATUS, PAUSE_STATUS, MM_STATUS and PLCA_STATUS of a port. -/
def State.linkStatus (s : State) (p : Nat) : Word :=
  let q := s.port p
  word (q.state.code + 16 * q.speed + 256 * q.signals)
def State.pauseStatus (s : State) (p : Nat) : Word :=
  let q := s.port p
  word (q.classPaused + 256 * q.linkPaused.toNat + 65536 * (s.flag .eth (ethReg p 0x48) 16).toNat)
def VerifyState.code : VerifyState → Nat
  | .disabled => 0
  | .initial => 1
  | .verifying => 2
  | .succeeded => 3
  | .failed => 4
def State.mmStatus (s : State) (p : Nat) : Word := word ((s.port p).verify.code + 8 * (s.preempting p).toNat)
def State.plcaStatus (s : State) (p : Nat) : Word := word ((s.port p).plca.toNat + 2 * (s.coordinator p).toNat)

/-! ### MACsec configuration (R172) -/

/-- A write of SEC_CFG: CIPHER, CONF_OFFSET and DISTRICT stand while any SA of the port is enabled. -/
def State.anySa (s : State) (p : Nat) : Bool :=
  (List.range 4).any (fun an => s.flag .eth (txSa p an) 31) ||
    (List.range 16).any (fun c => (List.range 4).any (fun an => s.flag .eth (rxSa p c an) 31))
def State.secCfgWrite (s : State) (p : Nat) (stored : Word) : State :=
  let old := s.rd .eth (ethReg p 0x60)
  let keep := fun hi lo (w : Word) => setField w hi lo (field old hi lo)
  if isSPort p then s else s.wr .eth (ethReg p 0x60) (if s.anySa p then keep 27 16 (keep 7 6 (keep 5 4 stored)) else stored)

/-- MM_CFG and SEC_CFG take the value as a register write stores it. -/
def State.mmCfg (s : State) (p : Nat) (v : Word) : State :=
  match s.storedWord .host .eth (ethReg p 0x50) v with
  | some x => s.mmWrite p x.2
  | none => s
def State.secCfg (s : State) (p : Nat) (v : Word) : State :=
  match s.storedWord .host .eth (ethReg p 0x60) v with
  | some x => s.secCfgWrite p x.2
  | none => s

/-- Offset of an SA of a port. -/
def saOffset (p : Nat) : SaId → Nat
  | .tx an => txSa p an.val
  | .rx c an => rxSa p c.val an.val

/-- The SA is written: it may raise its key-fault and PN events again (R168, R171). -/
def State.saWritten (s : State) (p : Nat) (sa : SaId) : State :=
  let q := s.port p
  let raised := match sa with
    | .tx an => q.pnRaised.filter (fun x => x != an.val)
    | .rx _ _ => q.pnRaised
  s.setPort p { q with faulted := q.faulted.filter (fun x => x != saOffset p sa), pnRaised := raised }

/-- A write to a register of an SA (R172): KEY, NEXT_PN, SSCI and SALT stand while the SA is enabled. -/
def State.saWrite (s : State) (path : Path) (p : Nat) (sa : SaId) (reg : SaReg) (v : Word) : State :=
  let o := saOffset p sa
  let en := s.flag .eth o 31
  if isSPort p then s
  else match reg with
  | .ctl =>
    let w := word (2 ^ 31 * (bit v 31).toNat + field v 12 0)
    (s.wr .eth o (if en then setField w 12 0 (s.fld .eth o 12 0) else w)).saWritten p sa
  | .nextPnLo => if en then s else (s.stageLow path (Block.base .eth + o + 8) v).saWritten p sa
  | .nextPnHi => if en then s else (s.storeHigh path .eth (o + 8) v).saWritten p sa
  | .ssci => if en then s else (s.wr .eth (o + 0x10) v).saWritten p sa
  | .salt n => if en then s else (s.wr .eth (o + 0x14 + 4 * n.val) v).saWritten p sa

end Sys2Proof.Machine
end

