-- ==== Sys2Proof/Machine/Events.lean ====
section
/-!
DEFINITION. What follows a command at once: event records reach their destinations (15_management_events_health.md R573-R576, R651) and
tandem records go out on TL (14_tandem_redundancy.md R535-R537). Every command ends with `settle`.
-/
namespace Sys2Proof.Machine

/-! ### Event delivery -/

/-- The producer of an event source within an event flume (R408, R651): 0 data plane, 1 control plane, 2 management plane. -/
def producerOf (e : Nat) : Nat :=
  if 128 ≤ e && e ≤ 1407 then 0
  else if (4 ≤ e && e ≤ 25) || ((64 ≤ e && e ≤ 127) || ((1408 ≤ e && e ≤ 1599) || (1728 ≤ e && e ≤ 1791))) then 1
  else 2

/-- The 32 bytes of a record (R571). -/
def EventRec.bytes (r : EventRec) : List Byte :=
  leBytes 8 r.stamp.ns ++ (leBytes 2 r.stamp.frac ++ (leBytes 2 r.source ++ (leBytes 4 r.seq ++ r.payload)))

/-- The route in force of a source (R573, R603): destination flumes and culvert rule; nothing for a disabled source. -/
def State.routeFlumes (s : State) (e : Nat) : List Nat :=
  let w := s.rd .evt (0x10000 + 8 * e)
  if bit w 31 then ([field w 10 0, field w 26 16].eraseDups).filter (fun f => f != 0x7FF) else []
def State.routeCulvert (s : State) (e : Nat) : Option Nat :=
  let w := s.rd .evt (0x10004 + 8 * e)
  if s.flag .evt (0x10000 + 8 * e) 31 && bit w 31 then some (field w 9 0) else none

/-- The key of the hold of a source and a flume (R575). -/
def holdKey (f e : Nat) : Nat := 2048 * f + e

/-- A hold. -/
def State.hold (s : State) (f e : Nat) : Option EventRec := Sparse.get (fun _ => none) s.evt.hold (holdKey f e)

/-- The state with a hold replaced. -/
def State.setHold (s : State) (f e : Nat) (r : Option EventRec) : State :=
  { s with evt := { s.evt with hold := Sparse.put (fun _ => none) s.evt.hold (holdKey f e) r } }

/-- Offers a record to a flume, or puts it in its hold (R575). -/
def State.offerRecord (s : State) (f : Nat) (r : EventRec) : State :=
  if (s.hold f r.source).isSome then
    ((s.setHold f r.source (some r)).bump .evt 0x410).setErr .evt 4 1 1625 (p2 r.source)
  else
    let o := s.flumeOffer f (producerOf r.source) r.bytes
    if o.2 then o.1.bump .evt 0x408 else o.1.setHold f r.source (some r)

/-- The culvert copy of a record (R574). -/
def State.wrapRecord (s : State) (rule : Nat) (r : EventRec) : State :=
  (s.bump .evt 0x420).culvertWrap s.epoch rule 6 false (!s.disciplined) r.source r.stamp.ns (r.bytes ++ beBytes 4 (crc32c r.bytes))

/-- A record goes to every destination of its route, or is discarded (R574). -/
def State.deliver (s : State) (r : EventRec) : State :=
  let fs := s.routeFlumes r.source
  let c := s.routeCulvert r.source
  let s1 := s.bump .evt 0x400
  if fs.isEmpty && c.isNone then (s1.bump .evt 0x418).setErr .evt 4 0 1624 (p2 r.source)
  else
    let s2 := fs.foldl (fun t f => t.offerRecord f r) s1
    match c with
    | none => s2
    | some rule => s2.wrapRecord rule r

/-- Delivers the records offered, oldest first; delivering may offer more. -/
def State.deliverAll (s : State) : Nat → State
  | 0 => s
  | n + 1 =>
    match s.evt.offered with
    | [] => s
    | r :: rest => State.deliverAll (({ s with evt := { s.evt with offered := rest } }).deliver r) n

/-- After a grant to a producer, its held records are offered in the order of R23 (R576; 00_scope.md R23). -/
def State.offerHeld (s : State) (f p : Nat) : State :=
  let mine := (s.evt.hold.filterMap (fun e => if e.1 / 2048 = f then e.2 else none)).filter (fun r => producerOf r.source == p)
  let before := fun (a b : EventRec) =>
    if a.stamp.ns ≠ b.stamp.ns then decide (a.stamp.ns < b.stamp.ns)
    else if a.stamp.frac ≠ b.stamp.frac then decide (a.stamp.frac < b.stamp.frac)
    else decide (a.source ≤ b.source)
  (sortBy before mine).foldl (fun (t : State) r =>
    let o := t.flumeOffer f p r.bytes
    if o.2 then (o.1.setHold f r.source none).bump .evt 0x408 else o.1) s

/-! ### Tandem frames (14_tandem_redundancy.md R535-R537) -/

/-- The bytes of a tandem record: a record that is no mirror record carries the SEQ of the last mirror record sent (R540). -/
def State.tandemRecord (s : State) (r : TdmRecord) : List Byte :=
  let seq := if r.precedence = 2 then r.seq else s.tdm.sentSeq
  [1, byte r.type] ++ (beBytes 2 r.body.length ++ (beBytes 4 (s.rd .tdm 0x20).toNat ++ (beBytes 4 seq ++ (beBytes 4 (s.nowNs % 2 ^ 32) ++ r.body))))

/-- Destination of tandem frames. -/
def tandemDa : List Byte := [0x03, 0x46, 0x56, 0x54, 0x44, 0x4D]

/-- The record that goes next: the lowest order of precedence, oldest first. -/
def nextTandem (rs : List TdmRecord) : Option TdmRecord :=
  ([1, 2, 3].findSome? (fun k => rs.find? (fun r => r.precedence == k)))

/-- Bytes that tandem frames may use in one millisecond at MIRROR_RATE. -/
def State.tandemBudget (s : State) : Nat := s.fld .tdm 8 31 24 * 12500

/-- May a tandem frame of `n` bytes go out now: TL in UP, its wire free, MIRROR_RATE kept? -/
def State.tandemFits (s : State) (n : Nat) : Bool :=
  let used := if 1000000 ≤ s.nowNs - s.tdm.rateFrom then 0 else s.tdm.rateUsed
  (s.port 4).state = .up && (decide (used + n ≤ s.tandemBudget) && (match (s.egress 4).active with
    | none => true
    | some w => s.preempting 4 && s.mayPreempt 4 w))

/-- Takes the first record equal to `r` out of the transmit buffer. -/
def State.takeTandem (s : State) (r : TdmRecord) : State := { s with tdm := { s.tdm with tx := s.tdm.tx.erase r } }

/-- A mirror record that goes out is the last one sent. -/
def State.sentMirror (s : State) (r : TdmRecord) : State :=
  if r.precedence = 2 then { s with tdm := { s.tdm with sentSeq := r.seq } } else s

/-- Charges `n` bytes to MIRROR_RATE. -/
def State.chargeTandem (s : State) (n : Nat) : State :=
  let fresh := decide (1000000 ≤ s.nowNs - s.tdm.rateFrom)
  { s with tdm := { s.tdm with rateFrom := if fresh then s.nowNs else s.tdm.rateFrom, rateUsed := (if fresh then 0 else s.tdm.rateUsed) + n } }

/-- Sends one tandem record: MACsec protects it like every frame. -/
def State.sendTandem (s : State) (r : TdmRecord) : State :=
  let bs := tandemDa ++ (s.macAddr 4 ++ ([0x88, 0xB6] ++ s.tandemRecord r))
  let s0 := if r.type = 2 then s.bump .tdm 0x400 else s
  let s1 := (((s0.takeTandem r).sentMirror r).tookSeq 0xD80).chargeTandem (Nat.max 64 (bs.length + 4))
  match s1.protect 4 (padded bs) with
  | (s2, none) => s2
  | (s2, some b) => ((if (s2.egress 4).active.isSome then s2.suspend 4 else s2).sendWire 4 true false b).bump .tdm 0x410

/-- Sends the tandem records that may go out now. -/
def State.flushTandem (s : State) : Nat → State
  | 0 => s
  | n + 1 =>
    match nextTandem s.tdm.tx with
    | none => s
    | some r => if s.tandemFits (Nat.max 64 (r.body.length + 34)) then State.flushTandem (s.sendTandem r) n else s

/-- The most records that one command lets out. -/
def settleBound : Nat := 4096

/-- What follows every command at once: gPTP messages that waited, tandem records and events that may go out do. -/
def State.settle (s : State) : State := (s.releaseAllPtp.flushTandem settleBound).deliverAll settleBound

end Sys2Proof.Machine
end

