-- ==== Sys2Proof/Machine/LmpOps.lean ====
section
/-!
DEFINITION. The lamplight island (13_wake_sleep_power.md): wake causes, confirmation windows, the curfew rings, the feeds, and device reset,
which the island asserts (01_architecture.md R44).
-/
namespace Sys2Proof.Machine

/-- Island ticks since island reset (R527). -/
def State.islandCount (s : State) : Nat := s.lmp.clock / 390625 % 2 ^ 48

/-- The event of an island happening: while device reset is held nothing can take it. -/
def State.lmpEmit (s : State) (e : Nat) (payload : List Byte) : State := if s.lmp.held then s else s.emit e payload

/-- Counts on an LMP counter, in the order of R525. -/
def State.lmpBump (s : State) (k : Nat) : State := s.bump .lmp (0x800 + 8 * k)

/-- Sets a bit of LMP_ERR (R523). -/
def State.lmpErr (s : State) (i : Nat) : State :=
  if s.flag .lmp 8 i then s else (s.wr .lmp 8 (setBit (s.rd .lmp 8) i true)).lmpEmit (1496 + i) (p4 0)

/-- Codes of the island's states (R527): OFF has none. -/
def IslKind.code : IslKind → Nat
  | .off => 0
  | .waking => 1
  | .run => 2
  | .sleeping => 3
  | .sleep => 4

/-- Moves the island to a state (R499). -/
def State.setIsland (s : State) (k : IslKind) : State :=
  if s.lmp.kind = k then s
  else { s with lmp := { s.lmp with kind := k } }.lmpEmit 1472 (p1 s.lmp.kind.code ++ p1 k.code)

/-! ### Rings (R513-R517) -/

/-- A ring, and the state with it replaced. -/
def State.ringOf (s : State) (r : Nat) : Ring := Sparse.get (fun _ => {}) s.lmp.ring r
def State.putRing (s : State) (r : Nat) (v : Ring) : State := { s with lmp := { s.lmp with ring := Sparse.put (fun _ => {}) s.lmp.ring r v } }

/-- Fields of a ring's settings (R527): EN, CHANNEL, BASE, ADDR; TTYP, TMAX, TWBS, TERROR in ms. -/
def State.ringEn (s : State) (r : Nat) : Bool := s.flag .lmp (0x700 + 0x20 * r) 31
def State.ringChannel (s : State) (r : Nat) : Nat := s.fld .lmp (0x700 + 0x20 * r) 30 26
def State.ringBase (s : State) (r : Nat) : Nat := s.fld .lmp (0x700 + 0x20 * r) 18 16
def State.ringAddr (s : State) (r : Nat) : Nat := s.fld .lmp (0x700 + 0x20 * r) 7 0
def State.ringTtyp (s : State) (r : Nat) : Nat := s.fld .lmp (0x704 + 0x20 * r) 15 0
def State.ringTmax (s : State) (r : Nat) : Nat := s.fld .lmp (0x704 + 0x20 * r) 31 16
def State.ringTwbs (s : State) (r : Nat) : Nat := s.fld .lmp (0x708 + 0x20 * r) 31 16
def State.ringTerror (s : State) (r : Nat) : Nat := s.fld .lmp (0x708 + 0x20 * r) 15 0

/-- Milliseconds in island ticks. -/
def islandTicks (ms : Nat) : Nat := ceilDiv (ms * 32768) 1000

/-- Codes of ring states (R527). -/
def RingKind.code : RingKind → Nat
  | .off => 0
  | .reset => 1
  | .normal => 2
  | .prepSleep => 3
  | .waitBusSleep => 4
  | .busSleep => 5
  | .limphome => 6
  | .passive => 7

/-- The ring state that a mirrored code names. -/
def ringOfCode : Nat → RingKind
  | 1 => .reset
  | 2 => .normal
  | 3 => .prepSleep
  | 4 => .waitBusSleep
  | 5 => .busSleep
  | 6 => .limphome
  | 7 => .passive
  | _ => .off

/-- Bytes of a bitmap of 256 bits, big-endian: bit a for address a. -/
def addressMap (as : List Nat) : List Byte := beBytes 32 ((as.map (fun a => 2 ^ a)).sum)

/-- The successor of an address among ascending members, wrapping to the lowest; the predecessor (R515). -/
def successor (ms : List Nat) (a : Nat) : Nat := (ms.find? (fun m => decide (a < m))).getD (ms.headD a)
def predecessor (ms : List Nat) (a : Nat) : Nat := successor' ms.reverse a
where
  /-- The next lower of descending members, wrapping to the highest. -/
  successor' (ms : List Nat) (a : Nat) : Nat := (ms.find? (fun m => decide (m < a))).getD (ms.headD a)

/-- The body of a ring's mirror record, and the record (14_tandem_redundancy.md R538, R545). -/
def State.ringEntry (s : State) (r : Nat) : List Byte :=
  let g := s.ringOf r
  [byte r, byte g.kind.code, byte s.lmp.sleepReq.toNat, 0] ++
    (beBytes 2 (Nat.min ((g.due - s.islandCount) * 1000 / 32768) 0xFFFF) ++ ([0, 0] ++ addressMap g.members))
def State.mirrorRing (s : State) (r : Nat) : State := if s.mirroring then s.queueTandem 2 0x12 (s.ringEntry r) else s

/-- Moves a ring to a state, its timer running for `ms` (R517). -/
def State.ringTo (s : State) (r : Nat) (k : RingKind) (ms : Nat) : State :=
  let g := s.ringOf r
  let g1 := { g with kind := k, due := s.islandCount + islandTicks ms }
  let g2 := match k with
    | .limphome => { g1 with out := none, token := false, sent := false, heard := false, awake := false }
    | .prepSleep => { g1 with consented := if g.kind = .normal then [] else g.consented }
    | .normal => g1
    | .waitBusSleep => { g1 with token := false }
    | _ => { g1 with token := false, agreed := false }
  if g.kind = k then s.putRing r g2
  else ((s.putRing r g2).lmpEmit (1480 + r) (p1 g.kind.code ++ (p1 k.code ++ p4 g.members.length))).mirrorRing r

/-- Hands a ring message to the channel: it waits as a candidate (R514). RING goes to the successor; the spec names no destination for ALIVE
and LIMPHOME: a free value. -/
def State.ringSend (s : State) (r : Nat) (op : RingOp) : State :=
  match op with
  | .ring _ => s.putRing r { s.ringOf r with out := some (op, successor (s.ringOf r).members (s.ringAddr r)) }
  | _ =>
    let (s1, d) := s.drawNat
    s1.putRing r { s1.ringOf r with out := some (op, d % 256) }

/-- Sends ALIVE and enters RESET (R517). -/
def State.ringAlive (s : State) (r : Nat) : State := (s.ringSend r .alive).ringTo r .reset (s.ringTtyp r)

/-- NORMAL with SLEEP_REQ = 1 is PREP_SLEEP, and PREP_SLEEP without it is NORMAL; WAIT_BUS_SLEEP is left when it clears (R517). -/
def State.ringRequest (s : State) (r : Nat) : State :=
  match (s.ringOf r).kind, s.lmp.sleepReq with
  | .normal, true => s.ringTo r .prepSleep (s.ringTmax r)
  | .prepSleep, false => s.ringTo r .normal (s.ringTmax r)
  | .waitBusSleep, false => s.ringAlive r
  | _, _ => s

/-- The four rings follow a change of SLEEP_REQ. -/
def State.setSleepReq (s : State) (v : Bool) : State :=
  if s.lmp.sleepReq = v then s
  else [0, 1, 2, 3].foldl (fun t r => t.ringRequest r) { s with lmp := { s.lmp with sleepReq := v } }

/-- A ring starts (R517): ALIVE and RESET, or PASSIVE on a standby member. -/
def State.ringStart (s : State) (r : Nat) : State :=
  if s.ringEn r && (s.ringOf r).kind = .off then
    let s1 := s.putRing r { members := [s.ringAddr r] }
    if s.tdm.active then s1.ringAlive r else s1.ringTo r .passive 0
  else s

/-- A ring stops: OFF, nothing kept. -/
def State.ringStop (s : State) (r : Nat) : State := (s.ringTo r .off 0).putRing r {}

/-- The member becomes standby; it takes over (R517). -/
def State.ringToStandby (s : State) (r : Nat) : State :=
  if (s.ringOf r).kind = .off then s
  else (s.putRing r { s.ringOf r with out := none }).ringTo r .passive 0
def State.ringFromStandby (s : State) (r : Nat) : State :=
  if (s.ringOf r).kind ≠ .passive then s
  else match Sparse.get (fun _ => none) s.tdm.ring r with
    | some m =>
      if s.islandCount - m.cameAt < islandTicks (s.ringTmax r) && m.state ≠ 7 && m.state ≠ 0 then
        let s1 := s.putRing r { s.ringOf r with members := sortBy (fun (a b : Nat) => decide (a ≤ b)) ((s.ringAddr r :: m.members).eraseDups) }
        (s1.ringTo r (ringOfCode m.state) m.left).ringRequest r
      else s.ringAlive r
    | none => s.ringAlive r

/-- Adds an address to the member table, or takes it out (R515). -/
def State.ringJoin (s : State) (r a : Nat) : State :=
  let g := s.ringOf r
  if g.members.contains a then s
  else ((s.putRing r { g with members := insertBy (fun (x y : Nat) => decide (x ≤ y)) a g.members }).lmpEmit (1484 + r) (p2 a ++ p1 1)).mirrorRing r
def State.ringLeave (s : State) (r a : Nat) : State :=
  let g := s.ringOf r
  if a = s.ringAddr r || !g.members.contains a then s
  else ((s.putRing r { g with members := g.members.erase a, consented := g.consented.erase a }).lmpEmit (1484 + r) (p2 a ++ p1 0)).mirrorRing r

/-- Has every member consented (R516)? -/
def Ring.complete (g : Ring) : Bool := g.members.all (fun m => g.consented.contains m)

/-- Notes the consent that a member's latest message carries (R516). -/
def State.ringConsent (s : State) (r a : Nat) (yes : Bool) : State :=
  let g := s.ringOf r
  s.putRing r { g with consented := if yes then (if g.consented.contains a then g.consented else a :: g.consented) else g.consented.erase a }

/-- Does a RING from `src` to `dst` skip this node? -/
def skips (own src dst : Nat) : Bool :=
  if src = own || dst = own then false
  else if src < dst then decide (src < own) && decide (own < dst)
  else decide (src < own) || decide (own < dst)

/-- A valid ring message (R514-R517): source, destination, OPCODE. -/
def State.ringHeard (s : State) (r src dst op : Nat) : State :=
  let own := s.ringAddr r
  let isRing := op.testBit 0
  let ind := op.testBit 4
  let ack := op.testBit 5
  let s1 := ((s.lmpBump 6).ringJoin r src).ringConsent r src ind
  let g := s1.ringOf r
  match g.kind with
  | .reset => if op.testBit 1 && src ≠ own then s1.putRing r { g with due := s.islandCount + islandTicks (s.ringTtyp r) } else s1
  | .normal =>
    if isRing && skips own src dst then s1.ringAlive r
    else if isRing && dst = own then s1.putRing r { g with token := true, agreed := false, due := s.islandCount + islandTicks (s.ringTtyp r) }
    else s1
  | .prepSleep =>
    if ack && s.lmp.sleepReq then s1.ringTo r .waitBusSleep (s.ringTwbs r)
    else if isRing && skips own src dst then s1.ringAlive r
    else if isRing && dst = own then s1.putRing r { g with token := true, agreed := ind && g.complete, due := s.islandCount + islandTicks (s.ringTtyp r) }
    else s1
  | .waitBusSleep => if ind then s1 else s1.ringAlive r
  | .busSleep => if s.lmp.kind = .run then s1.ringAlive r else s1
  | .limphome =>
    let g1 := { g with heard := g.heard || (isRing || op.testBit 1), awake := g.awake || !ind }
    if g1.sent && g1.heard then (s1.putRing r g1).ringTo r .reset (s.ringTtyp r) else s1.putRing r g1
  | _ => s1

/-- Is OPCODE one that a ring message may carry (R514)? -/
def ringOpcodeOk (op : Nat) : Bool :=
  op / 64 = 0 && (!op.testBit 3 && (((op.testBit 0).toNat + (op.testBit 1).toNat + (op.testBit 2).toNat == 1) && (!op.testBit 5 || op.testBit 4)))

/-- A valid frame on channel `n` as a ring message (R514). -/
def State.ringFrame (s : State) (n : Nat) (f : CanFrame) (r : Nat) : State :=
  if !s.ringEn r || s.ringChannel r ≠ n || (s.ringOf r).kind = .off || f.fdf || f.xlf || f.ide || f.rtr || f.id / 256 ≠ s.ringBase r then s
  else if f.data.length < 2 || !ringOpcodeOk (leAt f.data 1 1) then (s.lmpBump 7).lmpErr 0
  else s.ringHeard r (f.id % 256) (leAt f.data 0 1) (leAt f.data 1 1)

/-- The frame of a ring's waiting message (R514): a free destination where the spec names none. -/
def State.ringFrameOut (s : State) (r : Nat) (op : RingOp) (dst : Nat) : CanFrame :=
  let req := s.lmp.sleepReq.toNat
  let code := match op with
    | .ring ack => 1 + 16 * (if ack then 1 else req) + 32 * ack.toNat
    | .alive => 2 + 16 * req
    | .limphome => 4 + 16 * req
  { id := s.ringBase r * 256 + s.ringAddr r, data := [byte dst, byte code, 0, 0, 0, 0, 0, 0] }

/-- The rings of a channel that have a message waiting, with its frame. -/
def State.ringFrames (s : State) (n : Nat) : List (Nat × CanFrame) :=
  [0, 1, 2, 3].filterMap (fun r =>
    if s.ringEn r && s.ringChannel r = n then ((s.ringOf r).out).map (fun m => (r, s.ringFrameOut r m.1 m.2)) else none)

/-- A ring's message was sent and acknowledged (R515-R517). Alone, its own RING counts as received from its predecessor. -/
def State.ringSent (s : State) (r : Nat) (f : CanFrame) : State :=
  let own := s.ringAddr r
  let op := leAt f.data 1 1
  let s1 := (s.putRing r { s.ringOf r with out := none, unacked := 0, sent := true }).lmpBump 5
  let s2 := s1.ringConsent r own (op.testBit 4)
  let g := s2.ringOf r
  if g.kind = .limphome && g.heard then s2.ringTo r .reset (s.ringTtyp r)
  else if op.testBit 0 && leAt f.data 0 1 = own then s2.ringHeard r own own op
  else s2

/-- Does the ring's state leave for LIMPHOME (R517)? -/
def State.ringLost (s : State) (r : Nat) : State :=
  match (s.ringOf r).kind with
  | .reset => s.ringTo r .limphome (s.ringTerror r)
  | .normal => s.ringTo r .limphome (s.ringTerror r)
  | .prepSleep => s.ringTo r .limphome (s.ringTerror r)
  | _ => s

/-- A ring's message was not acknowledged: the third in a row leads to LIMPHOME (R517). -/
def State.ringUnacked (s : State) (r : Nat) : State :=
  let s1 := s.putRing r { s.ringOf r with unacked := (s.ringOf r).unacked + 1 }
  if 3 ≤ (s1.ringOf r).unacked then (s1.putRing r { s1.ringOf r with unacked := 0 }).ringLost r else s1

/-- A channel enters BUS_OFF: its rings go to LIMPHOME (R517). -/
def State.ringsBusOff (s : State) (n : Nat) : State :=
  [0, 1, 2, 3].foldl (fun t r => if t.ringEn r && t.ringChannel r = n then t.ringLost r else t) s

/-! ### False wakes (R508, R509) -/

/-- The false-wake count of a source, and whether it is disarmed (R527). -/
def State.falseWakes (s : State) (x : WakeSource) : Nat :=
  if x < 32 then s.fld .lmp (0x11C + 0x20 * x) 5 0 else s.fld .lmp 0x50 (8 * (x - 32) + 5) (8 * (x - 32))
def State.setFalseWakes (s : State) (x : WakeSource) (n : Nat) : State :=
  if x < 32 then s.setFld .lmp (0x11C + 0x20 * x) 5 0 (Nat.min 63 n) else s.setFld .lmp 0x50 (8 * (x - 32) + 5) (8 * (x - 32)) (Nat.min 63 n)
def State.disarmed (s : State) (x : WakeSource) : Bool := if x < 32 then s.flag .lmp (0x11C + 0x20 * x) 30 else s.flag .lmp 0x50 (8 * (x - 32) + 7)
def State.setDisarmed (s : State) (x : WakeSource) (v : Bool) : State :=
  if x < 32 then s.setFld .lmp (0x11C + 0x20 * x) 30 30 v.toNat else s.setFld .lmp 0x50 (8 * (x - 32) + 7) (8 * (x - 32) + 7) v.toNat

/-- Closes a window. -/
def State.closeWindow (s : State) (x : WakeSource) : State := { s with lmp := { s.lmp with windows := s.lmp.windows.erase x } }

/-- The wake of a source is confirmed (R509). -/
def State.confirmWake (s : State) (x : WakeSource) : State := if s.lmp.windows.contains x then (s.closeWindow x).setFalseWakes x 0 else s

/-- Rearms every source (R509): the cause is that of the wake, or 0xFE for REARM. -/
def State.rearmAll (s : State) (cause : Nat) : State :=
  ((List.range 36).foldl (fun (t : State) x => (t.setFalseWakes x 0).setDisarmed x false) s).lmpEmit 1491 (p1 cause)

/-- A valid frame on channel `n`: it confirms the wake of the channel's decoder, and may be a ring message (R509, R514). -/
def State.canHeard (s : State) (n : Nat) (f : CanFrame) : State :=
  let s1 := if s.lmp.kind = .run then s.confirmWake n else s
  [0, 1, 2, 3].foldl (fun t r => t.ringFrame n f r) s1

/-! ### Device reset (01_architecture.md R44) -/

/-- The feed windows of the PIN block, which device reset keeps (17_register_map.md R644). -/
def feedWindows (f : RegFile) : RegFile :=
  let other := fun (k : Nat) => !(decide (0x8000 ≤ k) && decide (k < 0x8200))
  { word := Sparse.clear other f.word, count := Sparse.clear other f.count }

/-- Device reset is asserted: everything outside the island returns to its reset value. Island, fuses and flash stay. -/
def State.deviceReset (s : State) (cause : Nat) : State :=
  { regs := { lmp := s.regs.lmp, pin := feedWindows s.regs.pin }, lmp := { s.lmp with held := true, cause := cause },
    sense := { rails := s.sense.rails }, flash := s.flash, fuses := s.fuses, out := s.out, free := s.free, pending := s.pending }

/-! ### Feeds (R518-R521) -/

/-- A feed, and the state with it replaced. -/
def State.feedOf (s : State) (f : Nat) : Feed := Sparse.get (fun _ => {}) s.lmp.feed f
def State.putFeed (s : State) (f : Nat) (v : Feed) : State := { s with lmp := { s.lmp with feed := Sparse.put (fun _ => {}) s.lmp.feed f v } }

/-- A register of a feed's window (R528). -/
def feedReg (f off : Nat) : Nat := 0x8000 + 0x80 * f + off

/-- Codes of feed states (R528). -/
def FeedKind.code : FeedKind → Nat
  | .off => 0
  | .ramp => 1
  | .on => 2
  | .cool => 3
  | .latched => 4
  | .ovHold => 5

/-- Moves a feed to a state with its event (R519, R524): the cause is that of the latest trip. A ramp counts. -/
def State.feedTo (s : State) (f : Nat) (k : FeedKind) : State :=
  let v := s.feedOf f
  if v.kind = k then s
  else
    let s1 := (s.putFeed f { v with kind := k }).lmpEmit (1776 + f)
      (p1 v.kind.code ++ (p1 k.code ++ (p4 v.trips ++ p1 (s.fld .pin (feedReg f 0x14) 31 30))))
    match k with
    | .ramp => s1.bump .pin (feedReg f 0x40)
    | .latched => s1.bump .pin (feedReg f 0x60)
    | _ => s1

/-- A trip (R519): TRIPS rises, its cause is counted and shown; COOL, or LATCHED at the third. -/
def State.feedTrip (s : State) (f cause : Nat) : State :=
  let v := s.feedOf f
  let s1 := (s.putFeed f { v with trips := Nat.min 3 (v.trips + 1), tripAt := some s.islandCount }).bump .pin (feedReg f (0x40 + 8 * cause))
  let s2 := s1.setFld .pin (feedReg f 0x14) 31 30 cause
  if v.kind = .off then s2
  else s2.feedTo f (if (s2.feedOf f).trips = 3 then .latched else .cool)

/-- Gate down: the feed is OFF (R519). -/
def State.feedDown (s : State) (f : Nat) : State :=
  match (s.feedOf f).kind with
  | .off => s
  | .latched => if (s.feedOf f).tripAt = some s.islandCount then s.feedTo f .off else s
  | _ => s.feedTo f .off

/-! ### Wakes (R499-R503) -/

/-- The source whose window a wake code opens: decoders by match or error counter, pins. -/
def sourceOfCode (code : Nat) : Option WakeSource :=
  if code < 36 then some code else if 0x40 ≤ code && code < 0x60 then some (code - 0x40) else none

/-- Is the wake a commanded one (R502)? -/
def State.commanded (s : State) (code : Nat) : Bool :=
  if 0x20 ≤ code && code < 0x24 then s.flag .lmp (0x80 + 4 * (code - 0x20)) 30 else decide (0x24 ≤ code) && decide (code < 0x40)

/-- Latches a cause in LMP_CAUSE and raises E1473 (R502). -/
def State.latchCause (s : State) (code : Nat) : State :=
  let s1 := match sourceOfCode code with
    | some x => if x < 32 then s.wr .lmp 0xC (setBit (s.rd .lmp 0xC) x true) else s.wr .lmp 0x10 (setBit (s.rd .lmp 0x10) (x - 32) true)
    | none => s.wr .lmp 0x10 (setBit (s.rd .lmp 0x10) (if code = 0x24 then 4 else if code = 0x25 then 5 else 7) true)
  s1.lmpEmit 1473 (p1 code ++ p4 (s.islandCount % 2 ^ 32))

/-- The island wakes (R499, R503, R509): the cause and its island count are kept, the decoders disarmed, a window opened or, for a commanded
wake, every source rearmed. -/
def State.wakeUp (s : State) (code count : Nat) : State :=
  let s1 := ((s.wr .lmp 0x14 (word code)).wr .lmp 0x18 (lo32 count)).wr .lmp 0x1C (hi32 count)
  let s2 := (List.range 32).foldl (fun (t : State) n => t.setFld .lmp (0x11C + 0x20 * n) 21 16 (Sparse.get (fun _ => 0) s.lmp.errs n)) s1
  let windows := match sourceOfCode code with
    | some x => if s.commanded code || s.lmp.windows.contains x then s.lmp.windows else s.lmp.windows ++ [x]
    | none => s.lmp.windows
  let s3 := { s2 with lmp := { s2.lmp with next := 0, later := none, retry := false, errOff := [], windows := windows, cause := 1 } }
  let s4 := (s3.lmpBump 0).setIsland .waking
  if s.commanded code then s4.rearmAll code else s4

/-- Entry to RUN (R499, R510, R517, R519): SLEEP_REQ clears, rings that are OFF start, feeds with DEF_ON ramp. -/
def State.enterRun (s : State) : State :=
  let s1 := (s.setIsland .run).setSleepReq false
  let s2 := [0, 1, 2, 3].foldl (fun t r => t.ringStart r) s1
  [0, 1, 2, 3].foldl (fun (t : State) f => if t.flag .pin (feedReg f 0) 31 && (t.feedOf f).kind = .off then t.feedTo f .ramp else t) s2

/-- Can a source wake the island: enabled and not disarmed (R502)? -/
def State.mayWake (s : State) (x : WakeSource) : Bool :=
  (if x < 32 then s.flag .lmp (0x108 + 0x20 * x) 31 else s.flag .lmp (0x80 + 4 * (x - 32)) 31) && !s.disarmed x

/-- A wake cause (R499, R502, R503, R512). -/
def State.wakeCause (s : State) (code : Nat) : State :=
  let s1 := s.latchCause code
  match s.lmp.kind with
  | .off => s
  | .sleep => s1.wakeUp code s.islandCount
  | .sleeping =>
    if s.lmp.grace then
      ({ s1 with lmp := { s1.lmp with grace := false } }.lmpEmit 1475 (p1 code)).lmpBump 3 |>.enterRun
    else
      let first := match s.lmp.later with
        | none => (code, s.islandCount)
        | some (c, t) => (if t = s.islandCount then Nat.min c code else c, t)
      { s1 with lmp := { s1.lmp with later := some first } }
  | .waking =>
    if s.rd64 .lmp 0x18 = s.islandCount && code < (s.rd .lmp 0x14).toNat then s1.wr .lmp 0x14 (word code) else s1
  | .run => s1

/-- Arms the sources and enters SLEEP (R499, R502, R506). -/
def State.armAll (s : State) : State :=
  let s1 := (List.range 32).foldl (fun (t : State) n => t.setFld .lmp (0x11C + 0x20 * n) 31 31 (t.mayWake n).toNat) s
  { s1 with lmp := { s1.lmp with errs := [], errOff := [] } }.setIsland .sleep

/-- Are the members paired (14_tandem_redundancy.md R541, R542)? -/
def State.inPairing (s : State) : Bool :=
  match s.tdm.state with
  | .resync => true
  | .paired => true
  | .resolving => s.tdm.partner.isSome
  | .frozen => true
  | _ => false

/-- The sleep condition (R510, R511). -/
def State.sleepCondition (s : State) : Bool :=
  let follows := !s.tdm.active && (s.flag .lmp 0x20 17 && s.inPairing)
  let rings := [0, 1, 2, 3].filter (fun r => s.ringEn r)
  match (if follows then s.tdm.partner else none) with
  | some p => p.sleepReq && rings.all (fun r => p.rings / 8 ^ r % 8 == 5)
  | none => s.lmp.sleepReq && rings.all (fun r => (s.ringOf r).kind == .busSleep)

end Sys2Proof.Machine
end

