-- ==== Sys2Proof/Machine/CanOps.lean ====
section
/-!
DEFINITION. CAN channels (08_can_controllers.md): registers, states, frames and their lengths, transmit requests and queues,
arbitration, reference messages, secured PDUs, and what a build loads.
-/
namespace Sys2Proof.Machine

/-- Offset of a register of channel `n` (R361). -/
def canReg (n off : Nat) : Nat := 0x8000 * n + off

/-- A channel, and the state with it replaced. -/
def State.chan (s : State) (n : Nat) : CanChan := Sparse.get (fun _ => {}) s.can.chan n
def State.setChan (s : State) (n : Nat) (v : CanChan) : State := { s with can := { s.can with chan := Sparse.put (fun _ => {}) s.can.chan n v } }

/-- Counts on a channel: the counters in the order of R360. -/
def State.canBump (s : State) (n k : Nat) : State := s.bump .can (canReg n (0x400 + 8 * k))
def State.canBumpBy (s : State) (n k by_ : Nat) : State := s.bumpBy .can (canReg n (0x400 + 8 * k)) by_

/-- Sets a CAN_ERR bit with its event (R359): PEX and TDC_RANGE share one. -/
def State.canErr (s : State) (n i : Nat) (payload : List Byte) : State :=
  s.setErr .can (canReg n 0x28) i (640 + 8 * n + (if i < 2 then i + 1 else if i < 4 then 3 else i)) payload

/-- Fields of the build (R363): PROTO, MEMMODE, SHARE in bytes, OPMODE, DISTRICT. -/
def State.canProto (s : State) (n : Nat) : Nat := s.fld .can (canReg n 0) 9 8
def State.canMode (s : State) (n : Nat) : Nat := s.fld .can (canReg n 0) 11 10
def State.canShare (s : State) (n : Nat) : Nat := 1024 * s.fld .can (canReg n 0) 24 16
def State.canOp (s : State) (n : Nat) : Nat := s.fld .can (canReg n 4) 2 0
def State.canDistrict (s : State) (n : Nat) : Nat := s.fld .can (canReg n 4) 31 20

/-- Does the operating mode send frames (R330)? -/
def State.canSends (s : State) (n : Nat) : Bool := s.canOp n == 0 || (s.canOp n == 3 || s.canOp n == 4)

/-- Codes of a channel state and of a role (R363). -/
def CanKind.code : CanKind → Nat
  | .absent => 0
  | .integrating => 1
  | .errorActive => 2
  | .errorPassive => 3
  | .busOff => 4
  | .recovering => 5
  | .standby => 6
  | .roadworks => 7
def RefKind.code : RefKind → Nat
  | .off => 0
  | .wait => 1
  | .following => 2
  | .backup => 3
  | .master => 4

/-- Does the channel take part in the bus? -/
def CanKind.onBus : CanKind → Bool
  | .errorActive => true
  | .errorPassive => true
  | _ => false

/-! ### Reference roles (R349) -/

/-- Moves the reference role, setting CAN_ERR.REF on a change (R349). -/
def State.setRef (s : State) (n : Nat) (new : RefKind) : State :=
  let c := s.chan n
  if c.ref = new then s
  else
    (s.setChan n { c with ref := new, refPending := c.refPending && (new == .master) }).canErr n 4
      (p1 new.code ++ (p1 (s.fld .can (canReg n 0x88) 20 20) ++ p1 (s.fld .can (canReg n 0x88) 23 21)))

/-- The role that the configured ROLE and the channel's state allow. -/
def State.refreshRef (s : State) (n : Nat) : State :=
  let c := s.chan n
  match s.fld .can (canReg n 0x80) 31 30 with
  | 1 => if c.ref = .wait || c.ref = .following then s else s.setRef n .wait
  | 2 =>
    if !c.kind.onBus then s.setRef n .off
    else if c.ref = .backup || c.ref = .master then s
    else s.setRef n .backup
  | _ => s.setRef n .off

/-- Moves a channel to a state (R328), raising its event on a change; the reference role follows. -/
def State.setCanKind (s : State) (n : Nat) (new : CanKind) : State :=
  let c := s.chan n
  if c.kind = new then s
  else
    let s1 := ((s.setChan n { c with kind := new }).emit (640 + 8 * n)
      (p1 c.kind.code ++ (p1 new.code ++ (p4 c.tec ++ p4 c.rxe)))).refreshRef n
    if new = .busOff then s1.ringsBusOff n else s1

/-- Fault confinement (R328): the state that TEC and REC call for. -/
def State.confine (s : State) (n : Nat) : State :=
  let c := s.chan n
  if !c.kind.onBus then s
  else if 255 < c.tec then
    (s.setChan n { c with busy := none, receiving := false }).canBump n 19 |>.setCanKind n .busOff
  else if 127 < c.tec || 127 < c.rxe then s.setCanKind n .errorPassive
  else s.setCanKind n .errorActive

/-! ### Frames and lengths -/

/-- Legal data lengths of an FD frame. -/
def fdLengths : List Nat := [0, 1, 2, 3, 4, 5, 6, 7, 8, 12, 16, 20, 24, 32, 48, 64]

/-- LEN of a frame: a remote frame's is its length code (R363). -/
def canLen (f : CanFrame) : Nat := if f.rtr then f.rlen else f.data.length

/-- Does the protocol have the frame's format (R319, R320)? -/
def protoHas (proto : Nat) (f : CanFrame) : Bool :=
  if f.xlf then proto == 3 else if f.fdf then decide (2 ≤ proto) else decide (1 ≤ proto)

/-- Is the frame well formed (R320, R363): type and length? -/
def frameLegal (f : CanFrame) : Bool :=
  decide (f.id < if f.ide then 2 ^ 29 else 2 ^ 11) &&
  if f.xlf then !f.fdf && (!f.rtr && (!f.ide && (decide (1 ≤ f.data.length) && decide (f.data.length ≤ 2048))))
  else if f.fdf then !f.rtr && fdLengths.contains f.data.length
  else !f.brs && decide (canLen f ≤ 8)

/-- Does a channel take the frame: format and length? -/
def State.canTakes (s : State) (n : Nat) (f : CanFrame) : Bool := protoHas (s.canProto n) f && frameLegal f

/-- The value by which frames compare in arbitration (R340): identifier bits and the bits between them as on the bus. -/
def canRank (f : CanFrame) : Nat :=
  if f.ide then f.id / 2 ^ 18 % 2048 * 2 ^ 21 + 3 * 2 ^ 19 + f.id % 2 ^ 18 * 2 + f.rtr.toNat
  else f.id % 2048 * 2 ^ 21 + f.rtr.toNat * 2 ^ 20

/-- Does a frame match an identifier under a mask (R333)? -/
def idMatch (f : CanFrame) (ide : Bool) (id mask : Nat) : Bool := f.ide == ide && (f.id &&& mask) == (id &&& mask)

/-! ### Objects and queues -/

/-- An object. -/
def CanChan.obj (c : CanChan) (o : Nat) : CanObj := Sparse.get (fun _ => {}) c.objs o
def State.setObj (s : State) (n o : Nat) (v : CanObj) : State :=
  s.setChan n { s.chan n with objs := Sparse.put (fun _ => {}) (s.chan n).objs o v }

/-- OBJ_CFG of an object: its fields (R363). -/
def State.objCfg (s : State) (n o : Nat) : Word := s.rd .can (canReg n (0x1000 + 4 * o))
def State.objEn (s : State) (n o : Nat) : Bool := bit (s.objCfg n o) 31
def State.objDir (s : State) (n o : Nat) : Bool := bit (s.objCfg n o) 30
def State.objTx (s : State) (n o : Nat) : Bool := bit (s.objCfg n o) 31 && bit (s.objCfg n o) 30
def State.objCap (s : State) (n o : Nat) : Nat := 8 * 2 ^ field (s.objCfg n o) 27 24

/-- Bits of OBJ_TXRQ (0x40), OBJ_TXCAN (0x50) and OBJ_NEWDAT (0x60). -/
def State.objBit (s : State) (n reg o : Nat) : Bool := s.flag .can (canReg n (reg + 4 * (o / 32))) (o % 32)
def State.setObjBit (s : State) (n reg o : Nat) (v : Bool) : State :=
  let off := canReg n (reg + 4 * (o / 32))
  s.wr .can off (setBit (s.rd .can off) (o % 32) v)

/-- Objects whose TXRQ is 1, ascending. -/
def State.pendingObjs (s : State) (n : Nat) : List Nat := (List.range 128).filter (fun o => s.objBit n 0x40 o)

/-- Bytes that the entries of both queues take (R337). -/
def CanChan.queueBytes (c : CanChan) : Nat :=
  (c.txq.map (fun e => 16 + 16 * ceilDiv e.frame.data.length 16)).sum + (c.rxq.map (fun e => 16 + 16 * ceilDiv e.frame.data.length 16)).sum

/-- Has a queue with `used` of `most` entries room for a frame (R337)? -/
def State.queueRoom (s : State) (n used most : Nat) (f : CanFrame) : Bool :=
  decide (used < most) && decide ((s.chan n).queueBytes + 16 + 16 * ceilDiv f.data.length 16 ≤ s.canShare n)
def State.txRoom (s : State) (n : Nat) (f : CanFrame) : Bool := s.queueRoom n (s.chan n).txq.length (s.fld .can (canReg n 0x70) 26 16) f
def State.rxRoom (s : State) (n : Nat) (f : CanFrame) : Bool := s.queueRoom n (s.chan n).rxq.length (s.fld .can (canReg n 0x70) 10 0) f

/-- Counts a dropped transmission: causes 1 single-shot, 2 roadworks, 3 standby or mode, 4 freshness exhausted (R359). -/
def State.txDrop (s : State) (n cause : Nat) : State := (s.canBump n 8).canErr n 1 (p1 cause)

/-- Clears a request with its cancel bit; a payload kept for retries goes with it. -/
def State.clearRequest (s : State) (n o : Nat) : State :=
  let s1 := (s.setObjBit n 0x40 o false).setObjBit n 0x50 o false
  s1.setObj n o { (s1.chan n).obj o with sealed := none }

/-- Is the object, or the head of the transmit queue, the frame on the bus? -/
def CanChan.sends (c : CanChan) (what : Contender) : Bool := c.busy.any (fun b => b.1 == what)

/-- Drops pending transmissions, each counted with its cause (R328, R329). A frame on the bus finishes. -/
def State.dropPending (s : State) (n cause : Nat) : State :=
  let c := s.chan n
  let objs := (s.pendingObjs n).filter (fun o => !c.sends (.obj o))
  let s1 := objs.foldl (fun t o => (t.clearRequest n o).txDrop n cause) s
  let keep := if c.sends .queue then c.txq.take 1 else []
  let s2 := (c.txq.drop keep.length).foldl (fun t _ => t.txDrop n cause) s1
  let s3 := if c.refPending && !c.sends .ref then s2.txDrop n cause else s2
  let s4 := (s.ringFrames n).foldl (fun (t : State) m =>
    if c.sends (.ring m.1) then t else (t.putRing m.1 { t.ringOf m.1 with out := none }).txDrop n cause) s3
  s4.setChan n { s4.chan n with txq := keep, refPending := c.sends .ref && c.refPending }

/-! ### Secured PDUs (R352-R357) -/

/-- The secured PDUs of a channel: BASE and COUNT (R363). -/
def State.pduBase (s : State) (n : Nat) : Nat := s.fld .can (canReg n 0xE0) 27 16
def State.pduCount (s : State) (n : Nat) : Nat := s.fld .can (canReg n 0xE0) 10 0

/-- The record of a secured PDU (R352). -/
def State.pduRec (s : State) (k : Nat) : Option (List Byte) := recBody s.recs 0x0F 0xFFFF (0x10000 + k)

/-- A PDU at run time. -/
def State.spdu (s : State) (k : Nat) : Spdu := Sparse.get (fun _ => {}) s.can.spdu k
def State.setSpdu (s : State) (k : Nat) (v : Spdu) : State := { s with can := { s.can with spdu := Sparse.put (fun _ => {}) s.can.spdu k v } }

/-- The enabled PDU of a channel for a frame, in a direction: its number and record. -/
def State.pduFor (s : State) (n : Nat) (tx : Bool) (f : CanFrame) : Option (Nat × List Byte) :=
  (List.range (s.pduCount n)).findSome? (fun j =>
    let k := s.pduBase n + j
    match s.pduRec k with
    | none => none
    | some b =>
      let flags := leAt b 1 1
      if (s.spdu k).en && (flags.testBit 1 == tx && (flags.testBit 3 == f.ide && leAt b 4 4 == f.id)) then some (k, b) else none)

/-- The truncated MAC (R353). -/
def pduMac (key : List Byte) (b : List Byte) (auth : List Byte) (fv : Nat) : List Byte :=
  (padTo 16 (cmac key (beBytes 2 (leAt b 8 2) ++ (auth ++ beBytes 8 fv)))).take (leAt b 2 1 / 8)

/-- Freshness from network time (R355, R356). -/
def State.pduClock (s : State) (b : List Byte) : Nat := s.nowNs / (leAt b 0xE 2 * 1000)

/-- A failed check of a PDU (R356, R359): the counter among can.sec.fail, and its number in the event. -/
def State.secFail (s : State) (n k check : Nat) : State := (s.canBump n (23 + check)).canErr n 5 (p2 k ++ p1 check)

/-- What a transmit PDU's frame carries when it first contends (R353-R355): the state and the payload; none when it is not sent. -/
def State.sealPdu (s : State) (n k : Nat) (b : List Byte) (data : List Byte) : State × Option (List Byte) :=
  let last := (s.spdu k).fv
  let v := if (leAt b 1 1).testBit 2 then Nat.max (s.pduClock b) (last + 1) else last + 1
  match s.aesKey (leAt b 0xC 2) 0 (s.canDistrict n) with
  | none => (s.secFail n k 4, none)
  | some key =>
    if 2 ^ 64 ≤ v then (s.txDrop n 4, none)
    else
      let auth := padTo (leAt b 0xA 2) data
      let high := decide (leAt b 0x18 8 ≤ v)
      let s1 := s.setSpdu k { s.spdu k with fv := v, exceeded := high }
      let s2 := if high && !(s.spdu k).exceeded then s1.canErr n 6 (p2 k) else s1
      (s2, some (auth ++ (beBytes (leAt b 3 1 / 8) v ++ pduMac key b auth v)))

/-- The value with low `w` bits equal to `r` that is nearest `ref`, the higher on a tie (R356). -/
def nearestFv (w r ref : Nat) : Int :=
  let m : Int := (2 ^ w : Nat)
  let c : Int := (ref : Int) - (ref : Int) % m + r
  let near := fun (a b : Int) => if (ref - b).natAbs ≤ (ref - a).natAbs then b else a
  near (near (c - m) c) (c + m)

/-- The checks of a receive PDU (R354, R356): the failed check (1 MAC, 2 freshness, 3 length, 4 key), or the freshness accepted. -/
def State.checkPdu (s : State) (n k : Nat) (b : List Byte) (data : List Byte) : Nat × Nat :=
  let authLen := leAt b 0xA 2
  let w := leAt b 3 1
  let last := (s.spdu k).fv
  match s.aesKey (leAt b 0xC 2) 1 (s.canDistrict n) with
  | none => (4, 0)
  | some key =>
    if data.length ≠ authLen + w / 8 + leAt b 2 1 / 8 then (3, 0)
    else
      let ref := if (leAt b 1 1).testBit 2 then s.pduClock b else last
      let r := be (slice data authLen (w / 8))
      let c : Int := if w = 64 then (r : Int) else nearestFv w r ref
      if c ≤ (last : Int) || (leAt b 0x10 8 : Int) < c - ref then (2, 0)
      else if pduMac key b (data.take authLen) c.toNat ≠ data.drop (authLen + w / 8) then (1, 0)
      else (0, c.toNat)

/-! ### Reference messages (R347, R350, R351) -/

/-- The reference message that a master sends now (R347). -/
def State.refFrame (s : State) (n : Nat) : CanFrame :=
  let c := s.chan n
  let id := s.rd .can (canReg n 0x84)
  let disc := !s.disciplined || decide (c.refSteps ≠ s.can.steps)
  let head := byte (c.cycle % 64 + 128 * disc.toNat)
  let t := s.stamp
  if s.flag .can (canReg n 0x80) 29 then
    { ide := bit id 31, id := field id 28 0, fdf := true, brs := true,
      data := [head, byte (s.dom s.primary).state.code] ++ (beBytes 8 t.ns ++ (beBytes 2 t.frac ++ [0, 0, 0, 0])) }
  else { ide := bit id 31, id := field id 28 0, data := head :: beBytes 7 (t.ns % 2 ^ 56) }

/-- Can the channel send its reference message: a mode that sends frames, and a protocol that has its format (R319, R330)? -/
def State.refMay (s : State) (n : Nat) : Bool := s.canSends n && protoHas (s.canProto n) (s.refFrame n)

/-- The master time of a reference message, and its DISC, when the message is accepted; none when it is rejected (R350). In FMT 0 the
time is the value nearest the channel's own stamp, the earlier on a tie (R21, R351). -/
def refTime (fmt1 : Bool) (f : CanFrame) (own : Nat) : Option Nat :=
  let b := f.data
  if (leAt b 0 1).testBit 6 || f.rtr then none
  else if fmt1 then
    if f.fdf && (b.length == 16 && (decide (leAt b 1 1 < 16) && slice b 12 4 == [0, 0, 0, 0])) then some (beAt b 2 8) else none
  else if !f.fdf && (!f.xlf && b.length == 8) then some (nearest (2 ^ 56) (beAt b 1 7) own)
  else none

/-- A received frame as a reference message (R349-R351), with the channel's own stamp of it. -/
def State.refReceived (s : State) (n : Nat) (f : CanFrame) (own : Nat) : State :=
  let cfg := s.rd .can (canReg n 0x80)
  let id := s.rd .can (canReg n 0x84)
  let role := field cfg 31 30
  if n ≥ 28 || role = 0 || role = 3 || f.ide ≠ bit id 31 || f.id / 8 ≠ field id 28 3 then s
  else match refTime (bit cfg 29) f own with
  | none => s.canBump n 22
  | some t =>
    let prio := f.id % 8
    let disc := (leAt f.data 0 1).testBit 7
    let higher := decide (prio < field id 2 0)
    let diff := clampInt (-0x7FFFFFFF) 0x7FFFFFFF ((own : Int) - t)
    let st := setField (setField (setField (s.rd .can (canReg n 0x88)) 23 21 prio) 20 20 disc.toNat) 13 8 (leAt f.data 0 1 % 64)
    let s1 := ((((s.canBump n 21).wr .can (canReg n 0x88) st).wr .can (canReg n 0x8C) (word (twos 32 diff))).wr64 .can (canReg n 0x90) t).wr64 .can (canReg n 0x98) own
    let s2 := if disc then s1.canErr n 4 (p1 (s1.chan n).ref.code ++ (p1 1 ++ p1 prio)) else s1
    match (s2.chan n).ref with
    | .wait => s2.setRef n .following
    | .master => if higher then s2.setRef n .backup else s2
    | _ => s2

/-! ### Transmit requests from outside the channel -/

/-- Takes a request of object `o` (R335): the channel is present and not under roadworks, in standby, or in a mode without frames. -/
def State.requestObj (s : State) (n o : Nat) : State :=
  match (s.chan n).kind with
  | .absent => s
  | .roadworks => s
  | .standby => s
  | _ => if s.objTx n o && s.canSends n then s.setObjBit n 0x40 o true else s

/-- A gateway transmission that the channel cannot take is dropped (R329, R330). -/
def State.canRefuses (s : State) (n : Nat) : Option Nat :=
  match (s.chan n).kind with
  | .roadworks => some 2
  | .standby => some 3
  | _ => if s.canSends n then none else some 3

/-- The gateway sends a frame through object `o` (R370): the object keeps its own identifier. -/
def State.sendObj (s : State) (n o : Nat) (f : CanFrame) : State :=
  match s.canRefuses n with
  | some cause => s.txDrop n cause
  | none =>
    let k := (s.chan n).obj o
    (s.setObj n o { k with held := { k.held with frame := { f with ide := k.ide, id := k.id } } }).requestObj n o

/-- Appends a frame to the transmit queue (R338). -/
def State.sendQueue (s : State) (n : Nat) (f : CanFrame) : State :=
  match s.canRefuses n with
  | some cause => s.txDrop n cause
  | none => s.setChan n { s.chan n with txq := (s.chan n).txq ++ [⟨f, none⟩] }

/-! ### Builds, roadworks and the tandem role (R322, R324, R328) -/

/-- A word of a record body. -/
def wordAt (b : List Byte) (off : Nat) : Word := word (leAt b off 4)

/-- Loads the registers that a channel's records give (R322). An absent channel reads its reset values. -/
def State.loadCanRegs (s : State) (n : Nat) (rs : List Rec) : State :=
  let offs := [0, 4, 8, 0xC, 0x10, 0x14, 0x18, 0x80, 0x84]
  let s1 := match recBody rs 0x0B n 0 with
    | some b => (List.zip (List.range 9) offs).foldl (fun (t : State) (io : Nat × Nat) => t.wr .can (canReg n io.2) (wordAt b (4 * io.1))) s
    | none => offs.foldl (fun (t : State) off => t.wr .can (canReg n off) (resetWord .can (canReg n off))) s
  let s2 := s1.setFld .can (canReg n 0) 31 31 (decide (28 ≤ n)).toNat
  let s3 := (List.range 128).foldl (fun (t : State) o =>
    t.wr .can (canReg n (0x1000 + 4 * o)) (((recBody rs 0x0B n (0x100 + o)).map (fun b => wordAt b 8)).getD 0)) s2
  let split := recBody rs 0x0B n 0x300
  s3.wr .can (canReg n 0x70) (word ((split.map (fun b => leAt b 2 2 + 2 ^ 16 * leAt b 0 2)).getD 0))

/-- Loads identifiers, masks and filters; what objects hold stays when `keep` says so. -/
def State.loadCanMatch (s : State) (n : Nat) (rs : List Rec) (keep : Bool) : State :=
  let c := s.chan n
  let objs := (List.range 128).foldl (fun (m : Sparse CanObj) o =>
    let old := if keep then c.obj o else {}
    match recBody rs 0x0B n (0x100 + o) with
    | none => Sparse.put (fun _ => {}) m o { old with built := false, ide := false, id := 0, mask := 0 }
    | some b => Sparse.put (fun _ => {}) m o { old with built := true, ide := bit (wordAt b 0) 31, id := field (wordAt b 0) 28 0, mask := field (wordAt b 4) 28 0 })
    ([] : Sparse CanObj)
  let filters := (List.range 32).filterMap (fun f =>
    (recBody rs 0x0B n (0x200 + f)).map (fun b => (bit (wordAt b 0) 31, field (wordAt b 0) 28 0, field (wordAt b 4) 28 0)))
  s.setChan n { c with objs := objs, filters := filters }

/-- The secured PDUs of a channel among the records: numbers ascending. -/
def pdusOf (rs : List Rec) (n : Nat) : List Nat :=
  sortBy (fun (a b : Nat) => decide (a ≤ b)) ((regionRecs rs 0x0F).filterMap (fun r =>
    if 0x10000 ≤ r.key && leAt r.body 0 1 == n then some (r.key - 0x10000) else none))

/-- SPDU_RANGE of every channel, and EN of the PDUs whose record is new or changed (R352, R363). -/
def State.loadPdus (s : State) (old : List Rec) (rs : List Rec) : State :=
  let s1 := (List.range 32).foldl (fun (t : State) n =>
    let ks := pdusOf rs n
    t.wr .can (canReg n 0xE0) (word (2 ^ 16 * ks.headD 0 + ks.length))) s
  (regionRecs rs 0x0F).foldl (fun (t : State) r =>
    if r.key < 0x10000 || recBody old 0x0F 0xFFFF r.key = some r.body then t
    else t.setSpdu (r.key - 0x10000) { t.spdu (r.key - 0x10000) with en := (leAt r.body 1 1).testBit 0, exceeded := false }) s1

/-- The channel joins its bus: INTEGRATING, or STANDBY on a standby member. -/
def State.joinBus (s : State) (n : Nat) : State :=
  let s1 := s.setCanKind n .integrating
  if s.tdm.active then s1 else s1.setCanKind n .standby

/-- Loads a channel whose build does not change: hitless (R324). -/
def State.loadCan (s : State) (n : Nat) : State := ((s.loadCanRegs n s.recs).loadCanMatch n s.recs true).refreshRef n

/-- Boot load or commit builds an absent channel (R328). -/
def State.buildCan (s : State) (n : Nat) : State :=
  if (s.chan n).kind = .absent && (recBody s.recs 0x0B n 0).isSome then
    let s1 := (s.loadCanRegs n s.recs).loadCanMatch n s.recs false
    if s1.canProto n = 0 then s1 else (s1.joinBus n).refreshRef n
  else s

/-- Roadworks begins: pending transmissions are dropped and the message memory is emptied (R328, R89). -/
def State.beginCanWorks (s : State) (n : Nat) : State :=
  if (s.chan n).kind = .roadworks then s
  else
    let s0 := s.setChan n { s.chan n with busy := none, receiving := false, sof := none }
    let s1 := s0.dropPending n 2
    let s2 := (List.range 4).foldl (fun (t : State) m => t.wr .can (canReg n (0x60 + 4 * m)) 0) s1
    let c := s2.chan n
    (s2.setChan n { c with objs := c.objs.map (fun e => (e.1, { e.2 with held := {}, sealed := none })), txq := [], rxq := [] }).setCanKind n .roadworks

/-- Roadworks ends: the build in force is loaded, counters restart, TEC and REC are 0 (R328). -/
def State.endCanWorks (s : State) (n : Nat) : State :=
  if (s.chan n).kind ≠ .roadworks then s
  else
    let s1 := ((s.loadCanRegs n s.recs).loadCanMatch n s.recs false).restartCounters .can (canReg n 0x400) (canReg n 0x500)
    let s2 := s1.setChan n { s1.chan n with tec := 0, rxe := 0, errKind := 0, errData := false }
    if s2.canProto n = 0 then s2.setCanKind n .absent else s2.joinBus n

/-- The tandem role becomes standby, or active again (R328). TX is recessive at once (R329), so a frame on the bus is dropped like the pending ones. -/
def State.canToStandby (s : State) (n : Nat) : State :=
  match (s.chan n).kind with
  | .absent => s
  | .roadworks => s
  | _ => ((s.setChan n { s.chan n with busy := none }).dropPending n 3).setCanKind n .standby
def State.canFromStandby (s : State) (n : Nat) : State :=
  if (s.chan n).kind = .standby then s.setCanKind n .integrating else s

end Sys2Proof.Machine
end

