-- ==== Sys2Proof/Machine/MvbOps.lean ====
section
/-!
DEFINITION. MVB channels (09_gateway_and_culvert.md R392-R396, R402): states, ports, queues, telegrams sent, lines, what a build loads.
-/
namespace Sys2Proof.Machine

/-- Offset of a register of MVB channel `n`. -/
def mvbReg (n off : Nat) : Nat := 0x8000 * n + off

/-- A channel, and the state with it replaced. -/
def State.mvbChan (s : State) (n : Nat) : MvbChan := Sparse.get (fun _ => {}) s.mvb n
def State.setMvb (s : State) (n : Nat) (v : MvbChan) : State := { s with mvb := Sparse.put (fun _ => {}) s.mvb n v }

/-- Counts on a channel: the counters in the order of R400. -/
def State.mvbBump (s : State) (n k : Nat) : State := s.bump .mvb (mvbReg n (0x400 + 8 * k))

/-- Sets an MVB_ERR bit with its event (R399). -/
def State.mvbErr (s : State) (n i addr : Nat) : State := s.setErr .mvb (mvbReg n 0x14) i (897 + 64 * n) (p1 i ++ p2 addr)

/-- Code of a channel state (R402). -/
def MvbKind.code : MvbKind → Nat
  | .absent => 0
  | .init => 1
  | .device => 2
  | .backup => 3
  | .master => 4
  | .standby => 5
  | .roadworks => 6

/-- Fields of the build (R402): ROLE, DEV_ADDR. -/
def State.mvbRole (s : State) (n : Nat) : Nat := s.fld .mvb (mvbReg n 0) 31 30
def State.mvbAddr (s : State) (n : Nat) : Nat := s.fld .mvb (mvbReg n 0) 23 12

/-- Moves a channel to a state, raising its event on a change (R395). A master starts its macro cycle; a channel that is no master has
no polls and offers nothing. -/
def State.setMvbKind (s : State) (n : Nat) (new : MvbKind) : State :=
  let c := s.mvbChan n
  if c.kind = new then s
  else
    let v := if new = .master then { c with kind := new, master := some (s.mvbAddr n), basic := 0, polls := [], turns := 0, offer := none }
      else { c with kind := new, polls := [], offer := none, master := if c.kind = .master then none else c.master }
    (s.setMvb n v).emit (896 + 64 * n) (p1 c.kind.code ++ (p1 new.code ++ p2 (v.master.getD 0)))

/-- PORT_CFG of a port as the records give it (R393): EN, SOURCE, FCODE; its size in bytes. -/
def State.mvbPortCfg (s : State) (n a : Nat) : Word := ((recBody s.recs 0x0C n (0x1000 + a)).map (fun b => word (leAt b 0 4))).getD 0
def mvbSize (cfg : Word) : Nat := 2 * 2 ^ field cfg 26 24
def mvbIsSource (cfg : Word) : Bool := bit cfg 31 && bit cfg 30
def mvbIsSink (cfg : Word) : Bool := bit cfg 31 && !bit cfg 30

/-- A port's data. -/
def MvbChan.port (c : MvbChan) (a : Nat) : MvbData := Sparse.get (fun _ => {}) c.ports a
def State.setMvbPort (s : State) (n a : Nat) (v : MvbData) : State :=
  s.setMvb n { s.mvbChan n with ports := Sparse.put (fun _ => {}) (s.mvbChan n).ports a v }

/-- Writes a source port's bytes. -/
def State.writeMvbPort (s : State) (n a : Nat) (bs : List Byte) : State := s.setMvbPort n a { (s.mvbChan n).port a with bytes := bs }

/-- Stamps a telegram: it takes the channel's next sequence number (R396). -/
def State.mvbStamped (s : State) (n : Nat) (bs : List Byte) : State × MvbData :=
  (s.tookSeq (0x860 + n), { bytes := bs, stamp := s.stamp, seq := s.seqOf (0x860 + n), came := true })

/-- Sends a source port's data (R396). -/
def State.sendMvbPort (s : State) (n a : Nat) : State :=
  let bs := padTo (mvbSize (s.mvbPortCfg n a)) ((s.mvbChan n).port a).bytes
  let (s1, d) := s.mvbStamped n bs
  ((s1.setMvbPort n a d).mvbBump n 1).send (.mvbSlave n (field (s.mvbPortCfg n a) 26 24) a bs)

/-- Sends the head of the message transmit queue as this device's telegram. -/
def State.sendMvbMessage (s : State) (n : Nat) : State :=
  let c := s.mvbChan n
  match c.mdTx with
  | [] => s
  | m :: rest =>
    let (s1, _) := s.mvbStamped n m
    ((s1.setMvb n { c with mdTx := rest }).mvbBump n 3).send (.mvbSlave n 12 (s.mvbAddr n) m)

/-- Message data is dropped and counted (R395, R402). -/
def State.mdLost (s : State) (n count : Nat) : State :=
  if count = 0 then s else (s.bumpBy .mvb (mvbReg n 0x420) count).mvbErr n 4 (s.mvbAddr n)

/-- Most telegrams of a message queue (R392). -/
def mdQueue : Nat := 64

/-- Appends a telegram to the message transmit queue; the flag says that it had room. -/
def State.pushMessage (s : State) (n : Nat) (bs : List Byte) : State × Bool :=
  let c := s.mvbChan n
  if c.mdTx.length < mdQueue then (s.setMvb n { c with mdTx := c.mdTx ++ [bs] }, true) else (s, false)

/-- What the lines carry (R392, R402): a line that loses valid frames sets MVB_ERR.LINE, and reception moves to the other line. -/
def State.mvbLines (s : State) (n addr : Nat) (l : MvbLines) : State :=
  let c := s.mvbChan n
  let lost := (c.lineA && !l.a) || (c.lineB && !l.b)
  let trusted := if c.trustB then l.b else l.a
  let other := if c.trustB then l.a else l.b
  let switch := !trusted && other
  let s1 := s.setMvb n { c with lineA := l.a, lineB := l.b, trustB := if switch then !c.trustB else c.trustB }
  let s2 := if switch then s1.mvbBump n 7 else s1
  if lost then s2.mvbErr n 3 addr else s2

/-- The master list: device addresses (R393). -/
def State.mvbMasters (s : State) (n : Nat) : List Nat :=
  (List.range 16).filterMap (fun j => (recBody s.recs 0x0C n (0x3000 + j)).map (fun b => leAt b 0 4 % 4096))

/-- Offers mastership to the next entry of the master list (R395). -/
def State.offerMaster (s : State) (n : Nat) : State :=
  let c := s.mvbChan n
  let ms := s.mvbMasters n
  let own := (ms.findIdx? (fun a => a == s.mvbAddr n)).getD 0
  match ms[(own + 1) % Nat.max 1 ms.length]? with
  | none => s
  | some a =>
    if c.kind ≠ .master || c.offer.isSome || a = s.mvbAddr n then s
    else (s.setMvb n { c with offer := some (a, 0) }).send (.mvbMaster n 8 a)

/-! ### Builds, roadworks and the tandem role -/

/-- Loads the build record's registers (R393). -/
def State.loadMvb (s : State) (n : Nat) : State :=
  match recBody s.recs 0x0C n 0 with
  | some b => ((s.wr .mvb (mvbReg n 0) (word (leAt b 0 4))).wr .mvb (mvbReg n 4) (word (leAt b 4 4))).wr .mvb (mvbReg n 8) (word (leAt b 8 4))
  | none => [0, 4, 8].foldl (fun (t : State) off => t.wr .mvb (mvbReg n off) (resetWord .mvb (mvbReg n off))) s

/-- The channel starts: INIT, or STANDBY on a standby member. -/
def State.startMvb (s : State) (n : Nat) : State :=
  let s1 := s.setMvbKind n .init
  if s.tdm.active then s1 else s1.setMvbKind n .standby

/-- Boot load or commit builds an absent channel (R395). -/
def State.buildMvb (s : State) (n : Nat) : State :=
  if (s.mvbChan n).kind = .absent && (recBody s.recs 0x0C n 0).isSome then
    let s1 := s.loadMvb n
    if s1.mvbRole n = 0 then s1 else s1.startMvb n
  else s

/-- Roadworks begins: queued message data is dropped (R395). -/
def State.beginMvbWorks (s : State) (n : Nat) : State :=
  let c := s.mvbChan n
  if c.kind = .roadworks then s
  else ((s.setMvb n { c with mdTx := [], mdRx := [] }).mdLost n (c.mdTx.length + c.mdRx.length)).setMvbKind n .roadworks

/-- A commit puts the channel under roadworks at the end of the telegram in progress (02_ikiem_images.md R89): of a master, the answer that it
awaits. The polls that were to follow it are not sent. -/
def State.mvbWorksDue (s : State) (n : Nat) : State :=
  if !s.img.works.contains (.mvb n) || (s.mvbChan n).kind = .roadworks then s
  else if (s.mvbChan n).polls.isEmpty then s.beginMvbWorks n
  else s.setMvb n { s.mvbChan n with polls := (s.mvbChan n).polls.take 1 }

/-- Roadworks ends: the build in force is loaded and counters restart (R395). -/
def State.endMvbWorks (s : State) (n : Nat) : State :=
  if (s.mvbChan n).kind ≠ .roadworks then s
  else
    let s1 := (s.loadMvb n).restartCounters .mvb (mvbReg n 0x400) (mvbReg n 0x450)
    if s1.mvbRole n = 0 then s1.setMvbKind n .absent else s1.startMvb n

/-- The tandem role becomes standby, or active again (R395). INIT moves too: a standby member must not come up on the line. -/
def State.mvbToStandby (s : State) (n : Nat) : State :=
  match (s.mvbChan n).kind with
  | .absent => s
  | .roadworks => s
  | _ => s.setMvbKind n .standby
def State.mvbFromStandby (s : State) (n : Nat) : State :=
  if (s.mvbChan n).kind = .standby then s.setMvbKind n .init else s

end Sys2Proof.Machine
end

