-- ==== Sys2Proof/Machine/GwyOps.lean ====
section
/-!
DEFINITION. The fieldbus gateway (09_gateway_and_culvert.md R364-R391): foreign frames, delivery to targets, signal rules and target frames,
frame rules, ACF streams, and culverts and AVTP frames received.
-/
namespace Sys2Proof.Machine

/-! ### Foreign frames (R379) -/

/-- The length code of a CAN or FD frame. -/
def dlcOf (f : CanFrame) : Nat := if f.rtr then f.rlen else (fdLengths.findIdx? (fun n => n == f.data.length)).getD 0

/-- Kind of a CAN frame in a culvert (R378), and the bytes of its check field. -/
def canCulKind (f : CanFrame) : Nat := if f.xlf then 3 else if f.fdf then 2 else 1
def checkBytes (kind : Nat) : Nat := if kind = 3 then 6 else if kind = 2 then 4 else 2

/-- A CAN frame up to its check field. -/
def canBody (f : CanFrame) : List Byte :=
  if f.xlf then
    beBytes 4 (f.id % 2048) ++ ([byte (8 * f.sec.toNat), 0, byte f.sdt, byte f.vcid] ++ (beBytes 2 (f.data.length - 1) ++ (beBytes 4 f.af ++ f.data)))
  else
    beBytes 4 (f.id % 2 ^ 29 + 2 ^ 30 * f.rtr.toNat + 2 ^ 31 * f.ide.toNat) ++
      ([byte (128 * f.fdf.toNat + 64 * f.brs.toNat + 32 * f.esi.toNat), byte (dlcOf f)] ++ f.data)

/-! #### CRC of classical and FD frames. PRESUMED (notes/assumptions/162.md): as ISO 11898-1:2015 specifies them; the spec gives their widths and places. -/

/-- The `n` low bits of a number, most significant first; the bits of bytes. -/
def bitsMsb (n v : Nat) : List Bool := ((List.range n).map (fun i => v.testBit i)).reverse
def byteBits (bs : List Byte) : List Bool := bs.flatMap (fun b => bitsMsb 8 b.toNat)

/-- A CRC register of `w` bits after a bit. -/
def crcBit (w poly : Nat) (r : Nat) (b : Bool) : Nat :=
  if r.testBit (w - 1) != b then 2 * r % 2 ^ w ^^^ poly else 2 * r % 2 ^ w

/-- The bits of a frame from SOF to the end of its data, without stuff bits, from a foreign frame's bytes before the check. -/
def canBits (b : List Byte) : List Bool :=
  let h := beAt b 0 4
  let fl := leAt b 4 1
  let ide := h.testBit 31
  let rtr := h.testBit 30
  let fd := fl.testBit 7
  let dlc := bitsMsb 4 (leAt b 5 1)
  let control := if fd then [true, false, fl.testBit 6, fl.testBit 5] else if ide then [false, false] else [false]
  (false :: (if ide then bitsMsb 11 (h / 2 ^ 18) ++ ([true, true] ++ (bitsMsb 18 h ++ ((rtr && !fd) :: control)))
    else bitsMsb 11 h ++ ((rtr && !fd) :: false :: control))) ++ (dlc ++ byteBits (b.drop 6))

/-- Stuffs bits: after five equal bits in a row comes their complement, but after the last bit nothing (`run` equal bits `last` so far). -/
def stuffed : List Bool → Bool → Nat → List Bool
  | [], _, _ => []
  | b :: rest, last, run =>
    let n := if b = last then run + 1 else 1
    if n = 5 && !rest.isEmpty then b :: (!b) :: stuffed rest (!b) 1 else b :: stuffed rest b n

/-- The stuff count of an FD frame: the stuff bits modulo 8 in Gray code, then even parity. -/
def stuffCount (n : Nat) : Nat :=
  let g := (n % 8) ^^^ (n % 8 / 2)
  2 * g + (g + g / 2 + g / 4) % 2

/-- The check field of a CAN frame, laid out as R379 says: CRC-15; the stuff count and CRC-17, or CRC-21 for more than 16 data bytes; PCRC and FCRC. -/
def canCheckOf (kind : Nat) (body : List Byte) : List Byte :=
  let bits := canBits body
  match kind with
  | 1 => beBytes 2 (bits.foldl (crcBit 15 0x4599) 0)
  | 2 =>
    let line := stuffed bits true 0
    let count := stuffCount (line.length - bits.length)
    let all := line ++ bitsMsb 4 count
    byte count :: beBytes 3 (if body.length ≤ 22 then all.foldl (crcBit 17 0x1685B) (2 ^ 16) else all.foldl (crcBit 21 0x102899) (2 ^ 20))
  | _ => beBytes 2 (Config.xlPcrc body % 2 ^ 13) ++ beBytes 4 (Config.xlFcrc body % 2 ^ 32)

/-- Data with an 8-bit check sequence after each group of up to 8 bytes. -/
def mvbCoded : Nat → List Byte → List Byte
  | 0, _ => []
  | n + 1, bs => if bs.isEmpty then [] else bs.take 8 ++ (Config.mvbCheck (bs.take 8) :: mvbCoded n (bs.drop 8))

/-- The data bytes of a coded MVB frame. -/
def mvbPlain : Nat → List Byte → List Byte
  | 0, _ => []
  | n + 1, bs => if bs.isEmpty then [] else if bs.length ≤ 9 then bs.dropLast else bs.take 8 ++ mvbPlain n (bs.drop 9)

/-- An MVB telegram as a foreign frame. -/
def mvbForeign (fcode addr : Nat) (bs : List Byte) : List Byte := beBytes 2 (4096 * fcode + addr) ++ mvbCoded 8 bs

/-- The length that kind, DLC or F_code and data imply (R379). -/
def foreignLen (kind : Nat) (b : List Byte) : Nat :=
  match kind with
  | 1 => 8 + (if (leAt b 0 1).testBit 6 then 0 else Nat.min 8 (leAt b 5 1 % 16))
  | 2 => 10 + fdLengths.getD (leAt b 5 1 % 16) 0
  | 3 => 20 + (beAt b 8 2 % 2048 + 1)
  | 4 => match beAt b 0 2 / 4096 with
    | 0 => 5
    | 1 => 7
    | 2 => 11
    | 3 => 20
    | 4 => 38
    | _ => 0
  | 5 => if beAt b 0 2 / 4096 = 12 then 38 else 0
  | _ => 0

/-- Does the carried check field equal the recomputed one (R385)? -/
def foreignCheckOk (kind : Nat) (b : List Byte) : Bool :=
  if kind ≤ 3 then
    let body := b.take (b.length - checkBytes kind)
    b.drop body.length == canCheckOf kind body
  else b.drop 2 == mvbCoded 8 (mvbPlain 8 (b.drop 2))

/-- The CAN frame in a foreign frame of kind 0x1-0x3. -/
def canOfForeign (kind : Nat) (b : List Byte) : CanFrame :=
  let body := b.take (b.length - checkBytes kind)
  if kind = 3 then
    { id := beAt body 0 4 % 2048, xlf := true, sec := (leAt body 4 1).testBit 3, sdt := leAt body 6 1, vcid := leAt body 7 1,
      af := beAt body 10 4, data := body.drop 14 }
  else
    let h := beAt body 0 4
    let fl := leAt body 4 1
    { ide := h.testBit 31, id := h % 2 ^ 29, rtr := h.testBit 30, fdf := fl.testBit 7, brs := fl.testBit 6, esi := fl.testBit 5,
      rlen := if h.testBit 30 then leAt body 5 1 % 16 else 0, data := body.drop 6 }

/-! ### Items and targets (R370-R372) -/

/-- What the gateway routes: a CAN frame, a process-data telegram, a message telegram. -/
inductive Item where
  | can (f : CanFrame)
  | process (fcode addr : Nat) (bytes : List Byte)
  | message (addr : Nat) (bytes : List Byte)
deriving DecidableEq, Repr

/-- An item with where it came from (R365): SRC_KIND, channel, stamp, source identifier, VERIFIED. -/
structure Offer where
  item : Item
  kind : Nat
  ch : Nat
  stamp : Stamp
  source : Nat
  verified : Bool
deriving DecidableEq, Repr

/-- Identifier word of an offer, as frame rules compare it: bit 31 IDE (R369). -/
def offerId (o : Offer) : Nat :=
  match o.item with
  | .can f => f.id % 2 ^ 29 + 2 ^ 31 * f.ide.toNat
  | .process _ a _ => a
  | .message a _ => a

/-- Data bytes of an offer. -/
def offerData (o : Offer) : List Byte :=
  match o.item with
  | .can f => f.data
  | .process _ _ b => b
  | .message _ b => b

/-- The frame that an item becomes on a CAN channel, with NEW_ID of a queue target (R370, R372): without KEEP it gives the identifier, and FDF (then
BRS) of process data; a CAN frame keeps its own. An object target (`none`) sends with the object's identifier, and MVB data longer than 8 bytes then
goes as FD. -/
def routedFrame (i : Item) (newId : Option Nat) : Option CanFrame :=
  match i, newId with
  | .can f, none => some f
  | .can f, some w => some (if w.testBit 31 then f else { f with ide := w.testBit 30, id := w % 2 ^ 29 })
  | .process _ _ b, none => some { data := b, fdf := decide (8 < b.length), brs := decide (8 < b.length) }
  | .process _ _ b, some w => some { data := b, ide := w.testBit 30, id := w % 2 ^ 29, fdf := w.testBit 29, brs := w.testBit 29 }
  | .message _ _, _ => none

/-- Delivers to a CAN channel (R370, R372): object `index`, or the transmit queue for 0xFFFF. -/
def State.deliverCan (s : State) (ch index newId : Nat) (i : Item) : State :=
  match routedFrame i (if index = 0xFFFF then some newId else none) with
  | none => s.gwyDrop 0x438
  | some f =>
    if !protoHas (s.canProto ch) f || (f.rtr && f.fdf) then s.gwyDrop 0x438
    else if !f.xlf && (!f.fdf && decide (8 < f.data.length)) then s.gwyDrop 0x440
    else if index = 0xFFFF then
      if s.canMode ch ≠ 2 then s.gwyDrop 0x438
      else if (s.canRefuses ch).isNone && !s.txRoom ch f then s.gwyDrop 0x448
      else s.sendQueue ch f
    else if !s.objTx ch index then s.gwyDrop 0x438
    else if s.objCap ch index < f.data.length then s.gwyDrop 0x440
    else if s.objBit ch 0x40 index then s.gwyDrop 0x450
    else s.sendObj ch index f

/-- Delivers to an MVB source port (R370, R372). -/
def State.deliverPort (s : State) (ch addr : Nat) (i : Item) : State :=
  let cfg := s.mvbPortCfg ch addr
  let put := fun (b : List Byte) => if b.length = mvbSize cfg then s.writeMvbPort ch addr b else s.gwyDrop 0x440
  if !mvbIsSource cfg then s.gwyDrop 0x438
  else match i with
    | .can f => if f.rtr then s.gwyDrop 0x438 else put f.data
    | .process _ _ b => put b
    | .message _ _ => s.gwyDrop 0x438

/-- Delivers to an MVB message queue (R370, R372): telegrams of 32 bytes. -/
def State.deliverMessage (s : State) (ch : Nat) (bs : List Byte) : State :=
  if bs.length ≠ 32 then s.gwyDrop 0x440
  else match s.pushMessage ch bs with
    | (s1, true) => s1
    | (s1, false) => s1.gwyDrop 0x448

/-! ### ACF streams (R388-R390) -/

/-- An ACF CAN message (IEEE 1722-2016, message type 0x01; notes/assumptions/16.md). -/
def acfMessage (f : CanFrame) (ch : Nat) (mtv : Bool) (ns : Nat) : List Byte :=
  let pad := (4 - f.data.length % 4) % 4
  let quads := (16 + f.data.length + pad) / 4
  let flags := 64 * pad + 32 * mtv.toNat + 16 * f.rtr.toNat + 8 * f.ide.toNat + 4 * f.brs.toNat + 2 * f.fdf.toNat + f.esi.toNat
  beBytes 2 (512 + quads) ++ ([byte flags, byte (ch % 32)] ++ (beBytes 8 (if mtv then ns else 0) ++ (beBytes 4 (f.id % 2 ^ 29) ++
    (f.data ++ List.replicate pad 0))))

/-- An AVTP NTSCF frame (subtype 0x82) with its stream, sequence number and messages. -/
def ntscf (stream seq : Nat) (msgs : List (List Byte)) : List Byte :=
  let body := msgs.flatMap (fun m => m)
  [0x82, byte (128 + body.length / 256 % 8), byte body.length, byte seq] ++ (beBytes 8 stream ++ body)

/-- A stream's collection, and the state with it replaced. -/
def State.acf (s : State) (k : Nat) : AcfState := Sparse.get (fun _ => {}) s.gwy.acf k
def State.setAcf (s : State) (k : Nat) (v : AcfState) : State := { s with gwy := { s.gwy with acf := Sparse.put (fun _ => {}) s.gwy.acf k v } }

/-- Sends the AVTP frame that a stream has collected (R390); a standby member drops it (R366). DESIGN CHOICE (notes/assumptions/161.md): the frame
carries the epoch under which its first message was routed (R364). -/
def State.sendAcf (s : State) (k : Nat) : State :=
  let a := s.acf k
  let epoch := a.epoch.getD s.epoch
  let rs := s.recsAt epoch
  match gwyRec rs 6 k with
  | none => s.setAcf k { seqNum := a.seqNum }
  | some b =>
    if a.msgs.isEmpty then s
    else if !s.tdm.active then a.msgs.foldl (fun (t : State) _ => t.gwyDrop 0x458) (s.setAcf k { seqNum := a.seqNum })
    else
      let tag := if (leAt b 0 1).testBit 2 then [0x81, 0x00] ++ beBytes 2 (leAt b 0xA 2) else []
      let bs := slice b 4 6 ++ (gwySa rs ++ (tag ++ ([0x22, 0xF0] ++ ntscf (leAt b 0xC 8) a.seqNum a.msgs)))
      let s1 := (s.setAcf k { seqNum := (a.seqNum + 1) % 256 }).bump .gwy 0x4B0
      let (s2, f) := s1.gwyFrame (0xC80 + k) epoch (leAt b 2 2 % 4096) (leAt b 1 1 % 8) bs
      s2.enter f

/-- A frame joins an ACF stream (R390). -/
def State.deliverAcf (s : State) (k epoch : Nat) (o : Offer) : State :=
  match o.item, gwyRec (s.recsAt epoch) 6 k with
  | .can f, some b =>
    if f.xlf then s.gwyDrop 0x438
    else if !(leAt b 0 1).testBit 0 then s
    else if !s.tdm.active then s.gwyDrop 0x458
    else
      let a := s.acf k
      let m := acfMessage f o.ch ((leAt b 0 1).testBit 1) o.stamp.ns
      let s1 := s.setAcf k { a with msgs := a.msgs ++ [m], first := if a.msgs.isEmpty then s.nowNs else a.first,
                                    epoch := if a.msgs.isEmpty then some epoch else a.epoch }
      if leAt b 0x14 1 ≤ a.msgs.length + 1 then s1.sendAcf k else s1
  | .can _, none => s
  | _, _ => s.gwyDrop 0x438

/-- Wraps an offer in a culvert (R380). -/
def State.deliverCulvert (s : State) (rule epoch : Nat) (o : Offer) : State :=
  let wrap := fun (kind : Nat) (bs : List Byte) => s.culvertWrap epoch rule kind o.verified (!s.disciplined) o.source o.stamp.ns bs
  match o.item with
  | .can f => wrap (canCulKind f) (canBody f ++ canCheckOf (canCulKind f) (canBody f))
  | .process fc a b => wrap 4 (mvbForeign fc a b)
  | .message a b => wrap 5 (mvbForeign 12 a b)

/-- Delivers an offer to one target of 8 bytes (R370). -/
def State.deliverTarget (s : State) (epoch : Nat) (t : List Byte) (o : Offer) : State :=
  let ch := leAt t 1 1
  let index := leAt t 2 2
  match leAt t 0 1 with
  | 1 => s.deliverCan ch index (leAt t 4 4) o.item
  | 2 => s.deliverPort ch index o.item
  | 3 => s.deliverAcf index epoch o
  | 4 => s.deliverCulvert index epoch o
  | 5 => s.deliverMessage ch (offerData o)
  | _ => s

/-- Does a target name a channel that the epoch in force does not build? -/
def State.targetAbsent (s : State) (t : List Byte) : Bool :=
  match leAt t 0 1 with
  | 1 => decide ((s.chan (leAt t 1 1)).kind = .absent)
  | 2 => decide ((s.mvbChan (leAt t 1 1)).kind = .absent)
  | 5 => decide ((s.mvbChan (leAt t 1 1)).kind = .absent)
  | _ => false

/-- Delivers what a frame on lane 22 carries; for a channel that does not exist it is dropped and counted at that lane (01_architecture.md R35). -/
def State.deliverFromLane (s : State) (epoch : Nat) (t : List Byte) (o : Offer) : State :=
  if s.targetAbsent t then s.bump .xbr (xbrCounter 22 3) else s.deliverTarget epoch t o

/-! ### Signal rules and target frames (R373-R377) -/

/-- Bit positions of a signal, least significant first (R373). -/
def signalBits (msbFirst : Bool) (start len : Nat) : List Nat :=
  if msbFirst then
    ((List.range len).foldl (fun (acc : List Nat × Nat) _ =>
      (acc.2 :: acc.1, if acc.2 % 8 = 0 then acc.2 + 15 else acc.2 - 1)) ([], start)).1
  else (List.range len).map (fun i => start + i)

/-- The value in a frame's data, and the data with a value placed in it. -/
def signalGet (ps : List Nat) (bs : List Byte) : Nat :=
  (ps.zipIdx.map (fun p => if (leAt bs (p.1 / 8) 1).testBit (p.1 % 8) then 2 ^ p.2 else 0)).sum
def signalPut (ps : List Nat) (v : Nat) (bs : List Byte) : List Byte :=
  ps.zipIdx.foldl (fun (b : List Byte) p =>
    let old := leAt b (p.1 / 8) 1
    let cleared := old - (if old.testBit (p.1 % 8) then 2 ^ (p.1 % 8) else 0)
    overwrite b (p.1 / 8) [byte (cleared + (if v.testBit p.2 then 2 ^ (p.1 % 8) else 0))]) bs

/-- A rule's state, and the state with it replaced. -/
def State.sig (s : State) (k : Nat) : SigState := Sparse.get (fun _ => {}) s.gwy.sig k
def State.setSig (s : State) (k : Nat) (v : SigState) : State := { s with gwy := { s.gwy with sig := Sparse.put (fun _ => {}) s.gwy.sig k v } }

/-- A target frame, and the state with it replaced. -/
def State.target (s : State) (k : Nat) : TargetState := Sparse.get (fun _ => {}) s.gwy.tgt k
def State.setTarget (s : State) (k : Nat) (v : TargetState) : State :=
  { s with gwy := { s.gwy with tgt := Sparse.put (fun _ => {}) s.gwy.tgt k v } }

/-- Bytes of a target frame in force: INIT until a signal arrives (R375). -/
def State.targetBytes (s : State) (k : Nat) (b : List Byte) : List Byte :=
  if (s.target k).started then (s.target k).bytes else slice b 0x10 (leAt b 4 2)

/-- The CAN frame of a target frame: classical up to 8 bytes, else FD, else XL. -/
def targetFrame (bs : List Byte) : CanFrame :=
  { data := bs, fdf := decide (8 < bs.length) && decide (bs.length ≤ 64), brs := decide (8 < bs.length) && decide (bs.length ≤ 64),
    xlf := decide (64 < bs.length) }

/-- The bytes of a CAN target frame go into its object; with `request` it is sent (R376). -/
def State.writeTarget (s : State) (k : Nat) (b : List Byte) (request : Bool) : State :=
  let n := leAt b 1 1
  let o := leAt b 2 2
  let f := targetFrame (s.targetBytes k b)
  if request then s.sendObj n o f
  else
    let q := (s.chan n).obj o
    s.setObj n o { q with held := { q.held with frame := { f with ide := q.ide, id := q.id } } }

/-- A target frame's bytes may have changed: they are written, held while the object's TXRQ is 1, and sent when asked (R376). -/
def State.refreshTarget (s : State) (k : Nat) (touched request : Bool) : State :=
  match gwyRec s.recs 3 k with
  | none => s
  | some b =>
    if leAt b 0 1 = 2 then s.writeMvbPort (leAt b 1 1) (leAt b 2 2) (s.targetBytes k b)
    else if s.objBit (leAt b 1 1) 0x40 (leAt b 2 2) then
      if !touched then s
      else if (s.target k).heldBytes then s.bump .gwy 0x430
      else s.setTarget k { s.target k with heldBytes := true }
    else if touched || request then s.writeTarget k b request
    else s

/-- The target frame that owns an object or an MVB port (R375). -/
def targetOf (rs : List Rec) (kind ch index : Nat) : Option Nat :=
  ((regionRecs rs 0x0D).find? (fun r => r.key / 2 ^ 28 == 3 && (leAt r.body 0 1 == kind && (leAt r.body 1 1 == ch && leAt r.body 2 2 == index)))).map
    (fun r => r.key % 65536)

/-- An object's request has ended: bytes held for it are written and requested again (R376). -/
def State.targetSent (s : State) (n o : Nat) : State :=
  match targetOf s.recs 1 n o with
  | none => s
  | some k =>
    if (s.target k).heldBytes then
      match gwyRec s.recs 3 k with
      | none => s
      | some b => (s.setTarget k { s.target k with heldBytes := false }).writeTarget k b true
    else s

/-- Puts a value into a rule's target bytes. -/
def State.placeSignal (s : State) (r : List Byte) (v : Int) : State :=
  let k := leAt r 0xE 2
  match gwyRec s.recs 3 k with
  | none => s
  | some b =>
    let ps := signalBits ((leAt r 2 1).testBit 2) (leAt r 0xA 2) (leAt r 0xC 1)
    s.setTarget k { s.target k with bytes := signalPut ps (twos 64 v) (s.targetBytes k b), started := true }

/-- MIN, MAX or DEFAULT of a rule: signed when SIGNED (R374). -/
def signalLimit (r : List Byte) (off : Nat) : Int := if (leAt r 2 1).testBit 3 then signed 64 (leAt r off 8) else (leAt r off 8 : Int)

/-- One rule takes a valid update of its source (R374): the state, and whether the value was accepted. -/
def State.signalUpdate (s : State) (k : Nat) (r : List Byte) (data : List Byte) : State × Bool :=
  let fl := leAt r 2 1
  let len := leAt r 0xC 1
  let ps := signalBits (fl.testBit 1) (leAt r 8 2) len
  let raw := signalGet ps data
  let v : Int := if fl.testBit 3 then signed len raw else raw
  let g := s.sig k
  let fits := ps.all (fun p => decide (p < 8 * data.length))
  if fits && (signalLimit r 0x10 ≤ v && v ≤ signalLimit r 0x18) then
    let dirty := if s.tdm.dirtyGw.contains k then s.tdm.dirtyGw else s.tdm.dirtyGw ++ [k]
    let s1 := { s with tdm := { s.tdm with dirtyGw := dirty } }
    (((s1.setSig k ⟨.fresh, v, s.nowNs, false⟩).placeSignal r v).bump .gwy 0x418, true)
  else
    let s1 := (s.bump .gwy 0x420).gwyErr 6
    if fl.testBit 4 then (s1.setSig k { g with kind := .outOfRange, at_ := s.nowNs, silent := false }, false)
    else ((s1.setSig k ⟨.outOfRange, signalLimit r 0x20, s.nowNs, false⟩).placeSignal r (signalLimit r 0x20), false)

/-- The records of a type, by index ascending. -/
def gwyRecs (rs : List Rec) (type : Nat) : List (Nat × List Byte) :=
  sortBy (fun (a b : Nat × List Byte) => decide (a.1 ≤ b.1))
    (((regionRecs rs 0x0D).filter (fun r => r.key / 2 ^ 28 == type)).map (fun r => (r.key % 65536, r.body)))

/-- Does an offer update signal sources: a frame, or process data of a sink port (R374)? -/
def State.feedsSignals (s : State) (o : Offer) : Bool :=
  match o.item with
  | .can _ => true
  | .process fcode a _ => mvbIsSink (s.mvbPortCfg o.ch a) && field (s.mvbPortCfg o.ch a) 26 24 == fcode
  | .message _ _ => false

/-- All signal rules of a source frame are applied, then their target frames ask for transmission (R376). -/
def State.signalRules (s : State) (o : Offer) : State :=
  let mine := if s.feedsSignals o then (gwyRecs s.recs 2).filter (fun r =>
    (leAt r.2 2 1).testBit 0 && (leAt r.2 0 1 == o.kind && (leAt r.2 1 1 == o.ch && leAt r.2 4 4 == offerId o))) else []
  let step := fun (acc : State × List Nat) (r : Nat × List Byte) =>
    let u := acc.1.signalUpdate r.1 r.2 (offerData o)
    (u.1, if u.2 then acc.2 ++ [leAt r.2 0xE 2] else acc.2)
  let (s1, updated) := mine.foldl step (s, [])
  ((mine.map (fun r => leAt r.2 0xE 2)).eraseDups).foldl (fun (t : State) k =>
    match gwyRec s.recs 3 k with
    | none => t
    | some b =>
      let changed := s.targetBytes k b ≠ s1.targetBytes k b
      let up := updated.contains k
      t.refreshTarget k (changed || up) ((up && (leAt b 6 1).testBit 0) || (changed && (leAt b 6 1).testBit 1))) s1

/-- TIMEOUT_MS has passed without an update: DEFAULT is written (R374). -/
def State.signalTimeout (s : State) (k : Nat) : State :=
  match gwyRec s.recs 2 k with
  | none => s
  | some r =>
    let g := s.sig k
    if !(leAt r 2 1).testBit 0 || leAt r 0x28 2 = 0 || g.silent then s
    else
      let d := signalLimit r 0x20
      let t := leAt r 0xE 2
      let s1 := (((s.setSig k { g with kind := .timedOut, value := d, silent := true }).placeSignal r d).bump .gwy 0x428).gwyErr 7
      match gwyRec s.recs 3 t with
      | none => s1
      | some b =>
        let changed := s.targetBytes t b ≠ s1.targetBytes t b
        s1.refreshTarget t changed (changed && (leAt b 6 1).testBit 1)

/-- PERIOD_MS of a CAN target frame has passed (R376). -/
def State.targetPeriod (s : State) (k : Nat) : State :=
  match gwyRec s.recs 3 k with
  | none => s
  | some b => if leAt b 0 1 = 1 && leAt b 8 2 ≠ 0 then s.refreshTarget k false true else s

/-! ### The offer (R365) -/

/-- Does a frame rule match an offer (R369)? -/
def ruleMatches (b : List Byte) (o : Offer) : Bool :=
  let fl := leAt b 2 1
  let mask := leAt b 8 4
  fl.testBit 0 && ((!fl.testBit 1 || o.verified) && (leAt b 0 1 == o.kind && (leAt b 1 1 == o.ch &&
    ((leAt b 4 4).testBit 31 == (offerId o).testBit 31 && (offerId o &&& mask) == (leAt b 4 4 &&& mask)))))

/-- The gateway handles an offered frame (R365, R366). -/
def State.offer (s : State) (o : Offer) : State :=
  let s1 := (s.bump .gwy 0x400).signalRules o
  match (gwyRecs s1.recs 1).find? (fun r => ruleMatches r.2 o) with
  | none => s1.bump .gwy 0x410
  | some (_, b) =>
    (List.range 4).foldl (fun (t : State) i => t.deliverTarget s.epoch (slice b (0xC + 8 * i) 8) o) (s1.bump .gwy 0x408)

/-! ### Culverts received (R384-R387) -/

/-- Where the payload of the EtherType begins, and the EtherType, behind VLAN and R-TAGs. -/
def etherAt : Nat → List Byte → Nat → Nat × Nat
  | 0, bs, off => (off + 2, beAt bs off 2)
  | n + 1, bs, off =>
    let e := beAt bs off 2
    if e = 0x8100 || e = 0x88A8 then etherAt n bs (off + 4)
    else if e = 0xF1C1 then etherAt n bs (off + 6)
    else (off + 2, e)

/-- Check 1 of R385: version, kind 0x1-0x5, reserved bits and bytes. -/
def culHeaderOk (etype : Nat) (h : List Byte) : Bool :=
  let k := leAt h 0 1 % 16
  etype == 0x88B5 && (h.length == 20 && (leAt h 0 1 / 16 == 1 && (decide (1 ≤ k) && (decide (k ≤ 5) && (decide (leAt h 1 1 < 8) && slice h 18 2 == [0, 0])))))

/-- An ingress rule's sequence state, and the state with it replaced (R386). -/
def State.ing (s : State) (rule st : Nat) : IngState := Sparse.get (fun _ => {}) s.gwy.ing (2 * rule + st)
def State.setIng (s : State) (rule st : Nat) (v : IngState) : State :=
  { s with gwy := { s.gwy with ing := Sparse.put (fun _ => {}) s.gwy.ing (2 * rule + st) v } }

/-- The item in a foreign frame, and whether the kind suits TKIND (check 8). -/
def itemOf (kind : Nat) (b : List Byte) : Item :=
  let a := beAt b 0 2
  if kind ≤ 3 then .can (canOfForeign kind b)
  else if kind = 4 then .process (a / 4096) (a % 4096) (mvbPlain 8 (b.drop 2))
  else .message (a % 4096) (mvbPlain 8 (b.drop 2))
def kindSuits (kind tkind : Nat) : Bool := if kind ≤ 3 then tkind == 1 else if kind = 4 then tkind == 2 else tkind == 5

/-- Checks 6 to 8 of R385, and delivery; the header's short stamp is expanded (R378, 00_scope.md R21). -/
def State.culvertAccept (s : State) (rule epoch : Nat) (b h foreign : List Byte) : State :=
  let kind := leAt h 0 1 % 16
  let origin := beAt h 2 2
  let seq := beAt h 8 4
  let st := origin % 2
  let q := s.ing rule st
  let d := (seq + 2 ^ 32 - q.last) % 2 ^ 32
  if foreign.length ≠ foreignLen kind foreign then (s.bump .gwy 0x488).gwyErr 2
  else if (leAt b 0 1).testBit 3 && !(q.takeAny || (decide (0 < d) && decide (d < 2 ^ 31))) then (s.bump .gwy 0x4A0).gwyErr 4
  else
    let s1 := if (leAt b 0 1).testBit 3 then s.setIng rule st ⟨false, seq, s.nowNs⟩ else s
    if !foreignCheckOk kind foreign then (s1.bump .gwy 0x4A8).gwyErr 5
    else if !kindSuits kind (leAt b 0xC 1) then s1.gwyDrop 0x438
    else
      let o : Offer := ⟨itemOf kind foreign, 0, 0, { ns := nearest (2 ^ 32) (beAt h 12 4) s.stamp.ns }, beAt h 6 2, (leAt h 1 1).testBit 1⟩
      (s1.bump .gwy 0x478).deliverFromLane epoch (slice b 0xC 8) o

/-- The effective end of a frame (R385; 05_classification.md R189), by the parser graph of its epoch. -/
def State.frameEnd (s : State) (f : Frame) : Nat := (parse (graphOf (s.recsAt f.epoch)) f.bytes).effEnd

/-- A culvert frame that reached the gateway with DEST kind 0x5 (R385). -/
def State.culvertIn (s : State) (rule : Nat) (f : Frame) : State :=
  let (off, etype) := etherAt 8 f.bytes 12
  let h := slice f.bytes off 20
  let len := beAt h 16 2
  let enc := (leAt h 1 1).testBit 0
  let body := slice f.bytes (off + 20) len
  if !culHeaderOk etype h then (s.bump .gwy 0x480).gwyErr 1
  else if s.frameEnd f < off + 20 + len + (if enc then 16 else 0) || (!enc && decide (len ≠ foreignLen (leAt h 0 1 % 16) body)) then
    (s.bump .gwy 0x488).gwyErr 2
  else match gwyRec (s.recsAt f.epoch) 5 rule with
    | none => s.bump .gwy 0x490
    | some b =>
      let fl := leAt b 0 1
      let origin := leAt b 2 2
      let tunnel := leAt b 4 2
      if !fl.testBit 0 || fl.testBit 1 || fl.testBit 2 != enc || !(origin = 0xFFFF || origin / 2 = beAt h 2 2 / 2) ||
          !(tunnel = 0xFFFF || tunnel = beAt h 4 2) then s.bump .gwy 0x490
      else if enc then
        match s.aesKey (leAt b 6 2) 1 (f.district.getD 0) with
        | none => s.gwyDrop 0x460
        | some key => { s with gwy := { s.gwy with crypto := s.gwy.crypto ++ [.decrypt f rule (off + 20) key] } }
      else s.culvertAccept rule f.epoch b h body

/-- A culvert frame that reached the gateway with DEST kind 0x6 is wrapped again (R387). -/
def State.culvertAgain (s : State) (rule : Nat) (f : Frame) : State :=
  let (off, etype) := etherAt 8 f.bytes 12
  let h := slice f.bytes off 20
  let kind := leAt h 0 1 % 16
  let body := slice f.bytes (off + 20) (beAt h 16 2)
  let fl := leAt h 1 1
  let within := decide (off + 20 + beAt h 16 2 ≤ s.frameEnd f)
  if !culHeaderOk etype h then (s.bump .gwy 0x480).gwyErr 1
  else if fl.testBit 0 then s.bump .gwy 0x490
  else if !within || body.length ≠ foreignLen kind body then (s.bump .gwy 0x488).gwyErr 2
  else if !foreignCheckOk kind body then (s.bump .gwy 0x4A8).gwyErr 5
  else s.culvertWrap f.epoch rule kind (fl.testBit 1) (fl.testBit 2) (beAt h 6 2) (beAt h 12 4) body

/-- A job of the lookaside crypto engine ends (R380, R381, R385): an encrypted frame enters classification on lane 22. -/
def State.cryptoDone (s : State) : State :=
  match s.gwy.crypto with
  | [] => s
  | j :: rest =>
    let s1 := { s with gwy := { s.gwy with crypto := rest } }
    match j with
    | .encrypt f body key =>
      let h := slice f.bytes (body - 20) 20
      let bs := f.bytes.take body ++ gcmSeal key (culIv h) h (f.bytes.drop body)
      s1.enter { f with bytes := bs, rxLen := bs.length + 4 }
    | .pass f => s1.enter { f with ingress := 31, lane := 26 }
    | .decrypt f rule body key =>
      let h := slice f.bytes (body - 20) 20
      match gwyRec (s1.recsAt f.epoch) 5 rule with
      | none => s1.bump .gwy 0x490
      | some b =>
        match gcmOpen key (culIv h) h (slice f.bytes body (beAt h 16 2 + 16)) with
        | none => (s1.bump .gwy 0x498).gwyErr 3
        | some plain => s1.culvertAccept rule f.epoch b h plain

/-! ### AVTP frames received (R388, R391) -/

/-- The CAN frame in an ACF message whose head is `head` bytes long. -/
def acfFrame (m : List Byte) (head : Nat) : CanFrame :=
  let fl := leAt m 2 1
  let data := (m.drop head).take (m.length - head - fl / 64)
  { ide := fl.testBit 3, id := beAt m (head - 4) 4 % 2 ^ 29, rtr := fl.testBit 4, fdf := fl.testBit 1, brs := fl.testBit 2, esi := fl.testBit 0,
    data := if fl.testBit 4 then [] else data }

/-- Takes the messages of an AVTP frame in order. -/
def State.acfMessages (s : State) (epoch : Nat) (target : List Byte) : Nat → List Byte → State
  | 0, _ => s
  | n + 1, bs =>
    let type := beAt bs 0 2 / 512
    let len := 4 * (beAt bs 0 2 % 512)
    if bs.length < 4 || len < 4 || bs.length < len then s
    else
      let m := bs.take len
      let take := fun (head : Nat) =>
        if len < head then s
        else (s.bump .gwy 0x4B8).deliverFromLane epoch target ⟨.can (acfFrame m head), 0, 0, {}, 0, false⟩
      let s1 := if type = 1 then take 16 else if type = 2 then take 8 else s.bump .gwy 0x4C8
      State.acfMessages s1 epoch target n (bs.drop len)

/-- An AVTP frame that reached the gateway (R391). -/
def State.acfIn (s : State) (rule : Nat) (b : List Byte) (f : Frame) : State :=
  let (off, etype) := etherAt 8 f.bytes 12
  let a := f.bytes.drop off
  let sub := leAt a 0 1
  let timed := sub == 4
  if etype ≠ 0x22F0 || !(timed || sub == 0x82) || beAt a 4 8 ≠ leAt b 0x14 8 then s.bump .gwy 0x490
  else
    let seq := leAt a (if timed then 2 else 3) 1
    let msgs := if timed then (a.drop 24).take (beAt a 20 2) else (a.drop 12).take (beAt a 1 2 % 2048)
    let q := s.ing rule 0
    let s1 := if q.takeAny || seq = (q.last + 1) % 256 then s else (s.bump .gwy 0x4C0).gwyErr 8
    (s1.setIng rule 0 ⟨false, seq, s.nowNs⟩).acfMessages f.epoch (slice b 0xC 8) 256 msgs

/-! ### What a commit keeps (R377, R382, R386, R391) -/

/-- Fields `(off, len)` of two bodies are equal. -/
def sameFields (a b : List Byte) (fs : List (Nat × Nat)) : Bool := fs.all (fun f => slice a f.1 f.2 == slice b f.1 f.2)

/-- Target frames put their bytes in force into their objects and ports: each that `which` names (R375, R377). -/
def State.refreshTargets (s : State) (which : Nat → List Byte → Bool) : State :=
  ((gwyRecs s.recs 3).filter (fun r => which r.1 r.2)).foldl (fun (t : State) r => t.refreshTarget r.1 true false) s

/-- Those on a CAN channel whose objects are new. -/
def State.putTargets (s : State) (n : Nat) : State := s.refreshTargets (fun _ b => leAt b 0 1 == 1 && leAt b 1 1 == n)

/-- Restarts what the new records no longer keep; a new or changed target frame puts its INIT into its object or port (R375, R377). -/
def State.gwyCommit (s : State) (old new : List Rec) : State :=
  let kept := fun (type : Nat) (fs : List (Nat × Nat)) (k : Nat) =>
    match gwyRec old type k, gwyRec new type k with
    | some a, some b => sameFields a b fs
    | _, _ => false
  let keepSig := kept 2 [(0, 2), (4, 6), (0xC, 1)]
  let keepTgt := fun (k : Nat) => (gwyRec old 3 k).isSome && gwyRec old 3 k == gwyRec new 3 k
  let keepCul := fun (k : Nat) => kept 4 [(0xC, 2)] k || (gwyRec old 4 k).isNone || (gwyRec new 4 k).isNone
  let acf := fun (rs : List Rec) (k : Nat) => ((gwyRec rs 5 k).map (fun b => (leAt b 0 1).testBit 1)).getD false
  let keepIng := fun (k : Nat) => acf old (k / 2) == acf new (k / 2) && kept 5 [if acf new (k / 2) then (0x14, 8) else (2, 6)] (k / 2)
  let s1 := { s with gwy := { s.gwy with
      sig := Sparse.clear (fun k => !keepSig k) s.gwy.sig,
      tgt := Sparse.clear (fun k => !keepTgt k) s.gwy.tgt,
      cul := Sparse.clear (fun k => !keepCul k) s.gwy.cul,
      ing := Sparse.clear (fun k => !keepIng k) s.gwy.ing } }
  s1.refreshTargets (fun k _ => !keepTgt k)

end Sys2Proof.Machine
end

