-- ==== Sys2Proof/Machine/TkpOps.lean ====
section
/-!
DEFINITION. The time keeper (03_time_and_order.md): domains and their servo, port roles and the grandmaster, steps, the checks of
R119, peer delay. Times in messages are taken in units of 2^-16 ns.
-/
namespace Sys2Proof.Machine

/-- F + P limited to 500 ppm, in units of 2^-56 (R653). -/
def ppm500 : Int := 500 * 2 ^ 56 / 1000000
def Domain.rate (d : Domain) : Int := clampInt (-ppm500) ppm500 (d.f + d.p)

/-- DOM_RATE of a domain, in units of 2^-8 ppb. -/
def Domain.rateWord (d : Domain) : Word := word (twos 32 ((d.rate * 256 * 1000000000 + 2 ^ 55) / 2 ^ 56))

/-- The domain one oscillator period later (R106). -/
def Domain.ticked (d : Domain) : Domain :=
  if d.state = .disabled then d
  else { d with time := d.time + (40 * 2 ^ 32 + d.rate * 40 / 2 ^ 24).toNat }

/-! ### Deadlines and steps (R122-R124) -/

/-- A timer that a forward step of `ns` does not touch (R124). -/
def Timer.shifted (t : Timer) (ns : Nat) : Timer := { t with since := t.since.map (fun a => a + ns) }

/-- Moves every pending deadline in network time by the size of a forward step (R124). -/
def State.shiftDeadlines (s : State) (ns : Nat) : State :=
  let lease : Sparse (Option Lease) := s.mgt.lease.map (fun e => (e.1, e.2.map (fun (l : Lease) => { l with timer := l.timer.shifted ns })))
  let learned := (Sparse.get (fun _ => []) s.tbl.entries 0).map (fun (e : TblEntry) => { e with refreshed := e.refreshed + ns })
  { s with
    tkp := { s.tkp with pps := { s.tkp.pps with outSince := s.tkp.pps.outSince.map (fun a => a + ns * 2 ^ 32) } },
    mgt := { s.mgt with wdt := s.mgt.wdt.shifted ns, lease := lease },
    tbl := { s.tbl with entries := Sparse.put (fun _ => []) s.tbl.entries 0 learned },
    net := { s.net with sbuf := s.net.sbuf.map (fun (i : SItem) => { i with since := i.since + ns }) } }

/-- Puts a domain at time `t` (2^-32 ns): a forward step of the primary domain moves deadlines and realigns gates (R124, R298). -/
def State.putTime (s : State) (d t : Nat) : State :=
  let old := (s.dom d).time
  let s0 := s.setDom d { s.dom d with time := t }
  let s1 := if d = s.primary then { s0 with can := { s0.can with steps := s0.can.steps + 1 } } else s0
  if d = s.primary && decide (old < t) then (s1.shiftDeadlines (t / 2 ^ 32 - old / 2 ^ 32)).gatesStepped (old / 2 ^ 32) (t / 2 ^ 32) else s1

/-- Is a commit armed whose IMG_CFG.TIME_DOMAIN names the domain (R122)? -/
def State.armedOn (s : State) (d : Nat) : Bool := s.img.armed.isSome && s.fld .img 0 9 8 == d

/-- FIRST_LOCK (R138). -/
def State.firstLock (s : State) : Bool := s.tkp.firstLock

/-- Is a step of `by_` (2^-16 ns, signed) allowed (R122)? -/
def State.stepAllowed (s : State) (d : Nat) (by_ : Int) : Bool :=
  s.flag .tkp (domReg d 0) 3 && (!s.armedOn d && (decide (d ≠ s.primary) || (decide (0 < by_) && !s.firstLock)))

/-! ### States (R120) -/

/-- Whole seconds of HOLDOVER that end between two times of a domain. -/
def Domain.holdoverSeconds (d : Domain) (end_ : Nat) : Nat :=
  (end_ - d.holdoverAt) / (1000000000 * 2 ^ 32) - (d.time - d.holdoverAt) / (1000000000 * 2 ^ 32)

/-- What a domain sets up as it enters a state. -/
def Domain.entering (d : Domain) (new : DomState) : Domain :=
  match new with
  | .disabled => { d with state := .disabled, f := 0, p := 0, lockRun := 0, outliers := 0, lockedSince := false, sync := none, lastPps := none }
  | .freeRun => { d with state := .freeRun, p := 0, lockRun := 0, lockedSince := false }
  | .acquiring => { d with state := .acquiring, lockRun := 0, outliers := 0, deferred := false }
  | .locked => { d with state := .locked, lockedSince := true, outliers := 0 }
  | .holdover => { d with state := .holdover, p := 0, holdoverAt := d.time, fromGm := d.state = .grandmaster }
  | .grandmaster => { d with state := .grandmaster, p := 0, lastPps := none }

/-- Moves a domain to a state, raising E64 + d. -/
def State.enterDom (s : State) (d : Nat) (new : DomState) : State :=
  let old := s.dom d
  if old.state = new then s
  else
    let s1 := s.setDom d (old.entering new)
    let locks := decide (d = s.primary) && (decide (new = .locked) || decide (new = .grandmaster))
    let s2 := if locks then { s1 with tkp := { s1.tkp with firstLock := true } } else s1
    s2.emit (64 + d) (p1 old.state.code ++ (p1 new.code ++ leBytes 4 (s.rd .tkp (domReg d 0x20)).toNat))

/-! ### Port roles (R116, R117) -/

/-- Roles: 0 disabled, 1 master, 2 slave, 3 passive. The role of a port in DOM_ROLE0 and DOM_ROLE1. -/
def State.roleCfg (s : State) (d p : Nat) : Nat :=
  if p < 16 then s.fld .tkp (domReg d 0x38) (2 * p + 1) (2 * p) else s.fld .tkp (domReg d 0x3C) (2 * (p - 16) + 1) (2 * (p - 16))

/-- A comparison key of a clock's rank, and of a rank with steps, sender and receiving port (IEEE 802.1AS-2020 Clause 10.3). -/
def rankKey (r : ClockRank) : Nat :=
  ((((r.priority1 * 2 ^ 8 + r.clockClass) * 2 ^ 8 + r.accuracy) * 2 ^ 16 + r.variance) * 2 ^ 8 + r.priority2) * 2 ^ 64 + r.identity
def vectorKey (r : ClockRank) (steps clock portNum rxPort : Nat) : Nat :=
  (((rankKey r * 2 ^ 16 + steps) * 2 ^ 64 + clock) * 2 ^ 16 + portNum) * 2 ^ 16 + rxPort

/-- This device's rank: priority1 255 while it is not GM_CAPABLE (R116). -/
def State.ownRank (s : State) (d : Nat) : ClockRank :=
  let w := s.rd .tkp (domReg d 8)
  { priority1 := if s.flag .tkp (domReg d 0) 2 then field w 7 0 else 255, clockClass := field w 23 16, accuracy := field w 31 24,
    variance := Config.logVariance % 2 ^ 16, priority2 := field w 15 8, identity := s.fuses.clockId }

/-- Does a port take part: link UP and asCapable? -/
def State.ptpOper (s : State) (p : Nat) : Bool := (s.port p).state = .up && (s.ptp p).capable

/-- What the ports of a domain have heard. -/
def State.heardOn (s : State) (d p : Nat) : Option Heard :=
  if s.ptpOper p then Sparse.get (fun _ => none) (s.dom d).heard p else none

/-- The best of what the ports have heard, with its port. -/
def State.bestHeard (s : State) (d : Nat) : Option (Nat × Heard) :=
  ((List.range 29).filterMap (fun p => (s.heardOn d p).map (fun h => (p, h)))).foldl
    (fun (best : Option (Nat × Heard)) x =>
      let key := fun (y : Nat × Heard) => vectorKey y.2.rank (y.2.steps + 1) y.2.clock y.2.portNum (y.1 + 1)
      match best with
      | none => some x
      | some b => if key x < key b then some x else some b) none

/-- Does what was heard beat this device? -/
def State.heardWins (s : State) (d : Nat) (h : Heard) : Bool :=
  decide (vectorKey h.rank (h.steps + 1) h.clock h.portNum 0 < vectorKey (s.ownRank d) 0 s.fuses.clockId 0 0)

/-- The role of a port from the best master clock algorithm (IEEE 802.1AS-2020 Clause 10.3). -/
def State.bmcaRole (s : State) (d p : Nat) : Nat :=
  if !s.ptpOper p then 0
  else match s.heardOn d p with
    | none => 1
    | some h => match s.bestHeard d with
      | none => 1
      | some (q, b) =>
        let gmHeard := s.heardWins d b
        if gmHeard && p == q then 2
        else
          let mine := if gmHeard then vectorKey b.rank (b.steps + 1) s.fuses.clockId (p + 1) (p + 1) else vectorKey (s.ownRank d) 0 s.fuses.clockId (p + 1) (p + 1)
          if mine < vectorKey h.rank h.steps h.clock h.portNum (p + 1) then 1 else 3

/-- The role in force of a port in a domain (R116, R117). -/
def State.role (s : State) (d p : Nat) : Nat :=
  if (s.dom d).state = .disabled then 0
  else if !s.tdm.active then (if p = 4 then 2 else 0)
  else if s.flag .tkp (domReg d 0) 1 then s.roleCfg d p
  else s.bmcaRole d p

/-- The slave port of a domain. -/
def State.slavePort (s : State) (d : Nat) : Option Nat := (List.range 29).find? (fun p => s.role d p == 2)

/-- Do the roles follow external configuration, the tandem's included? -/
def State.extRoles (s : State) (d : Nat) : Bool := s.flag .tkp (domReg d 0) 1 || !s.tdm.active

/-- Is this device selected grandmaster of the domain (R116)? -/
def State.selfSelected (s : State) (d : Nat) : Bool :=
  s.flag .tkp (domReg d 0) 2 &&
    (if s.extRoles d then (s.slavePort d).isNone
     else match s.bestHeard d with
       | none => true
       | some (_, h) => !s.heardWins d h)

/-- The domain now follows a clock (R120): a new identity raises E68 + d; LOCKED and GRANDMASTER leave for ACQUIRING when another
clock is selected, ACQUIRING restarts LOCK_RUN. -/
def State.followGm (s : State) (d id steps : Nat) (self : Bool) : State :=
  let x := s.dom d
  if x.state = .disabled then s
  else
    let s1 := if x.gm = id then s.setDom d { x with steps := steps }
      else ((s.setDom d { x with gm := id, steps := steps }).emit (68 + d) (beBytes 8 id ++ p4 steps)).bump .tkp (domReg d 0x90)
    match x.state with
    | .locked => if x.gm = id then s1 else s1.enterDom d .acquiring
    | .grandmaster => if self then s1 else s1.enterDom d .acquiring
    | .acquiring => if x.gm = id then s1 else s1.setDom d { s1.dom d with lockRun := 0 }
    | .freeRun => if self then s1.enterDom d .grandmaster else s1
    | _ => s1

/-- Decides the grandmaster of a domain again after something it depends on has changed (R116, R120). -/
def State.decideGm (s : State) (d : Nat) : State :=
  if s.selfSelected d then s.followGm d s.fuses.clockId 0 true
  else if s.extRoles d then s
  else match s.bestHeard d with
    | some (_, h) => if s.heardWins d h then s.followGm d h.rank.identity (h.steps + 1) false else s
    | none => s

/-- Decides the grandmasters of all domains. -/
def State.decideGms (s : State) : State := (List.range 4).foldl (fun (t : State) d => t.decideGm d) s

/-- Enters FREE_RUN, and GRANDMASTER at once where this device is selected (R120). -/
def State.toFreeRun (s : State) (d : Nat) : State := (s.enterDom d .freeRun).decideGm d

/-! ### Messages and their checks (R113-R119) -/

/-- A time of day in units of 2^-16 ns, and back. -/
def ptpTicks (t : PtpTime) : Int := ((t.sec * 1000000000 + t.ns) * 65536 : Nat)
def ptpTime (ticks : Nat) : PtpTime := ⟨ticks / 65536 / 1000000000, ticks / 65536 % 1000000000⟩

/-- PORT_RX_LAT and PORT_TX_LAT in units of 2^-16 ns (R108). -/
def State.rxLat (s : State) (p : Nat) : Int := 65536 * signed 16 (s.fld .tkp (tkpPort p 0x10) 15 0)
def State.txLat (s : State) (p : Nat) : Int := 65536 * signed 16 (s.fld .tkp (tkpPort p 0x14) 15 0)

/-- The receive and transmit times of a message now, in a domain. -/
def State.rxTime (s : State) (d p : Nat) : Int := (((s.dom d).time / 65536 : Nat) : Int) - s.rxLat p
def State.txTime (s : State) (d p : Nat) : Int := (((s.dom d).time / 65536 : Nat) : Int) + s.txLat p

/-- A port that can take and send messages: its link is UP. -/
def State.ptpUp (s : State) (p : Nat) : Bool := (s.port p).state = .up

/-- A header of this device's own on a port. -/
def State.ownHeader (s : State) (d p len seq : Nat) (correction logInterval : Int) : PtpHeader :=
  { majorSdo := 1, version := 2, domain := s.fld .tkp (domReg d 0) 15 8, length := len, carried := len, seq := seq % 65536,
    clock := s.fuses.clockId, portNum := p + 1, correction := correction, logInterval := logInterval }

/-- Ports on which a domain sends: masters whose link is UP and asCapable. -/
def State.masterPorts (s : State) (d : Nat) : List Nat := (List.range 29).filter (fun p => s.role d p == 1 && s.ptpOper p)

/-- logSyncInterval and logAnnounceInterval of a domain. -/
def State.logSync (s : State) (d : Nat) : Int := signed 8 (s.fld .tkp (domReg d 0x48) 7 0)
def State.logAnnounce (s : State) (d : Nat) : Int := signed 8 (s.fld .tkp (domReg d 0x48) 15 8)

/-- A sync interval in ns from its logarithm. -/
def syncInterval (log : Int) : Int := 1000000000 * (2 ^ (clampInt 0 32 (log + 16)).toNat : Nat) / 65536

/-- The intervals that a port announces and asks for: what a Signaling message set, else the registers' (R118). -/
def State.logSyncOf (s : State) (d p : Nat) : Int := (s.ptp p).syncInterval.getD (s.logSync d)
def State.logAnnounceOf (s : State) (d p : Nat) : Int := (s.ptp p).announceInterval.getD (s.logAnnounce d)
def State.logPdelayOf (s : State) (p : Nat) : Int := (s.ptp p).linkInterval.getD (signed 8 (s.fld .tkp (tkpPort p 0) 15 8))

/-- Sends Sync on the master ports of a domain (R113, R114). -/
def State.sendSyncs (s : State) (d : Nat) : State :=
  let seq := (s.dom d).syncSeq
  let s1 := s.setDom d { s.dom d with syncSeq := (seq + 1) % 65536 }
  (s.masterPorts d).foldl (fun (t : State) p =>
    t.sendPtp p (.sync { hdr := s.ownHeader d p 44 seq 0 (s.logSyncOf d p), twoStep := true, origin := ⟨0, 0⟩, rateOffset := 0 })) s1

/-- Sends the Follow_Up of the Sync just sent on one port. -/
def State.sendFollowUp (s : State) (d p : Nat) (origin : PtpTime) (correction rateOffset : Int) : State :=
  s.sendPtp p (.followUp { hdr := s.ownHeader d p 76 ((s.dom d).syncSeq + 65535) correction (s.logSyncOf d p),
                           origin := origin, rateOffset := rateOffset })

/-- Sends Announce on the master ports of a domain. -/
def State.sendAnnounces (s : State) (d : Nat) (rank : ClockRank) (steps : Nat) (trace : List Nat) : State :=
  let seq := (s.dom d).announceSeq
  let s1 := s.setDom d { s.dom d with announceSeq := (seq + 1) % 65536 }
  (s.masterPorts d).foldl (fun (t : State) p =>
    t.sendPtp p (.announce { hdr := s.ownHeader d p (68 + 8 * (trace.length + 1)) seq 0 (s.logAnnounceOf d p),
                             rank := rank, steps := steps, trace := trace ++ [s.fuses.clockId] })) s1

/-! ### The servo (R653) -/

/-- PORT_RATIO and PORT_DELAY, signed; delayAsymmetry. -/
def State.portRatio (s : State) (p : Nat) : Int := signed 32 (s.rd .tkp (tkpPort p 0xC)).toNat
def State.portDelay (s : State) (p : Nat) : Int := signed 32 (s.rd .tkp (tkpPort p 8)).toNat
def State.asymmetry (s : State) (p : Nat) : Int := signed 32 (s.rd .tkp (tkpPort p 0x18)).toNat

/-- e of a sample in units of 2^-56: the cumulative rate ratio measured against the domain's time, less 1. PORT_RATIO is measured
with stamps, so against the primary domain. -/
def State.sampleRate (s : State) (d p : Nat) (rateOffset : Int) : Int :=
  rateOffset * 2 ^ 15 + s.portRatio p * 2 ^ 48 / 1000000000 + ((s.dom s.primary).rate - (s.dom d).rate)

/-- P for an offset (2^-16 ns) and an interval (ns), clamped to MAX_SLEW. -/
def State.phaseTerm (s : State) (d : Nat) (o interval : Int) : Int :=
  let most : Int := s.fld .tkp (domReg d 0x18) 19 0 * 2 ^ 56 / 1000000000
  clampInt (-most) most (-(o * 2 ^ 40) / (interval * 2 ^ s.fld .tkp (domReg d 0xC) 3 0))

/-- F after a sample. -/
def State.freqTerm (s : State) (d : Nat) (e : Int) : Int := (s.dom d).f + e / 2 ^ s.fld .tkp (domReg d 0xC) 7 4

/-- Stores DOM_OFFSET, saturating. -/
def State.setOffset (s : State) (d : Nat) (o : Int) : State :=
  s.wr .tkp (domReg d 0x20) (word (twos 32 (clampInt (-0x7FFFFFFF) 0x7FFFFFFF (o / 65536))))

/-- The servo takes a sample with offset `o` (2^-16 ns), rate error `e` and interval S (ns). -/
def State.servo (s : State) (d : Nat) (o e interval : Int) : State :=
  let s1 := (s.setOffset d o).bump .tkp (domReg d 0x80)
  s1.setDom d { s1.dom d with f := s.freqTerm d e, p := s.phaseTerm d o interval }

/-- LOCK_THRESH, LOCK_COUNT, OUTLIER_RUN. -/
def State.inThresh (s : State) (d : Nat) (o : Int) : Bool := decide (o.natAbs ≤ 65536 * s.fld .tkp (domReg d 0x10) 15 0)
def State.lockCount (s : State) (d : Nat) : Nat := s.fld .tkp (domReg d 0x10) 23 16

/-- A sample beyond DOM_STEP in ACQUIRING: a step, or E82 once (R120, R122). DESIGN CHOICE: the 4 bytes of E82's offset hold it
modulo 2^32, where DOM_OFFSET saturates (notes/assumptions/151.md). -/
def State.stepOrSlew (s : State) (d : Nat) (o : Int) : State :=
  let x := s.dom d
  if o.natAbs ≤ 65536 * (s.rd .tkp (domReg d 0x1C)).toNat then s
  else if s.stepAllowed d (-o) then
    let t := ((x.time : Int) - o * 65536).toNat
    ((s.setDom d { x with p := 0 }).putTime d t).emit (72 + d) (p8i (-o / 65536))
  else if x.deferred then s
  else (s.setDom d { x with deferred := true }).emit 82 (p1 d ++ p4i (o / 65536))

/-- Counts a sample in LOCK_RUN, which LOCK_COUNT ends in LOCKED. -/
def State.countLock (s : State) (d : Nat) (o : Int) : State :=
  let x := s.dom d
  let run := if s.inThresh d o then Nat.min 0xFFFF (x.lockRun + 1) else 0
  let s1 := s.setDom d { x with lockRun := run }
  if x.state = .acquiring && decide (s.lockCount d ≤ run) then s1.enterDom d .locked else s1

/-- An outlier in LOCKED (R119 code 0xA, R120). -/
def State.outlier (s : State) (d p : Nat) : State :=
  let x := s.dom d
  let s1 := ((s.rejectPtp p 0xA).bump .tkp (domReg d 0x88)).setDom d { x with outliers := x.outliers + 1 }
  if s.fld .tkp (domReg d 0x14) 31 28 ≤ x.outliers + 1 then s1.enterDom d .acquiring else s1

/-- A sample from the slave port of a domain (R120). DESIGN CHOICE: on FREE_RUN or HOLDOVER to ACQUIRING, E64 + d is raised before the
sample is stored, so its DOM_OFFSET is that of the sample before (notes/assumptions/151.md). -/
def State.takeSample (s : State) (d p : Nat) (o e interval : Int) : State :=
  let x := s.dom d
  if x.state = .locked && decide (65536 * s.fld .tkp (domReg d 0x14) 23 0 < o.natAbs) then s.outlier d p
  else
    let s1 := s.acceptPtp p
    match x.state with
    | .disabled => s1
    | .grandmaster => s1
    | .locked => (((s1.setDom d { s1.dom d with outliers := 0 }).servo d o e interval).countLock d o)
    | .acquiring => ((s1.servo d o e interval).stepOrSlew d o).countLock d o
    | _ => (((s1.enterDom d .acquiring).servo d o e interval).stepOrSlew d o).countLock d o

/-! ### Sync and Follow_Up (R114, R119) -/

/-- Without the algorithm the domain follows the clock whose identity the slave port's messages carry (R116): an Announce's
grandmaster, or the sender of a Sync from which no Announce has come. -/
def State.followSync (s : State) (d p clock : Nat) : State :=
  if !s.extRoles d then s
  else match Sparse.get (fun _ => none) (s.dom d).heard p with
    | some h => if h.clock = clock then s.followGm d h.rank.identity (h.steps + 1) false else s.followGm d clock 1 false
    | none => s.followGm d clock 1 false

/-- Relays the Follow_Up on the master ports: each correction adds the time from the receive stamp to that port's transmit stamp
(R108), of which at most 100 us on the chip are free, and the upstream delay, both scaled (R114). -/
def State.relayFollowUps (s : State) (d rx : Nat) (origin : PtpTime) (correction delay cumulative : Int) : State :=
  (s.masterPorts d).foldl (fun (t : State) p =>
    let (u, n) := t.drawNat
    let residence : Int := ((n % 6553600001 : Nat) : Int) + s.rxLat rx + s.txLat p
    u.sendFollowUp d p origin (correction + ((residence + delay) + (residence + delay) * cumulative / 2 ^ 41)) cumulative) s

/-- The offset and the relayed correction of a Sync with its precise origin (R114). -/
def State.completeSync (s : State) (d p : Nat) (y : PendingSync) (origin : PtpTime) (correction rateOffset log : Int) : State :=
  let delay := (s.portDelay p + s.asymmetry p) * 256
  let o := (y.rx : Int) - (ptpTicks origin + y.correction + correction + delay)
  let s1 := s.takeSample d p o (s.sampleRate d p rateOffset) (syncInterval log)
  s1.relayFollowUps d p origin (y.correction + correction) delay (rateOffset + s.portRatio p * 2 ^ 33 / 1000000000)

/-- Cumulative rate ratio within 1,000 ppm of 1 (R119 code 0x7). -/
def rateFits (rateOffset : Int) : Bool := decide (rateOffset.natAbs * 1000 ≤ 2 ^ 41)

/-- A Sync arrives. DESIGN CHOICE: a one-step Sync on a port with ONE_STEP_RX = 0 is ignored and counted neither as accepted nor as
rejected (notes/assumptions/151.md). -/
def State.syncIn (s : State) (p : Nat) (m : SyncMsg) : State :=
  let h := m.hdr
  let code := s.headerReject h (if m.twoStep then 44 else 76) (if m.twoStep then [] else [m.origin])
  match code, s.domainOf h.domain with
  | some c, _ => s.rejectPtp p c
  | none, none => s.rejectPtp p 2
  | none, some d =>
    if s.role d p ≠ 2 then s.rejectPtp p 5
    else if !m.twoStep && !s.flag .tkp (tkpPort p 0) 16 then s
    else if !m.twoStep && !rateFits m.rateOffset then s.rejectPtp p 7
    else
      let y : PendingSync := ⟨h.seq, h.clock, h.portNum, (s.rxTime d p).toNat, h.correction⟩
      let s1 := s.followSync d p h.clock
      if m.twoStep then ((s1.acceptPtp p).setDom d { s1.dom d with sync := some y }).sendSyncs d
      else ((s1.setDom d { s1.dom d with sync := none }).sendSyncs d).completeSync d p y m.origin 0 m.rateOffset h.logInterval

/-- A Follow_Up arrives. -/
def State.followUpIn (s : State) (p : Nat) (m : FollowUpMsg) : State :=
  let h := m.hdr
  match s.headerReject h 76 [m.origin], s.domainOf h.domain with
  | some c, _ => s.rejectPtp p c
  | none, none => s.rejectPtp p 2
  | none, some d =>
    if s.role d p ≠ 2 then s.rejectPtp p 5
    else match (s.dom d).sync with
      | none => s.rejectPtp p 6
      | some y =>
        let late := decide (syncInterval h.logInterval * 65536 ≤ s.rxTime d p - y.rx)
        if y.seq ≠ h.seq || (y.clock != h.clock || (y.portNum != h.portNum || late)) then
          (s.setDom d { s.dom d with sync := none }).rejectPtp p 6
        else
          if !rateFits m.rateOffset then s.rejectPtp p 7
          else (s.setDom d { s.dom d with sync := none }).completeSync d p y m.origin h.correction m.rateOffset h.logInterval

/-- An Announce arrives (R116). -/
def State.announceIn (s : State) (p : Nat) (m : AnnounceMsg) : State :=
  match s.headerReject m.hdr 68 [], s.domainOf m.hdr.domain with
  | some c, _ => s.rejectPtp p c
  | none, none => s.rejectPtp p 2
  | none, some d =>
    if 255 ≤ m.steps || m.trace.contains s.fuses.clockId then s.rejectPtp p 9
    else
      let x := s.dom d
      let h : Heard := ⟨m.rank, m.steps, m.hdr.clock, m.hdr.portNum⟩
      let s1 := (s.acceptPtp p).setDom d { x with heard := Sparse.put (fun _ => none) x.heard p (some h) }
      let s2 := if s1.extRoles d then (if s1.role d p = 2 then s1.followGm d m.rank.identity (m.steps + 1) false else s1) else s1.decideGm d
      if s2.role d p = 2 then s2.sendAnnounces d m.rank (m.steps + 1) m.trace else s2

/-- Is the device the domain's grandmaster, so that it sends Sync and Announce (R116)? -/
def State.servesGm (s : State) (d : Nat) : Bool := decide ((s.dom d).state ≠ .disabled) && s.selfSelected d

/-- A Follow_Up of this device's own: its origin is the transmit stamp of the port's Sync (R108). -/
def State.ownFollowUp (s : State) (d p : Nat) : State :=
  let t := (s.txTime d p).toNat
  s.sendFollowUp d p (ptpTime t) ((t % 65536 : Nat) : Int) 0

/-- A device that is grandmaster sends Sync with its Follow_Up, and Announce (R116). -/
def State.gmSync (s : State) (d : Nat) : State :=
  if s.servesGm d then (s.masterPorts d).foldl (fun (t : State) p => t.ownFollowUp d p) (s.sendSyncs d) else s
def State.gmAnnounce (s : State) (d : Nat) : State := if s.servesGm d then s.sendAnnounces d (s.ownRank d) 0 [] else s

/-- No Announce has come on a port for ANNOUNCE_TIMEOUT intervals. -/
def State.announceLost (s : State) (d p : Nat) : State :=
  let x := s.dom d
  (s.setDom d { x with heard := Sparse.put (fun _ => none) x.heard p none }).decideGm d

/-- A Signaling message (R118): its intervals are clamped to what the registers allow. -/
def State.signalingIn (s : State) (p : Nat) (m : SignalingMsg) : State :=
  match s.headerReject m.hdr 44 [] with
  | some c => s.rejectPtp p c
  | none => match m.request with
    | none => s
    | some (link, sync, announce) =>
      (s.acceptPtp p).setPtp p { s.ptp p with
        linkInterval := some (clampInt (-3) 5 link), syncInterval := some (clampInt (-7) 1 sync),
        announceInterval := some (clampInt (-3) 3 announce) }

/-! ### Peer delay (R115) -/

/-- Is the port asCapable: PDELAY_EN, an exchange completed, its delay within PORT_THRESH, fewer than 3 losses in a row? -/
def State.capableNow (s : State) (p : Nat) : Bool :=
  s.flag .tkp (tkpPort p 0) 0 && ((s.ptp p).last.isSome && (decide ((s.ptp p).lost < 3) &&
    decide (s.portDelay p ≤ 256 * ((s.rd .tkp (tkpPort p 0x1C)).toNat : Int))))

/-- Brings asCapable up to date, and the grandmasters that depend on it. -/
def State.recapable (s : State) (p : Nat) : State :=
  if (s.ptp p).capable = s.capableNow p then s else (s.setCapable p (s.capableNow p)).decideGms

/-- An exchange of the port is lost. -/
def State.lostExchange (s : State) (p : Nat) : State :=
  let q := s.ptp p
  ((s.setPtp p { q with lost := q.lost + 1, req := none, answered := true }).bump .tkp (tkpPort p 0x38)).recapable p

/-- The port sends Pdelay_Req. -/
def State.pdelayStart (s : State) (p : Nat) : State :=
  if !s.ptpUp p || !s.flag .tkp (tkpPort p 0) 0 then s
  else
    let s1 := if (s.ptp p).answered then s else s.lostExchange p
    let q := s1.ptp p
    let seq := q.reqSeq
    (s1.setPtp p { q with req := some (seq, (s.txTime s.primary p).toNat), reqSeq := (seq + 1) % 65536, answered := false }).sendPtp p
      (.pdelayReq (s.ownHeader s.primary p 54 seq 0 (s.logPdelayOf p)))

/-- A Pdelay_Req arrives and is answered. -/
def State.pdelayAnswer (s : State) (p : Nat) (h : PtpHeader) : State :=
  match s.headerReject h 54 [] with
  | some c => s.rejectPtp p c
  | none =>
    let hdr := s.ownHeader s.primary p 54 h.seq 0 127
    let s1 := (s.acceptPtp p).sendPtp p (.pdelayResp ⟨hdr, ptpTime (s.rxTime s.primary p).toNat, h.clock, h.portNum⟩)
    s1.sendPtp p (.pdelayRespFollowUp ⟨hdr, ptpTime (s.txTime s.primary p).toNat, h.clock, h.portNum⟩)

/-- Is a response for the request `seq` of the port? -/
def State.answersReq (s : State) (p seq : Nat) (h : PtpHeader) (clock port : Nat) : Bool :=
  h.seq == seq && (clock == s.fuses.clockId && port == p + 1)

/-- A response's Follow_Up is rejected with code 0x8: the exchange that was outstanding counts as lost. -/
def State.pdelayBad (s : State) (p : Nat) : State :=
  if (s.ptp p).req.isNone then s.rejectPtp p 8 else (s.rejectPtp p 8).lostExchange p

/-- The Follow_Up of a response completes the exchange (R115, R119 code 0x8). `r` is the response that was accepted. -/
def State.pdelayFollow (s : State) (p : Nat) (r : Option PdelayResp) (f : PdelayRespFollowUp) : State :=
  match s.headerReject f.hdr 54 [f.origin] with
  | some c => s.rejectPtp p c
  | none =>
    let q := s.ptp p
    match q.req, r with
    | some (seq, t1), some r =>
      let t4 := s.rxTime s.primary p
      let t2 := ptpTicks r.receipt
      let t3 := ptpTicks f.origin
      let delay := ((t4 - t1) - (t3 - t2) - r.hdr.correction - f.hdr.correction) / 2
      if !s.answersReq p seq r.hdr r.reqClock r.reqPort || !s.answersReq p seq f.hdr f.reqClock f.reqPort || decide (delay < -655360) then s.pdelayBad p
      else
        let there := (t3 + f.hdr.correction).toNat
        let ratio : Int := match q.last with
          | none => s.portRatio p
          | some (t3', t4') =>
            let dt := t4 - t4'
            if dt ≤ 0 then s.portRatio p else (((there : Int) - t3') - dt) * 256000000000 / dt
        let s1 := ((s.acceptPtp p).wr .tkp (tkpPort p 8) (word (twos 32 (delay / 256)))).wr .tkp (tkpPort p 0xC) (word (twos 32 ratio))
        (s1.setPtp p { q with req := none, answered := true, lost := 0, last := some (there, t4.toNat) }).recapable p
    | _, _ => s.pdelayBad p

/-- A response arrives, and its Follow_Up: each is checked, counted or rejected by itself (R119, R143). -/
def State.pdelayDone (s : State) (p : Nat) (r : PdelayResp) (f : PdelayRespFollowUp) : State :=
  match s.headerReject r.hdr 54 [r.receipt] with
  | some c => (s.rejectPtp p c).pdelayFollow p none f
  | none => (s.acceptPtp p).pdelayFollow p (some r) f

/-! ### Timeouts (R120) -/

/-- SYNC_TIMEOUT sync intervals have passed without a sample. -/
def State.syncTimeout (s : State) (d : Nat) : State :=
  match (s.dom d).state with
  | .locked => s.enterDom d .holdover
  | .acquiring => if (s.dom d).lockedSince then s.enterDom d .holdover else s.toFreeRun d
  | _ => s

/-- HOLDOVER_MAX has elapsed. -/
def State.holdoverMax (s : State) (d : Nat) : State :=
  if (s.dom d).state = .holdover && decide (s.fld .tkp 0x50 15 0 ≠ 0) then s.toFreeRun d else s

/-! ### Commands and configuration (R111, R112, R116, R120, R142) -/

/-- A refused TKP_CMD. -/
def State.tkpRefuse (s : State) (cmd d err : Nat) : State := (s.setFld .tkp 4 22 20 err).emit 80 (p1 cmd ++ (p1 d ++ p1 err))

/-- SET. -/
def State.setTime (s : State) (d : Nat) : State :=
  let x := s.dom d
  let ns := s.rd64 .tkp 0x20
  let prim := decide (d = s.primary)
  if x.state = .disabled then s.tkpRefuse 1 d 3
  else if x.state ≠ .freeRun && x.state ≠ .grandmaster then s.tkpRefuse 1 d 4
  else if prim && s.firstLock then s.tkpRefuse 1 d 1
  else if prim && decide (ns * 2 ^ 32 < x.time) then s.tkpRefuse 1 d 5
  else if s.armedOn d then s.tkpRefuse 1 d 2
  else ((s.setFld .tkp 4 22 20 0).putTime d (ns * 2 ^ 32)).emit (72 + d) (p8i ((ns : Int) - ((x.time / 2 ^ 32 : Nat) : Int)))

/-- RESYNC. -/
def State.resync (s : State) (d : Nat) : State :=
  let x := s.dom d
  if x.state = .disabled then s.tkpRefuse 2 d 3
  else if x.state = .grandmaster then s.tkpRefuse 2 d 4
  else if s.armedOn d then s.tkpRefuse 2 d 2
  else ((s.setFld .tkp 4 22 20 0).setDom d { x with p := 0, lockRun := 0, outliers := 0 }).enterDom d .acquiring

/-- May DOM_CFG of a domain hold this value (R112), given which other domains are enabled with which number? -/
def domCfgAllowed (others : List Nat) (on : Bool) (number : Nat) : Bool := decide (number ≤ 127) && (!on || !others.contains number)

/-- The numbers of the enabled domains that `sel` names. -/
def State.domNumbers (s : State) (sel : Nat → Bool) : List Nat :=
  ((List.range 4).filter (fun e => sel e && decide ((s.dom e).state ≠ .disabled))).map (fun e => s.fld .tkp (domReg e 0) 15 8)

/-- May a write set DOM_CFG of a domain to this value (R112)? -/
def State.domCfgFits (s : State) (d : Nat) (w : Word) : Bool :=
  domCfgAllowed (s.domNumbers (fun e => e != d)) (bit w 0 || decide (d = s.primary)) (field w 15 8)

/-- DOM_CFG of a domain becomes `w`: EN may start or stop the domain (R120). -/
def State.domCfgStore (s : State) (d : Nat) (w : Word) : State :=
  let s1 := s.wr .tkp (domReg d 0) w
  let x := s.dom d
  if bit w 0 then
    if x.state = .disabled then
      let s2 := s1.setDom d { x with time := s.now, f := 0, p := 0, gm := 0, steps := 0, heard := [] }
      (s2.enterDom d .freeRun).decideGm d
    else s1.decideGm d
  else s1.enterDom d .disabled

/-- A write of DOM_CFG (R111, R112, R120, R141). -/
def State.domCfg (s : State) (d : Nat) (v : Word) : State :=
  let w0 := v &&& 0xFF0F
  let w := if d = s.primary then w0 ||| 1 else w0
  if s.domCfgFits d w then s.domCfgStore d w else s

/-- A write of DOM_ROLE0 or DOM_ROLE1: a second slave port makes it ignored (R116). -/
def slaves (lo hi : Word) : Nat :=
  ((List.range 16).filter (fun i => field lo (2 * i + 1) (2 * i) == 2)).length + ((List.range 13).filter (fun i => field hi (2 * i + 1) (2 * i) == 2)).length
def State.roleWrite (s : State) (d half : Nat) (v : Word) : State :=
  let w := if half = 0 then v else v &&& 0x3FFFFFF
  let lo := if half = 0 then w else s.rd .tkp (domReg d 0x38)
  let hi := if half = 0 then s.rd .tkp (domReg d 0x3C) else w
  if 1 < slaves lo hi then s else (s.wr .tkp (domReg d (0x38 + 4 * half)) w).decideGm d

/-! ### Pulse per second (R126-R130) -/

/-- A time as a stamp with TKP_PPS_IN_COMP subtracted. -/
def State.ppsStamp (s : State) : Stamp := stampOf ((s.now : Int) - signed 32 (s.rd .tkp 0x4C).toNat * 2 ^ 32).toNat

/-- The offset of a time (2^-16 ns) from the nearest whole second. -/
def fromSecond (t : Int) : Int :=
  let second : Int := 65536000000000
  let r := t % second
  if 2 * r < second then r else r - second

/-- Stores the stamp of an accepted edge. -/
def State.storePps (s : State) (t : Stamp) : State := (s.wr64 .tkp 0x40 t.ns).wr .tkp 0x48 (word t.frac)

/-- The last accepted edge's stamp. -/
def State.lastPpsStamp (s : State) : Stamp := ⟨s.rd64 .tkp 0x40, (s.rd .tkp 0x48).toNat⟩

/-- An accepted edge as a sample of a GRANDMASTER domain (R653). -/
def State.ppsSample (s : State) (d : Nat) (t o : Int) : State :=
  let x := s.dom d
  let e : Int := match x.lastPps with
    | none => 0
    | some a =>
      let dt := t - a
      if dt ≤ 0 then 0 else ((dt - (o - fromSecond a)) - dt) * 2 ^ 56 / dt
  let s1 := s.servo d o e 1000000000
  s1.setDom d { s1.dom d with lastPps := some t.toNat }

/-- Is a domain disciplined by PPS in (R126)? -/
def State.ppsSteers (s : State) (d : Nat) : Bool := s.fld .tkp 0x30 1 0 == 2 && s.fld .tkp 0x30 3 2 == d

/-- A GRANDMASTER domain that PPS in does not discipline keeps F, with P = 0 (R653). -/
def State.ppsUnsteer (s : State) (d : Nat) : State :=
  if (s.dom d).state = .grandmaster && !s.ppsSteers d then s.setDom d { s.dom d with p := 0, lastPps := none } else s

/-- TKP_PPS_IN_CFG has changed: domains that it no longer disciplines drop their phase correction. -/
def State.ppsResteer (s : State) : State := (List.range 4).foldl (fun (t : State) d => t.ppsUnsteer d) s

/-- An edge is accepted (R126-R128). DESIGN CHOICE: edges accepted in STAMP count in the row of R127 as those of DISCIPLINE do, and a
change of MODE or DOMAIN does not start the row anew (notes/assumptions/58.md). -/
def State.ppsAccept (s : State) (t : Stamp) : State :=
  let a := s.tkp.pps
  let s1 := (s.bump .tkp 0x60).storePps t
  if a.lost then
    if a.sinceLoss = 0 then { s1 with tkp := { s1.tkp with pps := { a with inRow := a.inRow + 1, sinceLoss := 1 } } }
    else
      let s2 := ({ s1 with tkp := { s1.tkp with pps := { a with inRow := a.inRow + 1, ok := true, lost := false, sinceLoss := 0 } } }).emit 78 (pStamp t)
      let d := s.fld .tkp 0x30 3 2
      if s.ppsSteers d && ((s2.dom d).state = .holdover && (s2.dom d).fromGm) then s2.enterDom d .grandmaster else s2
  else { s1 with tkp := { s1.tkp with pps := { a with inRow := a.inRow + 1, ok := true } } }

/-- An edge on PPS in. -/
def State.ppsEdge (s : State) (falling : Bool) : State :=
  let mode := s.fld .tkp 0x30 1 0
  if mode = 0 || s.flag .tkp 0x30 4 != falling then s
  else
    let stamp := s.ppsStamp
    if mode = 1 then (s.ppsAccept stamp).emit 79 (pStamp stamp)
    else
      let d := s.fld .tkp 0x30 3 2
      let t := (((s.dom d).time / 65536 : Nat) : Int) - 65536 * signed 32 (s.rd .tkp 0x4C).toNat
      let o := fromSecond t
      let a := s.tkp.pps
      if s.lockCount d ≤ a.inRow && decide (65536000 * s.fld .tkp 0x30 31 16 < o.natAbs) then
        (({ s with tkp := { s.tkp with pps := { a with inRow := 0 } } }).bump .tkp 0x68).emit 77 (pStamp stamp)
      else
        let s1 := s.ppsAccept stamp
        if (s1.dom d).state = .grandmaster then s1.ppsSample d t o else s1

/-- 2.5 s have passed without an accepted edge (R128), also where none ever came. DESIGN CHOICE: with MODE off PPS in is not lost, and
PPS_IN_OK keeps its value; while it is lost it is not lost again (notes/assumptions/58.md). -/
def State.ppsLoss (s : State) : State :=
  let a := s.tkp.pps
  if s.fld .tkp 0x30 1 0 = 0 || a.lost then s
  else
    let s1 := ({ s with tkp := { s.tkp with pps := { a with ok := false, lost := true, inRow := 0, sinceLoss := 0 } } }).emit 76 (pStamp s.lastPpsStamp)
    let d := s.fld .tkp 0x30 3 2
    if s.ppsSteers d && (s1.dom d).state = .grandmaster then s1.enterDom d .holdover else s1

/-- The level at the ball of PPS out (R140). -/
def State.ppsLevel (s : State) : Bool := s.tkp.pps.outSince.isSome != s.flag .tkp 0x34 2

/-- Does the instant at which PPS out rises fall in the present oscillator period: the domain's time, with COMP ahead of it, reaches
TKP_PPS_OUT_OFFSET within the second (R129)? -/
def State.ppsDue (s : State) : Bool :=
  let second : Int := 1000000000 * 2 ^ 32
  let phase : Int := ((s.dom (s.fld .tkp 0x34 5 4)).time : Int) + signed 16 (s.fld .tkp 0x34 31 16) * 2 ^ 32
  decide ((((s.rd .tkp 0x3C).toNat : Int) * 2 ^ 32 - phase) % second < 40 * 2 ^ 32)

/-- PPS out rises (R129, R130). -/
def State.ppsRise (s : State) : State :=
  let st := (s.dom (s.fld .tkp 0x34 5 4)).state
  let good := st = .locked || (st = .holdover || st = .grandmaster)
  if s.flag .tkp 0x34 0 && ((!s.flag .tkp 0x34 1 || good) && (s.tkp.pps.outSince.isNone && s.ppsDue)) then
    let s1 : State := { s with tkp := { s.tkp with pps := { s.tkp.pps with outSince := some s.now } } }
    s1.send (.pps s1.ppsLevel)
  else s

/-- PPS out falls when it has been high for TKP_PPS_OUT_WIDTH, in the period in which that ends or after it, whatever EN and QUALIFY
have become (R129, R130). -/
def State.ppsFall (s : State) : State :=
  match s.tkp.pps.outSince with
  | none => s
  | some a =>
    if s.now + 40 * 2 ^ 32 ≤ a + (s.rd .tkp 0x38).toNat * 2 ^ 32 then s
    else
      let s1 : State := { s with tkp := { s.tkp with pps := { s.tkp.pps with outSince := none } } }
      s1.send (.pps s1.ppsLevel)

/-! ### One oscillator period (R106) -/

/-- Every enabled domain advances; whole seconds in HOLDOVER are counted (R143). -/
def State.tickDomain (s : State) (d : Nat) : State :=
  let x := s.dom d
  let y := x.ticked
  let s1 := s.setDom d y
  if x.state = .holdover then s1.bumpBy .tkp (domReg d 0x98) (x.holdoverSeconds y.time) else s1

end Sys2Proof.Machine
end

