-- ==== Sys2Proof/Machine/TdmOps.lean ====
section
/-!
DEFINITION. The tandem controller (14_tandem_redundancy.md): states and roles, pairing identifiers, records sent, the bulk, what a takeover
applies, FAULTY.
-/
namespace Sys2Proof.Machine

/-- Codes of member states (R563). -/
def TdmKind.code : TdmKind → Nat
  | .solo => 0
  | .wait => 1
  | .alone => 2
  | .pairing => 3
  | .resync => 4
  | .paired => 5
  | .resolving => 6
  | .frozen => 7
  | .isolated => 8
  | .faulty => 9

/-- Codes of triggers (R538). -/
def Trigger.code : Trigger → Nat
  | .mismatch => 1
  | .heartbeat => 2
  | .tfail => 3

/-- Fields of TDM_CFG and TDM_TIMING (R563). -/
def State.tdmEn (s : State) : Bool := s.flag .tdm 0 31
def State.tfailEn (s : State) : Bool := s.flag .tdm 0 30
def State.cbGuard (s : State) : Nat := s.fld .tdm 4 7 0

/-- Counts on a TDM counter, in the order of R561; sets a TDM_ERR bit (R560). -/
def State.tdmBump (s : State) (k : Nat) : State := s.bump .tdm (0x400 + 8 * k)
def State.tdmErr (s : State) (i : Nat) : State := s.setErr .tdm 0x1C i (1544 + i) (p4 0)

/-- Moves to a member state (R541). -/
def State.setTdm (s : State) (k : TdmKind) : State :=
  if s.tdm.state = k then s
  else { s with tdm := { s.tdm with state := k } }.emit 1536 (p1 s.tdm.state.code ++ (p1 k.code ++ p1 s.tdm.active.toNat))

/-- A new PAIR_ID: random, or the low half of the island count while there are no random numbers (R542). -/
def State.drawPairId (s : State) : State :=
  if s.rngOk then
    let (s1, bs) := s.drbg 4
    s1.wr .tdm 0x20 (word (le bs))
  else s.wr .tdm 0x20 (word s.islandCount)

/-! ### Records sent (R538) -/

/-- The overlay mask in force, and the digest of the image in force. -/
def State.overlayMask (s : State) : Nat := s.fld .img 0x1C 15 0
def State.imageDigest (s : State) : List Byte := bytesOf (s.rds .img 0x80 12)

/-- ID_HASH: the first eight bytes of SHA-384 over KEY_ID_PUB, as a big-endian number (R538). -/
def State.idHash (s : State) : Nat := be ((padTo 48 (sha384 (bytesOf (s.rds .key 0x200 24)))).take 8)

/-- Queues IDENTITY, HEARTBEAT, a RESOLVE record (PHASE, RESULT, TRIGGER, DETAIL), RESYNC_REQ. -/
def State.sendIdentity (s : State) : State :=
  s.queueTandem 1 1 ([byte s.tdm.position, byte s.tdm.state.code, byte s.tdm.active.toNat, 0] ++ (beBytes 8 s.idHash ++
    (beBytes 4 s.epoch ++ (beBytes 2 s.overlayMask ++ ([0, 0] ++ s.imageDigest)))))
def State.heartbeatFlags (s : State) : Nat :=
  s.tdm.synced.toNat + 2 * s.tdm.degraded.toNat + 4 * s.lmp.sleepReq.toNat + 8 * (decide (s.tdm.state = .frozen)).toNat
def State.ringStates (s : State) : Nat := ([0, 1, 2, 3].map (fun r => 8 ^ r * (s.ringOf r).kind.code)).sum
def State.sendHeartbeat (s : State) : State :=
  s.queueTandem 1 2 ([byte s.tdm.state.code, byte s.tdm.active.toNat, byte s.heartbeatFlags, 0] ++
    (beBytes 4 s.epoch ++ (beBytes 2 s.overlayMask ++ (beBytes 2 s.ringStates ++ s.imageDigest.take 8))))
def State.sendResolve (s : State) (phase : Nat) (fail : Bool) (t : Trigger) (detail : Nat) : State :=
  s.queueTandem 1 5 ([byte phase, byte fail.toNat, byte t.code, 0] ++ beBytes 4 detail)
def State.sendResyncReq (s : State) : State := s.queueTandem 1 6 []

/-! ### The bulk and the mirror records (R541, R545) -/

/-- Queues one record of a bulk. -/
def State.queueBulk (s : State) (type : Nat) (body : List Byte) : State :=
  { s with tdm := { s.tdm with tx := s.tdm.tx ++ [⟨2, type, s.tdm.nextSeq, body, true⟩], nextSeq := (s.tdm.nextSeq + 1) % 2 ^ 32 } }

/-- Entries of a mirror record, at most 50 to a record. -/
def bulkParts (type : Nat) (entries : List (List Byte)) : Nat → List (Nat × List Byte)
  | 0 => []
  | n + 1 =>
    if entries.isEmpty then []
    else (type, beBytes 2 (entries.take 50).length ++ ([0, 0] ++ (entries.take 50).flatten)) :: bulkParts type (entries.drop 50) n

/-- The entry of a stream, of a flume, of a gateway rule in its mirror record. -/
def State.cbEntry (s : State) (k : Nat) : List Byte :=
  let r := s.recovery k
  beBytes 2 k ++ ([byte r.takeAny.toNat, 0] ++ (beBytes 2 r.last ++ (beBytes 2 (leAt (s.streamEntry k) 4 2) ++ beBytes 4 r.hist)))
def State.flumeEntry (s : State) (f : Nat) : List Byte :=
  let v := s.flume f
  beBytes 2 f ++ ([0, 0] ++ (beBytes 4 v.wr ++ (beBytes 4 v.rd ++ (beBytes 4 v.mark ++ beBytes 4 v.rl))))
def SigKind.code : SigKind → Nat
  | .never => 0
  | .fresh => 1
  | .timedOut => 2
  | .outOfRange => 3
def sigOfCode : Nat → SigKind
  | 1 => .fresh
  | 2 => .timedOut
  | 3 => .outOfRange
  | _ => .never
def State.gwEntry (s : State) (k : Nat) : List Byte :=
  let g := s.sig k
  beBytes 2 k ++ ([byte g.kind.code, 0] ++ (beBytes 8 (twos 64 g.value) ++ (beBytes 8 g.at_ ++ [0, 0, 0, 0])))

/-- What a bulk carries: dynamic learning entries, streams, mirrored flumes, signal rules that have a value, enabled rings. -/
def State.bulkLearn (s : State) : List (List Byte) :=
  ((s.table 0).filter (fun e => !e.fixed)).map (fun e =>
    learnRecord 1 e.port e.district (leAt e.key 6 2) (e.key.take 6) (Nat.min 0xFFFF (((s.nowNs : Int) - e.refreshed).toNat / 1000000000)))
def State.bulkCb (s : State) : List (List Byte) := ((Sparse.get (fun _ => []) s.tbl.entries 30).map (fun e => s.cbEntry e.index))
def State.bulkFlume (s : State) : List (List Byte) :=
  ((List.range 1536).filter (fun f => s.flumePresent f && s.flag .flm (flumeReg f 0) 30)).map (fun f => s.flumeEntry f)
def State.bulkGw (s : State) : List (List Byte) := (s.gwy.sig.filter (fun e => e.2.kind ≠ .never)).map (fun e => s.gwEntry e.1)

/-- Sends the bulk: BULK_START, every mirror entry, BULK_END (R541). -/
def State.sendBulk (s : State) : State :=
  let rings := [0, 1, 2, 3].filter (fun r => s.ringEn r)
  let parts := bulkParts 0x10 s.bulkLearn 2000 ++ (bulkParts 0x11 s.bulkCb 100 ++ (bulkParts 0x13 s.bulkFlume 100 ++
    (bulkParts 0x14 s.bulkGw 400 ++ rings.map (fun r => (0x12, s.ringEntry r)))))
  let n := s.bulkLearn.length + s.bulkCb.length + s.bulkFlume.length + s.bulkGw.length + rings.length
  let s1 := parts.foldl (fun (t : State) p => t.queueBulk p.1 p.2) (s.queueBulk 0x15 (beBytes 4 n))
  let s2 := s1.queueBulk 0x16 (beBytes 4 n)
  { s2 with tdm := { s2.tdm with dirtyCb := [], dirtyFlume := [], dirtyGw := [], wantBulk := false } }

/-- A coalescing interval ends: the deferred record goes out (R545). -/
def State.mirrorItem (s : State) (item : MirrorItem) : State :=
  let one := fun (e : List Byte) => beBytes 2 1 ++ ([0, 0] ++ e)
  if !s.mirroring then s
  else match item with
  | .stream k =>
    if s.tdm.dirtyCb.contains k.val then
      { s with tdm := { s.tdm with dirtyCb := s.tdm.dirtyCb.erase k.val } }.queueTandem 2 0x11 (one (s.cbEntry k.val)) else s
  | .flume f =>
    if s.tdm.dirtyFlume.contains f.val then
      { s with tdm := { s.tdm with dirtyFlume := s.tdm.dirtyFlume.erase f.val } }.queueTandem 2 0x13 (one (s.flumeEntry f.val)) else s
  | .rule k =>
    if s.tdm.dirtyGw.contains k.val then
      { s with tdm := { s.tdm with dirtyGw := s.tdm.dirtyGw.erase k.val } }.queueTandem 2 0x14 (one (s.gwEntry k.val)) else s
  | .ring r => if (s.ringOf r.val).kind = .off then s else s.queueTandem 2 0x12 (s.ringEntry r.val)

/-- The standby discards its mirrored state (R540). -/
def State.dropMirror (s : State) : State :=
  let s1 := s.setTable 0 ((s.table 0).filter (fun e => e.fixed))
  { s1 with tdm := { s1.tdm with cb := [], ring := [], flume := [], gw := [], bulkCount := 0 } }

/-! ### Roles (R541, R553, R555; 18_bring_up_reference_unit.md R647) -/

/-- Ports that follow the role: all but TL (R534). -/
def rolePorts : List Nat := (List.range 29).filter (fun p => p ≠ 4)

/-- The role becomes standby: ports, channels, rings, gPTP port roles follow. -/
def State.becomeStandby (s : State) : State :=
  if !s.tdm.active then s
  else
    let s1 := { s with tdm := { s.tdm with active := false } }
    let s2 := rolePorts.foldl (fun (t : State) p => t.toStandby p) s1
    let s3 := (List.range 32).foldl (fun (t : State) n => t.canToStandby n) s2
    let s4 := [0, 1].foldl (fun (t : State) n => t.mvbToStandby n) s3
    ([0, 1, 2, 3].foldl (fun (t : State) r => t.ringToStandby r) s4).decideGms

/-- The role becomes active. -/
def State.becomeActive (s : State) : State :=
  if s.tdm.active then s
  else
    let s1 := { s with tdm := { s.tdm with active := true } }
    let s2 := rolePorts.foldl (fun (t : State) p => t.fromStandby p) s1
    let s3 := (List.range 32).foldl (fun (t : State) n => t.canFromStandby n) s2
    let s4 := [0, 1].foldl (fun (t : State) n => t.mvbFromStandby n) s3
    ([0, 1, 2, 3].foldl (fun (t : State) r => t.ringFromStandby r) s4).decideGms

/-- Every bit of a stream's history. -/
def allHistory (history : Nat) : Nat := 2 ^ (Nat.min 32 history) - 1

/-- A takeover applies a stream's mirrored state, with the guard (R545). -/
def State.takeCb (s : State) (k : Nat) (m : CbMirror) : State :=
  let g := s.cbGuard
  let full := allHistory (leAt (s.streamEntry k) 1 1)
  if g = 0 then (s.setRecovery k ⟨m.takeAny, m.last, m.hist⟩).setGenSeq k m.genSeq
  else
    let s1 := (s.setRecovery k ⟨m.takeAny, (m.last + g) % 65536, full⟩).setGenSeq k ((m.genSeq + g) % 65536)
    let own := m.hist * 2 ^ g % (full + 1)
    { s1 with tdm := { s1.tdm with cbGuard := Sparse.put (fun _ => 0) s1.tdm.cbGuard k (full - own) } }

/-- A takeover moves a flume's positions past what its consumer may have seen (R545). -/
def State.takeFlume (s : State) (f : Nat) (m : FlumeMirror) : State :=
  let v := s.flume f
  let d := fromTo v.rl m.wr
  let up := fun (p : Nat) => (p + d) % 2 ^ 32
  (s.setFlume f { v with wr := up v.wr, rd := up v.rd, mark := up v.mark, rl := up v.rl, wr2 := up v.wr2, rd2 := up v.rd2, mark2 := up v.mark2,
                         rl2 := up v.rl2, items := v.items.map (fun (i : FlumeItem) => { i with pos := up i.pos }) }).bumpBy .tdm 0x488 d

/-- A takeover takes the later of the own and the mirrored value of a signal rule (R545). -/
def State.takeGw (s : State) (k : Nat) (m : GwMirror) : State :=
  match gwyRec s.recs 2 k with
  | none => s
  | some r =>
    let v : Int := if (leAt r 2 1).testBit 3 then signed 64 m.value else m.value
    if (s.sig k).at_ < m.ns then (s.setSig k ⟨sigOfCode m.state, v, m.ns, false⟩).placeSignal r v else s

/-- Applies the mirrored state and empties the store (R545). The rings took theirs with the role. -/
def State.applyMirror (s : State) : State :=
  let s1 := s.tdm.cb.foldl (fun (t : State) e => (e.2).elim t (fun m => t.takeCb e.1 m)) s
  let s2 := s.tdm.flume.foldl (fun (t : State) e => (e.2).elim t (fun m => t.takeFlume e.1 m)) s1
  let s3 := s.tdm.gw.foldl (fun (t : State) e => (e.2).elim t (fun m => t.takeGw e.1 m)) s2
  { s3 with tdm := { s3.tdm with cb := [], ring := [], flume := [], gw := [] } }

/-- A takeover (R553): cause 0 for SWITCHOVER, else the trigger's code; `since` is when the trigger came. -/
def State.takeOver (s : State) (cause since : Nat) : State :=
  let us := Nat.min 0xFFFF ((s.nowNs - since) / 1000)
  let s1 := ((s.becomeActive.applyMirror).wr .tdm 0x38 (word us)).tdmBump 14
  let s2 := if s.tdm.synced then s1 else s1.tdmErr 7
  { s2 with tdm := { s2.tdm with synced := false } }.emit 1541 (p1 cause ++ (p1 s.tdm.synced.toNat ++ p4 us))

/-! ### Pairing (R541-R543) -/

/-- The pairing ends (R542). -/
def State.endPairing (s : State) (cause : Nat) : State :=
  if s.tdm.partner.isNone then s
  else
    let s1 := { s with tdm := { s.tdm with
      partner := none, tx := [], nextSeq := 0, sentSeq := 0xFFFFFFFF, applied := none, wantBulk := false, synced := false, hbOk := false,
      hbLost := false, mmRun := 0, holdoff := true } }
    s1.drawPairId.emit 1538 (p1 cause)

/-- Enters WAIT (R541): standby, PAIR_WAIT starts. -/
def State.enterWait (s : State) : State := s.becomeStandby.setTdm .wait

/-- Enters FAULTY (R551). -/
def State.enterFaulty (s : State) (detail cause : Nat) : State :=
  let s1 := s.becomeStandby.setTdm .faulty
  let s2 := { s1 with tdm := { s1.tdm with tfailOut := false, resolution := none } }
  (s2.emit 1542 (p4 detail ++ p1 TdmKind.faulty.code)).endPairing cause

/-- What IDENTITY says (R538). -/
structure Identity where
  pairId : Nat
  position : Nat
  state : Nat
  active : Bool
  hash : Nat
  epoch : Nat
  overlays : Nat
  digest : List Byte
deriving DecidableEq, Repr

/-- Pairing forms with the member whose IDENTITY came (R541, R543, R544): IDENTITY is exchanged, roles are decided. -/
def State.formPairing (s : State) (i : Identity) : State :=
  let mine := s.tdm.active && decide (s.tdm.state = .alone)
  let theirs := i.active && (i.state == 0 || (i.state == 2 || i.state == 3))
  let s1 := (s.setTdm .pairing).sendIdentity
  let clash := s.tdm.position == i.position
  let s2 := if clash then s1.tdmErr 1 else s1
  let pos := if clash then (if s.idHash < i.hash then 0 else 1) else s.tdm.position
  let s3 := if i.epoch = s.epoch && (i.overlays = s.overlayMask && i.digest = s.imageDigest) then s2 else s2.tdmErr 2
  let active := if mine ≠ theirs then mine else decide (pos = 0)
  let partner : Partner := { pairId := i.pairId, position := i.position, state := i.state, active := i.active, hash := i.hash,
                             epoch := i.epoch, overlays := i.overlays, digest := i.digest.take 8 }
  let s4 := { s3 with tdm := { s3.tdm with
    partner := some partner, nextSeq := 0, sentSeq := 0xFFFFFFFF, applied := none, synced := false, dseq := 0, mmRun := 0,
    holdoff := false, hbLost := false, wantBulk := false } }
  let s5 := if active then s4.becomeActive else (s4.becomeStandby).dropMirror
  let s6 := s5.emit 1537 (p1 i.position ++ (beBytes 8 i.hash ++ p1 active.toNat))
  if active then (s6.setTdm .paired).sendBulk else s6.setTdm .resync

/-- The standby lost the sequence (R540, R541): it discards its mirrored state and asks for the bulk.
A resolution that runs goes on. -/
def State.lostSequence (s : State) : State :=
  let s1 := s.dropMirror
  let s2 := ({ s1 with tdm := { s1.tdm with synced := false, applied := none } }).sendResyncReq
  if s.tdm.state = .resolving then s2 else s2.setTdm .resync

/-! ### Resolution (R550-R552) -/

/-- May a trigger start a resolution in this state (R541)? -/
def TdmKind.triggerable : TdmKind → Bool
  | .paired => true
  | .resync => true
  | .frozen => true
  | .isolated => true
  | _ => false

/-- A trigger: one's own sends the request; one in RESOLVING joins (R550). -/
def State.trigger (s : State) (t : Trigger) (own : Bool) : State :=
  if !s.tdm.state.triggerable then s
  else
    let s1 := (s.tdmBump 13).emit 1539 (p1 t.code ++ p4 (s.rd .tdm 0x34).toNat)
    let s2 := { s1 with tdm := { s1.tdm with resolution := some { trigger := t, since := s.nowNs, frozen := decide (s.tdm.state = TdmKind.frozen) } } }
    (if own then s2.sendResolve 1 false t 0 else s2).setTdm .resolving

/-- The rows of partner evidence (R552). -/
inductive Evidence where
  | a | b | c | d | e
deriving DecidableEq, Repr

/-- Are heartbeats lost? Outside a pairing none arrives. -/
def State.silent (s : State) : Bool := s.tdm.hbLost || s.tdm.partner.isNone

/-- The first row that applies (R552). -/
def State.evidence (s : State) (r : Resolution) : Evidence :=
  if (s.tfailEn && !s.tdm.tfailOk) || (s.silent && !s.tfailEn) then .a
  else if s.silent then .b
  else match r.partner with
    | some true => .d
    | some false => .c
    | none => .e

/-- Is there evidence enough for the verdict (R552)? -/
def State.evident (s : State) (r : Resolution) : Bool :=
  r.partner.isSome || ((s.tfailEn && !s.tdm.tfailOk) || (s.silent || r.expired))

/-- The resolution is over. -/
def State.resolved (s : State) : State := { s with tdm := { s.tdm with resolution := none } }

/-- ALONE after a verdict: a standby takes over; the pairing ends (R552, R553). -/
def State.standAlone (s : State) (r : Resolution) : State :=
  let s1 := if s.tdm.active then s else s.takeOver r.trigger.code r.since
  (s1.endPairing r.trigger.code).setTdm .alone

/-- FROZEN after a verdict (R552): the partner's hash goes with E1540. -/
def State.freeze (s : State) (r : Resolution) : State :=
  (s.setTdm .frozen).emit 1540 (p1 r.trigger.code ++ beBytes 8 ((s.tdm.partner.map (fun p => p.hash)).getD 0))

/-- The verdict, once it can be made (R552). -/
def State.tryVerdict (s : State) : State :=
  match s.tdm.resolution with
  | none => s
  | some r =>
    match r.own with
    | none => s
    | some (pass, detail) =>
      if s.tdm.state ≠ .resolving || !s.evident r then s
      else
        let s0 := s.resolved
        let degraded := { s0 with tdm := { s0.tdm with degraded := true } }
        match s.evidence r, pass with
        | .a, true => s0.standAlone r
        | .a, false => (degraded.emit 1542 (p4 detail ++ p1 TdmKind.alone.code)).standAlone r
        | .b, true => if s.tdm.active then s0.standAlone r else (s0.endPairing r.trigger.code).setTdm .isolated
        | .c, true => s0.standAlone r
        | .c, false => (degraded.emit 1542 (p4 detail ++ p1 TdmKind.frozen.code)).setTdm .frozen
        | .d, true => s0.freeze r
        | .e, true => s0.freeze r
        | _, false => s0.enterFaulty detail r.trigger.code

/-- Heartbeats are lost, while paired (R550): a trigger, or evidence for the resolution that runs. -/
def State.heartbeatGone (s : State) : State :=
  if s.tdm.partner.isNone || s.tdm.hbLost then s
  else (({ s with tdm := { s.tdm with hbLost := true, hbOk := false } }).trigger .heartbeat true).tryVerdict

/-- The end of TL's link epoch counts as heartbeat loss at once (R534): `was` is the state before the command. -/
def State.tlWatched (s was : State) : State :=
  if s.rd .eth (ethReg 4 0x10) = was.rd .eth (ethReg 4 0x10) then s else s.heartbeatGone

end Sys2Proof.Machine
end

