-- ==== Sys2Proof/Machine/Eth.lean ====
section
/-!
DEFINITION. The commands of the Ethernet ports and of their egress schedulers (04_ethernet_ports.md, 07_egress_scheduling.md), but for
the frame received and the link lost, which reach the tandem controller too.
-/
namespace Sys2Proof.Machine

/-- Every command ends so: what follows it at once has happened. -/
def State.done (s : State) : Host.Outcome State Fault Refusal := .next s.settle

/-- A command that may change a link ends so (`was` the state before it): TL is watched (14_tandem_redundancy.md R534) and the grandmasters are
decided again (03_time_and_order.md R116). -/
def State.linkDone (s was : State) : Host.Outcome State Fault Refusal := ((s.tlWatched was).decideGms).done

/-- PORT_ENABLE, PORT_DISABLE (R149). -/
def execPortEnable (p : Port) (s : State) : Host.Outcome State Fault Refusal := (s.awake (fun (t : State) => t.portOn p.val)).linkDone s
def execPortDisable (p : Port) (s : State) : Host.Outcome State Fault Refusal := (s.awake (fun (t : State) => t.portOff p.val)).linkDone s

/-- PCS_LINK_UP (R148, R149). -/
def execPcsLinkUp (p : Port) (speed : Fin 8) (s : State) (remoteFault : Bool := false) : Host.Outcome State Fault Refusal :=
  (s.linkUp p.val speed.val remoteFault).linkDone s

/-- TRAIN_TIMEOUT, PORT_HOLDOFF_EXPIRY, PORT_ROADWORKS_END (R149). -/
def execTrainTimeout (p : Port) (s : State) : Host.Outcome State Fault Refusal := (s.trainFailed p.val).done
def execPortHoldoffExpiry (p : Port) (s : State) : Host.Outcome State Fault Refusal := (s.holdoffOver p.val).done

/-- PAUSE_FRAME_RX (R157, R158): to the group address or the port's own. -/
def execPauseFrameRx (p : Port) (group : Bool) (sa : Nat) (quanta : Fin 65536) (s : State) : Host.Outcome State Fault Refusal :=
  (s.rxControl p.val (pauseFrame (if group then macControlDa else s.macAddr p.val) (beBytes 6 sa) quanta.val)).done

/-- PFC_FRAME_RX (R157, R159). -/
def execPfcFrameRx (p : Port) (group : Bool) (sa : Nat) (vector : Fin 65536) (times : List Nat) (s : State) : Host.Outcome State Fault Refusal :=
  (s.rxControl p.val (pfcFrame (if group then macControlDa else s.macAddr p.val) (beBytes 6 sa) vector.val times)).done

/-- PAUSE_EXPIRY (R158, R159): of the port, or of a class. -/
def execPauseExpiry (p : Port) (cls : Option (Fin 8)) (s : State) : Host.Outcome State Fault Refusal := (s.pauseOver p.val cls).done

/-- PAUSE_WATCHDOG_TRIP, PAUSE_WD_CLEAR (R162). -/
def execPauseWatchdogTrip (p : Port) (s : State) : Host.Outcome State Fault Refusal := (s.watchdogTrip p.val).done
def execPauseWdClear (p : Port) (s : State) : Host.Outcome State Fault Refusal := (s.awake (fun (t : State) => t.watchdogClear p.val)).done

/-- MAC_CONTROL_TX, PAUSE_REFRESH (R160, R161). -/
def execMacControlTx (p : Port) (s : State) : Host.Outcome State Fault Refusal := (s.signalXoff p.val).done
def execPauseRefresh (p : Port) (s : State) : Host.Outcome State Fault Refusal := (s.repeatXoff p.val).done

/-- MM_CFG_WRITE (R165): the value stored as a register write stores it. -/
def execMmCfgWrite (p : Port) (value : Word) (s : State) : Host.Outcome State Fault Refusal :=
  (s.awake (fun (t : State) => t.mmCfg p.val value)).done

/-- VERIFY_TIMEOUT, VERIFY_RX, RESPOND_RX (R163, R165). -/
def execVerifyTimeout (p : Port) (s : State) : Host.Outcome State Fault Refusal := (s.verifyLate p.val).done
def execVerifyRx (p : Port) (s : State) : Host.Outcome State Fault Refusal := (s.verifyIn p.val).done
def execRespondRx (p : Port) (s : State) : Host.Outcome State Fault Refusal := (s.respondIn p.val).done

/-- SA_WRITE (R172). -/
def execSaWrite (path : Path) (p : Port) (sa : SaId) (reg : SaReg) (value : Word) (s : State) : Host.Outcome State Fault Refusal :=
  (s.awake (fun (t : State) => t.saWrite path p.val sa reg value)).done

/-- SEC_CFG_WRITE (R172). -/
def execSecCfgWrite (p : Port) (value : Word) (s : State) : Host.Outcome State Fault Refusal :=
  (s.awake (fun (t : State) => t.secCfg p.val value)).done

/-- BEACON_TX, BEACON_RX, PLCA_STATUS_LOSS (R174, R175). -/
def execBeaconTx (p : Port) (s : State) : Host.Outcome State Fault Refusal := (s.sendBeacon p.val).done
def execBeaconRx (p : Port) (s : State) : Host.Outcome State Fault Refusal := (s.beaconIn p.val).done
def execPlcaStatusLoss (p : Port) (s : State) : Host.Outcome State Fault Refusal := (s.plcaLost p.val).done

/-- PLCA_TX_OPPORTUNITY (R291), COLLISION and BACKOFF_EXPIRY (R176). -/
def execPlcaTxOpportunity (p : Port) (s : State) : Host.Outcome State Fault Refusal := (s.plcaOpportunity p.val).done
def execCollision (p : Port) (s : State) : Host.Outcome State Fault Refusal := (s.collide p.val).done
def execBackoffExpiry (p : Port) (s : State) : Host.Outcome State Fault Refusal := (s.retry p.val).done

/-- FEC_ALARM (R180): block errors and codewords that the PCS reports. -/
def execFecAlarm (p : Port) (blocks corrected uncorrected : Nat) (s : State) : Host.Outcome State Fault Refusal :=
  (s.fecReport p.val blocks corrected uncorrected).done

/-- EGRESS_SELECT (R288). -/
def execEgressSelect (p : Port) (s : State) : Host.Outcome State Fault Refusal := (s.egressSelectPort p.val).done

/-- FRAME_TX_START (R290), FRAME_TX_END (R262), GATE_CHANGE (R296), S_LANE_STALE_DROP (R292). -/
def execFrameTxStart (p : Port) (s : State) : Host.Outcome State Fault Refusal := (s.txStart p.val).done
def execFrameTxEnd (p : Port) (s : State) : Host.Outcome State Fault Refusal := (s.txEnd p.val).done
def execGateChange (p : Port) (s : State) : Host.Outcome State Fault Refusal := (s.gateChange p.val).done
def execSLaneStaleDrop (s : State) : Host.Outcome State Fault Refusal := s.dropStale.done

end Sys2Proof.Machine
end

