-- ==== Sys2Proof/Machine/Can.lean ====
section
/-!
DEFINITION. The commands of the CAN controllers (08_can_controllers.md): frames on the bus, errors, reference messages, requests, message
windows. Roadworks of a channel stand in Works.lean.
-/
namespace Sys2Proof.Machine

/-- The shared SOF counter (R345), on C28-C31. -/
def State.sofCount (s : State) (n : Nat) : Nat := if 28 ≤ n then s.can.sofc / 5 % 2 ^ 64 else 0

/-- Stamp and SOF counter of the frame on the bus. -/
def State.busSof (s : State) (n : Nat) : Stamp × Nat := (s.chan n).sof.getD (s.stamp, s.sofCount n)

/-- The bus is idle again for the channel. -/
def State.busFree (s : State) (n : Nat) : State := s.setChan n { s.chan n with busy := none, receiving := false, sof := none }

/-! ### Reception (R333, R334, R339, R356) -/

/-- Object `o` takes a received frame, or loses it (R333, R334). -/
def State.storeInObj (s : State) (n o : Nat) (r : CanRecord) : State :=
  if s.objCap n o < r.frame.data.length then s.canBump n 6
  else if s.objBit n 0x60 o then
    if bit (s.objCfg n o) 29 then (s.setObj n o { (s.chan n).obj o with held := r }).canBump n 5
    else (s.canBump n 4).canErr n 0 (p1 o ++ p4 r.frame.id)
  else (s.setObj n o { (s.chan n).obj o with held := r }).setObjBit n 0x60 o true

/-- Stores a received frame (R333, R339). -/
def State.storeFrame (s : State) (n : Nat) (r : CanRecord) : State :=
  let c := s.chan n
  if s.canMode n = 1 then
    let takes := fun (o : Nat) => s.objEn n o && (!s.objTx n o && idMatch r.frame (c.obj o).ide (c.obj o).id (c.obj o).mask)
    match (List.range 128).find? takes with
    | some o => s.storeInObj n o r
    | none => s.canBump n 7
  else if !c.filters.any (fun f => idMatch r.frame f.1 f.2.1 f.2.2) then s.canBump n 7
  else if s.rxRoom n r.frame then s.setChan n { c with rxq := c.rxq ++ [r] }
  else (s.canBump n 4).canErr n 0 (p1 0xFF ++ p4 r.frame.id)

/-- A valid frame that passed its secured PDU is stamped, stored and offered to the gateway (R333, R343, R344). -/
def State.frameAccepted (s : State) (n : Nat) (f : CanFrame) (sof : Stamp × Nat) (verified : Bool) : State :=
  let r : CanRecord := ⟨f, sof.1, s.seqOf (0x840 + n), sof.2, verified⟩
  (((s.tookSeq (0x840 + n)).refReceived n f sof.1.ns).storeFrame n r).offer ⟨.can f, 1, n, sof.1, 0x840 + n, verified⟩

/-- A valid frame is received (R333, R356). -/
def State.frameIn (s : State) (n : Nat) (f : CanFrame) (sof : Stamp × Nat) : State :=
  let s1 := ((s.canBump n 0).canBumpBy n 1 f.data.length).canHeard n f
  match s1.pduFor n false f with
  | none => s1.frameAccepted n f sof false
  | some (k, b) =>
    match s1.checkPdu n k b f.data with
    | (0, fv) => ((s1.setSpdu k { s1.spdu k with fv := fv }).canBump n 23).frameAccepted n f sof true
    | (check, _) => s1.secFail n k check

/-- REC after a frame received well (R328; ISO 11898-1: above 127 it becomes a value from 119 to 127). -/
def State.recDown (s : State) (n : Nat) : State :=
  let c := s.chan n
  if !(c.kind.onBus && s.canSends n) then s
  else if 127 < c.rxe then
    let (s1, v) := s.drawNat
    (s1.setChan n { c with rxe := 119 + v % 9 }).confine n
  else (s.setChan n { c with rxe := c.rxe - 1 }).confine n

/-- CAN_FRAME_RX: the channel listens, sends nothing, and its build has the format. -/
def State.canFrameRx (s : State) (n : Nat) (f : CanFrame) : State :=
  let c := s.chan n
  if !(c.kind.onBus || c.kind == .standby) || c.busy.isSome || s.canOp n = 3 || !s.canTakes n f then s
  else ((s.busFree n).frameIn n f (s.busSof n)).recDown n

/-! ### Sending (R335-R340) -/

/-- What the channel could offer, lowest arbitration value first: on equal values the reference message, the
ring messages, then the lower object (R340, R514). -/
def State.candidates (s : State) (n : Nat) : List (Contender × CanFrame) :=
  let c := s.chan n
  let ref := if c.refPending && s.refMay n then [(Contender.ref, s.refFrame n)] else []
  let objs := (s.pendingObjs n).map (fun o => (Contender.obj o, { (c.obj o).held.frame with ide := (c.obj o).ide, id := (c.obj o).id }))
  let rings := (s.ringFrames n).map (fun m => (Contender.ring m.1, m.2))
  let head := (c.txq.take 1).map (fun e => (Contender.queue, e.frame))
  if s.canSends n then
    sortBy (fun (a b : Contender × CanFrame) => decide (canRank a.2 ≤ canRank b.2)) (ref ++ (rings ++ (objs ++ head)))
  else []

/-- The payload that a contender's secured PDU keeps for its retries, and the state that keeps it. -/
def State.sealedOf (s : State) (n : Nat) : Contender → Option (List Byte)
  | .ref => none
  | .ring _ => none
  | .obj o => ((s.chan n).obj o).sealed
  | .queue => ((s.chan n).txq.head?).bind (fun e => e.sealed)
def State.keepSealed (s : State) (n : Nat) (what : Contender) (p : List Byte) : State :=
  match what with
  | .ref => s
  | .ring _ => s
  | .obj o => s.setObj n o { (s.chan n).obj o with sealed := some p }
  | .queue =>
    match (s.chan n).txq with
    | [] => s
    | e :: rest => s.setChan n { s.chan n with txq := { e with sealed := some p } :: rest }

/-- Takes a request or the head of the queue back. -/
def State.unrequest (s : State) (n : Nat) : Contender → State
  | .ref => s.setChan n { s.chan n with refPending := false }
  | .ring r => s.putRing r { s.ringOf r with out := none }
  | .obj o => s.clearRequest n o
  | .queue => s.setChan n { s.chan n with txq := (s.chan n).txq.drop 1 }

/-- An object's request has ended: its target frame may have new bytes. -/
def State.afterRequest (s : State) (n : Nat) : Contender → State
  | .obj o => s.targetSent n o
  | _ => s

/-- Is the frame one that the block itself makes: a reference or ring message? It is no secured PDU. -/
def Contender.isOwn : Contender → Bool
  | .ref => true
  | .ring _ => true
  | _ => false

/-- The first candidate that may contend, with the payload it sends (R340, R354, R355): one whose secured PDU may not be sent is
dropped. -/
def State.contend (s : State) (n : Nat) : List (Contender × CanFrame) → State × Option (Contender × CanFrame)
  | [] => (s, none)
  | (what, f) :: rest =>
    match s.sealedOf n what with
    | some p => (s, some (what, { f with data := p }))
    | none =>
      match (if what.isOwn then none else s.pduFor n true f) with
      | none => (s, some (what, f))
      | some (k, b) =>
        match s.sealPdu n k b f.data with
        | (s1, some p) => (s1.keepSealed n what p, some (what, { f with data := p }))
        | (s1, none) => State.contend ((s1.unrequest n what).afterRequest n what) n rest

/-- A frame lost arbitration or met an error (R335, R336, R338): single-shot and cancelled ones are not retried. -/
def State.attemptFailed (s : State) (n : Nat) (what : Contender) : State :=
  match what with
  | .ref => s
  | .ring _ => s
  | .obj o =>
    if s.objBit n 0x50 o then ((s.clearRequest n o).canBump n 9).targetSent n o
    else if bit (s.objCfg n o) 28 then ((s.clearRequest n o).txDrop n 1).targetSent n o
    else s
  | .queue => if s.flag .can (canReg n 4) 6 then (s.unrequest n .queue).txDrop n 1 else s

/-- CAN_ARBITRATION: the channel offers its lowest candidate, and wins or loses (R340). In internal loopback TX stays recessive: nothing leaves
the block, and nothing is lost (R330). -/
def State.canArbitration (s : State) (n : Nat) (won : Bool) : State :=
  let c := s.chan n
  if !(c.kind.onBus || c.kind == .standby) || c.busy.isSome || c.receiving then s
  else
    let s1 := s.setChan n { c with sof := some (s.stamp, s.sofCount n), sofSteps := s.can.steps }
    match (if c.kind.onBus then s1.contend n (s1.candidates n) else (s1, none)) with
    | (s2, none) => s2.setChan n { s2.chan n with receiving := !won, sof := if won then none else (s2.chan n).sof }
    | (s2, some (what, f)) =>
      if s.canOp n = 3 then s2.setChan n { s2.chan n with busy := some (what, f) }
      else if won then (s2.setChan n { s2.chan n with busy := some (what, f) }).send (.can n f)
      else ((s2.setChan n { s2.chan n with receiving := true }).canBump n 10).attemptFailed n what

/-- TDC_STATUS of a frame with a data phase (R327, R363). -/
def State.tdcMeasured (s : State) (n tdcv : Nat) : State := s.wr .can (canReg n 0x2C) (word tdcv)

/-- Does the channel measure its loop delay in the frame (R327)? DEDUCED (notes/assumptions/163.md): in every FD and XL frame. -/
def State.tdcOn (s : State) (n : Nat) (f : CanFrame) : Bool := s.flag .can (canReg n 0x14) 31 && (f.fdf || f.xlf)

/-- Is a measured delay out of range: TDCV + TDCO above 127 (R327)? -/
def State.tdcOver (s : State) (n tdcv : Nat) : Bool := decide (127 < tdcv + s.fld .can (canReg n 0x14) 6 0)

/-- The contender whose frame was sent is done (R335-R338, R347). -/
def State.sentBy (s : State) (n : Nat) (what : Contender) (r : CanRecord) : State :=
  match what with
  | .obj o =>
    let cancelled := s.objBit n 0x50 o
    let s1 := (s.clearRequest n o).setObj n o { (s.chan n).obj o with held := { r with frame := ((s.chan n).obj o).held.frame }, sealed := none }
    if cancelled then s1.canBump n 9 else s1
  | .queue => s.unrequest n .queue
  | .ring g => s.ringSent g r.frame
  | .ref =>
    let c := s.chan n
    ((s.setChan n { c with refPending := false, cycle := (c.cycle + 1) % 64, refSteps := c.sofSteps }).setFld .can (canReg n 0x88) 13 8 (c.cycle % 64)).canBump n 20

/-! ### Errors and states (R328) -/

/-- Code of an error kind in ERR_KIND, and its counter. -/
def errorCode : CanErrorKind → Nat
  | .bitDominant => 1
  | .bitRecessive => 2
  | .stuff => 3
  | .form => 4
  | .crc => 5
  | .ack => 6
  | .delay => 7
  | .exception => 8
def errorCounter : CanErrorKind → Nat
  | .bitDominant => 11
  | .bitRecessive => 11
  | .stuff => 12
  | .form => 13
  | .ack => 14
  | .crc => 15
  | .delay => 16
  | .exception => 18

/-- TEC and REC of a bus error, as ISO 11898-1 counts: 8 for the transmitter, 1 for a receiver, 8 for each further step. -/
def State.countError (s : State) (n : Nat) (sender : Bool) (e : CanError) : State :=
  let c := s.chan n
  if e.exempt || e.kind = .exception then s
  else if sender then s.setChan n { c with tec := c.tec + 8 + 8 * e.more }
  else s.setChan n { c with rxe := Nat.min 255 (c.rxe + 1 + 8 * e.more) }

/-- The error that the channel sees: with PEX_EN = 0 a protocol exception is a form error (R320); in a frame of its own whose measured delay is
out of range, an error of the data phase is that of the delay, and no other frame has one (R327). -/
def State.errorSeen (s : State) (n : Nat) (e : CanError) : CanError :=
  let late := e.dataPhase && (e.tdcv.any (fun v => s.tdcOver n v.val) && (s.chan n).busy.any (fun b => s.tdcOn n b.2))
  if late then { e with kind := .delay }
  else if e.kind = .delay then { e with kind := .bitRecessive }
  else if e.kind = .exception && !s.flag .can (canReg n 4) 7 then { e with kind := .form }
  else e

/-- CAN_BUS_ERROR (R320, R327, R328, R330). -/
def State.canError (s : State) (n : Nat) (e0 : CanError) : State :=
  let c := s.chan n
  let e := s.errorSeen n e0
  if !(c.kind.onBus || c.kind == .standby) then s
  else
    let sender := c.busy.isSome
    let s0 := match e.tdcv with
      | some v => s.tdcMeasured n v.val
      | none => s
    let s1 := (s0.canBump n (errorCounter e.kind)).setChan n { s0.chan n with errKind := errorCode e.kind, errData := e.dataPhase }
    let tdcv := s1.fld .can (canReg n 0x2C) 6 0
    let s2 := if e.kind = .exception then s1.canErr n 2 (p1 2 ++ p4 tdcv) else if e.kind = .delay then s1.canErr n 3 (p1 3 ++ p4 tdcv) else s1
    let active := c.kind.onBus && s.canSends n
    let silent := e.xl && (e.dataPhase && s.flag .can (canReg n 0x18) 30)
    let s3 := if active && e.kind ≠ .exception && !silent then s2.canBump n 17 else s2
    let s4 := if active then s3.countError n sender e else s3
    let s5 := match c.busy with
      | some (.ring r, _) => if e.kind = CanErrorKind.ack then (s4.busFree n).ringUnacked r else s4.busFree n
      | some (what, _) => (s4.busFree n).attemptFailed n what
      | none => s4.busFree n
    if c.kind.onBus && (e.kind = .exception || s.canOp n = 1) then s5.setCanKind n .integrating else s5.confine n

/-- CAN_TX_SUCCESS (R335, R343). A frame whose measured delay is out of range does not succeed: its first data-phase bit is an error (R327). -/
def State.canSent (s : State) (n : Nat) (tdcv : Fin 128) : State :=
  match (s.chan n).busy with
  | none => s
  | some (what, f) =>
    if s.tdcOn n f && s.tdcOver n tdcv.val then s.canError n ⟨.delay, true, f.xlf, some tdcv, false, 0⟩
    else
      let sof := s.busSof n
      let r : CanRecord := ⟨f, sof.1, s.seqOf (0x840 + n), sof.2, false⟩
      let s1 := (((s.busFree n).tookSeq (0x840 + n)).canBump n 2).canBumpBy n 3 f.data.length
      let s2 := if s.tdcOn n f then s1.tdcMeasured n tdcv.val else s1
      let s3 := (s2.setChan n { s2.chan n with tec := (s2.chan n).tec - 1 }).sentBy n what r
      let s4 := if s.canOp n = 3 || s.canOp n = 4 then s3.frameIn n f sof else s3
      (s4.afterRequest n what).confine n

/-- CAN_INTEGRATION_DONE, BUS_OFF_HOLD_EXPIRY, RECOVER, CAN_RECOVERY_DONE (R328). -/
def State.integrated (s : State) (n : Nat) : State :=
  if (s.chan n).kind = .integrating then (s.setCanKind n .errorActive).confine n else s
def State.busOffOver (s : State) (n : Nat) : State :=
  if (s.chan n).kind = .busOff && s.fld .can (canReg n 4) 15 8 ≠ 0 then s.setCanKind n .recovering else s
def State.recoverNow (s : State) (n : Nat) : State :=
  if (s.chan n).kind = .busOff && s.fld .can (canReg n 4) 15 8 = 0 then s.setCanKind n .recovering else s
def State.recovered (s : State) (n : Nat) : State :=
  if (s.chan n).kind = .recovering then (s.setChan n { s.chan n with tec := 0, rxe := 0 }).setCanKind n .errorActive else s

/-! ### Requests and reference messages -/

/-- TXQ_FLUSH (R338). -/
def State.flushQueue (s : State) (n : Nat) : State :=
  let c := s.chan n
  let keep := if c.sends .queue then c.txq.take 1 else []
  (s.setChan n { c with txq := keep }).canBumpBy n 9 (c.txq.length - keep.length)

/-- OBJ_TXRQ_WRITE and OBJ_TXCAN_WRITE: the objects whose bit is 1 in the value (R335, R336). -/
def objsIn (m : Nat) (v : Word) : List Nat := (bitsOf 32 v.toNat).map (fun i => 32 * m + i)
def State.requestObjs (s : State) (n m : Nat) (v : Word) : State := (objsIn m v).foldl (fun t o => t.requestObj n o) s
def State.cancelObj (s : State) (n o : Nat) : State :=
  if !s.objBit n 0x40 o then s
  else if (s.chan n).sends (.obj o) then s.setObjBit n 0x50 o true
  else ((s.clearRequest n o).canBump n 9).targetSent n o
def State.cancelObjs (s : State) (n m : Nat) (v : Word) : State := (objsIn m v).foldl (fun t o => t.cancelObj n o) s

/-- REF_MESSAGE_DUE (R348), REF_ROLE_TIMEOUT (R349). -/
def State.refDue (s : State) (n : Nat) : State :=
  if (s.chan n).ref ≠ .master then s
  else if s.refMay n then s.setChan n { s.chan n with refPending := true }
  else s.txDrop n 3
def State.refTimeout (s : State) (n : Nat) : State :=
  match (s.chan n).ref with
  | .backup => s.setRef n .master
  | .following => s.setRef n .wait
  | _ => s

/-- SOFC_CORR.LATCH on C28-C31 (R346). -/
def State.sofcLatch (s : State) (path : Path) (n : Nat) : State :=
  if n < 28 then s
  else
    let at_ := fun (off : Nat) => onPath path (canReg n off)
    ((s.wr64 .can (at_ 0xCC) (s.sofCount n)).wr64 .can (at_ 0xD4) s.stamp.ns).wr .can (at_ 0xDC) (word s.stamp.frac)

/-- SPDU_FV_WRITE: the halves of SPDU_FV, ignored while the PDU is enabled (R357, 00_scope.md R12). DESIGN CHOICE (notes/assumptions/164.md): what
FV_THRESH has seen starts anew with the written value. -/
def State.spduFvWrite (s : State) (path : Path) (n j : Nat) (half : Half) (v : Word) : State :=
  let k := s.pduBase n + j
  let addr := Block.can.base + canReg n (0x4008 + 0x10 * j)
  if s.pduCount n ≤ j || (s.spdu k).en then s
  else match half with
    | .lo => s.stageLow path addr v
    | .hi =>
      let low := s.lowFor path addr (word (s.spdu k).fv)
      (s.unstage path addr).setSpdu k { s.spdu k with fv := low.toNat + 2 ^ 32 * v.toNat, exceeded := false }

/-! ### Message windows (R362, R363) -/

/-- The register of a path's window. -/
def msgReg (path : Path) (n off : Nat) : Nat := onPath path (canReg n off)

/-- The data bytes of a path's window. -/
def State.msgData (s : State) (path : Path) (n : Nat) : List Byte := Sparse.get (fun _ => []) s.can.win (8 * n + pathIndex path)
def State.setMsgData (s : State) (path : Path) (n : Nat) (b : List Byte) : State :=
  { s with can := { s.can with win := Sparse.put (fun _ => []) s.can.win (8 * n + pathIndex path) b } }

/-- Ends a window command with a result. -/
def State.msgResult (s : State) (path : Path) (n result : Nat) : State := s.wr .can (msgReg path n 0x108) (word result)

/-- MSG_CTRL of a record. -/
def msgCtrl (r : CanRecord) : Word :=
  let f := r.frame
  word (2 ^ 31 * f.fdf.toNat + 2 ^ 30 * f.brs.toNat + 2 ^ 29 * f.xlf.toNat + 2 ^ 28 * f.rtr.toNat + 2 ^ 27 * f.esi.toNat +
    2 ^ 26 * f.sec.toNat + 2 ^ 25 * r.verified.toNat + canLen f)

/-- Copies a record into a path's window. -/
def State.showRecord (s : State) (path : Path) (n : Nat) (r : CanRecord) (mask : Nat) : State :=
  let f := r.frame
  let put := fun (t : State) (ov : Nat × Word) => t.wr .can (msgReg path n ov.1) ov.2
  let s1 := [(0x110, word (f.id + 2 ^ 31 * f.ide.toNat)), (0x114, word mask), (0x118, msgCtrl r), (0x11C, word (2 ^ 24 * f.vcid + 2 ^ 16 * f.sdt)),
    (0x120, word f.af), (0x124, lo32 r.stamp.ns), (0x128, hi32 r.stamp.ns), (0x12C, word r.stamp.frac), (0x130, word r.seq),
    (0x134, lo32 r.sofc), (0x138, hi32 r.sofc)].foldl put s
  (s1.setMsgData path n f.data).msgResult path n 0

/-- The frame that a path's window holds, with an identifier. -/
def State.windowFrame (s : State) (path : Path) (n : Nat) (ide : Bool) (id : Nat) : CanFrame :=
  let c := s.rd .can (msgReg path n 0x118)
  let x := s.rd .can (msgReg path n 0x11C)
  let len := field c 11 0
  { ide := ide, id := id, rtr := bit c 28, fdf := bit c 31, brs := bit c 30, xlf := bit c 29, sec := bit c 26, sdt := field x 23 16, vcid := field x 31 24,
    af := (s.rd .can (msgReg path n 0x120)).toNat, rlen := len, data := if bit c 28 then [] else padTo len (s.msgData path n) }

/-- The frame as it will be on the bus, for the checks of length and type: with the freshness and MAC of its transmit PDU. -/
def State.finalFrame (s : State) (n : Nat) (f : CanFrame) : CanFrame :=
  match s.pduFor n true f with
  | none => f
  | some (_, b) => { f with data := List.replicate (leAt b 0xA 2 + leAt b 3 1 / 8 + leAt b 2 1 / 8) 0 }

/-- Why a window command is refused whatever it is: no channel, or roadworks. -/
def State.msgClosed (s : State) (n : Nat) : Option Nat :=
  match (s.chan n).kind with
  | .absent => some 4
  | .roadworks => some 6
  | _ => if (s.canProto n) = 0 then some 4 else none

/-- MSG_SEL of a path: TARGET and INDEX. -/
def State.msgTarget (s : State) (path : Path) (n : Nat) : Nat := s.fld .can (msgReg path n 0x100) 31 30
def State.msgIndex (s : State) (path : Path) (n : Nat) : Nat := s.fld .can (msgReg path n 0x100) 6 0

/-- Does the build have the object, enabled or not? -/
def State.objExists (s : State) (n o : Nat) : Bool := s.canMode n == 1 && ((s.chan n).obj o).built

/-- READ; with `clear`, READ_CLR of an object. -/
def State.msgRead (s : State) (path : Path) (n : Nat) (clear : Bool) : State :=
  let o := s.msgIndex path n
  match s.msgClosed n with
  | some r => s.msgResult path n r
  | none =>
    match s.msgTarget path n with
    | 0 =>
      if !s.objExists n o then s.msgResult path n 4
      else
        let k := (s.chan n).obj o
        let r := if s.objDir n o then { k.held with frame := { k.held.frame with ide := k.ide, id := k.id } } else k.held
        let s1 := s.showRecord path n r k.mask
        if clear then s1.setObjBit n 0x60 o false else s1
    | 1 =>
      if clear || s.canMode n ≠ 2 then s.msgResult path n 4
      else match (s.chan n).txq with
        | e :: _ => s.showRecord path n { frame := e.frame } 0
        | [] => s.msgResult path n 1
    | 2 =>
      if clear || s.canMode n ≠ 2 then s.msgResult path n 4
      else match (s.chan n).rxq with
        | r :: _ => s.showRecord path n r 0
        | [] => s.msgResult path n 1
    | _ => s.msgResult path n 4

/-- WRITE: a transmit object that the host may write (R362, 09_gateway_and_culvert.md R375). -/
def State.msgWrite (s : State) (path : Path) (n : Nat) : State :=
  let o := s.msgIndex path n
  match s.msgClosed n with
  | some r => s.msgResult path n r
  | none =>
    let k := (s.chan n).obj o
    let f := s.windowFrame path n k.ide k.id
    let g := s.finalFrame n f
    if s.msgTarget path n ≠ 0 || !s.objExists n o || !s.objDir n o || (targetOf s.recs 1 n o).isSome then s.msgResult path n 4
    else if s.objBit n 0x40 o then s.msgResult path n 3
    else if !s.canTakes n g || s.objCap n o < g.data.length then s.msgResult path n 5
    else (s.setObj n o { k with held := { k.held with frame := f } }).msgResult path n 0

/-- POP: the head of the receive queue is read and released. -/
def State.msgPop (s : State) (path : Path) (n : Nat) : State :=
  match s.msgClosed n with
  | some r => s.msgResult path n r
  | none =>
    if s.canMode n ≠ 2 || s.msgTarget path n = 3 then s.msgResult path n 4
    else match (s.chan n).rxq with
      | [] => s.msgResult path n 1
      | r :: rest => (s.setChan n { s.chan n with rxq := rest }).showRecord path n r 0

/-- PUSH: the window joins the transmit queue. -/
def State.msgPush (s : State) (path : Path) (n : Nat) : State :=
  match s.msgClosed n with
  | some r => s.msgResult path n r
  | none =>
    let w := s.rd .can (msgReg path n 0x110)
    let f := s.windowFrame path n (bit w 31) (if bit w 31 then field w 28 0 else field w 10 0)
    if s.canMode n ≠ 2 || s.msgTarget path n = 3 then s.msgResult path n 4
    else if (s.chan n).kind = .standby then s.msgResult path n 8
    else if !s.canSends n then s.msgResult path n 7
    else if !s.canTakes n (s.finalFrame n f) then s.msgResult path n 5
    else if !s.txRoom n f then s.msgResult path n 2
    else (s.sendQueue n f).msgResult path n 0

/-! ### The commands -/

/-- CAN_FRAME_RX, CAN_ARBITRATION, CAN_TX_SUCCESS, CAN_BUS_ERROR. -/
def execCanFrameRx (ch : Fin 32) (f : CanFrame) (s : State) : Host.Outcome State Fault Refusal := (s.canFrameRx ch.val f).done
def execCanArbitration (ch : Fin 32) (won : Bool) (s : State) : Host.Outcome State Fault Refusal := (s.canArbitration ch.val won).done
def execCanTxSuccess (ch : Fin 32) (tdcv : Fin 128) (s : State) : Host.Outcome State Fault Refusal := (s.canSent ch.val tdcv).done
def execCanBusError (ch : Fin 32) (e : CanError) (s : State) : Host.Outcome State Fault Refusal := (s.canError ch.val e).done

/-- CAN_INTEGRATION_DONE, BUS_OFF_HOLD_EXPIRY, CAN_RECOVERY_DONE, RECOVER, TXQ_FLUSH. -/
def execCanIntegrationDone (ch : Fin 32) (s : State) : Host.Outcome State Fault Refusal := (s.integrated ch.val).done
def execBusOffHoldExpiry (ch : Fin 32) (s : State) : Host.Outcome State Fault Refusal := (s.busOffOver ch.val).done
def execCanRecoveryDone (ch : Fin 32) (s : State) : Host.Outcome State Fault Refusal := (s.recovered ch.val).done
def execCanRecover (ch : Fin 32) (s : State) : Host.Outcome State Fault Refusal := (s.awake (fun (t : State) => t.recoverNow ch.val)).done
def execCanTxqFlush (ch : Fin 32) (s : State) : Host.Outcome State Fault Refusal := (s.awake (fun (t : State) => t.flushQueue ch.val)).done

/-- OBJ_TXRQ_WRITE, OBJ_TXCAN_WRITE. -/
def execObjTxrqWrite (ch : Fin 32) (m : Fin 4) (value : Word) (s : State) : Host.Outcome State Fault Refusal := (s.awake (fun (t : State) => t.requestObjs ch.val m.val value)).done
def execObjTxcanWrite (ch : Fin 32) (m : Fin 4) (value : Word) (s : State) : Host.Outcome State Fault Refusal := (s.awake (fun (t : State) => t.cancelObjs ch.val m.val value)).done

/-- MSG_READ, MSG_WRITE, MSG_POP, MSG_PUSH, MSG_READ_CLR. -/
def execMsgRead (path : Path) (ch : Fin 32) (s : State) : Host.Outcome State Fault Refusal := (s.awake (fun (t : State) => t.msgRead path ch.val false)).done
def execMsgWrite (path : Path) (ch : Fin 32) (s : State) : Host.Outcome State Fault Refusal := (s.awake (fun (t : State) => t.msgWrite path ch.val)).done
def execMsgPop (path : Path) (ch : Fin 32) (s : State) : Host.Outcome State Fault Refusal := (s.awake (fun (t : State) => t.msgPop path ch.val)).done
def execMsgPush (path : Path) (ch : Fin 32) (s : State) : Host.Outcome State Fault Refusal := (s.awake (fun (t : State) => t.msgPush path ch.val)).done
def execMsgReadClr (path : Path) (ch : Fin 32) (s : State) : Host.Outcome State Fault Refusal := (s.awake (fun (t : State) => t.msgRead path ch.val true)).done

/-- SOFC_LATCH, REF_MESSAGE_DUE, REF_ROLE_TIMEOUT, SPDU_FV_WRITE. -/
def execSofcLatch (path : Path) (ch : Fin 32) (s : State) : Host.Outcome State Fault Refusal := (s.awake (fun (t : State) => t.sofcLatch path ch.val)).done
def execRefMessageDue (ch : Fin 32) (s : State) : Host.Outcome State Fault Refusal := (s.refDue ch.val).done
def execRefRoleTimeout (ch : Fin 32) (s : State) : Host.Outcome State Fault Refusal := (s.refTimeout ch.val).done
def execSpduFvWrite (path : Path) (ch : Fin 32) (j : Fin 1024) (half : Half) (value : Word) (s : State) : Host.Outcome State Fault Refusal :=
  (s.awake (fun (t : State) => t.spduFvWrite path ch.val j.val half value)).done

end Sys2Proof.Machine
end

