-- ==== Sys2Proof/Machine/Keys.lean ====
section
/-!
DEFINITION. The commands of the key ledger (12_keys_and_attestation.md R468-R490) and of its random number generator (R482-R484).
ROLLBACK and REVOKE, which ask about the golden slot, stand in FuseKeys.lean.
-/
namespace Sys2Proof.Machine

/-- Does a slot serve an ordinary command: held, no second half, no attestation secret (R462, R480)? -/
def State.keyServes (s : State) (h : Nat) : Bool := s.keyUsable h && !attrAttest (s.keySlot h).attr

/-- Is slot `h` a wrap-only AES key (R469)? -/
def State.isWrapKey (s : State) (h : Nat) : Bool :=
  s.keyServes h && (decide (attrAlg (s.keySlot h).attr ≤ 1) && attrUsage (s.keySlot h).attr == 2)

/-- May the wrap key in slot `h` wrap a key of `n` bytes (R471)? -/
def State.wrapsLength (s : State) (h n : Nat) : Bool := attrAlg (s.keySlot h).attr ≠ 0 || decide (n ≤ 16)

/-- Bytes of a wrapped key (R471): all key lengths are multiples of 8. -/
def wrappedBytes (alg : Nat) : Nat := (keyBytes alg).getD 0 + 8

/-- The checks of a command that writes TGT with an attribute word (R470): target empty, word legal, word allowed. -/
def State.writeChecks (s : State) (r : KeyReq) (w : Word) : List (Bool × Nat) :=
  [(s.targetEmpty r.tgt (attrAlg w), 1), (attrLegal w && s.policyAllows r.tgt w, 3)]

/-- The value written, RESULT 0. -/
def State.keyFilled (s : State) (r : KeyReq) (w : Word) (value : List Byte) : KeyAnswer := ⟨s.fillSlot r.tgt w value, 0, []⟩

/-- The unwrapped value of IMPORT (R471): bad data, and a length that the algorithm does not have, end with 0x5. -/
def State.keyUnwrapped (s : State) (r : KeyReq) (w : Word) : Option (List Byte) → KeyAnswer
  | none => ⟨s, 5, []⟩
  | some v => if v.length = (keyBytes (attrAlg w)).getD 0 then s.keyFilled r w v else ⟨s, 5, []⟩

/-- GENERATE (R469). -/
def State.doGenerate (s : State) (path : Path) : State :=
  s.keyCommand path 1 (fun (r : KeyReq) (t : State) =>
    let w := attrFor r.attrIn 0
    t.keyChecked (t.writeChecks r w ++ [(t.rngOk, 7)]) (fun (u : State) =>
      let k := u.freshKey (attrAlg w)
      k.1.keyFilled r w k.2))

/-- The checks of IMPORT (R469-R471). -/
def State.importChecks (s : State) (r : KeyReq) (w : Word) : List (Bool × Nat) :=
  [((keyBytes (attrAlg w)).isNone || r.len == wrappedBytes (attrAlg w), 8), (s.isWrapKey r.src, 2)] ++
    (s.writeChecks r w ++ [(s.wrapsLength r.src ((keyBytes (attrAlg w)).getD 0), 3), (attrDistrict w == attrDistrict (s.keySlot r.src).attr, 4)])

/-- IMPORT (R469, R471) into a slot with attribute word `w`. A length for a code that is not an algorithm is not checked: such a command ends
with 0x3. -/
def State.importKey (s : State) (r : KeyReq) (w : Word) (w5649 : Bool) : KeyAnswer :=
  s.keyChecked (s.importChecks r w) (fun (u : State) => u.keyUnwrapped r w (aesUnwrap w5649 (u.keySlot r.src).value (r.input.take r.len)))

/-- IMPORT (R469). -/
def importRun (w5649 : Bool) (r : KeyReq) (t : State) : KeyAnswer := t.importKey r (attrFor r.attrIn 1) w5649
def State.doImport (s : State) (path : Path) (w5649 : Bool) : State := s.keyCommand path 2 (importRun w5649)

/-- EXPORT (R472). -/
def State.doExport (s : State) (path : Path) (w5649 : Bool) : State :=
  s.keyCommand path 3 (fun (r : KeyReq) (t : State) =>
    let a := (t.keySlot r.tgt).attr
    t.keyChecked
      [(t.isWrapKey r.src && t.keyUsable r.tgt, 2), (t.wrapsLength r.src ((keyBytes (attrAlg a)).getD 0), 3),
        (attrDistrict a == attrDistrict (t.keySlot r.src).attr, 4), (attrOrigin a == 1 && attrExportable a, 6)]
      (fun (u : State) => ⟨u, 0, (aesWrap w5649 (u.keySlot r.src).value (u.keySlot r.tgt).value).take (wrappedBytes (attrAlg a))⟩))

/-- May DERIVE fill a key of the algorithm (R477)? -/
def derivable (alg : Nat) : Bool := decide (alg ≤ 3) || (alg == 8 || alg == 9)

/-- The value that DERIVE gives (R478). -/
def derivedValue (ki : List Byte) (drv : List Byte) (alg : Nat) : List Byte :=
  derive108 ki (drv.take 16) (byte alg :: slice drv 16 31) (8 * (keyBytes alg).getD 0)

/-- DERIVE (R469, R477, R478). -/
def State.doDerive (s : State) (path : Path) : State :=
  s.keyCommand path 4 (fun (r : KeyReq) (t : State) =>
    let w := attrFor r.attrIn 2
    let a := (t.keySlot r.src).attr
    let sourceOk := if r.root then t.flag .key 0 5 else t.keyServes r.src && (attrAlg a == 8 || attrAlg a == 9)
    t.keyChecked
      ((sourceOk, 2) :: (t.writeChecks r w ++ [(derivable (attrAlg w), 3), (r.root || attrDistrict w == attrDistrict a, 4)]))
      (fun (u : State) => u.keyFilled r w (derivedValue (if r.root then u.key.root else (u.keySlot r.src).value) r.drv (attrAlg w))))

/-- Bytes of a public key and of a digest on the curve of an algorithm (R469). -/
def pointBytes (alg : Nat) : Nat := if isP384 alg then 96 else 64
def digestBytes (alg : Nat) : Nat := if isP384 alg then 48 else 32

/-- Is slot `h` an ECDH key, an ECDSA key, any EC key pair? -/
def State.isEcdh (s : State) (h : Nat) : Bool := s.keyServes h && (attrAlg (s.keySlot h).attr == 6 || attrAlg (s.keySlot h).attr == 7)
def State.isEcdsa (s : State) (h : Nat) : Bool := s.keyServes h && (attrAlg (s.keySlot h).attr == 4 || attrAlg (s.keySlot h).attr == 5)
def State.isEcPair (s : State) (h : Nat) : Bool := s.keyServes h && isEcAlg (attrAlg (s.keySlot h).attr)

/-- ECDH (R469): the length must suit the curve of SRC; a peer that is no point on the curve gives 0x8 at the end. -/
def State.doEcdh (s : State) (path : Path) : State :=
  s.keyCommand path 5 (fun (r : KeyReq) (t : State) =>
    let w := attrFor r.attrIn 2
    let a := (t.keySlot r.src).attr
    let fits := if t.isEcdh r.src then r.len == pointBytes (attrAlg a) else r.len == 64 || r.len == 96
    t.keyChecked
      ([(fits, 8), (t.isEcdh r.src, 2)] ++ (t.writeChecks r w ++
        [(attrAlg w == (if isP384 (attrAlg a) then 9 else 8), 3), (attrDistrict w == attrDistrict a, 4)]))
      (fun (u : State) =>
        match ecShared (isP384 (attrAlg a)) (u.keySlot r.src).value (r.input.take r.len) with
        | none => ⟨u, 8, []⟩
        | some x => u.keyFilled r w x))

/-- PUBKEY (R469). -/
def State.doPubkey (s : State) (path : Path) : State :=
  s.keyCommand path 6 (fun (r : KeyReq) (t : State) =>
    let alg := attrAlg (t.keySlot r.tgt).attr
    t.keyChecked [(t.isEcPair r.tgt, 2)]
      (fun (u : State) => ⟨u, 0, padTo (pointBytes alg) (ecPublic (isP384 alg) (u.keySlot r.tgt).value)⟩))

/-- ERASE (R469): a second half is no target; an empty slot stays empty. -/
def State.doErase (s : State) (path : Path) : State :=
  s.keyCommand path 7 (fun (r : KeyReq) (t : State) =>
    t.keyChecked [(!attrPair (t.keySlot r.tgt).attr, 2)] (fun (u : State) => ⟨(u.emptySlot r.tgt).1, 0, []⟩))

/-- SIGN (R469). -/
def State.doSign (s : State) (path : Path) : State :=
  s.keyCommand path 8 (fun (r : KeyReq) (t : State) =>
    let alg := attrAlg (t.keySlot r.tgt).attr
    let fits := if t.isEcdsa r.tgt then r.len == digestBytes alg else r.len == 32 || r.len == 48
    t.keyChecked [(fits, 8), (t.isEcdsa r.tgt, 2), (t.rngOk, 7)] (fun (u : State) =>
      ⟨{ u with free := u.free + 1, key := { u.key with requests := u.key.requests + 1 } }, 0,
        padTo (pointBytes alg) (ecSign (isP384 alg) (u.keySlot r.tgt).value (r.input.take r.len) u.free)⟩))

/-- The measurement record in force (R475). -/
def State.measured (s : State) : List Byte := bytesOf (s.rds .key 0x100 44)

/-- The number of the next ATTEST or PROVENANCE answer (R480, R497). -/
def State.nextAnswer (s : State) : State := s.wr .key 0x18 (s.rd .key 0x18 + 1)

/-- The attestation record up to its MAC (R480). -/
def State.attestation (s : State) (src : Nat) (nonce : List Byte) : List Byte :=
  [0x46, 0x56, 0x41, 0x54, 1, 1, 0x20, 0x01] ++ (padTo 32 nonce ++ (s.measured ++ (leBytes 4 s.epoch ++ (leBytes 4 (s.rd .key 0x18).toNat ++
    (leBytes 4 (s.rd .key 0x14).toNat ++ (leBytes 4 src ++ leBytes 8 s.nowNs))))))

/-- ATTEST (R480). -/
def State.doAttest (s : State) (path : Path) : State :=
  s.keyCommand path 9 (fun (r : KeyReq) (t : State) =>
    t.keyChecked [(t.keyUsable r.src, 2), (attrAttest (t.keySlot r.src).attr, 0xD)] (fun (u : State) =>
      let v := u.nextAnswer
      let m := v.attestation r.src (r.input.take 32)
      ⟨v.bump .key 0x420, 0, m ++ padTo 48 (hmac384 (u.keySlot r.src).value m)⟩))

/-- The provenance statement up to its signature (R481). -/
def State.provenance (s : State) (tgt : Nat) (nonce : List Byte) : List Byte :=
  let k := s.keySlot tgt
  let alg := attrAlg k.attr
  let pubDigest := if isEcAlg alg then sha384 (padTo (pointBytes alg) (ecPublic (isP384 alg) k.value)) else []
  [0x46, 0x56, 0x50, 0x53, 1, 2, 0x80, 0x01] ++ (padTo 32 nonce ++ (leBytes 2 tgt ++ ([0, 0] ++ (leBytes 4 k.attr.toNat ++ (padTo 48 pubDigest ++
    (s.measured ++ (leBytes 4 (s.rd .key 0x18).toNat ++ (leBytes 4 (s.rd .key 0x14).toNat ++ leBytes 8 s.nowNs))))))))

/-- PROVENANCE (R481). -/
def State.doProvenance (s : State) (path : Path) : State :=
  s.keyCommand path 0xA (fun (r : KeyReq) (t : State) =>
    let a := (t.keySlot r.tgt).attr
    t.keyChecked [(!attrPair a && !attrAttest a, 2), (attrValid a && (attrOrigin a == 0 && !attrExportable a), 0xE), (t.rngOk, 7)]
      (fun (u : State) =>
        let v := { u.nextAnswer with free := u.free + 1, key := { u.key with requests := u.key.requests + 1 } }
        let m := v.provenance r.tgt (r.input.take 32)
        ⟨v.bump .key 0x428, 0, m ++ padTo 96 (ecSign true identityKey (sha384 m) u.free)⟩))

/-- RANDOM (R469). -/
def State.doRandom (s : State) (path : Path) : State :=
  s.keyCommand path 0xB (fun (r : KeyReq) (t : State) =>
    t.keyChecked [(decide (1 ≤ r.len) && decide (r.len ≤ 384), 8), (t.rngOk, 7)] (fun (u : State) =>
      let d := u.drbg r.len
      ⟨d.1, 0, d.2⟩))

/-! ### Boot records and firmware -/

/-- The bytes of a boot record (R486). -/
def bootRecord (sequence active count : Nat) (table : List Byte) : List Byte :=
  let b := [0x46, 0x56, 0x42, 0x52] ++ (leBytes 4 sequence ++ ([byte active, byte count] ++ (List.replicate 6 0 ++
    (padTo 448 table ++ List.replicate 44 0))))
  b ++ leBytes 4 (crc32c b)

/-- The boot record in flash that wins; none: all zero. -/
def State.bootInForce (s : State) : List Byte :=
  match s.bootWinner with
  | some i => s.bootCopy i
  | none => List.replicate 512 0

/-- A flash write of a key command: erases `n` bytes and writes `bs`; a fault names other bytes that flash then holds. The flag
says that the flash reports no failure. -/
def State.keyFlash (s : State) (fault : Option FlashFault) (step off n : Nat) (bs : List Byte) : State × Bool :=
  let e := s.flashErase off n
  match fault with
  | some f => if f.step.val = step then (e.flashPut off (f.held.take n), !f.reported) else (e.flashPut off bs, true)
  | none => (e.flashPut off bs, true)

/-- Writes both boot record copies, first the one that did not win, with the same content (R489, R490); stops at a failure. -/
def State.writeBoot (s : State) (fault : Option FlashFault) (first active count : Nat) (table : List Byte) : State × Bool :=
  let rec_ := bootRecord (leAt s.bootInForce 4 4 + 1) active count table
  let loser := if s.bootWinner = some 0 then 1 else 0
  let a := s.keyFlash fault first (0x1000 * loser) 0x1000 rec_
  if a.2 then a.1.keyFlash fault (first + 1) (0x1000 * (1 - loser)) 0x1000 rec_ else a

/-- The bank that FW_INSTALL writes (R489): the one that is not running; without firmware, the one that is not active. -/
def State.idleBank (s : State) : Nat :=
  match s.key.fw with
  | some f => 1 - f.bank
  | none => 1 - bootActive s.bootInForce

/-- FW_INSTALL (R489). -/
def State.doFwInstall (s : State) (path : Path) (fault : Option FlashFault) : State :=
  s.keyCommand path 0xD (fun (_ : KeyReq) (t : State) =>
    let bank := t.idleBank
    match t.checkFirmware 0x3400000 bank with
    | (_, none) => ⟨t, 0xA, []⟩
    | (_, some fw) =>
      let pkg := t.flashBytes 0x3400000 (256 + leAt (t.flashBytes 0x3400000 256) 0x0C 4)
      let a := t.keyFlash fault 0 (bankOffset bank) 0x100000 pkg
      if !a.2 then ⟨a.1, 0xB, []⟩
      else if (a.1.checkFirmware (bankOffset bank) bank).2.isNone then ⟨a.1, 0xA, []⟩
      else
        let b := a.1.writeBoot fault 1 bank (leAt t.bootInForce 9 1) (bootTable t.bootInForce)
        if !b.2 then ⟨b.1, 0xB, []⟩
        else ⟨(b.1.wr .key 0 (setBit (b.1.rd .key 0) 4 true)).emit 1414 (p2 bank ++ p4 fw.version), 0, []⟩)

/-- A fuse that fails verification ends a command with 0xB and sets KEY_ERR.FUSE (R492). -/
def State.fuseError (s : State) (path : Path) (op : Nat) : KeyAnswer := ⟨s.keyErr 5 (pathIndex path) op 0xB, 0xB, []⟩

/-- PROVISION (R490). -/
def State.doProvision (s : State) (path : Path) (fault : Option FlashFault) (fuseFails : Bool) : State :=
  s.keyCommand path 0xE (fun (_ : KeyReq) (t : State) =>
    t.keyChecked [(t.fuses.anchor.isNone, 0xC)] (fun (u : State) =>
      let b := u.flashBytes 0x3F00000 452
      let w := u.writeBoot fault 0 (bootActive u.bootInForce) (leAt b 0 1) (b.drop 4)
      if !w.2 then ⟨w.1, 0xB, []⟩
      else if fuseFails then w.1.fuseError path 0xE
      else ⟨{ w.1 with fuses := { w.1.fuses with anchor := some (sha384 (b.drop 4)) } }, 0, []⟩))

/-! ### Random numbers and slots filled at a load -/

/-- GEN_AT_LOAD: an empty slot that waits for its key is generated; without random numbers it stays empty (R467). -/
def State.doGenAtLoad (s : State) (h : Nat) : State :=
  if !s.key.due.contains h then s
  else
    let s1 := { s with key := { s.key with due := s.key.due.filter (fun x => x != h) } }
    match policyOf s1.recs h with
    | none => s1
    | some (allow, flags) =>
      let w := attrFor allow 0
      if !flags.testBit 0 || !s1.targetEmpty h (attrAlg w) then s1
      else if s1.rngOk then
        let k := s1.freshKey (attrAlg w)
        k.1.fillSlot h w k.2
      else s1.keyErr 2 0 1 7

/-- A health test fails (R484): 1 repetition count, 2 adaptive proportion, 3 start-up. -/
def State.doHealthFail (s : State) (test : Nat) : State :=
  let s1 := { s with key := { s.key with rng := .failed, requests := 0 } }
  ((s1.bump .key 0x410).keyErr 1 0 0 0).emit 1411 (p1 test)

/-- The start-up test passes (R484): the DRBG is instantiated and seeded. -/
def State.doStartupDone (s : State) : State :=
  if s.rngOk then s
  else ({ s with key := { s.key with rng := .ok, requests := 0, seededAt := s.nowNs } }).emit 1412 []

/-- The DRBG reseeds (R483). -/
def State.doReseed (s : State) : State :=
  if s.rngOk then { s with key := { s.key with requests := 0, seededAt := s.nowNs } }.bump .key 0x418 else s

/-! ### The commands -/

/-- KEY_CMD GENERATE. -/
def execKeyGenerate (path : Path) (s : State) : Host.Outcome State Fault Refusal := (s.awake (fun (t : State) => t.doGenerate path)).done

/-- KEY_CMD DERIVE. -/
def execKeyDerive (path : Path) (s : State) : Host.Outcome State Fault Refusal := (s.awake (fun (t : State) => t.doDerive path)).done

/-- KEY_CMD ECDH. -/
def execKeyEcdh (path : Path) (s : State) : Host.Outcome State Fault Refusal := (s.awake (fun (t : State) => t.doEcdh path)).done

/-- KEY_CMD PUBKEY. -/
def execKeyPubkey (path : Path) (s : State) : Host.Outcome State Fault Refusal := (s.awake (fun (t : State) => t.doPubkey path)).done

/-- KEY_CMD ERASE. -/
def execKeyErase (path : Path) (s : State) : Host.Outcome State Fault Refusal := (s.awake (fun (t : State) => t.doErase path)).done

/-- KEY_CMD SIGN. -/
def execKeySign (path : Path) (s : State) : Host.Outcome State Fault Refusal := (s.awake (fun (t : State) => t.doSign path)).done

/-- KEY_CMD ATTEST. -/
def execKeyAttest (path : Path) (s : State) : Host.Outcome State Fault Refusal := (s.awake (fun (t : State) => t.doAttest path)).done

/-- KEY_CMD PROVENANCE. -/
def execKeyProvenance (path : Path) (s : State) : Host.Outcome State Fault Refusal := (s.awake (fun (t : State) => t.doProvenance path)).done

/-- KEY_CMD RANDOM. -/
def execKeyRandom (path : Path) (s : State) : Host.Outcome State Fault Refusal := (s.awake (fun (t : State) => t.doRandom path)).done

/-- KEY_CMD IMPORT. -/
def execKeyImport (path : Path) (w5649 : Bool) (s : State) : Host.Outcome State Fault Refusal := (s.awake (fun (t : State) => t.doImport path w5649)).done

/-- KEY_CMD EXPORT. -/
def execKeyExport (path : Path) (w5649 : Bool) (s : State) : Host.Outcome State Fault Refusal := (s.awake (fun (t : State) => t.doExport path w5649)).done

/-- KEY_CMD FW_INSTALL, PROVISION. -/
def execKeyFwInstall (path : Path) (fault : Option FlashFault) (s : State) : Host.Outcome State Fault Refusal := (s.awake (fun (t : State) => t.doFwInstall path fault)).done
def execKeyProvision (path : Path) (fault : Option FlashFault) (fuseFails : Bool) (s : State) : Host.Outcome State Fault Refusal :=
  (s.awake (fun (t : State) => t.doProvision path fault fuseFails)).done

/-- GEN_AT_LOAD_DONE, ENTROPY_HEALTH_FAIL, ENTROPY_STARTUP_DONE, DRBG_RESEED. -/
def execGenAtLoadDone (slot : Fin 8192) (s : State) : Host.Outcome State Fault Refusal := (s.doGenAtLoad slot.val).done
def execEntropyHealthFail (test : Fin 3) (s : State) : Host.Outcome State Fault Refusal := (s.doHealthFail (test.val + 1)).done
def execEntropyStartupDone (s : State) : Host.Outcome State Fault Refusal := s.doStartupDone.done
def execDrbgReseed (s : State) : Host.Outcome State Fault Refusal := s.doReseed.done

end Sys2Proof.Machine
end

