-- ==== Sys2Proof/Machine/Dbg.lean ====
section
/-!
DEFINITION. The debug port but for REG_ACCESS (15_management_events_health.md R593-R595): challenge and response, the IEEE 1149.1
instructions.
-/
namespace Sys2Proof.Machine

/-- DEV_ID and the identification code (R593; 00_scope.md R5). -/
def State.devId (s : State) : Nat := 0x8828 * 2 ^ 16 + s.fuses.revision
def State.idWord (s : State) : Word := word (2 ^ 28 * (s.fuses.revision % 16) + 2 ^ 12 * 0x8828 + 1)

/-- DBG_CHALLENGE (R594): without random numbers it reads as zeros, and no response answers it. -/
def State.dbgChallenged (s : State) : State :=
  if s.lmp.held then s
  else if !s.rngOk then { s with mgt := { s.mgt with challenge := none } }.send (.tapBytes (List.replicate 64 0))
  else
    let r := s.drbg 32
    let hash := (padTo 48 (sha384 (bytesOf (s.rds .key 0x200 24)))).take 8
    let c := padTo 32 r.2 ++ (hash ++ (leBytes 4 s.devId ++ (leBytes 4 s.mgt.refusals ++ List.replicate 16 0)))
    { r.1 with mgt := { r.1.mgt with challenge := some c } }.send (.tapBytes c)

/-- Does a response unlock the port (R594, R595)? -/
def State.dbgAccepted (s : State) (b : List Byte) : Bool :=
  let i := leAt b 0 1
  match s.mgt.challenge with
  | none => false
  | some c => decide (s.mgt.refusals < 8) && (s.rngOk && (decide (i < s.key.signers) && (!s.fuses.signerRevoked.testBit i &&
      ecdsaVerify (slice s.key.signerTable (112 * i + 16) 96) (sha384 c) (slice b 4 48) (slice b 52 48))))

/-- DBG_RESPONSE (R595): the challenge is answered, whatever the answer. -/
def State.dbgAnswered (s : State) (response : List Byte) : State :=
  let b := padTo 100 response
  let s0 := { s with mgt := { s.mgt with challenge := none } }
  if s.lmp.held then s
  else if s.dbgAccepted b then
    let i := leAt b 0 1
    let first := !s.mgt.opened
    let s1 := { s0 with mgt := { s0.mgt with unlocked := true, opened := true, signer := i } }
    let s2 := (s1.wr .key 0 (setBit (s1.rd .key 0) 7 true)).emit 1608 (p1 1 ++ p1 i)
    if first then s2.formRoot 4 else s2
  else
    let n := s.mgt.refusals + 1
    ({ s0 with mgt := { s0.mgt with refusals := n } }.bump .mgt 0x458).emit 1609 (p4 n)

/-- DBG_LOCK (R593, R595). -/
def State.dbgLocked (s : State) : State :=
  if s.lmp.held || !s.mgt.unlocked then s
  else ({ s with mgt := { s.mgt with unlocked := false } }).emit 1608 (p1 0 ++ p1 s.mgt.signer)

/-- What a one-bit register shifts out (IEEE 1149.1): 0 first, then each bit one shift later. -/
def oneBit (tdi : List Bool) : List Bool := (false :: tdi).take tdi.length

/-- What the boundary-scan register has sampled, `n` bits: its order is not the spec's, so each bit is free. -/
def State.sampled (s : State) (n : Nat) : State × List Bool :=
  let r := s.drawBytes n
  (r.1, r.2.map (fun b => b.toNat.testBit 0))

/-- SAMPLE/PRELOAD: the sample shifts out, the preload in. -/
def State.scanSample (s : State) (tdi : List Bool) : State :=
  let r := s.sampled tdi.length
  ({ r.1 with mgt := { r.1.mgt with scan := tdi } }).send (.tapBits r.2)

/-- EXTEST: the preload drives the balls, then what is shifted in; LOCKED, it acts as BYPASS. -/
def State.scanExtest (s : State) (tdi : List Bool) : State :=
  if !s.mgt.unlocked then s.send (.tapBits (oneBit tdi))
  else (((s.send (.scan s.mgt.scan)).scanSample tdi)).send (.scan tdi)

/-! ### The commands -/

/-- DBG_CHALLENGE, DBG_RESPONSE, DBG_LOCK (R593-R595). -/
def execDbgChallenge (s : State) : Host.Outcome State Fault Refusal := s.dbgChallenged.done
def execDbgResponse (response : List Byte) (s : State) : Host.Outcome State Fault Refusal := (s.dbgAnswered response).done
def execDbgLock (s : State) : Host.Outcome State Fault Refusal := s.dbgLocked.done

/-- IDCODE, BYPASS, SAMPLE_PRELOAD, EXTEST (R593). -/
def execIdcode (s : State) : Host.Outcome State Fault Refusal := (s.send (.tapWord s.idWord)).done
def execBypass (tdi : List Bool) (s : State) : Host.Outcome State Fault Refusal := (s.send (.tapBits (oneBit tdi))).done
def execSamplePreload (tdi : List Bool) (s : State) : Host.Outcome State Fault Refusal := (s.scanSample tdi).done
def execExtest (tdi : List Bool) (s : State) : Host.Outcome State Fault Refusal := (s.scanExtest tdi).done

end Sys2Proof.Machine
end

