-- ==== Sys2Proof/Machine/Gwy.lean ====
section
/-!
DEFINITION. The commands of the fieldbus gateway (09_gateway_and_culvert.md R364-R391, R401).
-/
namespace Sys2Proof.Machine

/-- Is the frame for an ACF ingress rule (R384)? -/
def State.acfRule (s : State) (a : Bool × Nat × Frame) : Option (List Byte) :=
  if a.1 then none
  else (gwyRec (s.recsAt a.2.2.epoch) 5 a.2.1).filter (fun b => (leAt b 0 1).testBit 0 && (leAt b 0 1).testBit 1)

/-- The gateway takes the oldest frame on lane 22 that `mine` names, and runs on it. -/
def State.takeArrived (s : State) (mine : Bool × Nat × Frame → Bool) (run : State → Bool × Nat × Frame → State) : State :=
  match s.gwy.arrived.find? mine with
  | none => s
  | some a => run { s with gwy := { s.gwy with arrived := s.gwy.arrived.erase a } } a

/-- CULVERT_RX (R385), CULVERT_REWRAP (R387), ACF_RX (R391). -/
def State.culvertRx (s : State) : State :=
  s.takeArrived (fun a => !a.1 && (s.acfRule a).isNone) (fun (t : State) a => t.culvertIn a.2.1 a.2.2)
def State.culvertRewrap (s : State) : State :=
  s.takeArrived (fun a => a.1) (fun (t : State) a => t.culvertAgain a.2.1 a.2.2)
def State.acfRx (s : State) : State :=
  s.takeArrived (fun a => (s.acfRule a).isSome) (fun (t : State) a => t.acfIn a.2.1 ((s.acfRule a).getD []) a.2.2)

/-- CULVERT_HOLD_EXPIRY (R386, R391): a sequence state forgets its last number. -/
def State.holdExpiry (s : State) (rule st : Nat) : State :=
  match gwyRec s.recs 5 rule with
  | none => s
  | some b => if leAt b 8 2 = 0 then s else s.setIng rule st { s.ing rule st with takeAny := true }

/-- Whole milliseconds since a time, at most 0xFFFF. -/
def State.msSince (s : State) (at_ : Nat) : Nat := Nat.min 0xFFFF ((s.nowNs - at_) / 1000000)

/-- A write of GWY_SIG_SEL latches the rule's registers for the path (R401). -/
def State.sigSelWrite (s : State) (path : Path) (v : Word) : State :=
  let s1 := s.store path .gwy 0x20 v
  let k := s1.fld .gwy 0x20 12 0
  let g := s.sig k
  let kind := match g.kind with
    | .never => 0
    | .fresh => 1
    | .timedOut => 2
    | .outOfRange => 3
  let found := (gwyRec s.recs 2 k).isSome
  let age := if g.kind = .never && g.at_ = 0 then 0 else s.msSince g.at_
  (s1.wr .gwy (onPath path 0x24) (if found then word (2 ^ 31 + 2 ^ 29 * kind + age) else 0)).wr64 .gwy (onPath path 0x28)
    (if found then twos 64 g.value else 0)

/-- A write of GWY_CUL_SEL latches the rule's registers for the path (R401). -/
def State.culSelWrite (s : State) (path : Path) (v : Word) : State :=
  let s1 := s.store path .gwy 0x30 v
  let w := s1.rd .gwy 0x30
  let k := field w 11 0
  if bit w 31 then
    let q := s.ing k (bit w 30).toNat
    let found := (gwyRec s.recs 5 k).isSome
    (s1.wr .gwy (onPath path 0x34) (if found then word q.last else 0)).wr .gwy (onPath path 0x38)
      (if found then word (2 ^ 31 + 2 ^ 30 * q.takeAny.toNat) else 0)
  else
    let q := s.culSeq k
    let found := (gwyRec s.recs 4 k).isSome
    (s1.wr .gwy (onPath path 0x34) (if found then word q.next else 0)).wr .gwy (onPath path 0x38)
      (if found then word (2 ^ 31 + 2 ^ 29 * q.exhausted.toNat) else 0)

/-! ### The commands -/

/-- SIGNAL_TIMEOUT (R374), TARGET_FRAME_PERIOD (R376). -/
def execSignalTimeout (rule : Fin 8192) (s : State) : Host.Outcome State Fault Refusal := (s.signalTimeout rule.val).done
def execTargetFramePeriod (target : Fin 1024) (s : State) : Host.Outcome State Fault Refusal := (s.targetPeriod target.val).done

/-- LOOKASIDE_CRYPTO_DONE, CULVERT_RX, CULVERT_REWRAP, CULVERT_HOLD_EXPIRY. -/
def execLookasideCryptoDone (s : State) : Host.Outcome State Fault Refusal := s.cryptoDone.done
def execCulvertRx (s : State) : Host.Outcome State Fault Refusal := s.culvertRx.done
def execCulvertRewrap (s : State) : Host.Outcome State Fault Refusal := s.culvertRewrap.done
def execCulvertHoldExpiry (rule : Fin 4096) (which : Fin 2) (s : State) : Host.Outcome State Fault Refusal := (s.holdExpiry rule.val which.val).done

/-- ACF_WAIT_EXPIRY (R390), ACF_RX (R391). -/
def execAcfWaitExpiry (stream : Fin 256) (s : State) : Host.Outcome State Fault Refusal := (s.sendAcf stream.val).done
def execAcfRx (s : State) : Host.Outcome State Fault Refusal := s.acfRx.done

/-- GWY_SEL_WRITE (R401): of GWY_CUL_SEL, or of GWY_SIG_SEL. -/
def execGwySelWrite (path : Path) (culvert : Bool) (value : Word) (s : State) : Host.Outcome State Fault Refusal :=
  (s.awake (fun (t : State) => if culvert then t.culSelWrite path value else t.sigSelWrite path value)).done

end Sys2Proof.Machine
end

