-- ==== Sys2Proof/Machine/HbrOps.lean ====
section
/-!
DEFINITION. The host bridge (11_host_bridge.md R425-R453): queue pairs, transmit and receive rings, announcements, link epochs, the
mailbox and the firmware's answers. Writes through BAR0 and the address windows stand in Access.lean.
-/
namespace Sys2Proof.Machine

/-- Offset of a register of queue pair `q`, and of counter `k` of it (R456, R457). -/
def qpReg (q off : Nat) : Nat := 0x10000 + 0x40 * q + off
def qpCounter (q k : Nat) : Nat := 0x20000 + 0x40 * q + 8 * k

/-- A queue pair, and the state with it replaced. -/
def State.qp (s : State) (q : Nat) : QueuePair := Sparse.get (fun _ => {}) s.hbr.qp q
def State.setQp (s : State) (q : Nat) (v : QueuePair) : State := { s with hbr := { s.hbr with qp := Sparse.put (fun _ => {}) s.hbr.qp q v } }

/-- Sets an HBR_ERR bit with its event (R455). -/
def State.hbrErr (s : State) (i : Nat) : State := s.setErr .hbr 8 i (1280 + i) []

/-- The link epoch. -/
def State.linkEpoch (s : State) : Nat := (s.rd .hbr 0xC).toNat

/-- MODE, FLUME and PRIO of a queue; its ring sizes and indices. -/
def State.qpMode (s : State) (q : Nat) : Nat := s.fld .hbr (qpReg q 0) 30 29
def State.qpFlume (s : State) (q : Nat) : Nat := s.fld .hbr (qpReg q 0) 10 0
def State.qpPrio (s : State) (q : Nat) : Nat := s.fld .hbr (qpReg q 0) 23 21
def State.qpSize (s : State) (q : Nat) (tx : Bool) : Nat := 2 ^ (if tx then s.fld .hbr (qpReg q 0x20) 3 0 else s.fld .hbr (qpReg q 0x20) 7 4)
def State.qpTail (s : State) (q : Nat) (tx : Bool) : Nat := s.fld .hbr (qpReg q (if tx then 0x28 else 0x30)) 14 0
def State.qpHead (s : State) (q : Nat) (tx : Bool) : Nat := s.fld .hbr (qpReg q (if tx then 0x2C else 0x34)) 14 0

/-- Entries that belong to the device (R437). -/
def State.posted (s : State) (q : Nat) (tx : Bool) : Nat :=
  (s.qpTail q tx + s.qpSize q tx - s.qpHead q tx) % s.qpSize q tx

/-- The device has used `n` entries. -/
def State.useEntries (s : State) (q : Nat) (tx : Bool) (n : Nat) : State :=
  s.wr .hbr (qpReg q (if tx then 0x2C else 0x34)) (word ((s.qpHead q tx + n) % s.qpSize q tx))

/-- Host address of entry `i` of a ring, from its base; entries of `size` bytes. -/
def State.entryAddr (s : State) (q : Nat) (tx : Bool) (size i : Nat) : Nat :=
  s.rd64 .hbr (qpReg q (if tx then 0x8 else 0x10)) + size * (i % s.qpSize q tx)

/-- The district whose host queue set contains `q` in the epoch in force (R435). -/
def State.queueDistrict (s : State) (q : Nat) : Option Nat :=
  ((regionRecs s.recs 6).find? (fun r => decide (r.key < 4096) && (decide (leAt r.body 12 2 ≤ q) && decide (q < leAt r.body 12 2 + leAt r.body 14 2)))).map
    (fun r => r.key)

/-! ### Announcements (R444) -/

/-- Sends a vector, or leaves it pending while it is masked. -/
def State.sendVector (s : State) (v : Nat) : State :=
  if Sparse.get (fun _ => false) s.hbr.unmasked v then s.send (.msix v)
  else { s with hbr := { s.hbr with irq := Sparse.put (fun _ => false) s.hbr.irq v true } }

/-- The head writeback (R457). -/
def State.headWriteback (s : State) (q : Nat) : State :=
  let a := s.rd64 .hbr (qpReg q 0x18)
  if a = 0 then s
  else s.send (.host a (leBytes 4 (s.qpHead q true) ++ (leBytes 4 (s.qpHead q false) ++ (leBytes 4 s.linkEpoch ++ [0, 0, 0, 0]))))

/-- Announces everything completed. -/
def State.announceNow (s : State) (q : Nat) : State :=
  (s.setQp q { s.qp q with fresh := 0 }).sendVector (s.fld .hbr (qpReg q 0x24) 31 21)

/-- `n` more entries are completed (R444, R445): head writeback, then the vector when it is due. -/
def State.completed (s : State) (q n : Nat) (atOnce : Bool) : State :=
  let s1 := (s.headWriteback q).setQp q { s.qp q with fresh := (s.qp q).fresh + n }
  let w := s.rd .hbr (qpReg q 0x24)
  let count := field w 19 12
  if bit w 20 && (count = 0 || atOnce || count ≤ (s1.qp q).fresh) then s1.announceNow q else s1

/-! ### Transmit (R439-R441) -/

/-- DONE byte of this link epoch. -/
def State.doneByte (s : State) : Byte := byte (128 + s.linkEpoch % 128)

/-- The write-back of a transmit descriptor: stamp and sequence with EOP only (R439). -/
def txWriteback (stamp : Stamp) (status : Nat) (done : Byte) (seq : Nat) : List Byte :=
  leBytes 8 stamp.ns ++ (leBytes 2 stamp.frac ++ ([byte status, done] ++ leBytes 4 seq))

/-- Writes back `n` descriptors from HEAD with a status and uses them up. -/
def State.writeBackAll (s : State) (q n status : Nat) : State :=
  let head := s.qpHead q true
  let s1 := (List.range n).foldl (fun (t : State) i =>
    t.send (.host (s.entryAddr q true 32 (head + i) + 16) (txWriteback {} status s.doneByte 0))) s
  s1.useEntries q true n

/-- A transmit side stops (R438): ERR codes 6 read failed, 7 timeout, 8 bad descriptor. -/
def State.stopTx (s : State) (q n status err : Nat) : State :=
  let s1 := s.writeBackAll q n status
  let s2 := (s1.setQp q { s1.qp q with tx := .stopped, err := err }).completed q n false
  (s2.hbrErr 5).emit 1297 (p2 q ++ p1 err)

/-- Queues whose transmit side contends for the fetch engine. -/
def State.contends (s : State) (q : Nat) : Bool :=
  (s.qp q).tx = .running && (s.qpMode q == 0 && (decide (0 < s.posted q true) && !(s.qp q).short))

/-- The queue that the fetch engine serves next (R441): highest PRIO, round-robin within one. -/
def State.fetchNext (s : State) : Option Nat :=
  let qs := (List.range 1024).filter (fun q => s.contends q)
  let top := (qs.map (fun q => s.qpPrio q)).foldl Nat.max 0
  let mine := qs.filter (fun q => s.qpPrio q == top)
  let last := Sparse.get (fun _ => 1023) s.hbr.served top
  match mine.find? (fun q => decide (last < q)) with
  | some q => some q
  | none => mine.head?

/-- Is a descriptor good (R439)? -/
def TxGood (d : TxDesc) : Bool :=
  d.clean && (decide (1 ≤ d.len.val) && (decide (d.len.val ≤ 9216) && (decide (d.flags.toNat < 4) && decide (d.cls.toNat < 8))))

/-- A frame is sent to classification (R440, R194; 05_classification.md R195): stamped as it enters lane 21. -/
def State.hostFrame (s : State) (q cls : Nat) (bytes : List Byte) : State :=
  let f : Frame := { id := s.cis.nextId, bytes := bytes, rxLen := bytes.length + 4, ingress := 29, origin := 29, lane := 21, stamp := s.stamp,
                     source := 0x1000 + q, seq := s.seqOf (0x1000 + q), epoch := s.epoch, district := s.queueDistrict q, cls := some cls,
                     maxLen := 9216 }
  let s1 := (s.tookSeq (0x1000 + q)).freshId
  if f.district.isSome then s1.enter f else (s1.bumps .prs [prsCounter 29 0, prsCounter 29 3]).prsErr 2 29 0 []

/-- DMA_TX_FETCH (R440, R441): the engine reads the frame at HEAD of the queue it serves next. -/
def State.txFetch (s : State) (q : Nat) (descs : List TxDesc) : State :=
  if s.hbr.link ≠ .up || s.fetchNext ≠ some q then s
  else
    let s0 := { s with hbr := { s.hbr with served := Sparse.put (fun _ => 1023) s.hbr.served (s.qpPrio q) q } }
    let ds := descs.take (s.posted q true)
    let found := (ds.take 17).findIdx? (fun d => d.flags.toNat.testBit 0)
    let n := match found with
      | some i => i + 1
      | none => Nat.min 17 ds.length
    let mine := ds.take n
    let total := (mine.map (fun d => d.len.val)).sum
    if ds.isEmpty then s
    else if mine.any (fun d => !TxGood d) then s0.stopTx q n 3 8
    else if 16 < n then s0.stopTx q n 4 8
    else if found.isNone then s0.setQp q { s0.qp q with short := true }
    else if total < 14 || 9216 < total then s0.stopTx q n 3 8
    else if mine.any (fun d => d.data.isNone) then s0.stopTx q n 1 6
    else
      let bytes := mine.flatMap (fun d => padTo d.len.val (d.data.getD []))
      let cls := (mine.head?.map (fun d => d.cls.toNat)).getD 0
      let head := s0.qpHead q true
      let seq := s0.seqOf (0x1000 + q)
      let s1 := ((s0.hostFrame q cls bytes).bump .hbr (qpCounter q 0)).bumpBy .hbr (qpCounter q 1) bytes.length
      let s2 := (List.range n).foldl (fun (t : State) i =>
        let last := decide (i + 1 = n)
        t.send (.host (s0.entryAddr q true 32 (head + i) + 16)
          (txWriteback (if last then s0.stamp else {}) 0 s0.doneByte (if last then seq else 0)))) s1
      (s2.useEntries q true n).completed q n (mine.any (fun d => d.flags.toNat.testBit 1))

/-- DMA_CPL_TIMEOUT (R438): the reads of the first `n` descriptors' frame, or of the descriptors, time out. -/
def State.txTimeout (s : State) (q n : Nat) : State :=
  if (s.qp q).tx = .running && (s.qpMode q == 0 && decide (n ≤ s.posted q true)) then s.stopTx q n 2 7 else s

/-! ### Receive (R442, R443) -/

/-- The copy at the head of lane 21: the first that has crossed. -/
def State.hostHead (s : State) : Option Copy := s.cis.copies.find? (fun c => c.outLane == 21 && s.crossed c)

/-- A receive buffer counts only with a legal length (R442). -/
def rxRoomOf (d : RxDesc) : Nat := if 64 ≤ d.len.val && d.len.val ≤ 16384 && d.len.val % 64 = 0 then d.len.val else 0

/-- Buffers that hold `n` bytes whole: how many of the list. -/
def buffersFor : List RxDesc → Nat → Option Nat
  | _, 0 => some 0
  | [], _ => none
  | d :: ds, n => (buffersFor ds (n - rxRoomOf d)).map (fun k => k + 1)

/-- FLAGS of a received frame (R442), from metadata byte 0x05. -/
def rxFlags (cls : Nat) (last verified : Bool) (flags : Nat) : Nat :=
  cls % 8 + 8 * last.toNat + 16 * verified.toNat + 32 * (flags.testBit 1).toNat + 64 * (flags.testBit 0).toNat

/-- Writes a frame into buffers, oldest first: payload, then the descriptor's write-back (R442, R445). -/
def State.writeRx (s : State) (q : Nat) (f : Frame) (cls : Nat) : List RxDesc → Nat → List Byte → State
  | [], _, _ => s
  | d :: ds, i, bs =>
    let n := Nat.min (rxRoomOf d) bs.length
    let last := decide (bs.length ≤ n)
    let body := leBytes 2 n ++ (leBytes 2 (if last then f.bytes.length else 0) ++ (leBytes 2 f.source ++ (leBytes 8 f.stamp.ns ++ (leBytes 2 f.stamp.frac ++
      ([byte (rxFlags cls last f.verified f.flags), s.doneByte] ++ leBytes 4 f.seq)))))
    State.writeRx ((s.send (.host d.addr (bs.take n))).send (.host (s.entryAddr q false 32 i + 10) body)) q f cls ds (i + 1) (bs.drop n)

/-- HOST_RX_FRAME (R443). -/
def State.hostRx (s : State) (descs : List RxDesc) : State :=
  match s.hostHead with
  | none => s
  | some c =>
    let q := match c.dest with
      | .host q => q
      | _ => 0
    let h := s.frameOf c
    let f := h.frame
    let s1 := s.takeCopy c.id
    if h.failed then s1
    else if !(s.qp q).rx || s.qpMode q ≠ 0 then s1.bump .hbr (qpCounter q 5)
    else match buffersFor (descs.take (s.posted q false)) f.bytes.length with
      | none => (s1.bump .hbr (qpCounter q 4)).hbrErr 6
      | some n =>
        let s2 := s1.writeRx q f c.cls (descs.take n) (s.qpHead q false) f.bytes
        (((s2.bump .hbr (qpCounter q 2)).bumpBy .hbr (qpCounter q 3) f.bytes.length).useEntries q false n).completed q n false

/-- Takes the item at RD of a flume and releases it. -/
def State.takeItem (s : State) (f : Nat) : State × Option FlumeItem :=
  let fl := s.flume f
  match fl.head with
  | none => (s, none)
  | some i =>
    let rd := (fl.rd + i.slots) % 2 ^ 32
    let fl1 : Flume := { fl with rd := rd, rd2 := rd, stale := false, staleArmed := true }
    ((s.setFlume f fl1.releasedRead).bump .flm (flumeReg f 0x50), some i)

/-- QUEUE_ENGINE_ITEM (R443, R452): a stale reply is released and counted without being written. -/
def State.engineItem (s : State) (q : Nat) : State :=
  let f := s.qpFlume q
  if !(s.qp q).rx || s.qpMode q = 0 || s.posted q false = 0 || s.flumeConsumer f ≠ 5 then s
  else match s.takeItem f with
    | (_, none) => s
    | (s1, some i) =>
      if s.qpMode q = 2 && leAt i.bytes 8 4 ≠ s.linkEpoch then s1.bump .hbr 0x440
      else
        let size := if s.qpMode q = 1 then 32 else 256
        let s2 := (s1.send (.host (s.entryAddr q false size (s.qpHead q false)) (padTo size i.bytes))).bump .hbr (qpCounter q 6)
        (s2.useEntries q false 1).completed q 1 false

/-! ### Queue pair control (R437, R438) -/

/-- The first unmet condition of EN, coded as QP_STATUS.ERR (R438, R458). -/
def State.qpRefusal (s : State) (q : Nat) (w : Word) : Nat :=
  let bad := fun (off align : Nat) => decide (s.rd64 .hbr (qpReg q off) % align ≠ 0)
  let mode := field w 30 29
  let f := field w 10 0
  let size := s.rd .hbr (qpReg q 0x20)
  let sizes := decide (3 ≤ field size 3 0) && decide (3 ≤ field size 7 4)
  let role := if mode = 1 then 1 else 4
  if s.hbr.link ≠ .up then 1
  else if bad 0x8 64 || bad 0x10 64 || bad 0x18 16 || !sizes then 2
  else if (s.queueDistrict q).isNone then 3
  else if mode = 0 then 0
  else if !s.flumePresent f || s.flumeRole f ≠ role || s.flumeConsumer f ≠ 5 then 4
  else if (List.range 1024).any (fun k => k ≠ q && (s.flag .hbr (qpReg k 0) 31 && (s.qpMode k ≠ 0 && s.qpFlume k == f))) then 5
  else 0

/-- A write ignored in HOLD (R447). -/
def State.doorbellIgnored (s : State) : State := (s.bump .hbr 0x428).hbrErr 4

/-- A write of QP_CTL with EN = 1 (R438, R457, R458). -/
def State.qpEnable (s : State) (q : Nat) (v : Word) : State :=
  if s.hbr.link = .hold then s.doorbellIgnored
  else if s.flag .hbr (qpReg q 0) 31 then s
  else
    let s1 := s.store .host .hbr (qpReg q 0) (setBit v 31 false)
    match s1.qpRefusal q (s1.rd .hbr (qpReg q 0)) with
    | 0 =>
      let s2 := ((s1.setFld .hbr (qpReg q 0) 31 31 1).wr .hbr (qpReg q 0x2C) 0).wr .hbr (qpReg q 0x34) 0
      s2.setQp q { tx := .running, rx := true }
    | e => s1.setQp q { s1.qp q with err := e }

/-- Drops the copies queued on lane 21 that `mine` names, counted in hbr.epoch.rx. -/
def State.dropHostCopies (s : State) (mine : Copy → Bool) : State :=
  let gone := fun (c : Copy) => c.outLane == 21 && mine c
  (s.dropCopies gone).bumpBy .hbr 0x438 (s.cis.copies.filter gone).length

/-- Does a copy go to queue `q`? -/
def Copy.toQueue (c : Copy) (q : Nat) : Bool :=
  match c.dest with
  | .host k => k == q
  | _ => false

/-- A write of QP_CTL with EN = 0 (R438): bit 31 of `v` counts as 0. While EN = 1 it changes nothing else. -/
def State.qpDisable (s : State) (q : Nat) (v : Word) : State :=
  if s.flag .hbr (qpReg q 0) 31 then
    ((s.setFld .hbr (qpReg q 0) 31 31 0).setQp q { s.qp q with tx := .disabled, rx := false, fresh := 0, short := false }).dropHostCopies
      (fun c => c.toQueue q)
  else s.store .host .hbr (qpReg q 0) (setBit v 31 false)

/-- A TAIL write (R437, R447). -/
def State.qpTailWrite (s : State) (q : Nat) (tx : Bool) (v : Word) : State :=
  let off := qpReg q (if tx then 0x28 else 0x30)
  if s.hbr.link = .hold then s.doorbellIgnored
  else if s.qpSize q tx ≤ field v 14 0 then s.bump .hbr 0x428
  else
    let s1 := s.wr .hbr off (word (field v 14 0))
    if tx then s1.setQp q { s1.qp q with short := false } else s1

/-! ### Link epochs (R447-R449) -/

/-- Code of a link state (R458). -/
def HostLink.code : HostLink → Nat
  | .down => 0
  | .hold => 1
  | .up => 2

/-- Moves the host link to a state, raising E1296 on a change. -/
def State.setHostLink (s : State) (new : HostLink) : State :=
  if s.hbr.link = new then s
  else
    ({ s with hbr := { s.hbr with link := new } }).emit 1296
      (p1 s.hbr.link.code ++ (p1 new.code ++ (p4 s.linkEpoch ++ (p1 s.hbr.speed ++ p1 s.hbr.width))))

/-- The window, mailbox and queue pair registers return to their reset values, and every vector is masked (R448, 17_register_map.md R644). -/
def State.functionReset (s : State) : State :=
  let inside := fun (k : Nat) => (decide (0x100 ≤ k) && decide (k < 0x400)) || (decide (0x10000 ≤ k) && decide (k < 0x20000))
  let f := s.regs.hbr
  { s with
    regs := { s.regs with hbr := { f with word := Sparse.clear inside f.word } },
    hbr := { s.hbr with unmasked := [], irq := [], qp := [] } }

/-- The link epoch ends (R448). -/
def State.endHostEpoch (s : State) : State :=
  let queued := s.cis.copies.any (fun c => c.outLane == 21)
  let any := queued || (!s.hbr.held.isEmpty || !s.hbr.irq.isEmpty)
  let s1 := (s.wr .hbr 0xC (s.rd .hbr 0xC + 1)).dropHostCopies (fun _ => true)
  let qs : Sparse QueuePair := s1.hbr.qp.map (fun e => (e.1, { e.2 with tx := .disabled, rx := false, fresh := 0, short := false }))
  let s2 := { s1 with hbr := { s1.hbr with held := [], irq := [], holdoff := true, qp := qs.filter (fun e => e.2 ≠ {}) } }
  let s3 := (List.range 1024).foldl (fun (t : State) q => if t.flag .hbr (qpReg q 0) 31 then t.setFld .hbr (qpReg q 0) 31 31 0 else t) s2
  let s4 := s3.wrs .hbr 0x300 (List.replicate 64 0)
  if any then s4.hbrErr 9 else s4

/-- PCIE_LINK_DOWN (R447, R448). -/
def State.pcieDown (s : State) (why : PcieDown) : State :=
  let s1 := match s.hbr.link with
    | .down => s
    | _ =>
      let t := (s.endHostEpoch).bump .hbr 0x468
      ({ t with hbr := { t.hbr with speed := 0, width := 0 } }).setHostLink .down
  if why = .dataLink then s1 else s1.functionReset

/-- PCIE_LINK_UP (R447). -/
def State.pcieUp (s : State) (speed width : Nat) : State :=
  if s.hbr.link ≠ .down then s
  else
    let s1 := { s with hbr := { s.hbr with speed := speed, width := width } }
    s1.setHostLink (if s.hbr.holdoff then .hold else .up)

/-- HBR_HOLDOFF_EXPIRY (R447). -/
def State.hostHoldoff (s : State) : State :=
  let s1 := { s with hbr := { s.hbr with holdoff := false } }
  if s.hbr.link = .hold then s1.setHostLink .up else s1

/-! ### The mailbox (R450-R453) -/

/-- HBR_MBX_CMD SEND (R451). -/
def State.mbxSend (s : State) (v : Word) : State :=
  if field v 31 28 ≠ 1 then s
  else
    let len := field v 8 0
    let result := fun (t : State) (r : Nat) => t.wr .hbr 0x204 (word r)
    if len < 16 || 256 < len || len % 4 ≠ 0 then result s 3
    else match s.flumeWithRole 3 with
      | none => result s 2
      | some f =>
        let b := overwrite ((bytesOf (s.rds .hbr 0x300 64)).take len) 8 (leBytes 4 s.linkEpoch)
        match s.flumeOffer f 0 b with
        | (s1, true) => result (s1.bump .hbr 0x448) 0
        | (s1, false) => result ((s1.bump .hbr 0x450).hbrErr 7) 1

/-- The firmware replies to a request (R450, R452, R453). -/
def State.mbxReply (s : State) (req : List Byte) (status : Nat) (body : List Byte) : State :=
  match s.flumeWithRole 4 with
  | none => s
  | some f =>
    (s.flumeOffer f 0 (req.take 2 ++ (leBytes 2 (16 + body.length) ++ (slice req 4 8 ++ (leBytes 2 status ++ ([0, 0] ++ body)))))).1

/-- The firmware takes the request at the head of the mailbox flume when it runs and `mine` names its TYPE; `serve` gives the state,
STATUS and body. -/
def State.mbxServe (s : State) (mine : Nat → Bool) (serve : State → List Byte → State × Nat × List Byte) : State :=
  match s.flumeWithRole 3 with
  | none => s
  | some f =>
    match s.takeItem f with
    | (_, none) => s
    | (s1, some i) =>
      if s.mgt.state ≠ .running || !mine (leAt i.bytes 0 2) then s
      else
        let r := serve s1 i.bytes
        r.1.mbxReply i.bytes r.2.1 r.2.2

/-- Flash bytes (02_ikiem_images.md R47), and the boundaries of its slots. -/
def flashSize : Nat := 0x4000000
def slotBounds : List Nat := [0x400000, 0x1400000, 0x2400000, 0x3400000]

/-- Flash offset of an image slot. -/
def slotBase : Slot → Nat
  | .g => 0x400000
  | .a => 0x1400000
  | .b => 0x2400000

/-- STATUS for a range of flash (R453): below 0x0040_0000, beyond the flash or across a boundary, in a slot being staged from. -/
def State.rangeStatus (s : State) (off len : Nat) (write : Bool) : Nat :=
  let staging : List Slot := match s.img.state with
    | .staging => match s.fld .img 0x20 1 0 with
      | 0 => [.a]
      | 1 => [.b]
      | 2 => [.g]
      | _ => (s.img.conf.map (fun c => c.slot)).toList
    | _ => []
  if off < 0x400000 then 5
  else if flashSize < off + len || slotBounds.any (fun b => decide (off < b) && decide (b < off + len)) then 3
  else if write && staging.any (fun x => decide (off < slotBase x + 0x1000000) && decide (slotBase x < off + len)) then 6
  else 0

/-- FLASH_ERASE (R453). A device error leaves the bytes that `fault` names. -/
def State.serveErase (s : State) (fault : Option (List Byte)) (req : List Byte) : State × Nat × List Byte :=
  let off := leAt req 16 4
  let len := leAt req 20 4
  if leAt req 2 2 ≠ 24 || req.length ≠ 24 || len = 0 || len % 0x10000 ≠ 0 || off % 0x10000 ≠ 0 then (s, 2, [])
  else match s.rangeStatus off len true with
    | 0 =>
      match fault with
      | none => (s.flashErase off len, 0, [])
      | some held => (s.flashPut off (held.take len), 4, [])
    | e => (s, e, [])

/-- FLASH_WRITE (R453). -/
def State.serveWrite (s : State) (fault : Option (List Byte)) (req : List Byte) : State × Nat × List Byte :=
  let off := leAt req 16 4
  let data := req.drop 24
  if leAt req 2 2 ≠ req.length || req.length < 28 || 256 < req.length then (s, 2, [])
  else match s.rangeStatus off data.length true with
    | 0 =>
      match fault with
      | none => (s.flashPut off data, 0, [])
      | some held => (s.flashPut off (held.take data.length), 4, [])
    | e => (s, e, [])

/-- FLASH_READ (R453). -/
def State.serveRead (s : State) (fails : Bool) (req : List Byte) : State × Nat × List Byte :=
  let off := leAt req 16 4
  let len := leAt req 20 4
  if leAt req 2 2 ≠ 24 || req.length ≠ 24 || len < 4 || 232 < len || len % 4 ≠ 0 then (s, 2, [])
  else match s.rangeStatus off len false with
    | 0 => if fails then (s, 4, []) else (s, 0, s.flashBytes off len)
    | e => (s, e, [])

/-- PING, and any TYPE that the firmware does not know (R453). -/
def State.servePing (s : State) (req : List Byte) : State × Nat × List Byte :=
  if leAt req 0 2 = 1 then (if leAt req 2 2 = 16 && req.length = 16 then (s, 0, []) else (s, 2, [])) else (s, 1, [])

end Sys2Proof.Machine
end

