-- ==== Sys2Proof/Machine/Hbr.lean ====
section
/-!
DEFINITION. The commands of the host bridge (11_host_bridge.md), but for writes through BAR0 and the address windows (Access.lean).
-/
namespace Sys2Proof.Machine

/-- QP_ENABLE, QP_DISABLE, QP_TAIL_WRITE (R437, R438). -/
def execQpEnable (q : Fin 1024) (value : Word) (s : State) : Host.Outcome State Fault Refusal := (s.awake (fun (t : State) => t.qpEnable q.val value)).done
def execQpDisable (q : Fin 1024) (value : Word) (s : State) : Host.Outcome State Fault Refusal := (s.awake (fun (t : State) => t.qpDisable q.val value)).done
def execQpTailWrite (q : Fin 1024) (tx : Bool) (value : Word) (s : State) : Host.Outcome State Fault Refusal := (s.awake (fun (t : State) => t.qpTailWrite q.val tx value)).done

/-- DMA_TX_FETCH, DMA_CPL_TIMEOUT (R438-R441). -/
def execDmaTxFetch (q : Fin 1024) (descs : List TxDesc) (s : State) : Host.Outcome State Fault Refusal := (s.txFetch q.val descs).done
def execDmaCplTimeout (q : Fin 1024) (n : Fin 17) (s : State) : Host.Outcome State Fault Refusal := (s.txTimeout q.val n.val).done

/-- HOST_RX_FRAME, QUEUE_ENGINE_ITEM (R443). -/
def execHostRxFrame (descs : List RxDesc) (s : State) : Host.Outcome State Fault Refusal := (s.hostRx descs).done
def execQueueEngineItem (q : Fin 1024) (s : State) : Host.Outcome State Fault Refusal := (s.engineItem q.val).done

/-- IRQ_MODERATION_EXPIRY (R444). -/
def State.moderationOver (s : State) (q : Nat) : State :=
  let w := s.rd .hbr (qpReg q 0x24)
  if bit w 20 && (field w 11 0 ≠ 0 && decide (0 < (s.qp q).fresh)) then s.announceNow q else s
def execIrqModerationExpiry (q : Fin 1024) (s : State) : Host.Outcome State Fault Refusal := (s.moderationOver q.val).done

/-- MSIX_UNMASK (R444). -/
def State.unmask (s : State) (v : Nat) : State :=
  let pending := Sparse.get (fun _ => false) s.hbr.irq v
  let s1 := { s with hbr := { s.hbr with unmasked := Sparse.put (fun _ => false) s.hbr.unmasked v true, irq := Sparse.put (fun _ => false) s.hbr.irq v false } }
  if pending then s1.send (.msix v) else s1
def execMsixUnmask (vector : Fin 2048) (s : State) : Host.Outcome State Fault Refusal := (s.unmask vector.val).done

/-- PCIE_LINK_DOWN, PCIE_LINK_UP, HBR_HOLDOFF_EXPIRY (R447). -/
def execPcieLinkDown (why : PcieDown) (s : State) : Host.Outcome State Fault Refusal := (s.pcieDown why).done
def execPcieLinkUp (speed : Fin 16) (width : Fin 8) (s : State) : Host.Outcome State Fault Refusal := (s.pcieUp speed.val width.val).done
def execHbrHoldoffExpiry (s : State) : Host.Outcome State Fault Refusal := s.hostHoldoff.done

/-- MBX_SEND (R451). -/
def execMbxSend (value : Word) (s : State) : Host.Outcome State Fault Refusal := (s.awake (fun (t : State) => t.mbxSend value)).done

/-- PING, FLASH_ERASE, FLASH_WRITE, FLASH_READ (R453). -/
def execFwPing (s : State) : Host.Outcome State Fault Refusal :=
  (s.mbxServe (fun t => t ≠ 0x10 && (t ≠ 0x11 && t ≠ 0x12)) (fun (t : State) req => t.servePing req)).done
def execFlashErase (fault : Option (List Byte)) (s : State) : Host.Outcome State Fault Refusal :=
  (s.mbxServe (fun t => t == 0x10) (fun (t : State) req => t.serveErase fault req)).done
def execFlashWrite (fault : Option (List Byte)) (s : State) : Host.Outcome State Fault Refusal :=
  (s.mbxServe (fun t => t == 0x11) (fun (t : State) req => t.serveWrite fault req)).done
def execFlashRead (fails : Bool) (s : State) : Host.Outcome State Fault Refusal :=
  (s.mbxServe (fun t => t == 0x12) (fun (t : State) req => t.serveRead fails req)).done

/-- AER_ERROR (R456). -/
def State.aer (s : State) (uncorrectable : Bool) : State := if uncorrectable then (s.bump .hbr 0x460).hbrErr 8 else s.bump .hbr 0x458
def execAerError (uncorrectable : Bool) (s : State) : Host.Outcome State Fault Refusal := (s.aer uncorrectable).done

end Sys2Proof.Machine
end

