-- ==== Sys2Proof/Machine/Flm.lean ====
section
/-!
DEFINITION. The commands of the flumes (10_flumes.md).
-/
namespace Sys2Proof.Machine

/-- A producer hands a flume an item (R409). -/
def State.handoff (s : State) (f p : Nat) (bytes : List Byte) : State :=
  if p < roleProducers (s.flumeRole f) then (s.flumeOffer f p bytes).1 else s

/-- A grant decision, and what held records then find (R410; 15_management_events_health.md R576). -/
def State.grantAndOffer (s : State) (f p : Nat) : State :=
  let g := s.flumeGrant f p
  if g.2 && s.flumeRole f == 1 then g.1.offerHeld f p else g.1

/-- The stale-tail timer expires (R415). -/
def State.flumeStale (s : State) (f : Nat) : State :=
  let fl := s.flume f
  if s.flumePresent f && (decide (s.flumeTimeout f ≠ 0) && (decide (fl.rd ≠ fl.wr) && fl.staleArmed)) then
    (s.setFlume f { fl with stale := true, staleArmed := false }).emit 1161 (p2 f ++ p4 (fromTo fl.rd fl.wr))
  else s

/-- The two copies of a position differ (R416): 0 WR, 1 RD, 2 MK, 3 RL. -/
def State.positionMismatch (s : State) (f pos : Nat) (copy : Word) : State :=
  let fl := s.flume f
  let first := match pos with
    | 0 => fl.wr
    | 1 => fl.rd
    | 2 => fl.mark
    | _ => fl.rl
  if s.flumePresent f && decide (first ≠ copy.toNat) then s.flumeReset f 1 pos first copy.toNat else s

/-- FLUME_ITEM_HANDOFF (R409). -/
def execFlumeItemHandoff (flume : Fin 1536) (producer : Fin 3) (bytes : List Byte) (s : State) : Host.Outcome State Fault Refusal :=
  (s.handoff flume.val producer.val bytes).done

/-- FLUME_GRANT (R410). -/
def execFlumeGrant (flume : Fin 1536) (producer : Fin 3) (s : State) : Host.Outcome State Fault Refusal :=
  (s.grantAndOffer flume.val producer.val).done

/-- FLUME_READ, FLUME_PEEK (R413, R417): `ue` is the slot of the item in which an uncorrectable word is found. -/
def execFlumeRead (path : Path) (flume : Fin 1536) (ue : Option Nat) (s : State) : Host.Outcome State Fault Refusal :=
  (s.awake (fun (u : State) => u.flumeCommand path flume.val (fun t => t.flumeFetch path flume.val true ue))).done
def execFlumePeek (path : Path) (flume : Fin 1536) (ue : Option Nat) (s : State) : Host.Outcome State Fault Refusal :=
  (s.awake (fun (u : State) => u.flumeCommand path flume.val (fun t => t.flumeFetch path flume.val false ue))).done

/-- A command that only moves positions (R413). -/
def State.moveFlume (s : State) (f : Nat) (move : Flume → Flume) : State := (s.setFlume f (move (s.flume f))).flumeResult f 0

/-- FLUME_MARK, FLUME_REWIND, FLUME_RELEASE, FLUME_RELEASE_MARK (R413). -/
def execFlumeMark (path : Path) (flume : Fin 1536) (s : State) : Host.Outcome State Fault Refusal :=
  (s.awake (fun (u : State) => u.flumeCommand path flume.val (fun t => t.moveFlume flume.val Flume.marked))).done
def execFlumeRewind (path : Path) (flume : Fin 1536) (s : State) : Host.Outcome State Fault Refusal :=
  (s.awake (fun (u : State) => u.flumeCommand path flume.val (fun t => (t.moveFlume flume.val Flume.rewound).bump .flm (flumeReg flume.val 0x68)))).done
def execFlumeRelease (path : Path) (flume : Fin 1536) (s : State) : Host.Outcome State Fault Refusal :=
  (s.awake (fun (u : State) => u.flumeCommand path flume.val (fun t => t.moveFlume flume.val Flume.releasedRead))).done
def execFlumeReleaseMark (path : Path) (flume : Fin 1536) (s : State) : Host.Outcome State Fault Refusal :=
  (s.awake (fun (u : State) => u.flumeCommand path flume.val (fun t => t.moveFlume flume.val Flume.releasedMark))).done

/-- FLUME_STALE (R415), POINTER_MISMATCH (R416). -/
def execFlumeStale (flume : Fin 1536) (s : State) : Host.Outcome State Fault Refusal := (s.flumeStale flume.val).done
def execPointerMismatch (flume : Fin 1536) (position : Fin 4) (copy : Word) (s : State) : Host.Outcome State Fault Refusal :=
  (s.positionMismatch flume.val position.val copy).done

end Sys2Proof.Machine
end

