-- ==== Sys2Proof/Machine/ImgParse.lean ====
section
/-!
DEFINITION. Reading an image out of flash (02_ikiem_images.md R47-R70): header, directories, parcels, records, overlays, signature, and the
merge of base and overlays.
-/
namespace Sys2Proof.Machine

/-- Bytes of a slot (R47). -/
def State.slotBytes (s : State) (sl : Slot) (off n : Nat) : List Byte := s.flashBytes (slotBase sl + off) n

/-- The header of a slot (R51). -/
def State.imgHeader (s : State) (sl : Slot) : List Byte := s.slotBytes sl 0 256

/-- Fields of a header. -/
def hasMagic (h : List Byte) : Bool := h.take 4 == [0x49, 0x4B, 0x49, 0x4D]
def hdrVersion (h : List Byte) : Nat := leAt h 0xC 4
def hdrRollback (h : List Byte) : Nat := leAt h 0x10 1
def hdrBaseCount (h : List Byte) : Nat := leAt h 0x16 2
def hdrOverlays (h : List Byte) : Nat := leAt h 0x18 1
def hdrDefault (h : List Byte) : Nat := leAt h 0x1A 2
def hdrParcels (h : List Byte) : Nat := leAt h 0x1C 4
def hdrOverlayDir (h : List Byte) : Nat := leAt h 0x20 4
def hdrSig (h : List Byte) : Nat := leAt h 0x24 4
def hdrBase (h : List Byte) : List Byte := slice h 0x40 48

/-- Does every field of a header but Device and the revisions keep its rule (R51, R52)? -/
def headerOk (h : List Byte) : Bool :=
  leAt h 4 2 == 1 && (leAt h 6 2 == 0x100 && (leAt h 8 4 == hdrSig h + 256 && (decide (hdrSig h + 256 ≤ 0x1000000) &&
    (decide (1 ≤ hdrVersion h) && (decide (hdrRollback h ≤ 64) && (leAt h 0x11 1 == 0 && (decide (1 ≤ hdrBaseCount h) &&
    (decide (hdrBaseCount h ≤ 4096) && (decide (hdrOverlays h ≤ 16) && (leAt h 0x19 1 == 0 && (hdrParcels h % 16 == 0 &&
    (hdrOverlayDir h % 16 == 0 && ((hdrOverlays h != 0 || hdrOverlayDir h == 0) && (hdrSig h % 16 == 0 &&
    (allZero (slice h 0x30 16) && allZero (slice h 0x70 144))))))))))))))))

/-! ### Regions (R59, R60) -/

/-- Is a region structural? -/
def isStructural (code : Nat) : Bool := [1, 2, 3, 0xB, 0xC, 0x11].contains code

/-- May a parcel of the region have this scope? -/
def scopeOk (code scope : Nat) : Bool :=
  match code with
  | 0x01 => decide (scope < 29)
  | 0x03 => decide (1 ≤ scope) && decide (scope ≤ 27)
  | 0x04 => decide (scope < 12)
  | 0x05 => decide (scope < 30)
  | 0x09 => decide (scope < 29)
  | 0x0A => decide (scope < 29)
  | 0x0B => decide (scope < 32)
  | 0x0C => decide (scope < 2)
  | 0x13 => decide (scope < 4)
  | 0x16 => decide (scope < 29)
  | _ => decide (1 ≤ code) && (decide (code ≤ 0x15) && scope == 0xFFFF)

/-! ### Parcels (R53-R56) -/

/-- A parcel: its place in the slot, region, class, scope and payload length. -/
structure Parcel where
  off : Nat
  region : Nat
  cls : Nat
  scope : Nat
  length : Nat
deriving DecidableEq, Repr

/-- The parcel at an offset, from its header. -/
def State.parcelAt (s : State) (sl : Slot) (off : Nat) : Parcel :=
  let h := s.slotBytes sl off 16
  ⟨off, leAt h 2 1, leAt h 3 1, leAt h 4 2, leAt h 8 4⟩

/-- Does a parcel's header keep R54, R59 and R60, and does the parcel lie before the signature block? -/
def State.parcelOk (s : State) (sl : Slot) (sig : Nat) (p : Parcel) : Bool :=
  let h := s.slotBytes sl p.off 16
  h.take 2 == [0x50, 0x52] && (leAt h 6 2 == 0 && (p.length % 4 == 0 && (decide (p.off + 16 + p.length ≤ sig) &&
    (scopeOk p.region p.scope && p.cls == (isStructural p.region).toNat))))

/-- An entry of the parcel directory (R53), and whether it agrees with the parcel it points to. -/
def State.dirEntry (s : State) (sl : Slot) (h : List Byte) (i : Nat) : List Byte := s.slotBytes sl (hdrParcels h + 16 * i) 16
def State.dirParcel (s : State) (sl : Slot) (h : List Byte) (i : Nat) : Parcel := s.parcelAt sl (leAt (s.dirEntry sl h i) 0 4)
def State.dirAgrees (s : State) (sl : Slot) (h : List Byte) (i : Nat) : Bool :=
  let e := s.dirEntry sl h i
  let p := s.dirParcel sl h i
  leAt e 4 4 == 16 + p.length && (leAt e 8 1 == p.region && (leAt e 9 1 == p.cls && (leAt e 10 2 == p.scope && leAt e 12 4 == 0)))

/-- The base parcels in directory order. -/
def State.baseParcels (s : State) (sl : Slot) (h : List Byte) : List Parcel := (List.range (hdrBaseCount h)).map (s.dirParcel sl h)

/-- The payload of a parcel, and whether its CRC matches. -/
def State.payload (s : State) (sl : Slot) (p : Parcel) : List Byte := s.slotBytes sl (p.off + 16) p.length
def State.crcOk (s : State) (sl : Slot) (p : Parcel) : Bool :=
  let h := s.slotBytes sl p.off 16
  leAt h 12 4 == crc32c (h.take 12 ++ s.payload sl p)

/-! ### Overlays (R61-R63) -/

/-- An overlay: index, parcels, place, length. -/
structure Overlay where
  index : Nat
  count : Nat
  off : Nat
  length : Nat
deriving DecidableEq, Repr

/-- The overlay directory (R61). -/
def State.overlayEntry (s : State) (sl : Slot) (h : List Byte) (i : Nat) : List Byte := s.slotBytes sl (hdrOverlayDir h + 32 * i) 32
def State.overlays (s : State) (sl : Slot) (h : List Byte) : List Overlay :=
  (List.range (hdrOverlays h)).map (fun i =>
    let e := s.overlayEntry sl h i
    ⟨leAt e 0 1, leAt e 2 2, leAt e 4 4, leAt e 8 4⟩)

/-- The parcels of an overlay: each begins at the next 16-byte boundary after the one before. -/
def State.parcelsFrom (s : State) (sl : Slot) (off : Nat) : Nat → List Parcel
  | 0 => []
  | n + 1 =>
    let p := s.parcelAt sl off
    p :: State.parcelsFrom s sl (16 * ceilDiv (off + 16 + p.length) 16) n
def State.overlayParcels (s : State) (sl : Slot) (o : Overlay) : List Parcel := s.parcelsFrom sl o.off o.count

/-- Is a name ASCII, padded with zero bytes (R61)? -/
def nameOk (bs : List Byte) : Bool := bs.all (fun b => decide (b.toNat < 128)) && allZero (bs.dropWhile (fun b => b != 0))

/-- Does the overlay directory keep R61? -/
def State.overlayDirOk (s : State) (sl : Slot) (h : List Byte) : Bool :=
  let os := s.overlays sl h
  (List.range (hdrOverlays h)).all (fun i =>
    let e := s.overlayEntry sl h i
    leAt e 1 1 == 0 && (allZero (slice e 28 4) && (nameOk (slice e 12 16) && (decide (leAt e 0 1 < 16) && decide (leAt e 4 4 + leAt e 8 4 ≤ hdrSig h))))) &&
    decide ((os.map (fun o => o.index)).Nodup)

/-- Is an overlay one the loader takes (R62, R63)? DESIGN CHOICE: one whose parcels run past the length of its directory entry, but end before
the signature block, is refused as one that breaks R62 (notes/assumptions/159.md). -/
def State.overlayLegal (s : State) (sl : Slot) (o : Overlay) : Bool :=
  let ps := s.overlayParcels sl o
  decide (o.length ≤ 65536) && ps.all (fun p => !isStructural p.region && decide (p.off + 16 + p.length ≤ o.off + o.length))

/-- The overlay indices of a mask, ascending; a mask bit without an overlay. -/
def maskIndices (mask : Nat) : List Nat := bitsOf 16 mask
def State.overlayFor (s : State) (sl : Slot) (h : List Byte) (i : Nat) : Option Overlay := (s.overlays sl h).find? (fun o => o.index == i)
def State.maskNamed (s : State) (sl : Slot) (h : List Byte) (mask : Nat) : Bool := (maskIndices mask).all (fun i => (s.overlayFor sl h i).isSome)
def State.chosen (s : State) (sl : Slot) (h : List Byte) (mask : Nat) : List Overlay := (maskIndices mask).filterMap (s.overlayFor sl h)

/-! ### Authentication (R52, R57, R58, R67) -/

/-- The signature block, and the digest that it stores. -/
def State.sigBlock (s : State) (sl : Slot) (h : List Byte) : List Byte := s.slotBytes sl (hdrSig h) 256
def State.signedDigest (s : State) (sl : Slot) : List Byte := slice (s.sigBlock sl (s.imgHeader sl)) 0x18 48

/-- The digest of the parcel directory and the base parcels. -/
def State.baseDigest (s : State) (sl : Slot) (h : List Byte) : List Byte :=
  sha384 (s.slotBytes sl (hdrParcels h) (16 * hdrBaseCount h) ++
    (s.baseParcels sl h).flatMap (fun p => s.slotBytes sl p.off (16 + p.length)))

/-- Is the image of a slot well formed (R52)? DESIGN CHOICE: a directory entry of any overlay that breaks R61 makes the slot malformed, also
of one outside the default mask (notes/assumptions/159.md). -/
def State.imageFormed (s : State) (sl : Slot) (h : List Byte) : Bool :=
  headerOk h && (decide (hdrParcels h + 16 * hdrBaseCount h ≤ hdrSig h) && (decide (hdrOverlayDir h + 32 * hdrOverlays h ≤ hdrSig h) &&
    ((s.baseParcels sl h).all (s.parcelOk sl (hdrSig h)) && ((List.range (hdrBaseCount h)).all (s.dirAgrees sl h) &&
    (s.overlayDirOk sl h && ((s.overlays sl h).all (fun o => (s.overlayParcels sl o).all (s.parcelOk sl (hdrSig h))) &&
    (s.maskNamed sl h (hdrDefault h) && (leAt (s.sigBlock sl h) 6 2 == 0 && (allZero (slice (s.sigBlock sl h) 0xA8 88) &&
    s.baseDigest sl h == hdrBase h)))))))))

/-- Does this silicon run the image (R51, R52)? -/
def State.deviceOk (s : State) (h : List Byte) : Bool :=
  leAt h 0x12 2 == 0x8828 && (decide (leAt h 0x14 1 ≤ s.fuses.revision) && decide (s.fuses.revision ≤ leAt h 0x15 1))

/-- The entry of the signer table under which the signature of a slot verifies (R58). -/
def State.imageSigner (s : State) (sl : Slot) (h : List Byte) : Option Nat :=
  let b := s.sigBlock sl h
  let d := slice b 0x18 48
  if b.take 4 ≠ [0x49, 0x4B, 0x53, 0x47] || leAt b 4 2 ≠ 1 || sha384 (s.slotBytes sl 0 (hdrSig h)) ≠ d then none
  else match s.signerKey (slice b 8 16) with
    | none => none
    | some (i, key) => if ecdsaVerify key d (slice b 0x48 48) (slice b 0x78 48) then some i else none

/-- The result of authenticating a slot, coded as IMG_BOOT.REASON_A (R67, R100). -/
def State.slotReason (s : State) (sl : Slot) : Nat :=
  let h := s.imgHeader sl
  if !hasMagic h then 1
  else if !s.imageFormed sl h then 2
  else if !s.deviceOk h then 3
  else if hdrRollback h < s.fuses.rollback then 4
  else if (s.imageSigner sl h).isNone then 5 else 0

/-- LAST_ERR of a result of authentication (R99). -/
def reasonError (reason : Nat) : Nat :=
  match reason with
  | 1 => 3
  | 2 => 3
  | 3 => 4
  | 4 => 5
  | _ => 1

/-! ### Records and the merge (R55, R64) -/

/-- The records of a payload: DELETE, key, body; none where a record header breaks R55. -/
def recordsOf : Nat → List Byte → Option (List (Bool × Nat × List Byte))
  | 0, bs => if bs.isEmpty then some [] else none
  | n + 1, bs =>
    if bs.isEmpty then some []
    else
      let len := leAt bs 0 2
      if len % 4 ≠ 0 || len < 8 || bs.length < len || 1 < leAt bs 2 2 then none
      else (recordsOf n (bs.drop len)).map (fun rs => (leAt bs 2 2 == 1, leAt bs 4 4, slice bs 8 (len - 8)) :: rs)

/-- A record replaces, or deletes, the earlier one with its scope and key. -/
def mergeRec (region scope : Nat) (rs : List Rec) (r : Bool × Nat × List Byte) : List Rec :=
  let rest := rs.filter (fun x => !(x.region == region && (x.scope == scope && x.key == r.2.1)))
  if r.1 then rest else rest ++ [⟨region, scope, r.2.1, r.2.2⟩]

/-- The records of parcels, merged in order. -/
def State.mergeParcels (s : State) (sl : Slot) : List Parcel → List Rec → Option (List Rec)
  | [], rs => some rs
  | p :: ps, rs =>
    match recordsOf (p.length / 8 + 1) (s.payload sl p) with
    | none => none
    | some new => State.mergeParcels s sl ps (new.foldl (mergeRec p.region p.scope) rs)

/-- How many reads in a row of parcel `i` of a slot a disturbance spoils. -/
def glitchesOf (gs : List ReadGlitch) (sl : Slot) (i : Nat) : Nat :=
  ((gs.filter (fun g => decide (g.slot = sl) && g.parcel == i)).map (fun g => g.fails)).sum

/-- Reads parcels, the first numbered `i`, each up to three times (R69): the state with img.parcel.reread and img.parcel.crc_fail counted,
and whether every parcel could be read. -/
def State.readParcels (s : State) (sl : Slot) (gs : List ReadGlitch) : Nat → List Parcel → State × Bool
  | _, [] => (s, true)
  | i, p :: ps =>
    let fails := if s.crcOk sl p then Nat.min 3 (glitchesOf gs sl i) else 3
    let s1 := s.bumpBy .img 0x128 (Nat.min 2 fails)
    if fails = 3 then (s1.bump .img 0x120, false) else State.readParcels s1 sl gs (i + 1) ps

/-- What loading a slot with an overlay mask gave: LAST_ERR 0 and a configuration, or an error; the merged configuration is not
checked yet. -/
structure Loaded where
  state : State
  err : Nat
  conf : Option Conf

/-- Loads and merges (R64, R69, R73): missing overlays, illegal overlays, CRC, records. -/
def State.loadSlot (s : State) (sl : Slot) (mask : Nat) (gs : List ReadGlitch) : Loaded :=
  let h := s.imgHeader sl
  let os := s.chosen sl h mask
  if !s.maskNamed sl h mask then ⟨s, 3, none⟩
  else if !os.all (s.overlayLegal sl) then ⟨s, 0xA, none⟩
  else
    let ps := s.baseParcels sl h ++ os.flatMap (s.overlayParcels sl)
    let (s1, read) := s.readParcels sl gs 0 ps
    if !read then ⟨s1, 2, none⟩
    else match s.mergeParcels sl ps [] with
      | none => ⟨s1, 3, none⟩
      | some rs => ⟨s1, 0, some { recs := rs, overlays := mask, slot := sl, digest := s.signedDigest sl, base := hdrBase h,
                                  version := hdrVersion h, rollback := hdrRollback h, signer := (s.imageSigner sl h).getD 0 }⟩

end Sys2Proof.Machine
end

