-- ==== Sys2Proof/Machine/FuseKeys.lean ====
section
/-!
DEFINITION. The key commands that blow fuses and ask the image slots: REVOKE and ROLLBACK (12_keys_and_attestation.md R491, R492).
-/
namespace Sys2Proof.Machine

/-- Would revoking signer `i`, or FWKEY0 for 4, disable what runs or the golden slot (R491)? -/
def State.signerNeeded (s : State) (i : Nat) : Bool :=
  if i = 4 then (s.key.fw.map (fun f => f.signer)) == some 0
  else (s.img.conf.map (fun c => c.signer)) == some i ||
    (s.slotReason .g == 0 && s.imageSigner .g (s.imgHeader .g) == some i)

/-- REVOKE (R491). -/
def State.doRevoke (s : State) (path : Path) (fuseFails : Bool) : State :=
  s.keyCommand path 0xF (fun (r : KeyReq) (t : State) =>
    t.keyChecked [(decide (r.len ≤ 4), 8), (!t.signerNeeded r.len, 9)] (fun (u : State) =>
      if fuseFails then u.fuseError path 0xF
      else if r.len = 4 then ⟨{ u with fuses := { u.fuses with fwkey0Revoked := true } }, 0, []⟩
      else ⟨{ u with fuses := { u.fuses with signerRevoked := u.fuses.signerRevoked ||| 2 ^ r.len } }, 0, []⟩))

/-- May the count of blown fuses become `v` (R492)? -/
def State.rollbackAllowed (s : State) (v : Nat) : Bool :=
  decide (s.fuses.rollback < v) && (decide (v ≤ 64) &&
    ((s.img.conf.any (fun c => decide (v ≤ c.rollback))) && ((s.key.fw.any (fun f => decide (v ≤ f.rollback))) &&
    (s.slotReason .g == 0 && decide (v ≤ hdrRollback (s.imgHeader .g))))))

/-- ROLLBACK (R492): fuses are blown one at a time; a fuse that fails ends the command at those verified. -/
def State.doRollback (s : State) (path : Path) (fuseFails : Option (Fin 65)) : State :=
  s.keyCommand path 0xC (fun (r : KeyReq) (t : State) =>
    t.keyChecked [(t.rollbackAllowed r.len, 9)] (fun (u : State) =>
      let old := u.fuses.rollback
      let blown := fun (n : Nat) => { u with fuses := { u.fuses with rollback := n } }
      match fuseFails with
      | some k =>
        if old < k.val && k.val ≤ r.len then (blown (k.val - 1)).fuseError path 0xC
        else ⟨(blown r.len).emit 1413 (p4 old ++ p4 r.len), 0, []⟩
      | none => ⟨(blown r.len).emit 1413 (p4 old ++ p4 r.len), 0, []⟩))

/-- REVOKE (R491), ROLLBACK (R492). -/
def execKeyRevoke (path : Path) (fuseFails : Bool) (s : State) : Host.Outcome State Fault Refusal := (s.awake (fun (t : State) => t.doRevoke path fuseFails)).done
def execKeyRollback (path : Path) (fuseFails : Option (Fin 65)) (s : State) : Host.Outcome State Fault Refusal := (s.awake (fun (t : State) => t.doRollback path fuseFails)).done

end Sys2Proof.Machine
end

