-- ==== Sys2Proof/Machine/Classify.lean ====
section
/-!
DEFINITION. Classification of one frame (05_classification.md R185-R227): parse and its policies, stages, destinations, isolation,
edits, 802.1CB, learning, recirculation, and admission to the cistern. What is decided is also what a decision digest records
(14_tandem_redundancy.md R547-R549).
-/
namespace Sys2Proof.Machine

/-- TRUNC and LENC of a frame (R659): those of the port where it first entered, else 0. -/
def State.truncPolicy (s : State) (f : Frame) : Nat := if f.origin < 29 then field (s.portCfg f.epoch f.origin) 15 14 else 0
def State.lencPolicy (s : State) (f : Frame) : Bool := decide (f.origin < 29) && bit (s.portCfg f.epoch f.origin) 13

/-- What a frame enters the stages with: district, class and colour (R194, R224, R232). -/
def State.ctxOf (s : State) (f : Frame) (p : Parsed) : Ctx :=
  let cfg := s.portCfg f.epoch f.ingress
  let tci := p.tags.head?.map (fun h => beAt f.bytes h.off 2)
  let cls := match tci with
    | some t => if bit cfg 12 then t / 8192 else field cfg 19 17
    | none => field cfg 19 17
  let dei := match tci with
    | some t => t.testBit 12
    | none => false
  if f.fromPort then
    { frame := f, parsed := p, district := s.firstDistrict f, cls := cls, colour := if bit cfg 16 && dei then 1 else 0 }
  else { frame := f, parsed := p, district := s.firstDistrict f, cls := f.cls.getD 0, colour := f.colour }

/-- The decision of R548 that a digest records. -/
structure Decision where
  district : Nat
  cls : Nat
  exc : Bool := false
  drop : Bool := false
  ports : Nat := 0
  lanes : Nat := 0
  mirror : Nat := 0
  hostq : Nat := 0xFFFF
  rule : Nat := 0xFFFF
  edit : Nat := 0xFFFF
  stream : Nat := 0
  skip : Bool := false
deriving DecidableEq, Repr

/-- Where classification sends a frame: destinations with their classes, whether the frame is dropped, and the bytes its copies
carry. -/
structure Verdict where
  state : State
  ctx : Ctx
  copies : List (Dest × Nat)
  bytes : List Byte
  dropped : Bool
  decision : Decision
deriving DecidableEq, Repr

/-- The crossbar lane of a destination (01_architecture.md R29). -/
def Dest.lane : Dest → Nat
  | .port p => laneOf p
  | .host _ => 21
  | .unwrap _ => 22
  | .wrap _ => 22
  | .fieldbus => 22
  | .exc _ _ => 23
  | .recirc => 24
  | .crypto => 26

/-- May a copy of the district go there (R197)? -/
def District.permits (d : District) : Dest → Bool
  | .port p => d.portMask.testBit p && decide (p < 29)
  | .host q => d.laneMask.testBit 0 && (decide (d.hostqBase ≤ q) && decide (q < d.hostqBase + d.hostqCount))
  | .unwrap _ => d.laneMask.testBit 1
  | .wrap _ => d.laneMask.testBit 1
  | .fieldbus => d.laneMask.testBit 1
  | .crypto => d.laneMask.testBit 2
  | .exc _ _ => true
  | .recirc => true

/-- Members of a multicast group without the ingress port (R203, R207); none for a group without an entry. -/
def State.groupDests (s : State) (c : Ctx) (d : District) (g : Nat) : List Dest :=
  match (s.tableAt c.frame.epoch 28).find? (fun e => e.index == g) with
  | none => []
  | some e =>
    let lanes := leAt e.result 4 1
    ((bitsOf 29 (leAt e.result 0 4)).filter (fun p => p != c.frame.ingress)).map Dest.port ++
      ((if lanes.testBit 0 then [Dest.host d.hostqBase] else []) ++
      ((if lanes.testBit 1 then [Dest.fieldbus] else []) ++ (if lanes.testBit 2 then [Dest.crypto] else [])))

/-- Destinations of a DEST (R203). -/
def State.destsOf (s : State) (c : Ctx) (d : District) (dest : Nat) : List Dest :=
  match dest / 2 ^ 28 with
  | 1 => [.port (dest % 32)]
  | 2 => s.groupDests c d (dest % 4096)
  | 3 =>
    let da := c.frame.bytes.take 6
    match (s.tableAt c.frame.epoch 0).find? (fun e => e.district == c.district && e.key == learnKey da (c.parsed.vid c.frame.bytes 0)) with
    | some e =>
      if (byteAt da 0).testBit 0 || s.tbl.works.contains 0 then s.groupDests c d d.floodGroup
      else if e.port = c.frame.ingress then [] else [.port e.port]
    | none => s.groupDests c d d.floodGroup
  | 4 => [.host (d.hostqBase + dest % 1024)]
  | 5 => [.unwrap (dest % 65536)]
  | 6 => [.wrap (dest % 65536)]
  | _ => []

/-- The copy of a mirror session as the frame's epoch has it (R232, R33); a disabled session makes none. -/
def State.mirrorCopy (s : State) (epoch m : Nat) : Option (Dest × Nat) :=
  let w := s.mirrorCfg epoch m
  if !bit w 31 then none
  else if bit w 15 then some (.host (field w 14 5), field w 26 24)
  else if field w 4 0 ≤ 28 then some (.port (field w 4 0), field w 26 24)
  else none

/-- What the digest records of destinations (R548). -/
def Decision.withCopies (x : Decision) (cs : List (Dest × Nat)) : Decision :=
  cs.foldl (fun x c => match c.1 with
    | .port p => { x with ports := x.ports ||| 2 ^ p }
    | .host q => { x with lanes := x.lanes ||| 1, hostq := q }
    | .unwrap r => { x with lanes := x.lanes ||| 2, rule := r }
    | .wrap r => { x with lanes := x.lanes ||| 2, rule := r }
    | .fieldbus => { x with lanes := x.lanes ||| 2 }
    | .crypto => { x with lanes := x.lanes ||| 4 }
    | .exc _ _ => { x with exc := true }
    | .recirc => x) x

/-- Did a weir's action other than forward apply to the frame (R548)? -/
def Ctx.weirActed (c : Ctx) : Bool := c.de || c.setPcp.isSome

/-- A frame ended by a policy before the stages. -/
def Verdict.ended (s : State) (c : Ctx) (copies : List (Dest × Nat)) (dropped : Bool) : Verdict :=
  { state := s, ctx := c, copies := copies, bytes := c.frame.bytes, dropped := dropped,
    decision := Decision.withCopies { district := c.district, cls := c.cls, drop := dropped } copies }

/-- The edits of a frame in order (R206, R216, R217, R225): the tag marks of its weirs, recovery, its edit program, generation.
Answers the frame edited, or the counter of a failing operation, and whether recovery discarded it. -/
def State.applyEdits (s : State) (c : Ctx) : State × Edited × Bool :=
  let e0 : Edited := { bytes := c.frame.bytes, hdrs := c.parsed.hdrs, l3 := c.parsed.l3, l4 := c.parsed.l4,
                       reach := Nat.min window c.frame.bytes.length, readTo := Nat.min window c.parsed.effEnd }
  let e1 := match c.setPcp with
    | some p => e0.setPcp p
    | none => e0
  let e2 := if c.de then e1.setDei else e1
  let (s, e3, passed) := match c.stream with
    | some (2, k) => s.recoverFrame e2 k false
    | some (3, k) => s.recoverFrame e2 k true
    | _ => (s, e2, true)
  let program := match c.edit with
    | some i => ((s.tableAt c.frame.epoch 29).find? (fun e => e.index == i)).map (fun e => e.result)
    | none => none
  let e4 := match program with
    | some b => e3.run b 8 0
    | none => e3
  match c.stream with
  | some (1, k) => if e4.failed.isSome then (s, e4, passed)
    else
      let (s, e5) := s.generate e4 k
      (s, e5, passed)
  | _ => (s, e4, passed)

/-- DROP ends the frame (R204). -/
def State.endDrop (s : State) (c : Ctx) : State × Ctx :=
  if c.drop && !c.killed then (s.bump .prs (prsCounter c.frame.ingress actionCounter), { c with killed := true }) else (s, c)

/-- A third pass ends the frame (R205). -/
def State.endPass (s : State) (c : Ctx) : State × Ctx :=
  if c.recirc && !c.killed && decide (2 ≤ c.frame.pass) then
    ((s.bump .prs (prsCounter c.frame.ingress 7)).prsErr 4 c.frame.ingress c.district [], { c with killed := true }) else (s, c)

/-- A DEST that makes no copy ends the frame (R203). -/
def State.endUnsent (s : State) (c : Ctx) (again : Bool) (wanted : List Dest) : State × Ctx :=
  if !c.killed && !again && c.dest.isSome && wanted.isEmpty then
    (s.bump .prs (prsCounter c.frame.ingress actionCounter), { c with killed := true }) else (s, c)

/-- A copy outside the district's masks is counted (R197). -/
def State.isolationLost (s : State) (c : Ctx) (lost : Bool) : State :=
  if lost then (s.bump .prs (prsCounter c.frame.ingress 4)).prsErr 3 c.frame.ingress c.district (p2 0) else s

/-- An edit that fails drops the frame's copies but the mirrored one (R206). -/
def State.editLost (s : State) (c : Ctx) (failed : Option Nat) : State :=
  match failed with
  | some k => if c.killed then s else s.bump .prs (prsCounter c.frame.ingress k)
  | none => s

/-- What the decision says of the frame, before its copies. -/
def Ctx.decision (c : Ctx) (dropped again : Bool) : Decision :=
  { district := c.district, cls := c.cls, drop := dropped, mirror := (c.mirror.map (fun m => m + 1)).getD 0, edit := c.edit.getD 0xFFFF,
    stream := (c.stream.map (fun x => x.1 * 2 ^ 14 + x.2)).getD 0,
    skip := c.weirActed || ((c.stream.map (fun x => decide (2 ≤ x.1))).getD false || (decide (0 < c.frame.pass) || again)) }

/-- After the stages (R197, R203-R206, R217, R225): destinations, isolation and edits, which also drop. -/
def State.conclude (s : State) (c0 : Ctx) (d : District) : Verdict :=
  let a := s.endDrop c0
  let b := a.1.endPass a.2
  let again := b.2.recirc && !b.2.killed
  let wanted := if b.2.killed || again then [] else (b.2.dest.map (fun x => b.1.destsOf b.2 d x)).getD []
  let u := b.1.endUnsent b.2 again wanted
  let c := u.2
  let mirrored := (c.mirror.bind (u.1.mirrorCopy c.frame.epoch)).toList
  let all := wanted.map (fun x => (x, c.cls)) ++ mirrored
  let permitted := all.filter (fun x => d.permits x.1)
  let r := (u.1.isolationLost c (decide (permitted.length < all.length))).applyEdits c
  let s1 := r.1.editLost c r.2.1.failed
  let edited := r.2.1.failed.isNone && r.2.2
  let c1 := if edited then c else { c with killed := true }
  let kept := (if edited then permitted else mirrored.filter (fun x => d.permits x.1))
  let again1 := edited && again
  let exc := (c.exc.map (fun e => [(Dest.exc e.1 e.2, c.cls)])).getD []
  let dropped := c1.killed || (kept.isEmpty && !again1 && exc.isEmpty)
  { state := s1, ctx := c1, copies := kept ++ (exc ++ (if again1 then [(Dest.recirc, c1.cls)] else [])),
    bytes := if r.2.1.failed.isSome then c.frame.bytes else r.2.1.bytes, dropped := dropped,
    decision := (c1.decision dropped again1).withCopies (kept ++ exc) }

/-- A frame that enters is counted, on a later pass in its own counter (R205). -/
def State.passCounted (s : State) (f : Frame) (unparsed : Bool) : State :=
  if f.pass = 0 then (if unparsed then s else s.bump .prs (prsCounter f.ingress 0)) else s.bump .prs 0x418

/-- A length conflict is counted and reported (R191). -/
def State.conflictCounted (s : State) (f : Frame) (district code : Nat) : State :=
  if code = 0 then s else (s.bump .prs (prsCounter f.ingress 2)).prsErr 1 f.ingress district (p1 code)

/-- A truncated frame is counted and reported (R188). -/
def State.truncCounted (s : State) (f : Frame) (district node : Nat) (truncated : Bool) : State :=
  if truncated then (s.bump .prs (prsCounter f.ingress 1)).prsErr 0 f.ingress district (p2 node) else s

/-- The frame's district and the twelve stages (R185, R195). -/
def State.decideStages (s : State) (f : Frame) (c : Ctx) : Verdict :=
  if (s.districtAt f.epoch c.district).isNone then Verdict.ended (s.districtMissing c).1 (s.districtMissing c).2 [] true
  else
    let r := s.runStages c
    match r.1.districtAt f.epoch r.2.district with
    | none => Verdict.ended r.1 r.2 ((r.2.exc.map (fun e => [(Dest.exc e.1 e.2, r.2.cls)])).getD []) true
    | some d => r.1.conclude r.2 d

/-- Decides a frame (R185-R206): length conflict, truncation, district, stages, destinations. -/
def State.decideFrame (s : State) (f : Frame) : Verdict :=
  let p := parse (graphOf (s.recsAt f.epoch)) f.bytes
  let c0 := s.ctxOf f p
  let code := p.conflict f.bytes.length
  let node := (p.hdrs.getLast?.map (fun h => h.node)).getD 0
  let refused := decide (code ≠ 0) && !s.lencPolicy f
  let cut := p.truncated && decide (s.truncPolicy f = 0)
  let s1 := (s.passCounted f (cut && !refused)).conflictCounted f c0.district code
  if refused then Verdict.ended s1 c0 [] true
  else
    let c1 := if code = 0 then c0 else { c0 with untrusted := true, cls := 0 }
    let s2 := s1.truncCounted f c1.district node p.truncated
    if cut then Verdict.ended s2 c1 [] true
    else if p.truncated && decide (s.truncPolicy f = 2) then Verdict.ended s2 c1 [(.exc 1 0xFF, c1.cls)] false
    else s2.decideStages f { c1 with l2only := p.truncated }

/-- May a copy of a frame of class `cls` be cut through (06_switch_core.md R241)? -/
def State.cutThrough (s : State) (f : Frame) (cls : Nat) : Dest → Bool
  | .port p => f.fromPort && ((s.ctMask f.ingress).testBit cls && (decide (s.runRate p ≤ s.runRate f.ingress) && !f.forced))
  | _ => false

/-- Is a destination the exception queue? -/
def Dest.isExc : Dest → Bool
  | .exc _ _ => true
  | _ => false

/-- Exception copies meet the fixed weir (01_architecture.md R28, R227); the others pass. -/
def State.throughExcWeir (s : State) (f : Frame) (district : Nat) : List (Dest × Nat) → State × List (Dest × Nat)
  | [] => (s, [])
  | x :: rest =>
    if x.1.isExc then
      let m := s.meterExc f.stamp.ns f.rxLen
      if m.2 = 0 then
        let r := State.throughExcWeir m.1 f district rest
        (r.1, x :: r.2)
      else State.throughExcWeir ((m.1.bump .prs 0x408).prsErr 5 f.ingress district []) f district rest
    else
      let r := State.throughExcWeir s f district rest
      (r.1, x :: r.2)

/-- The 24-byte decision record (14_tandem_redundancy.md R548). -/
def Decision.bytes (x : Decision) (epoch : Nat) : List Byte :=
  beBytes 4 epoch ++ (beBytes 2 x.district ++ ([byte x.cls, byte (x.exc.toNat + 2 * x.drop.toNat)] ++ (beBytes 4 x.ports ++
    ([byte x.lanes, byte x.mirror] ++ (beBytes 2 x.hostq ++ (beBytes 2 x.rule ++ (beBytes 2 x.edit ++ (beBytes 2 x.stream ++ [0, 0]))))))))

/-- The active member of a pairing digests a decided frame (14_tandem_redundancy.md R547). -/
def State.digestFrame (s : State) (f : Frame) (v : Verdict) : State :=
  if s.tdm.active && s.tdm.partner.isSome && ((s.rd .tdm 0xC).toNat / 2 ^ 24).testBit v.ctx.cls && bit (s.rd .tdm 0x10) f.ingress then
    let second := s.nowNs / 1000000000
    let used := if s.tdm.digestFrom = second then s.tdm.digestUsed else 0
    if used < 1000 * s.fld .tdm 0xC 15 0 then
      let head := f.bytes.take window
      let body := [byte f.ingress, byte v.ctx.flags] ++ (beBytes 2 v.decision.skip.toNat ++ (beBytes 4 s.tdm.dseq ++
        (beBytes 4 f.epoch ++ (beBytes 2 f.bytes.length ++ (beBytes 2 head.length ++
        (padTo 8 ((sha256 (v.decision.bytes f.epoch))) ++ head))))))
      let s1 := { s with tdm := { s.tdm with digestFrom := second, digestUsed := used + 1, dseq := (s.tdm.dseq + 1) % 2 ^ 32 } }
      s1.queueTandem 3 0x20 body
    else s.bump .tdm 0x458
  else s

/-- Learns from a decided frame (R210). On a standby member nothing is learned (14_tandem_redundancy.md R545). -/
def State.learnFrom (s : State) (f : Frame) (v : Verdict) : State :=
  match s.districtAt f.epoch v.ctx.district with
  | none => s
  | some d =>
    let sa := slice f.bytes 6 6
    if s.flag .tbl 0x8000 31 && d.learn && f.fromPort && !v.dropped && s.tdm.active && !(byteAt sa 0).testBit 0 && decide (be sa ≠ 0) then
      s.learn v.ctx.district (v.ctx.parsed.vid f.bytes 0) sa f.ingress d.learnLimit
    else s

/-- A frame is classified and leaves in the cistern or dropped (R185-R227; 06_switch_core.md R259). Under parser roadworks it is
dropped (02_ikiem_images.md R89). -/
def State.classify (s : State) (f : Frame) : State :=
  if s.prs.roadworks then s.roadworksDrop f
  else
    let v := s.decideFrame f
    let d := v.ctx.district
    let s1 := if f.pass = 0 then (v.state.bump .prs (0x20000 + 0x20 * d)).bumpBy .prs (0x20008 + 0x20 * d) f.rxLen else v.state
    let s2 := if v.dropped then s1.bump .prs (0x20010 + 0x20 * d) else s1
    let s3 := (s2.learnFrom f v).digestFrame f v
    let (s4, copies) := s3.throughExcWeir f d v.copies
    let g := { f with bytes := v.bytes, district := some d, cls := some v.ctx.cls, colour := v.ctx.colour, flags := v.ctx.flags }
    match copies with
    | [] => s4
    | _ => s4.admitFrame g d v.ctx.cls v.ctx.de (copies.map (fun c => ⟨c.1.lane, c.2, c.1, s4.cutThrough f v.ctx.cls c.1⟩))

end Sys2Proof.Machine
end

