-- ==== Sys2Proof/Machine/TableOps.lean ====
section
/-!
DEFINITION. Runtime updates of tables and weirs (05_classification.md R207-R226, R234), with the rules that an entry must keep,
which image records must keep too.
-/
namespace Sys2Proof.Machine

/-! ### What an entry may hold -/

/-- May DEST hold this value (R203)? -/
def destLegal (d : Nat) : Bool :=
  let rest := d % 2 ^ 28
  match d / 2 ^ 28 with
  | 0 => rest == 0
  | 1 => decide (rest < 29)
  | 2 => decide (rest < 4096)
  | 3 => rest == 0
  | 4 => decide (rest < 1024)
  | 5 => decide (rest < 65536)
  | 6 => decide (rest < 65536)
  | _ => false

/-- May an action set hold these 16 bytes (R202)? `late` forbids SET_DISTRICT (R194). -/
def actionLegal (b : List Byte) (late : Bool) : Bool :=
  let a := actionOf b
  leAt b 1 1 < 128 && (leAt b 3 1 == 0 && (destLegal a.dest && ((!a.exc || decide (16 ≤ a.reason)) &&
    ((a.weir == 0xFFFF || decide (a.weir < 16384)) && ((a.edit == 0xFFFF || decide (a.edit < 4096)) &&
    (leAt b 12 2 / 1024 % 16 == 0 && (decide (leAt b 14 2 < 4096) && !(late && a.setsDistrict))))))))

/-- May an edit program hold these 64 bytes (R206)? -/
def editLegal (b : List Byte) : Bool :=
  (List.range 8).all (fun i =>
    let op := leAt b (8 * i) 1
    decide (op ≤ 6) && (op != 1 ||
      (decide (leAt b (8 * i + 1) 1 < 0x84) && (decide (1 ≤ leAt b (8 * i + 3) 1) && decide (leAt b (8 * i + 3) 1 ≤ 4)))))

/-- May a multicast group hold these 8 bytes (R207)? -/
def groupLegal (b : List Byte) : Bool := decide (leAt b 0 4 < 2 ^ 29) && (decide (leAt b 4 1 < 8) && leAt b 5 3 == 0)

/-- May an 802.1CB stream hold these 16 bytes (R215)? -/
def streamLegal (b : List Byte) : Bool :=
  decide (leAt b 0 1 ≤ 1) && (decide (2 ≤ leAt b 1 1) && (decide (leAt b 1 1 ≤ 32) && (decide (1 ≤ leAt b 2 2) && leAt b 6 10 == 0)))

/-- Does a stage of 2-11 look its entries up in table `t` (R194)? -/
def lateTable (rs : List Rec) (t : Nat) : Bool :=
  (List.range 10).any (fun k => (programOf (recBody rs 4 (k + 2) (k + 2))).table == t)

/-- A prefix with the bits beyond its length zero (R208). -/
def prefixMasked (n : Nat) (addr : List Byte) : List Byte :=
  beBytes addr.length (be addr / 2 ^ (8 * addr.length - n) * 2 ^ (8 * addr.length - n))

/-! ### The window of a path (R211, R234) -/

/-- Offset of a register of a window. -/
def winReg (w off : Nat) : Nat := 0x1000 * w + off

/-- Bytes of consecutive window registers. -/
def State.winBytes (s : State) (w off n : Nat) : List Byte := bytesOf (s.rds .tbl (winReg w off) n)

/-- Ends a table command: OP and RESULT of TBL_STATUS. -/
def State.tblResult (s : State) (w op result : Nat) : State := s.wr .tbl (winReg w 4) (word (256 * op + result))

/-- The size and key bytes of a table in force: tables 0 and 28-30 are fixed (R207). -/
def State.tblSize (s : State) (t : Nat) : Option (Nat × Nat) :=
  if t = 0 then some (learnSize, 8)
  else if t < 28 then (if s.shapeType t = 0 then none else some (s.shapeSize t, s.shapeKey t))
  else if t = 30 then some (1024, 0)
  else if t < 30 then some (4096, 0) else none

/-- Bytes of an entry of an index table, and where a window holds them: the 64 bytes of an edit program lie in TBL_KEY. -/
def indexBytes (t : Nat) : Nat × Nat := if t = 29 then (0x40, 16) else if t = 28 then (0xC0, 2) else (0xC0, 4)

/-- The entry that a window names for a table. -/
def State.winEntry (s : State) (w t : Nat) : TblEntry :=
  let d := s.rd .tbl (winReg w 0xC)
  let v := s.rd .tbl (winReg w 0x10)
  let k := ((s.tblSize t).getD (0, 0)).2
  let key := (s.winBytes w 0x40 16).take k
  let base : TblEntry := { index := s.fld .tbl (winReg w 8) 17 0, district := field d 11 0, refreshed := s.nowNs }
  match tableKind t with
  | .learning => { base with key := key, result := [byte (leAt (s.winBytes w 0xC0 1) 0 1 % 32)], fixed := bit d 31 }
  | .exact => { base with valid := field v 7 0, key := key, result := s.winBytes w 0xC0 4 }
  | .ternary => { base with dmask := field d 27 16, valid := field v 7 0, vmask := field v 15 8, key := key,
                            mask := (s.winBytes w 0x80 16).take k, result := s.winBytes w 0xC0 4 }
  | .span =>
    let n := leAt (s.winBytes w 0x80 1) 0 1
    { base with key := prefixMasked n key, mask := [byte n], result := s.winBytes w 0xC0 4 }
  | .index => { base with result := s.winBytes w (indexBytes t).1 (indexBytes t).2 }

/-- May the entry stand in table `t` (result 0x7)? -/
def State.entryLegal (s : State) (t : Nat) (e : TblEntry) : Bool :=
  let late := lateTable s.recs t
  match tableKind t with
  | .learning => decide (leAt e.result 0 1 < 29) && decide (leAt e.key 6 2 < 4096)
  | .exact => actionLegal e.result late
  | .ternary => actionLegal e.result late
  | .span => decide (e.prefixLen ≤ 8 * e.key.length) && actionLegal e.result late
  | .index => if t = 28 then groupLegal e.result else if t = 29 then editLegal e.result else streamLegal e.result

/-- Do two entries of a table of one kind name one key, or one index (R208, R657)? -/
def sameKey : TableKind → TblEntry → TblEntry → Bool
  | .learning, a, b => a.district == b.district && a.key == b.key
  | .exact, a, b => a.district == b.district && (a.valid == b.valid && a.key == b.key)
  | .span, a, b => a.district == b.district && (a.mask == b.mask && a.key == b.key)
  | .ternary, a, b => a.index == b.index
  | .index, a, b => a.index == b.index

/-- One write of an entry: the entries after, and the index written; none where there is no room. `tight` is the choice of an
exact table filled to 90 % or more (R209). -/
def putEntry (kind : TableKind) (size : Nat) (tight : Bool) (es : List TblEntry) (e : TblEntry) : Option (List TblEntry × Nat) :=
  match es.find? (fun x => sameKey kind x e) with
  | some old => some (es.map (fun x => if x.index = old.index then { e with index := old.index } else x), old.index)
  | none =>
    match kind with
    | .ternary => some (es ++ [e], e.index)
    | .index => some (es ++ [e], e.index)
    | _ =>
      if size ≤ es.length || (kind = .exact && (decide (9 * size ≤ 10 * es.length) && tight)) then none
      else (freeIndex es size).map (fun i => (es ++ [{ e with index := i }], i))

/-- The entries without the one that a DELETE names. -/
def dropEntry (kind : TableKind) (es : List TblEntry) (e : TblEntry) : List TblEntry := es.filter (fun x => !sameKey kind x e)

/-- Runs a write of a batch or of a single command: INSERT and WRITE_INDEX put, DELETE removes. -/
def runWrite (kind : TableKind) (size : Nat) (tight : Bool) (es : List TblEntry) (w : TblWrite) : Option (List TblEntry × Nat) :=
  if w.op = 2 then some (dropEntry kind es w.entry, w.entry.index) else putEntry kind size tight es w.entry

/-- Mirrors a runtime write of a dynamic learning entry (14_tandem_redundancy.md R545). -/
def State.mirrorWrite (s : State) (w : TblWrite) : State :=
  if w.table = 0 && !w.entry.fixed then
    s.mirrorLearn (if w.op = 2 then 2 else 1) w.entry.port w.entry.district (leAt w.entry.key 6 2) (w.entry.key.take 6)
  else s

/-! ### Checks and commands (R212-R214) -/

/-- The holder of a lease (15_management_events_health.md R589). -/
def State.leaseHolder (s : State) (l : Nat) : Option Nat := (Sparse.get (fun _ => none) s.mgt.lease l).map (fun (x : Lease) => x.holder)

/-- The check that every command to a table passes first: the table, its lease, roadworks. -/
def State.tblRefusal (s : State) (w t : Nat) : Option Nat :=
  if (s.tblSize t).isNone then some 5
  else if (s.leaseHolder t).any (fun h => h != w) then some 3
  else if s.tbl.works.contains t then some 4
  else none

/-- May operation `op` write table `t` in this way: INSERT by key, WRITE_INDEX by index, DELETE either (R234)? -/
def opFits (op : Nat) (kind : TableKind) : Bool :=
  match op, kind with
  | 1, .learning => true
  | 1, .exact => true
  | 1, .span => true
  | 2, _ => true
  | 5, .ternary => true
  | 5, .index => true
  | _, _ => false

/-- The refusal of one write (results 0x5, 0x6 and 0x7), which a DELETE never meets beyond the operation. -/
def State.writeRefusal (s : State) (t op : Nat) (e : TblEntry) : Option Nat :=
  if !opFits op (tableKind t) then some 5
  else if op = 2 then none
  else if e.dmask ≠ 0xFFF then some 6
  else if !s.entryLegal t e || (op == 5 && decide (((s.tblSize t).getD (0, 0)).1 ≤ e.index)) then some 7
  else none

/-- INSERT, DELETE and WRITE_INDEX (R212). -/
def State.tblWrite (s : State) (w t op : Nat) : State :=
  let e := s.winEntry w t
  match s.tblRefusal w t, s.writeRefusal t op e with
  | some r, _ => s.tblResult w op r
  | none, some r => s.tblResult w op r
  | none, none =>
    let es := s.table t
    let size := ((s.tblSize t).getD (0, 0)).1
    let kind := tableKind t
    if op = 2 && !es.any (fun x => sameKey kind x e) then s.tblResult w op 1
    else
      let (s1, n) := s.drawNat
      match runWrite kind size (n % 2 == 1) es ⟨op, t, e⟩ with
      | none => s1.tblResult w op 2
      | some (es', i) =>
        let s2 := (s1.setTable t es').mirrorWrite ⟨op, t, e⟩
        (if op = 1 then s2.setFld .tbl (winReg w 8) 17 0 i else s2).tblResult w op 0

/-- Puts an entry into a window (R234). -/
def State.showEntry (s : State) (w t : Nat) (e : TblEntry) : State :=
  let s1 := s.setFld .tbl (winReg w 8) 17 0 e.index
  let s2 := s1.wr .tbl (winReg w 0xC) (word (e.district + 65536 * e.dmask + 2 ^ 31 * e.fixed.toNat))
  let s3 := s2.wr .tbl (winReg w 0x10) (word (e.valid + 256 * e.vmask))
  let age := ((s.nowNs : Int) - e.refreshed).toNat / 1000000000
  let result := match tableKind t with
    | .learning => padTo 4 e.result ++ leBytes 4 age
    | _ => e.result
  let key := if t = 29 then e.result else e.key
  let s4 := s3.wrs .tbl (winReg w 0x40) (wordsOf (padTo 64 key))
  let s5 := s4.wrs .tbl (winReg w 0x80) (wordsOf (padTo 64 e.mask))
  s5.wrs .tbl (winReg w 0xC0) (wordsOf (padTo 16 (if t = 29 then [] else result)))

/-- READ by key and READ_INDEX: the entry that the window names by key, for a ternary table by its match words. -/
def State.tblFetch (s : State) (w t op : Nat) : State :=
  match s.tblRefusal w t with
  | some r => s.tblResult w op r
  | none =>
    let e := s.winEntry w t
    let byKey := fun (x : TblEntry) => match tableKind t with
      | .ternary => x.district == e.district && (x.dmask == e.dmask && (x.valid == e.valid && (x.vmask == e.vmask && (x.key == e.key && x.mask == e.mask))))
      | k => sameKey k x e
    if op = 3 && tableKind t = .index then s.tblResult w op 5
    else match (s.table t).find? (fun x => if op = 3 then byKey x else x.index == e.index) with
      | none => s.tblResult w op 1
      | some x => (s.showEntry w t x).tblResult w op 0

/-- A window's batch. -/
def State.batch (s : State) (w : Nat) : List TblWrite := Sparse.get (fun _ => []) s.tbl.batch w

/-- The state with a window's batch replaced. -/
def State.setBatch (s : State) (w : Nat) (b : List TblWrite) : State :=
  { s with tbl := { s.tbl with batch := Sparse.put (fun _ => []) s.tbl.batch w b } }

/-- A command with STAGE = 1 (R213). -/
def State.tblStage (s : State) (w t op : Nat) : State :=
  let e := s.winEntry w t
  match s.tblRefusal w t, s.writeRefusal t op e with
  | some r, _ => s.tblResult w op r
  | none, some r => s.tblResult w op r
  | none, none =>
    if s.leaseHolder t ≠ some w then s.tblResult w op 3
    else if 1024 ≤ (s.batch w).length then s.tblResult w op 8
    else (s.setBatch w (s.batch w ++ [⟨op, t, e⟩])).tblResult w op 0

/-- Discards a path's staged writes to a table, with the cause of E523 (R213). -/
def State.dropBatch (s : State) (w t cause : Nat) : State :=
  if (s.batch w).any (fun x => x.table == t) then
    (s.setBatch w ((s.batch w).filter (fun x => x.table != t))).emit 523 (p2 w ++ (p2 t ++ p1 cause))
  else s

/-- Runs the writes of a batch in order; none where one finds no room. -/
def runBatch (kind : TableKind) (size : Nat) (tight : Bool) : List TblEntry → List TblWrite → Option (List TblEntry)
  | es, [] => some es
  | es, w :: ws => match runWrite kind size tight es w with
    | none => none
    | some (es', _) => runBatch kind size tight es' ws

/-- BATCH_APPLY (R213): all of the batch or none of it. -/
def State.batchApply (s : State) (w t : Nat) : State :=
  match s.tblRefusal w t with
  | some r => s.tblResult w 6 r
  | none =>
    let mine := (s.batch w).filter (fun x => x.table == t)
    if s.leaseHolder t ≠ some w then s.tblResult w 6 3
    else if mine.isEmpty then s.tblResult w 6 9
    else
      let (s1, n) := s.drawNat
      match runBatch (tableKind t) ((s.tblSize t).getD (0, 0)).1 (n % 2 == 1) (s.table t) mine with
      | none => s1.tblResult w 6 2
      | some es =>
        let s2 := (s1.setTable t es).setBatch w ((s.batch w).filter (fun x => x.table != t))
        ((mine.foldl (fun (u : State) x => u.mirrorWrite x) s2).emit 522 (p2 w ++ (p2 t ++ p4 mine.length))).tblResult w 6 0

/-- BATCH_DISCARD (R213). -/
def State.batchDiscard (s : State) (w t : Nat) : State :=
  match s.tblRefusal w t with
  | some r => s.tblResult w 7 r
  | none => if (s.batch w).any (fun x => x.table == t) then (s.dropBatch w t 1).tblResult w 7 0 else s.tblResult w 7 9

/-! ### Ageing and recovery timers (R210, R218) -/

/-- Dynamic entries not refreshed for AGE seconds are removed; a standby member ages none (14_tandem_redundancy.md R545). -/
def State.ageOut (s : State) : State :=
  let age := 1000000000 * s.fld .tbl 0x8000 15 0
  let old := fun (e : TblEntry) => !e.fixed && decide ((age : Int) ≤ (s.nowNs : Int) - e.refreshed)
  let gone := (s.table 0).filter old
  if age = 0 || !s.tdm.active then s
  else
    gone.foldl (fun (t : State) e => t.mirrorLearn 2 e.port e.district (leAt e.key 6 2) (e.key.take 6))
      ((s.setTable 0 ((s.table 0).filter (fun e => !old e))).bumpBy .tbl 0x8418 gone.length)

/-- RESET_MS has passed without a passed frame on a stream. -/
def State.resetStream (s : State) (k : Nat) : State :=
  if (s.streamEntry k).isEmpty then s
  else ((s.setRecovery k { s.recovery k with takeAny := true }).bump .prs (cbCounter k 7)).emit 524 (p2 k)

/-! ### Weir writes (R226) -/

/-- A write of RATE1, RATE2, BURST1 or BURST2 is staged. -/
def State.putWeirStage (s : State) (w n : Nat) (v : Word) : State :=
  let g := s.weirStage w
  let x := match s.storedWord .host .prs (weirReg w (4 + 4 * n)) v with
    | some (_, x) => x
    | none => v
  s.setWeirStage w (match n with
    | 0 => { g with rate1 := some x }
    | 1 => { g with rate2 := some x }
    | 2 => { g with burst1 := some x }
    | _ => { g with burst2 := some x })

/-- A write of WEIR_CFG applies the staged writes with it, or is ignored where PIR would fall below CIR. -/
def State.applyWeir (s : State) (w : Nat) (v : Word) : State :=
  let g := s.weirStage w
  let cfg := match s.storedWord .host .prs (weirReg w 0) v with
    | some (_, x) => x
    | none => v
  let r1 := g.rate1.getD (s.rd .prs (weirReg w 4))
  let r2 := g.rate2.getD (s.rd .prs (weirReg w 8))
  let b1 := g.burst1.getD (s.rd .prs (weirReg w 0xC))
  let b2 := g.burst2.getD (s.rd .prs (weirReg w 0x10))
  let s1 := s.setWeirStage w {}
  if !bit cfg 31 && decide (field r2 23 0 < field r1 23 0) then s1.prsErr 7 0 0 (p2 w)
  else s1.setWeirWords w [cfg, r1, r2, b1, b2]

/-- The frame that has waited longest on an input lane. -/
def State.waiting (s : State) (l : Nat) : Option Frame := s.prs.wait.find? (fun f => f.lane == l)

/-- The sequence in a frame's R-TAG. -/
def State.rtagOf (s : State) (f : Frame) : Option Nat :=
  ((parse (graphOf (s.recsAt f.epoch)) f.bytes).hdrs.find? (fun h => h.role == 4)).map (fun h => beAt f.bytes (h.off + 2) 2)

/-- The frames that reach recovery with `f` in one cell slot, from lower input lanes: copies of one sequence, first of their lanes, with one
arrival stamp (R219; notes/assumptions/71.md). -/
def State.tied (s : State) (f : Frame) : List Frame :=
  ((List.range f.lane).filterMap s.waiting).filter (fun g => g.stamp == f.stamp && ((s.rtagOf f).isSome && s.rtagOf g == s.rtagOf f))

/-- Classifies a frame that waits. -/
def State.classifyNext (s : State) (f : Frame) : State :=
  ({ s with prs := { s.prs with wait := s.prs.wait.filter (fun x => x.id != f.id) } }).classify f

/-- The first waiting frame of an input lane is classified (R185), after those of lower lanes that go first (R219). -/
def State.classifyLane (s : State) (l : Nat) : State :=
  match s.waiting l with
  | none => s
  | some f => (s.tied f ++ [f]).foldl (fun (t : State) g => t.classifyNext g) s

end Sys2Proof.Machine
end

