-- ==== Sys2Proof/Machine/RulesNet.lean ====
section
/-!
DEFINITION. What staging asks of the records of the data plane: regions 0x01-0x0A, 0x12 and 0x16 (02_ikiem_images.md R59; each chapter's
rules of LAST_ERR 0x3). A record whose key or length is none that its region has is malformed.
-/
namespace Sys2Proof.Machine

/-- A body of words in register layout, no reserved bit set. -/
def wordsWithin (b : List Byte) (masks : List Nat) : Bool :=
  b.length == 4 * masks.length && (List.zip (List.range masks.length) masks).all (fun x => within (leAt b (4 * x.1) 4) x.2)

/-- Every pair of different records of a list keeps a relation. -/
def pairwise {α : Type} (r : α → α → Bool) : List α → Bool
  | [] => true
  | x :: xs => xs.all (r x) && pairwise r xs

/-! ### Port builds, settings and enables (04_ethernet_ports.md R146, R147, R654) -/

/-- May port `p` have this build? -/
def buildLegal (p w : Nat) : Bool :=
  let mode := w % 16
  let fec := w / 16 % 4
  let an := w / 64 % 2
  within w 0x1FF && (
    if mode = 0 then fec == 0 && (an == 0 && (decide (p < 21) || w == 0))
    else if p < 4 then (mode == 1 && decide (fec ≤ 2)) || ((mode == 2 && (fec == 2 && an == 0)) || ((mode == 3 && decide (fec ≤ 1)) || (mode == 4 && fec == 0)))
    else if p = 4 then mode == 1 && (fec == 2 && an == 0)
    else if p < 21 then (decide (5 ≤ mode) && (decide (mode ≤ 8) && fec == 0)) || ((mode == 9 && (decide (fec ≤ 1) && an == 0)) || (mode == 0xA && fec == 0))
    else w == 0xB)

/-- The words of a settings record: offset and defined bits of each register. -/
def settingWords : List (Nat × Nat) :=
  [(0x8, 0xFFFFFFFF), (0x14, 0x3FFF), (0x18, 0xFFFFFFFF), (0x1C, 0xFFFF), (0x40, 0xFFFFFFFF), (0x44, 0xFFFFFFFF), (0x50, 0x00FFFFC3),
   (0x60, 0x0FFF03FF), (0x64, 0x13), (0x68, 0xFFFFFFFF), (0x6C, 0xFFFFFFFF), (0x70, 0xFFFFFFFF), (0x74, 0xFFFFFFFF), (0x78, 0xFFFFFFFF),
   (0x80, 0xC000FFFF), (0x84, 0x00FFFFFF)]

/-- Does R181 reserve the register on the port? -/
def reservedOn (p off : Nat) : Bool := if isSPort p then decide (0x40 ≤ off) && decide (off < 0x80) else decide (0x80 ≤ off)

/-- Regions 0x01 and 0x16. -/
def portRecLegal (r : Rec) : Bool :=
  if r.region = 0x16 then r.key == 0 && wordsWithin r.body [1]
  else if r.key = 0 then r.body.length == 4 && buildLegal r.scope (leAt r.body 0 4)
  else r.key == 1 && wordsWithin r.body (settingWords.map (fun x => if reservedOn r.scope x.1 then 0 else x.2))

/-! ### Parse graph (05_classification.md R183-R186) -/

/-- A node's body among `n` nodes. -/
def nodeLegal (n key : Nat) (b : List Byte) : Bool :=
  let role := byteAt b 0
  let lenOff := byteAt b 4
  let selOff := byteAt b 8
  let count := byteAt b 11
  let next := fun (k : Nat) => decide (k < n) || k == 0xFF
  let lengthUsed := role == 0 && lenOff != 0xFF
  let unit := byteAt b 7
  b.length == 64 && (decide (role ≤ 0xC) && ((role == 1) == (key == 0) && (decide (byteAt b 1 < 8) && (allZero (slice b 12 4) &&
    (next (byteAt b 10) && (decide (count ≤ 8) &&
    ((if lengthUsed then decide (byteAt b 6 ≤ 7) && ((unit == 1 || (unit == 2 || (unit == 4 || unit == 8))) && decide (lenOff < leAt b 2 2))
      else if role == 0 then allZero (slice b 5 3) else allZero (slice b 2 6)) &&
    ((if selOff = 0xFF then count == 0 && byteAt b 9 == 0 else byteAt b 9 == 1 || byteAt b 9 == 2) &&
    ((!(byteAt b 1).testBit 2 || (count == 0 && byteAt b 10 == 0xFF)) &&
    (List.range 8).all (fun i =>
      let t := slice b (16 + 6 * i) 6
      byteAt t 5 == 0 && (if i < count then next (byteAt t 4) else allZero t)))))))))))

/-- Region 0x02: numbered from 0 without gaps, at least one node. -/
def graphLegal (rs : List Rec) : Bool :=
  let mine := regionRecs rs 2
  let n := mine.length
  decide (1 ≤ n) && (decide (n ≤ 64) && mine.all (fun r => decide (r.key < n) && nodeLegal n r.key r.body))

/-! ### Tables (R194, R199-R208, R215, R656, R657) -/

/-- Region 0x03. -/
def shapeLegal (r : Rec) : Bool :=
  let n := leAt r.body 0 4
  let k := leAt r.body 4 1
  r.key == 0 && (r.body.length == 8 && (allZero (slice r.body 5 3) && (decide (1 ≤ n) && (match tableKind r.scope with
    | .exact => decide (n ≤ 262144) && (decide (1 ≤ k) && decide (k ≤ 60))
    | .ternary => decide (n ≤ 8192) && (decide (1 ≤ k) && decide (k ≤ 60))
    | .span => decide (n ≤ 16384) && (k == 4 || k == 16)
    | _ => false))))

/-- Region 0x04. -/
def programLegal (rs : List Rec) (r : Rec) : Bool :=
  let t := byteAt r.body 0
  let count := byteAt r.body 1
  let total := ((List.range count).map (fun i => byteAt r.body (6 + 4 * i))).sum
  r.key == r.scope && (r.body.length == 52 && ((decide (t ≤ 30) || t == 0xFF) && (decide (count ≤ 8) && (leAt r.body 2 2 == 0 &&
    ((List.range 8).all (fun i => byteAt r.body (7 + 4 * i) == 0) &&
    ((List.range count).all (fun i => decide (byteAt r.body (4 + 4 * i) < 0x84) && (decide (1 ≤ byteAt r.body (6 + 4 * i)) && decide (byteAt r.body (6 + 4 * i) ≤ 16))) &&
    (decide (total ≤ 60) && ((match shapeIn rs t with
      | some (_, k) => total == k
      | none => true) && actionLegal (slice r.body 0x24 16) (decide (2 ≤ r.scope))))))))))

/-- Key bytes as they lie in a body: padded to a multiple of four (R657). -/
def paddedKey (k : Nat) : Nat := 4 * ceilDiv k 4

/-- The entry that a content record gives, at index `i` (R657). -/
def contentEntry (rs : List Rec) (now : Nat) (t : Nat) (r : Rec) (i : Nat) : TblEntry :=
  let b := r.body
  let k := ((shapeIn rs t).getD (0, 0)).2
  let pk := paddedKey k
  let base : TblEntry := { index := i, district := leAt b 0 2 % 4096, refreshed := now }
  match tableKind t with
  | .learning => { base with key := learnKey (slice b 4 6) (leAt b 2 2), result := [byte (byteAt b 10)], fixed := true }
  | .exact => { base with valid := byteAt b 2, key := slice b 4 k, result := slice b (4 + pk) 16 }
  | .ternary => { base with index := r.key, dmask := leAt b 2 2, valid := byteAt b 4, vmask := byteAt b 5, key := slice b 8 k,
                            mask := slice b (8 + pk) k, result := slice b (8 + 2 * pk) 16 }
  | .span => { base with key := slice b 4 k, mask := [byte (byteAt b 2)], result := slice b (4 + k) 16 }
  | .index => { index := r.key, result := b, refreshed := now }

/-- The content records of a table: table 30 takes region 0x12. -/
def contentRecs (rs : List Rec) (t : Nat) : List Rec :=
  if t = 30 then regionRecs rs 0x12 else (regionRecs rs 5).filter (fun r => r.scope == t)

/-- The entries of a table's contents: the index of a keyed entry is its place in the list. -/
def contents (rs : List Rec) (now t : Nat) : List TblEntry :=
  let mine := contentRecs rs t
  (List.zip (List.range mine.length) mine).map (fun x => contentEntry rs now t x.2 x.1)

/-- One content record: lengths, reserved bytes and values. Admission, not this, refuses contents without a shape. -/
def contentLegal (rs : List Rec) (t : Nat) (r : Rec) : Bool :=
  let b := r.body
  let late := lateTable rs t
  let e := contentEntry rs 0 t r 0
  let d := decide (leAt b 0 2 < 4096)
  let pk := fun (k : Nat) => paddedKey k
  match tableKind t, shapeIn rs t with
  | .learning, _ => b.length == 12 && (d && (decide (leAt b 2 2 < 4096) && (decide (byteAt b 10 < 29) && byteAt b 11 == 0)))
  | .exact, some (_, k) => b.length == 20 + pk k && (d && (byteAt b 3 == 0 && (allZero (slice b (4 + k) (pk k - k)) && actionLegal e.result late)))
  | .ternary, some (_, k) =>
    b.length == 24 + 2 * pk k && (d && (decide (leAt b 2 2 < 4096) && (leAt b 6 2 == 0 && (allZero (slice b (8 + k) (pk k - k)) &&
      (allZero (slice b (8 + pk k + k) (pk k - k)) && actionLegal e.result late)))))
  | .span, some (_, k) =>
    b.length == 20 + k && (d && (byteAt b 3 == 0 && (decide (e.prefixLen ≤ 8 * k) && (prefixMasked e.prefixLen e.key == e.key && actionLegal e.result late))))
  | .index, _ =>
    if t = 28 then b.length == 8 && groupLegal b
    else if t = 29 then b.length == 64 && editLegal b
    else b.length == 16 && streamLegal b
  | _, none => true

/-- Regions 0x05 and 0x12: every record, and no two entries of one key. -/
def tablesLegal (rs : List Rec) : Bool :=
  (List.range 31).all (fun t =>
    (contentRecs rs t).all (contentLegal rs t) &&
      (decide (tableKind t = .ternary ∨ tableKind t = .index) || pairwise (fun a b => !sameKey (tableKind t) a b) (contents rs 0 t)))

/-! ### Districts and port ingress (R192, R193) -/

/-- One record of region 0x06. -/
def districtRecLegal (r : Rec) : Bool :=
  let b := r.body
  if r.key < 0x1000 then
    b.length == 24 && (decide (leAt b 0 4 < 2 ^ 29) && (decide (byteAt b 4 < 8) && (decide (byteAt b 5 < 2) && (decide (leAt b 6 2 < 4096) &&
      (decide (leAt b 8 2 + leAt b 10 2 ≤ 16384) && (decide (leAt b 12 2 + leAt b 14 2 ≤ 1024) && leAt b 0x14 4 == 0))))))
  else if r.key < 0x1000 + 29 then wordsWithin b [0xFFFFF000]
  else decide (0x2000 ≤ r.key) && (decide (r.key < 0x2010) && wordsWithin b [0x8700FFFF])

/-- Do two ranges (first, count) share a member? -/
def overlaps (a na b nb : Nat) : Bool := decide (a < b + nb) && (decide (b < a + na) && (decide (0 < na) && decide (0 < nb)))

/-- Region 0x06: weir ranges and queue ranges do not overlap. -/
def districtsLegal (rs : List Rec) : Bool :=
  let mine := regionRecs rs 6
  mine.all districtRecLegal &&
    pairwise (fun (a b : Rec) => !overlaps (leAt a.body 8 2) (leAt a.body 10 2) (leAt b.body 8 2) (leAt b.body 10 2) &&
      !overlaps (leAt a.body 12 2) (leAt a.body 14 2) (leAt b.body 12 2) (leAt b.body 14 2)) (mine.filter (fun r => decide (r.key < 0x1000)))

/-! ### Reservations, weirs, schedules and shapers (06_switch_core.md R253-R255; R226, R658; 07_egress_scheduling.md R293, R294, R307, R308) -/

/-- Fields of a key of region 0x07. -/
def limitKind (key : Nat) : Nat := key / 2 ^ 18 % 4
def limitLane (key : Nat) : Nat := key / 256 % 32
def limitDistrict (key : Nat) : Nat := key / 2 ^ 20

/-- One record of region 0x07. -/
def limitRecLegal (r : Rec) : Bool :=
  let b := r.body
  let lane := limitLane r.key
  match limitKind r.key with
  | 0 => within r.key 0xFFF09F07 && ((decide (lane ≤ 22) || lane == 25) && (b.length == 16 && (decide (leAt b 0 4 ≤ leAt b 4 4) &&
      (decide (leAt b 8 4 ≤ 5000000) && leAt b 12 4 == 0))))
  | 1 => within r.key 0x00041F00 && (decide (lane < 29) && (b.length == 36 && (allZero (slice b 1 3) &&
      (List.range 8).all (fun c => leAt b (4 + 2 * c) 2 == 0 || decide (leAt b (20 + 2 * c) 2 < leAt b (4 + 2 * c) 2)))))
  | 2 => r.key == 0x00080000 && b.length == 8
  | _ => false

/-- Region 0x07. -/
def limitsLegal (rs : List Rec) : Bool :=
  let mine := regionRecs rs 7
  mine.all limitRecLegal && decide ((mine.filter (fun r => limitKind r.key == 0)).length ≤ 8192)

/-- The words of a weir record as they are stored (R658). -/
def weirWords (b : List Byte) : List Word :=
  (List.range 5).map (fun i => storedAs .prs (0x100000 + 4 * i) (word (leAt b (4 * i) 4)))

/-- Region 0x08. -/
def weirRecLegal (r : Rec) : Bool :=
  let ws := weirWords r.body
  wordsWithin r.body [0xFFF0003F, 0x00FFFFFF, 0x00FFFFFF, 0x01FFFFFF, 0x01FFFFFF] &&
    (bit (ws.getD 0 0) 31 || decide (field (ws.getD 1 0) 23 0 ≤ field (ws.getD 2 0) 23 0))

/-- COUNT of a port's schedule header; 0 without one. -/
def scheduleCount (rs : List Rec) (p : Nat) : Nat := ((recBody rs 9 p 0).map (fun b => leAt b 12 2)).getD 0

/-- Region 0x09; the scopes of S0-S7 are 21-28 (03_time_and_order.md R132), built or not. -/
def scheduleRecLegal (rs : List Rec) (r : Rec) : Bool :=
  let b := r.body
  if r.key = 0 then
    b.length == 16 && (decide (byteAt b 14 < 2) && (byteAt b 15 == 0 &&
      (List.range (leAt b 12 2)).all (fun n => (recBody rs 9 r.scope (0x10000 + n)).isSome)))
  else
    decide (0x10000 ≤ r.key) && (decide (r.key < 0x10000 + scheduleCount rs r.scope) && (b.length == 8 && (decide (byteAt b 5 ≤ 2) &&
      (leAt b 6 2 == 0 && (byteAt b 5 == 0 || decide (r.scope < 21))))))

/-- Group and quantum of a class record; no group without one. -/
def groupIn (rs : List Rec) (p c : Nat) : Nat := ((recBody rs 0xA p c).map (fun b => byteAt b 6)).getD 0

/-- Region 0x0A: a record, and the groups of a port. -/
def shaperRecLegal (r : Rec) : Bool :=
  let b := r.body
  let q := leAt b 4 2
  if r.key = 0x100 then b.length == 4 && leAt b 2 2 == 0
  else
    decide (r.key < 8) && (b.length == 8 && (decide (leAt b 0 4 ≤ 3125000) && (decide (byteAt b 6 ≤ 3) && (decide (byteAt b 7 < 2) &&
      ((if byteAt b 6 = 0 then q == 0 else decide (64 ≤ q)) && (byteAt b 7 == 0 || leAt b 0 4 != 0))))))
def groupsLegal (rs : List Rec) (p : Nat) : Bool :=
  [1, 2, 3].all (fun g =>
    let cs := (List.range 8).filter (fun c => groupIn rs p c == g)
    cs.isEmpty || (decide (2 ≤ cs.length) && (cs.getLastD 0 - cs.headD 0 + 1 == cs.length)))

/-- Every rule of the regions of the data plane. -/
def netLegal (rs : List Rec) : Bool :=
  rs.all (fun r => match r.region with
    | 0x01 => portRecLegal r
    | 0x16 => portRecLegal r
    | 0x03 => shapeLegal r
    | 0x04 => programLegal rs r
    | 0x08 => weirRecLegal r
    | 0x09 => scheduleRecLegal rs r
    | 0x0A => shaperRecLegal r
    | _ => true) &&
  (graphLegal rs && (tablesLegal rs && (districtsLegal rs && (limitsLegal rs && (List.range 29).all (groupsLegal rs)))))

end Sys2Proof.Machine
end

