-- ==== Sys2Proof/Machine/RulesBus.lean ====
section
/-!
DEFINITION. What staging asks of the records of the fieldbuses: regions 0x0B, 0x0C and 0x0D, and the secured PDUs of region 0x0F
(08_can_controllers.md R323, R326, R332, R352; 09_gateway_and_culvert.md R367-R394).
-/
namespace Sys2Proof.Machine

/-! ### CAN (R322-R326, R332) -/

/-- The build record of a channel; a word of it; PROTO. -/
def canBuild (rs : List Rec) (n : Nat) : Option (List Byte) := recBody rs 0x0B n 0
def canBuildWord (rs : List Rec) (n i : Nat) : Word := ((canBuild rs n).map (fun b => wordAt b (4 * i))).getD 0
def canBuildProto (rs : List Rec) (n : Nat) : Nat := field (canBuildWord rs n 0) 9 8

/-- A bit's prescaler, segments and jump width; its time in quanta clock periods of 12.5 ns (R325). -/
structure BitTime where
  brp : Nat
  seg1 : Nat
  seg2 : Nat
  sjw : Nat
deriving DecidableEq, Repr
def nominalBit (w : Word) : BitTime := ⟨field w 24 20 + 1, field w 19 12 + 1, field w 11 5 + 1, field w 31 25 + 1⟩
def dataBit (w : Word) : BitTime := ⟨field w 20 16 + 1, field w 15 11 + 1, field w 10 7 + 1, field w 6 3 + 1⟩
def BitTime.periods (t : BitTime) : Nat := (1 + t.seg1 + t.seg2) * t.brp

/-- The limits of R326. -/
def BitTime.sjwOk (t : BitTime) : Bool := decide (t.sjw ≤ Nat.min t.seg1 t.seg2)
def nominalOk (t : BitTime) : Bool := decide (2 ≤ t.seg1) && (t.sjwOk && decide (80 ≤ t.periods))
def dataOk (nominal t : BitTime) : Bool := t.sjwOk && (decide (8 ≤ t.periods) && decide (t.periods ≤ nominal.periods))

/-- The objects that a channel's records give: number and OBJ_CFG. -/
def canObjs (rs : List Rec) (n : Nat) : List (Nat × Word) :=
  (regionRecs rs 0x0B).filterMap (fun r =>
    if r.scope = n && decide (0x100 ≤ r.key) && decide (r.key < 0x180) then some (r.key - 0x100, wordAt r.body 8) else none)

/-- Does a channel with a build record keep R323? An absent one, with PROTO 0, has no bit time and may have share 0. -/
def canBuildOk (rs : List Rec) (n : Nat) : Bool :=
  let w := canBuildWord rs n
  let proto := canBuildProto rs n
  let share := field (w 0) 24 16
  let mode := field (w 0) 11 10
  let nominal := nominalBit (w 2)
  let xl := dataBit (w 4)
  let objs := canObjs rs n
  let split := recBody rs 0x0B n 0x300
  let queueRecs := (regionRecs rs 0x0B).any (fun r => r.scope == n && decide (0x200 ≤ r.key))
  let timing := (proto == 0 || nominalOk nominal) && ((decide (proto < 2) || dataOk nominal (dataBit (w 3))) && (decide (proto < 3) || dataOk nominal xl))
  let memory := decide (share ≤ 256) && (if share = 0 then proto == 0 else mode == (if share ≤ 16 then 1 else 2))
  let fits := match mode with
    | 1 => !queueRecs && decide ((objs.map (fun o => 16 + 8 * 2 ^ field o.2 27 24)).sum ≤ 1024 * share)
    | 2 => objs.isEmpty && ((split.map (fun b => decide (1 ≤ leAt b 0 2) && (decide (leAt b 0 2 ≤ 1024) &&
        (decide (1 ≤ leAt b 2 2) && decide (leAt b 2 2 ≤ 1024))))).getD (proto == 0))
    | _ => objs.isEmpty
  let ref := field (w 7) 31 30 == 0 || (field (w 7) 31 30 != 3 && (decide (n < 28) && field (w 7) 15 0 != 0))
  let pwm := !bit (w 6) 31 || (bit (w 6) 30 && field (w 6) 5 0 + field (w 6) 11 6 == xl.periods)
  timing && (memory && (fits && (ref && (pwm && decide (field (w 1) 2 0 ≤ 4)))))

/-- One record of region 0x0B: its shape and reserved bits. -/
def canRecLegal (r : Rec) : Bool :=
  let b := r.body
  if r.key = 0 then
    wordsWithin b [0x81FF0FFF, 0xFFF0FFC7, 0xFFFFFFE0, 0x001FFFF8, 0x001FFFF8, 0x80007F7F, 0xC003FFFF, 0xE000FFFF, 0x9FFFFFFF] && decide (leAt b 0 1 ≤ 128)
  else if r.key < 0x180 then decide (0x100 ≤ r.key) && (wordsWithin b [0x9FFFFFFF, 0x1FFFFFFF, 0xFF000000] && decide (leAt b 11 1 % 16 ≤ 8))
  else if r.key < 0x220 then decide (0x200 ≤ r.key) && wordsWithin b [0x9FFFFFFF, 0x1FFFFFFF]
  else r.key == 0x300 && b.length == 4

/-- Region 0x0B. -/
def canLegal (rs : List Rec) : Bool :=
  (regionRecs rs 0x0B).all canRecLegal && (List.range 32).all (fun n => (canBuild rs n).isNone || canBuildOk rs n)

/-! ### Secured PDUs (R352) -/

/-- May a frame of a protocol carry `n` bytes? -/
def frameLength (proto n : Nat) : Bool :=
  (proto == 1 && decide (n ≤ 8)) || ((decide (2 ≤ proto) && fdLengths.contains n) || (proto == 3 && (decide (1 ≤ n) && decide (n ≤ 2048))))

/-- One record of a secured PDU. -/
def pduLegal (rs : List Rec) (r : Rec) : Bool :=
  let b := r.body
  decide (r.key < 0x11000) && (b.length == 32 && (decide (byteAt b 0 < 32) && (decide (byteAt b 1 < 16) && (decide (24 ≤ byteAt b 2) &&
  (decide (byteAt b 2 ≤ 128) && (byteAt b 2 % 8 == 0 && (decide (byteAt b 3 ≤ 64) && (byteAt b 3 % 8 == 0 && (decide (leAt b 4 4 < 2 ^ 29) &&
  (decide (leAt b 0xC 2 < 8192) && ((!(byteAt b 1).testBit 2 || leAt b 0xE 2 != 0) &&
  frameLength (canBuildProto rs (byteAt b 0)) (leAt b 0xA 2 + byteAt b 3 / 8 + byteAt b 2 / 8))))))))))))

/-- The secured PDUs together: consecutive numbers on each channel, no two alike. -/
def pdusLegal (rs : List Rec) : Bool :=
  let mine := (regionRecs rs 0x0F).filter (fun r => decide (0x10000 ≤ r.key))
  mine.all (pduLegal rs) && ((List.range 32).all (fun n =>
    let ks := pdusOf rs n
    ks.getLastD 0 + 1 - ks.headD 0 == ks.length || ks.isEmpty) &&
  pairwise (fun (a b : Rec) => !(byteAt a.body 0 == byteAt b.body 0 && (leAt a.body 4 4 == leAt b.body 4 4 &&
    (byteAt a.body 1 &&& 0xA) == (byteAt b.body 1 &&& 0xA)))) mine)

/-! ### MVB (R393, R394) -/

/-- The build record of an MVB channel as words. -/
def mvbBuildWord (rs : List Rec) (n i : Nat) : Word := ((recBody rs 0x0C n 0).map (fun b => wordAt b (4 * i))).getD 0

/-- Time of a telegram in units of 1/30 us. -/
def telegramTime (fcode reply : Nat) : Nat := (33 + [33, 49, 81, 153, 297].getD fcode 0) * 20 + 3 * reply + 60

/-- Do the polls of every basic period fit it? -/
def pollsFit (rs : List Rec) (n : Nat) : Bool :=
  let timing := mvbBuildWord rs n 2
  let reply := field timing 8 0
  let room := 30 * ((if bit timing 27 then 2000 else 1000) - field timing 26 16)
  let polls := (List.range (field (mvbBuildWord rs n 1) 12 0)).filterMap (fun i => (recBody rs 0x0C n (0x2000 + i)).map (fun b => leAt b 0 4))
  (List.range (2 ^ field timing 31 28)).all (fun p =>
    decide (((polls.filter (fun w => p % 2 ^ (w / 65536 % 16) == w / 2 ^ 20 % 1024)).map (fun w => telegramTime (w / 4096 % 8) reply)).sum ≤ room))

/-- Region 0x0C: one record, and a channel. -/
def mvbRecLegal (rs : List Rec) (r : Rec) : Bool :=
  let b := r.body
  let w := leAt b 0 4
  if r.key = 0 then
    wordsWithin b [0xF0FFF000, 0xFFFF1FFF, 0xFFFF01FF] && (w / 2 ^ 30 != 3 && (decide (w / 2 ^ 28 % 4 ≤ 1) && (byteAt b 6 != 0 &&
      (decide (leAt b 4 2 % 8192 ≤ 4096) && (decide (leAt b 8 4 / 2 ^ 28 ≤ 10) && (decide (leAt b 8 4 / 65536 % 2048 ≤ 2000) && leAt b 8 4 % 512 != 0))))))
  else if r.key < 0x2000 then decide (0x1000 ≤ r.key) && (wordsWithin b [0xC700FFFF] && decide (w / 2 ^ 24 % 8 ≤ 4))
  else if r.key < 0x3000 then
    let exp := w / 65536 % 16
    wordsWithin b [0x3FFF7FFF] && (decide (w / 4096 % 8 ≤ 4) && (decide (exp ≤ field (mvbBuildWord rs r.scope 2) 31 28) && decide (w / 2 ^ 20 < 2 ^ exp)))
  else decide (r.key < 0x3010) && wordsWithin b [0xFFF]
def mvbLegal (rs : List Rec) : Bool :=
  (regionRecs rs 0x0C).all (mvbRecLegal rs) && [0, 1].all (fun n =>
    let role := field (mvbBuildWord rs n 0) 31 30
    role == 0 || ((role != 2 || field (mvbBuildWord rs n 1) 12 0 != 0) && pollsFit rs n))

/-! ### Gateway and culvert rules (R367-R391) -/

/-- Does an object record make `o` of channel `n` a transmit object; its capacity. -/
def objWord (rs : List Rec) (n o : Nat) : Word := ((recBody rs 0x0B n (0x100 + o)).map (fun b => wordAt b 8)).getD 0

/-- May an identifier (IDE in bit 31) be compared with the source's kind? -/
def sourceOk (kind ch id mask : Nat) : Bool :=
  if kind = 1 then decide (ch < 32) && (within id 0x9FFFFFFF && within mask 0x1FFFFFFF) else decide (ch < 2) && (decide (id < 4096) && decide (mask < 4096))

/-- Does a target queue's identifier belong to a transmit secured PDU of the channel (R371)? -/
def pduClash (rs : List Rec) (ch newId : Nat) : Bool :=
  (regionRecs rs 0x0F).any (fun r => decide (0x10000 ≤ r.key) && (byteAt r.body 0 == ch && ((byteAt r.body 1).testBit 1 &&
    ((byteAt r.body 1).testBit 3 == newId.testBit 30 && leAt r.body 4 4 == newId % 2 ^ 29))))

/-- May a rule name this target (R370, R371)? `mvb`: the source is an MVB port. -/
def targetLegal (rs : List Rec) (mvb : Bool) (t : List Byte) : Bool :=
  let ch := byteAt t 1
  let index := leAt t 2 2
  let newId := leAt t 4 4
  match byteAt t 0 with
  | 0 => index == 0 && newId == 0
  | 1 => decide (ch < 32) && (if index = 0xFFFF then !(mvb && newId.testBit 31) && (newId.testBit 31 || !pduClash rs ch newId)
      else decide (index < 128) && (newId == 0 && (bit (objWord rs ch index) 30 && (targetOf rs 1 ch index).isNone)))
  | 2 => decide (ch < 2) && (decide (index < 4096) && newId == 0)
  | 3 => decide (index < 256) && newId == 0
  | 4 => decide (index < 1024) && newId == 0
  | 5 => decide (ch < 2) && (index == 0 && newId == 0)
  | _ => false

/-- A key handle is given exactly where there is encryption. -/
def handleOk (enc : Bool) (h : Nat) : Bool := if enc then decide (h < 8192) else h == 0

/-- One record of region 0x0D. -/
def gwyRecLegal (rs : List Rec) (r : Rec) : Bool :=
  let b := r.body
  let index := r.key % 65536
  let flags := byteAt b 2
  within r.key 0xF000FFFF && match r.key / 2 ^ 28 with
  | 0 => index == 0 && (b.length == 12 && (byteAt b 0 % 2 == 0 && (leAt b 2 2 == 0 && leAt b 10 2 == 0)))
  | 1 =>
    let kind := byteAt b 0
    decide (index < 4096) && (b.length == 44 && (decide (1 ≤ kind) && (decide (kind ≤ 3) && (decide (flags < 4) && (byteAt b 3 == 0 &&
      (sourceOk kind (byteAt b 1) (leAt b 4 4) (leAt b 8 4) && (List.range 4).all (fun i =>
        let t := slice b (12 + 8 * i) 8
        targetLegal rs (decide (2 ≤ kind)) t && (kind != 3 || (byteAt t 0 == 0 || byteAt t 0 == 4)))))))))
  | 2 =>
    let kind := byteAt b 0
    decide (index < 8192) && (b.length == 44 && (decide (1 ≤ kind) && (decide (kind ≤ 2) && (decide (flags < 32) && (byteAt b 3 == 0 &&
      (sourceOk kind (byteAt b 1) (leAt b 4 4) 0 && (decide (1 ≤ byteAt b 12) && (decide (byteAt b 12 ≤ 64) && (byteAt b 13 == 0 &&
      (decide (leAt b 14 2 < 1024) && leAt b 0x2A 2 == 0))))))))))
  | 3 =>
    let len := leAt b 4 2
    let ch := byteAt b 1
    let k := leAt b 2 2
    decide (index < 1024) && (b.length == 16 + 4 * ceilDiv len 4 && (decide (byteAt b 6 < 4) && (byteAt b 7 == 0 && (allZero (slice b 10 6) &&
      (allZero (b.drop (16 + len)) && (match byteAt b 0 with
        | 1 => decide (ch < 32) && (decide (k < 128) && (bit (objWord rs ch k) 30 && (decide (len ≤ 8 * 2 ^ field (objWord rs ch k) 27 24) && frameLength (canBuildProto rs ch) len)))
        | 2 =>
          let cfg := ((recBody rs 0x0C ch (0x1000 + k)).map (fun x => wordAt x 0)).getD 0
          decide (ch < 2) && (decide (k < 4096) && (bit cfg 30 && (len == mvbSize cfg && (byteAt b 6 == 0 && leAt b 8 2 == 0))))
        | _ => false))))))
  | 4 =>
    decide (index < 1024) && (b.length == 16 && (decide (byteAt b 0 < 8) && (decide (byteAt b 1 < 8) && (decide (leAt b 2 2 < 4096) &&
      (handleOk ((byteAt b 0).testBit 1) (leAt b 12 2) && leAt b 14 2 == 0)))))
  | 5 =>
    let f := byteAt b 0
    let t := slice b 12 8
    decide (index < 4096) && (b.length == 28 && (decide (f < 16) && (byteAt b 1 == 0 && (handleOk (f.testBit 2) (leAt b 6 2) && (leAt b 10 2 == 0 &&
      ((byteAt t 0 == 1 || (byteAt t 0 == 2 || byteAt t 0 == 5)) && (targetLegal rs false t &&
      (if f.testBit 1 then !f.testBit 2 && !f.testBit 3 else allZero (slice b 20 8)))))))))
  | 6 =>
    decide (index < 256) && (b.length == 24 && (decide (byteAt b 0 < 8) && (decide (byteAt b 1 < 8) && (decide (leAt b 2 2 < 4096) &&
      (decide (1 ≤ byteAt b 20) && (decide (byteAt b 20 ≤ 16) && byteAt b 21 == 0))))))
  | _ => false

/-- The bits that an enabled signal rule writes: target and bit positions (R373). -/
def writtenBits (b : List Byte) : Nat × List Nat :=
  (leAt b 14 2, if (byteAt b 2).testBit 0 then signalBits ((byteAt b 2).testBit 2) (leAt b 10 2) (byteAt b 12) else [])

/-- Region 0x0D. -/
def gwyLegal (rs : List Rec) : Bool :=
  let writes := (gwyRecs rs 2).map (fun r => writtenBits r.2)
  (regionRecs rs 0x0D).all (gwyRecLegal rs) &&
    (writes.all (fun w => w.2.all (fun i => decide (i < 8 * ((gwyRec rs 3 w.1).map (fun b => leAt b 4 2)).getD 0))) &&
    pairwise (fun a b => a.1 != b.1 || a.2.all (fun i => !b.2.contains i)) writes)

end Sys2Proof.Machine
end

