-- ==== Sys2Proof/Machine/RulesSys.lean ====
section
/-!
DEFINITION. What staging asks of the records of the other regions, 0x0E-0x15, and the admission check (02_ikiem_images.md R91-R93; the
chapters' rules of LAST_ERR 0x3).
-/
namespace Sys2Proof.Machine

/-! ### Wake settings (13_wake_sleep_power.md R504, R513, R518, R527) -/

/-- A ring's words; its channel's OPMODE is normal and its timers are in order (R513). -/
def ringLegal (rs : List Rec) (b : List Byte) : Bool :=
  let ch := field (wordAt b 0) 30 26
  canBuildProto rs ch != 0 && (field (canBuildWord rs ch 1) 2 0 == 0 &&
    (decide (leAt b 4 2 < leAt b 6 2) && decide (leAt b 6 2 < leAt b 8 2)))

/-- One record of region 0x0E: decoders, rings and feeds. Of records with other keys the spec gives no layout. -/
def wakeRecLegal (rs : List Rec) (r : Rec) : Bool :=
  let b := r.body
  if 0x100 ≤ r.key ∧ r.key < 0x120 then
    wordsWithin b [0x9FFFFFFF, 0x1FFFFFFF, 0xEF030000, 0xFFFFFFFF, 0xFFFFFFFF, 0xFFFFFFFF, 0xFFFFFFFF] && decide (byteAt b 11 % 16 ≤ 8)
  else if 0x300 ≤ r.key ∧ r.key < 0x304 then
    wordsWithin b [0xFC0700FF, 0xFFFFFFFF, 0xFFFFFFFF] && (!bit (wordAt b 0) 31 || ringLegal rs b)
  else if 0x400 ≤ r.key ∧ r.key < 0x404 then wordsWithin b [0xE0FFFFFF, 0xFFFFFFFF, 0xFFFF] && decide (byteAt b 6 < byteAt b 7)
  else true

/-- The channels of the enabled rings are different. -/
def wakeLegal (rs : List Rec) : Bool :=
  let rings := (List.range 4).filterMap (fun r => (recBody rs 0xE 0xFFFF (0x300 + r)).map (fun b => wordAt b 0))
  (regionRecs rs 0xE).all (wakeRecLegal rs) && pairwise (fun a b => field a 30 26 != field b 30 26) (rings.filter (fun w => bit w 31))

/-! ### Key policy (12_keys_and_attestation.md R465) -/

/-- A slot policy record; a 384-bit key takes an even slot and leaves the next without a record. -/
def policyLegal (rs : List Rec) (r : Rec) : Bool :=
  let b := r.body
  let w := wordAt b 0
  let flags := byteAt b 4
  r.key < 8192 && (b.length == 8 && (allZero (slice b 5 3) && (decide (flags < 16) && (bit w 31 && (within w.toNat 0xE6F00FFF &&
  (usageAllowed (attrAlg w) (attrUsage w) && ((!attrAttest w || (attrAlg w == 3 && attrUsage w == 0)) &&
  ((!attrExportable w || flags.testBit 2) && ((!flags.testBit 0 || flags.testBit 1) &&
  (!isPairAlg (attrAlg w) || (r.key % 2 == 0 && (recBody rs 0xF 0xFFFF (r.key + 1)).isNone)))))))))))
def policiesLegal (rs : List Rec) : Bool := (regionRecs rs 0xF).all (fun r => decide (0x10000 ≤ r.key) || policyLegal rs r) && pdusLegal rs

/-! ### Flumes and event routes (10_flumes.md R406-R408; 15_management_events_health.md R573, R577) -/

/-- A flume's record, where it is present. -/
def flumeIn (rs : List Rec) (f : Nat) : Option (List Byte) := (recBody rs 0x11 0xFFFF f).filter (fun b => (byteAt b 10).testBit 0)

/-- May a role have this consumer (R408)? -/
def consumerOk (role consumer : Nat) : Bool :=
  match role with
  | 1 => decide (consumer ≤ 5)
  | 2 => decide (1 ≤ consumer) && decide (consumer ≤ 4)
  | 3 => decide (1 ≤ consumer) && decide (consumer ≤ 4)
  | 4 => consumer == 0 || consumer == 5
  | _ => false

/-- Region 0x11: of an absent flume only the reserved bits and bytes count. -/
def flumeRecLegal (r : Rec) : Bool :=
  let b := r.body
  let size := leAt b 0 2
  let role := byteAt b 2
  let item := leAt b 4 2
  let allot := leAt b 6 2
  decide (r.key < 1536) && (b.length == 16 && (decide (byteAt b 10 < 4) && (allZero (slice b 11 5) && (!(byteAt b 10).testBit 0 ||
  (decide (1 ≤ size) && (decide (size ≤ 4096) && (consumerOk role (byteAt b 3) && (decide (1 ≤ item) && (decide (item ≤ 320) &&
  (decide (item ≤ allot) && (decide (allot ≤ 4096) && decide (2 * allot * roleProducers role ≤ 32 * size))))))))))))
def flumesLegal (rs : List Rec) : Bool :=
  let mine := (regionRecs rs 0x11).filter (fun r => (byteAt r.body 10).testBit 0)
  (regionRecs rs 0x11).all flumeRecLegal && [2, 3, 4].all (fun role => decide ((mine.filter (fun r => byteAt r.body 2 == role)).length ≤ 1))

/-- Is an address that of the _LO register of a counter? -/
def counterAddr (a : Nat) : Bool :=
  match locate a with
  | some (b, off) => isCounter b off && off % 8 == 0
  | none => false

/-- Region 0x10. -/
def routeLegal (rs : List Rec) (r : Rec) : Bool :=
  let b := r.body
  let fits := fun (f : Nat) => f == 0xFFFF || ((flumeIn rs f).map (fun x => byteAt x 2 == 1)).getD false
  if r.key < 2048 then
    b.length == 8 && (fits (leAt b 0 2) && (fits (leAt b 2 2) && ((leAt b 0 2 != leAt b 2 2 || leAt b 0 2 == 0xFFFF) &&
      ((leAt b 4 2 == 0xFFFF || (gwyRec rs 4 (leAt b 4 2)).isSome) && (decide (byteAt b 6 < 2) && byteAt b 7 == 0)))))
  else decide (0x1000 ≤ r.key) && (decide (r.key < 0x1100) && (b.length == 12 && (counterAddr (leAt b 0 4) && (leAt b 4 4 != 0 &&
      (leAt b 8 2 != 0 && leAt b 10 2 == 0)))))

/-! ### Time keeper (03_time_and_order.md R112, R655) -/

/-- PRIMARY of a configuration (R109). DESIGN CHOICE: it is taken after the merge, so a record of an overlay in the boot mask replaces the
base's (notes/assumptions/152.md). -/
def primaryIn (rs : List Rec) : Nat := ((recBody rs 0x13 0 1).map (fun b => leAt b 0 4 % 4)).getD 0

/-- DOM_CFG of a domain in a configuration under the primary domain `prim`, whose EN is 1 (R655). -/
def domCfgIn (rs : List Rec) (prim d : Nat) : Word :=
  let w := ((recBody rs 0x13 d 0).map (fun b => wordAt b 0)).getD (resetWord .tkp (0x1000 + 0x100 * d))
  if d = prim then w ||| 1 else w

/-- One record of region 0x13. -/
def timeRecLegal (r : Rec) : Bool :=
  if r.key = 0 then
    wordsWithin r.body [0xFF0F, 0xFFFFFFFF, 0xFF, 0xFFFFFF, 0xF0FFFFFF, 0xFFFFF, 0xFFFFFFFF, 0xFFFFFFFF, 0x3FFFFFF, 0xFFFFFFFF]
  else if r.key = 1 then r.scope == 0 && wordsWithin r.body [3, 0xFFFF001F, 0xFFFF0037, 0xFFFFFFFF, 0x3FFFFFFF, 0xFFFFFFFF, 0xFFFF]
  else r.scope == 0 && (decide (0x100 ≤ r.key) && (decide (r.key < 0x100 + 29) && wordsWithin r.body [0x1FF01, 0xFFFF, 0xFFFF, 0xFFFFFFFF, 0xFFFFFFFF]))

/-- Region 0x13, to be loaded under the primary domain `prim`: numbers 0-127, different in enabled domains (R112). -/
def timeLegal (prim : Nat) (rs : List Rec) : Bool :=
  let cfgs := (List.range 4).map (domCfgIn rs prim)
  (regionRecs rs 0x13).all timeRecLegal && (cfgs.all (fun w => decide (field w 15 8 ≤ 127)) &&
    decide ((cfgs.filter (fun w => bit w 0)).map (fun w => field w 15 8)).Nodup)

/-! ### Pins and tandem (16_electrical_and_pins.md R622; 14_tandem_redundancy.md R529) -/

/-- One record of region 0x14. -/
def pinRecLegal (r : Rec) : Bool :=
  let w := leAt r.body 0 4
  if r.key < 48 then
    wordsWithin r.body [0xFFC0FFDF] && (w / 2 ^ 30 != 3 && ((w / 2 ^ 30 != 2 || decide (36 ≤ r.key)) && decide (w % 32 ≤ 28)))
  else if r.key < 0x12B then decide (0x100 ≤ r.key) && wordsWithin r.body [0xFF]
  else r.key == 0x200 && wordsWithin r.body [0xFFF03F00]

/-- TDM_CFG of a configuration. -/
def tdmCfgIn (rs : List Rec) : Word := ((recBody rs 0x15 0xFFFF 0).map (fun b => wordAt b 0)).getD (resetWord .tdm 0)

/-- Regions 0x14 and 0x15. -/
def pinsLegal (rs : List Rec) : Bool :=
  let position := ((recBody rs 0x14 0xFFFF 40).map (fun b => leAt b 0 4 / 2 ^ 30)).getD 0
  (regionRecs rs 0x14).all pinRecLegal && (!(bit (tdmCfgIn rs) 31 && bit (tdmCfgIn rs) 29) || position == 2)
def tandemLegal (rs : List Rec) : Bool :=
  (regionRecs rs 0x15).all (fun r => r.key == 0 && wordsWithin r.body [0xF0FFFFFF, 0xFFF0FFFF, 0xFFFF0000, 0xFF00FFFF, 0xFFFFFFFF]) &&
    (!bit (tdmCfgIn rs) 31 || ((recBody rs 1 4 0).map (fun b => leAt b 0 4 % 16 == 1)).getD false)

/-- Every rule that staging refuses with LAST_ERR 0x3, under the primary domain `prim` that loading would find. -/
def confLegal (prim : Nat) (rs : List Rec) : Bool :=
  netLegal rs && (canLegal rs && (mvbLegal rs && (gwyLegal rs && (wakeLegal rs && (policiesLegal rs && (flumesLegal rs &&
    ((regionRecs rs 0x10).all (routeLegal rs) && (timeLegal prim rs && (pinsLegal rs && tandemLegal rs)))))))))

/-! ### The admission check (R91-R93) -/

/-- The reservations of a configuration (R253, R254). -/
def limitsIn (rs : List Rec) : List (Acct × Limits) :=
  ((regionRecs rs 7).filter (fun r => limitKind r.key == 0)).map (fun r =>
    (⟨r.key.testBit 15, limitLane r.key, r.key % 8, some (limitDistrict r.key)⟩, ⟨leAt r.body 0 4, leAt r.body 4 4, leAt r.body 8 4⟩))

/-- Bit 1: the first lane whose guaranteed rates exceed 40 Gb/s. -/
def laneOver (rs : List Rec) : Option Nat :=
  let ls := limitsIn rs
  let total : Bool → Nat → Nat := fun egress l => ((ls.filter (fun e => e.1.egress == egress && e.1.lane == l)).map (fun e => e.2.guar)).sum
  (List.range 28).find? (fun l => decide (5000000 < total false l) || decide (5000000 < total true l))

/-- Bit 2: the first port whose idle slopes exceed its build's rate. -/
def slopeOver (rs : List Rec) : Option Nat :=
  (List.range 29).find? (fun p =>
    let rate := 125 * buildRate (((recBody rs 1 p 0).map (fun b => leAt b 0 4 % 16)).getD 0)
    decide (rate < (((regionRecs rs 0xA).filter (fun r => r.scope == p && (decide (r.key < 8) && byteAt r.body 7 == 1))).map (fun r => leAt r.body 0 4)).sum))

/-- Bit 3: the first port whose schedule breaks its limits. -/
def scheduleOver (rs : List Rec) : Option Nat :=
  (List.range 29).find? (fun p => match recBody rs 9 p 0 with
    | none => false
    | some b =>
      let n := leAt b 12 2
      let cycle := leAt b 8 4
      let intervals := (List.range n).map (fun i => ((recBody rs 9 p (0x10000 + i)).map (fun e => leAt e 0 4)).getD 0)
      !(decide (1 ≤ n) && (decide (n ≤ 1024) && (decide (1000 ≤ cycle) && (decide (cycle ≤ 1000000000) &&
        (intervals.all (fun i => i != 0) && intervals.sum == cycle))))))

/-- Bit 4: do the message-memory shares exceed 256 KiB? -/
def sharesOver (rs : List Rec) : Bool :=
  decide (256 < ((List.range 32).map (fun n => if canBuildProto rs n = 0 then 0 else field (canBuildWord rs n 0) 24 16)).sum)

/-- Bit 5: the first flume beyond 4 MiB. -/
def flumeOver (rs : List Rec) : Option Nat :=
  let size := fun (f : Nat) => ((flumeIn rs f).map (fun b => leAt b 0 2)).getD 0
  (List.range 1536).find? (fun f => decide (0 < size f) && decide (4096 < ((List.range (f + 1)).map size).sum))

/-- Do the contents of a table exceed its shape, or come without one (R657)? -/
def contentsOver (rs : List Rec) (t : Nat) : Bool :=
  let mine := contentRecs rs t
  let room := if t = 0 then learnSize else if t < 28 then ((shapeIn rs t).getD (0, 0)).1 else if t = 30 then 1024 else 4096
  decide (room < mine.length) || (decide (tableKind t = .ternary ∨ tableKind t = .index) && mine.any (fun r => decide (room ≤ r.key)))

/-- Bit 6: the lowest region whose counts exceed the device's figures (R92, R207). Districts cannot: their keys are 12 bits (R192). More than
64 nodes already break R186. -/
def countOver (rs : List Rec) : Option Nat :=
  let total := fun (lo hi : Nat) (use : Nat × Nat → Nat) =>
    (((List.range (hi - lo)).filterMap (fun i => shapeIn rs (lo + i))).map use).sum
  let pools := decide (262144 < total 1 16 (fun x => x.1 * ceilDiv (x.2 + 3) 16)) || (decide (8192 < total 16 24 (fun x => x.1)) ||
    decide (16384 < total 24 28 (fun x => x.1)))
  if pools then some 3
  else if (List.range 30).any (contentsOver rs) then some 5
  else if (regionRecs rs 8).any (fun r => decide (16384 ≤ r.key)) then some 8
  else if (List.range 32).any (fun n => decide (1024 < (pdusOf rs n).length)) then some 0xF
  else if contentsOver rs 30 then some 0x12
  else none

/-- The checks that fail, with DETAIL of each (R92, R93). -/
def confFails (usable : Nat) (rs : List Rec) : List (Nat × Nat) :=
  let ls := limitsIn rs
  let one := fun (i : Nat) (d : Option Nat) => (d.map (fun x => (i, x))).toList
  (if usable < minSum ls || ls.any (fun e => decide (usable < e.2.max)) then [(0, 0xFFFF)] else []) ++
    (one 1 (laneOver rs) ++ (one 2 (slopeOver rs) ++ (one 3 (scheduleOver rs) ++ ((if sharesOver rs then [(4, 0xFFFF)] else []) ++
    (one 5 (flumeOver rs) ++ one 6 (countOver rs))))))

/-- Runs the admission check against so many usable cells: IMG_ADMIT, IMG_ADMIT_REQ, IMG_ADMIT_USABLE; does it pass? -/
def State.admitAt (s : State) (usable : Nat) (rs : List Rec) : State × Bool :=
  let fails := confFails usable rs
  let w := match fails with
    | [] => 0
    | (_, d) :: _ => 65536 * d + (fails.map (fun f => 2 ^ f.1)).sum
  (((s.wr .img 0x34 (word w)).wr .img 0x38 (word (Nat.min (minSum (limitsIn rs)) 0xFFFFFFFF))).wr .img 0x3C (word usable), fails.isEmpty)

/-- The check at staging and at ARM: the capacity of that moment. -/
def State.admitConf (s : State) (rs : List Rec) : State × Bool := s.admitAt s.usable rs

end Sys2Proof.Machine
end

