-- ==== Sys2Proof/Machine/ImgLoad.lean ====
section
/-!
DEFINITION. Putting a configuration in force: what a boot load or a commit writes, region by region (02_ikiem_images.md R59, R65, R66, R71, R74,
R86, R88). Register settings are written where a record differs from the one in force, as a register write would store them; a
configuration that follows none writes all of them.
-/
namespace Sys2Proof.Machine

/-- A change of configuration: whether none was in force, whether it is the boot load, whether the base changes, the records before and after. -/
structure Load where
  fresh : Bool
  boot : Bool
  wholly : Bool
  old : List Rec
  new : List Rec
deriving DecidableEq, Repr

/-- Is a record written: new, changed or removed? -/
def Load.writes (l : Load) (region scope key : Nat) : Bool :=
  l.fresh || recBody l.old region scope key != recBody l.new region scope key

/-- The keys of a region before and after. -/
def Load.keys (l : Load) (region : Nat) : List Nat := ((regionRecs l.old region ++ regionRecs l.new region).map (fun r => r.key)).eraseDups

/-- Do two lists hold the same records? -/
def sameRecs (a b : List Rec) : Bool := a.all (fun r => b.contains r) && b.all (fun r => a.contains r)

/-- Are records of a region that `p` names written? -/
def Load.writesAny (l : Load) (region : Nat) (p : Rec → Bool) : Bool :=
  l.fresh || !sameRecs ((regionRecs l.old region).filter p) ((regionRecs l.new region).filter p)

/-- What the register at an offset stores for a value. -/
def storedHere (b : Block) (off : Nat) (w : Word) : Word :=
  match rowAt b off with
  | some row => storedAs b row.off w
  | none => w

/-- The value that word `i` of a record gives a register: the reset value without a record. -/
def settingFor (b : Block) (off : Nat) (body : Option (List Byte)) (i : Nat) : Word :=
  storedHere b off (body.elim (resetWord b off) (fun x => wordAt x (4 * i)))

/-- Writes the words of a record into registers. -/
def State.loadWords (s : State) (b : Block) (offs : List Nat) (body : Option (List Byte)) : State :=
  (List.zip (List.range offs.length) offs).foldl (fun (t : State) x => t.wr b x.2 (settingFor b x.2 body x.1)) s

/-! ### Units under roadworks (R59, R88, R89; 08_can_controllers.md R324; 09_gateway_and_culvert.md R393) -/

/-- BUILD of a port in a configuration. -/
def buildIn (rs : List Rec) (p : Nat) : Nat := ((recBody rs 1 p 0).map (fun b => leAt b 0 4)).getD 0

/-- What of a CAN channel's records a roadworks is needed for. -/
def canBuildPart (rs : List Rec) (n : Nat) : List Nat :=
  ([0, 2, 3, 4, 5, 6].map (fun i => (canBuildWord rs n i).toNat)) ++ ([field (canBuildWord rs n 1) 2 0] ++
    (((List.range 128).map (fun o => ((recBody rs 0x0B n (0x100 + o)).map (fun b => leAt b 8 4 &&& 0xCF000000)).getD 0)) ++
    [((recBody rs 0x0B n 0x300).map (fun b => leAt b 0 4 + 1)).getD 0]))

/-- The units that a commit puts under roadworks. A CAN or MVB channel that is absent is built at once (R328, R395). -/
def State.worksOf (s : State) (l : Load) : List Works :=
  if l.fresh then []
  else
    ((List.range 29).filter (fun p => buildIn l.old p != buildIn l.new p)).map Works.port ++
    ((if l.writesAny 2 (fun _ => true) then [Works.parser] else []) ++
    (((List.range 28).filter (fun t => shapeIn l.old t != shapeIn l.new t)).map Works.table ++
    (((List.range 32).filter (fun n => (s.chan n).kind ≠ .absent && canBuildPart l.old n != canBuildPart l.new n)).map Works.can ++
    ((List.range 2).filter (fun n => (s.mvbChan n).kind ≠ .absent && recBody l.old 0x0C n 0 != recBody l.new 0x0C n 0)).map Works.mvb)))

/-- KIND and INDEX of a unit as a roadworks request names it (15_management_events_health.md R586). -/
def Works.request : Works → Option (Nat × Nat)
  | .port p => some (0, p)
  | .can n => some (1, n)
  | .table t => some (4, t)
  | _ => none

/-- A commit puts the unit of the request being served under roadworks: the request is abandoned (R587). -/
def State.rwAbandon (s : State) (w : Works) : State := (w.request).elim s (fun r => s.rwAbandoned r.1 r.2)

/-- A unit enters roadworks. A CAN channel waits for its bus to be idle. -/
def State.beginWorks (s : State) (w : Works) : State :=
  let s1 := s.rwAbandon w
  match w with
  | .port p => s1.beginPortWorks p
  | .parser => s1.beginParserWorks
  | .table t => if s1.tbl.works.contains t then s1 else { s1 with tbl := { s1.tbl with works := s1.tbl.works ++ [t] } }
  | .can _ => s1
  | .mvb n => s1.mvbWorksDue n

/-! ### Ports (regions 0x01, 0x16; 04_ethernet_ports.md R654) -/

/-- BUILD of a port becomes `w`: MAC merge that is not built is off. -/
def State.writeBuild (s : State) (p w : Nat) : State :=
  let s1 := s.wr .eth (ethReg p 0) (word w)
  if w.testBit 8 then s1.mmWrite p (s1.rd .eth (ethReg p 0x50)) else s1.setPort p { s1.port p with verify := .disabled }

/-- One word of a settings record. -/
def State.loadSetting (s : State) (p i off : Nat) (body : Option (List Byte)) : State :=
  let w := settingFor .eth (ethReg p off) body i
  if reservedOn p off then s
  else if off = 0x50 then s.mmWrite p w
  else if off = 0x60 then s.secCfgWrite p w
  else s.wr .eth (ethReg p off) w

/-- A port: build, settings, ADMIN. -/
def State.loadPort (s : State) (l : Load) (p : Nat) : State :=
  let s1 := if l.writes 1 p 0 then s.writeBuild p (buildIn l.new p) else s
  let offs := settingWords.map (fun x => x.1)
  let s2 := if l.writes 1 p 1 then
      (List.zip (List.range offs.length) offs).foldl (fun (t : State) x => t.loadSetting p x.1 x.2 (recBody l.new 1 p 1)) s1
    else s1
  if l.writes 0x16 p 0 then
    (if ((recBody l.new 0x16 p 0).map (fun b => leAt b 0 4 % 2)).getD 0 = 1 then s2.portOn p else s2.portOff p)
  else s2

/-! ### Tables, weirs, port ingress (regions 0x03, 0x05, 0x06, 0x08, 0x12) -/

/-- TBL_SHAPE of a table (05_classification.md R234). -/
def shapeWord (rs : List Rec) (t : Nat) : Word :=
  let code := match tableKind t with
    | .exact => 1
    | .ternary => 2
    | .span => 3
    | .learning => 4
    | .index => 5
  if t = 0 then word (2 ^ 28 * code + 2 ^ 22 * 8 + learnSize)
  else if 28 ≤ t then word (2 ^ 28 * code + (if t = 30 then 1024 else 4096))
  else match shapeIn rs t with
    | some (n, k) => word (2 ^ 28 * code + 2 ^ 22 * k + n)
    | none => 0

/-- Does a table's contents change? -/
def Load.writesTable (l : Load) (t : Nat) : Bool := l.wholly || !sameRecs (contentRecs l.old t) (contentRecs l.new t)

/-- The entries after a change of single records (R65): those of removed or changed records go, those of new or changed ones come. -/
def patched (l : Load) (now t : Nat) (es : List TblEntry) : List TblEntry :=
  let old := contentRecs l.old t
  let new := contentRecs l.new t
  let kind := tableKind t
  let size := if t = 0 then learnSize else ((shapeIn l.new t).getD (4096, 0)).1
  let kept := (old.filter (fun r => !new.contains r)).foldl (fun (a : List TblEntry) r => dropEntry kind a (contentEntry l.old now t r 0)) es
  (new.filter (fun r => !old.contains r)).foldl (fun (a : List TblEntry) r =>
    ((putEntry kind size false a (contentEntry l.new now t r 0)).map (fun x => x.1)).getD a) kept

/-- The lease of a written table ends, and its staged writes are discarded (R66). -/
def State.endLease (s : State) (t : Nat) : State :=
  (List.range 6).foldl (fun (u : State) w => u.dropBatch w t 3)
    { s with mgt := { s.mgt with lease := Sparse.put (fun _ => none) s.mgt.lease t none } }

/-- A table's contents. -/
def State.loadTable (s : State) (l : Load) (t : Nat) : State :=
  let s1 := s.wr .tbl (0x8200 + 4 * t) (shapeWord l.new t)
  if !l.writesTable t then s1
  else
    let s2 := s1.endLease t
    s2.setTable t (if l.wholly then contents l.new s.nowNs t else patched l s.nowNs t (s2.table t))

/-- Weirs: a changed weir keeps its level, clamped, and loses its staged writes (05_classification.md R226, R658). -/
def State.loadWeirs (s : State) (l : Load) : State :=
  let inside := fun (k : Nat) => decide (0x100000 ≤ k) && decide (k < 0x300000)
  let f := s.regs.get .prs
  let s0 := if l.fresh then
      { s with regs := s.regs.put .prs { f with word := Sparse.clear inside f.word }, prs := { s.prs with weir := [], stage := [] } }
    else s
  (l.keys 8).foldl (fun (t : State) w =>
    if l.writes 8 0xFFFF w then
      let ws := match recBody l.new 8 0xFFFF w with
        | some b => weirWords b
        | none => (List.range 5).map (fun i => resetWord .prs (weirReg w (4 * i)))
      (t.setWeirWords w ws).setWeirStage w {}
    else t) s0

/-- PRS_PORT_CFG and PRS_MIRROR (R193). -/
def State.loadIngress (s : State) (l : Load) : State :=
  let one := fun (key off : Nat) (t : State) => if l.wholly || l.writes 6 0xFFFF key then t.loadWords .prs [off] (recBody l.new 6 0xFFFF key) else t
  (List.range 16).foldl (fun (t : State) m => one (0x2000 + m) (0x200 + 4 * m) t)
    ((List.range 29).foldl (fun (t : State) p => one (0x1000 + p) (0x100 + 4 * p) t) s)

/-! ### The cistern and the egress ports (regions 0x07, 0x09, 0x0A) -/

/-- Reservations and the global record: shrinkage ends (R96). -/
def State.loadLimits (s : State) (l : Load) : State :=
  let s1 := ((s.setLimits (limitsIn l.new)).wr .img 0x40 0).setFld .img 4 17 17 0
  (if l.wholly || l.writes 7 0xFFFF 0x80000 then s1.loadWords .cis [0, 4] (recBody l.new 7 0xFFFF 0x80000) else s1).updateXoff

/-- The preemption hold that a schedule would have at its position, had it always run: that of the last hold or release entry. -/
def State.holdAt (s : State) (p : Nat) : Nat :=
  let es := s.gateList p
  match entryAt es (s.gatePos p s.nowNs) 0 with
  | none => 2
  | some (n, _, _) => (((es.drop (n + 1) ++ es.take (n + 1)).reverse.find? (fun e => decide (e.op ≠ 0))).map (fun e => e.op)).getD 2

/-- Does the schedule in force close the gate of a frame on the wire before its last bit: 8 bytes of preamble, the frame, its FCS
(07_egress_scheduling.md R297)? -/
def State.runsOver (s : State) (p : Nat) (w : OnWire) : Bool :=
  match s.openFor p w.cls s.nowNs with
  | none => false
  | some room => decide ((s.nowNs - w.start + room) * s.runRate p < 8000 * (w.bytes.length + 12 - w.sent))

/-- Counts the frame on the wire that a new schedule's gate closes upon (R297). -/
def State.countOverrun (s : State) (p : Nat) : State :=
  match (s.egress p).active with
  | none => s
  | some w => if s.runsOver p w then (s.bump .egr (egrCounter p w.cls 3)).egrErr p 1 w.cls else s

/-- A port's schedule (07_egress_scheduling.md R293, R295, R297). -/
def State.loadSchedule (s : State) (l : Load) (p : Nat) : State :=
  if !l.writesAny 9 (fun r => r.scope == p) then s
  else
    let f := s.regs.get .egr
    let lists := fun (k : Nat) => decide (egrReg p 0x2000 ≤ k) && decide (k < egrReg p 0x4000)
    let s0 := { s with regs := s.regs.put .egr { f with word := Sparse.clear lists f.word } }
    let b := (recBody l.new 9 p 0).getD []
    let n := leAt b 12 2
    let s1 := (((s0.setFld .egr (egrReg p 0) 0 0 (byteAt b 14)).wr64 .egr (egrReg p 0x10) (leAt b 0 8)).wr .egr (egrReg p 0x18) (word (leAt b 8 4))).wr
      .egr (egrReg p 0x1C) (word n)
    let s2 := (List.range n).foldl (fun (t : State) i =>
      let e := (recBody l.new 9 p (0x10000 + i)).getD []
      (t.wr .egr (egrReg p (0x2000 + 8 * i)) (word (leAt e 0 4))).wr .egr (egrReg p (0x2004 + 8 * i)) (word (byteAt e 4 + 256 * byteAt e 5))) s1
    if s2.scheduled p then (s2.holdBy p (s2.holdAt p)).countOverrun p else s2.setEgress p { s2.egress p with hold := false }

/-- A class's shaper, group and quantum (07_egress_scheduling.md R306, R307): a change of CBS_EN sets the credit to 0. -/
def State.loadClass (s : State) (rs : List Rec) (p c : Nat) : State :=
  let b := (recBody rs 0xA p c).getD []
  let w := word (leAt b 4 2 + 2 ^ 16 * byteAt b 6 + 2 ^ 31 * byteAt b 7)
  let changed := bit w 31 != s.cbsEn p c
  let s1 := (s.wr .egr (egrClass p c) w).wr .egr (egrSlope p c) (word (leAt b 0 4))
  if changed then s1.setEgress p { s1.egress p with credit := Sparse.put (fun _ => {}) (s1.egress p).credit c {} } else s1

/-- Classes and quanta of a group. -/
def State.groupNow (s : State) (p g : Nat) : List (Nat × Nat) := (s.groupClasses p g).map (fun c => (c, s.quantumOf p c))

/-- A port's shapers and groups: a changed group starts at its highest class with no deficits (R309). -/
def State.loadShapers (s : State) (l : Load) (p : Nat) : State :=
  if !l.writesAny 0xA (fun r => r.scope == p) then s
  else
    let s1 := (List.range 8).foldl (fun (t : State) c => t.loadClass l.new p c) s
    let s2 := s1.setFld .egr (egrReg p 0) 31 16 (((recBody l.new 0xA p 0x100).map (fun b => leAt b 0 2)).getD 0)
    let regroup := fun (t : State) (g : Nat) =>
      if s.groupNow p g == s2.groupNow p g then t
      else
        let mine := fun (c : Nat) => (s.groupClasses p g ++ s2.groupClasses p g).contains c
        let e := t.egress p
        t.setEgress p { e with ptr := Sparse.clear (fun k => k == g) e.ptr, deficit := Sparse.clear mine e.deficit }
    ([1, 2, 3].foldl regroup s2).checkSlopes p

/-! ### Fieldbuses (regions 0x0B, 0x0C, 0x0D) -/

/-- A CAN channel: built, or written hitlessly; one that awaits roadworks keeps what it has. -/
def State.loadChannel (s : State) (l : Load) (works : List Works) (n : Nat) : State :=
  if (s.chan n).kind = .absent then (s.buildCan n).putTargets n
  else if works.contains (.can n) || !l.writesAny 0x0B (fun r => r.scope == n) then s
  else s.loadCan n

/-! ### Key policy (region 0x0F; 12_keys_and_attestation.md R467) -/

/-- Empties the slots whose policy goes or changes, and notes the slots to be generated. -/
def State.loadPolicies (s : State) (l : Load) : State :=
  let ks := (l.keys 0xF).filter (fun k => decide (k < keySlots) && l.writes 0xF 0xFFFF k)
  let emptied := (ks.filter (fun k => (policyOf l.old k).isSome)).foldl (fun (x : State × Nat) k =>
    let y := x.1.emptySlot k
    (y.1, x.2 + y.2)) (s, 0)
  let s1 := if emptied.2 = 0 then emptied.1 else (emptied.1.bumpBy .key 0x430 emptied.2).emit 1415 (p4 s.epoch ++ p4 emptied.2)
  let due := ks.filter (fun k => ((policyOf l.new k).map (fun x => x.2.testBit 0)).getD false)
  { s1 with key := { s1.key with due := s.key.due.filter (fun k => !ks.contains k) ++ due } }

/-! ### The island (region 0x0E; 13_wake_sleep_power.md R504, R513, R518) -/

/-- The records of region 0x0E that no rule gives a layout. -/
def strayWakes (rs : List Rec) : List (Nat × List Byte) :=
  ((regionRecs rs 0xE).filter (fun r =>
    !((decide (0x100 ≤ r.key) && decide (r.key < 0x120)) || ((decide (0x300 ≤ r.key) && decide (r.key < 0x304)) ||
      (decide (0x400 ≤ r.key) && decide (r.key < 0x404)))))).map (fun r => (r.key, r.body))

/-- The island registers whose records the spec does not name, with their defined bits: LMP_CFG, LMP_CFG2, PWR_SEQ, WPIN_CFG. -/
def islandRegs : List (Nat × Nat) :=
  [(0x20, 0xFFF2FFFF), (0x24, 0xFFFF)] ++ ((List.range 6).map (fun n => (0x60 + 4 * n, 0xC000FFFF)) ++ (List.range 4).map (fun p => (0x80 + 4 * p, 0xF000FFFF)))

/-- Loads them: free where such records exist (notes/assumptions/17.md), else their reset values. -/
def State.loadStray (s : State) (l : Load) : State :=
  let rs := strayWakes l.new
  if !l.fresh && strayWakes l.old == rs then s
  else islandRegs.foldl (fun (t : State) x =>
    t.wr .lmp x.1 (if rs.isEmpty then resetWord .lmp x.1 else storedHere .lmp x.1 (word (Config.islandSetting rs x.1 &&& x.2)))) s

/-- A ring: a change of its settings starts it anew (R517). -/
def State.loadRing (s : State) (l : Load) (r : Nat) : State :=
  let s1 := s.loadWords .lmp [0x700 + 0x20 * r, 0x704 + 0x20 * r, 0x708 + 0x20 * r] (recBody l.new 0xE 0xFFFF (0x300 + r))
  if s1.rds .lmp (0x700 + 0x20 * r) 3 = s.rds .lmp (0x700 + 0x20 * r) 3 then s
  else
    let s2 := s1.ringStop r
    if s2.lmp.kind = .run then s2.ringStart r else s2

/-- The island's settings. -/
def State.loadIsland (s : State) (l : Load) : State :=
  let s1 := (List.range 32).foldl (fun (t : State) n =>
    if l.writes 0xE 0xFFFF (0x100 + n) then
      t.loadWords .lmp ((List.range 7).map (fun i => 0x100 + 0x20 * n + 4 * i)) (recBody l.new 0xE 0xFFFF (0x100 + n))
    else t) s
  let s2 := [0, 1, 2, 3].foldl (fun (t : State) r => if l.writes 0xE 0xFFFF (0x300 + r) then t.loadRing l r else t) s1
  let s3 := [0, 1, 2, 3].foldl (fun (t : State) f =>
    if l.writes 0xE 0xFFFF (0x400 + f) then
      t.loadWords .pin [feedReg f 0, feedReg f 4, feedReg f 8] (recBody l.new 0xE 0xFFFF (0x400 + f))
    else t) s2
  s3.loadStray l

/-! ### Events and flumes (regions 0x10, 0x11) -/

/-- A route (15_management_events_health.md R573, R603): a flume taken out of it loses its hold (R576). -/
def State.loadRoute (s : State) (rs : List Rec) (e : Nat) : State :=
  let flumeCode := fun (f : Nat) => if f = 0xFFFF then 0x7FF else f % 2048
  let s1 := match recBody rs 0x10 0xFFFF e with
    | some b => (s.wr .evt (0x10000 + 8 * e) (word (2 ^ 31 * (byteAt b 6 % 2) + 2 ^ 16 * flumeCode (leAt b 2 2) + flumeCode (leAt b 0 2)))).wr
        .evt (0x10004 + 8 * e) (word (if leAt b 4 2 = 0xFFFF then 0 else 2 ^ 31 + leAt b 4 2 % 1024))
    | none => (s.wr .evt (0x10000 + 8 * e) (resetWord .evt (0x10000 + 8 * e))).wr .evt (0x10004 + 8 * e) 0
  ((s.routeFlumes e).filter (fun f => !(s1.routeFlumes e).contains f)).foldl (fun (t : State) f =>
    if (t.hold f e).isSome then (t.setHold f e none).bump .evt 0x418 else t) s1

/-- A watcher (R577, R578): its first window starts now. -/
def State.loadWatch (s : State) (rs : List Rec) (k : Nat) : State :=
  let b := (recBody rs 0x10 0xFFFF (0x1000 + k)).getD []
  let s1 := s.wrs .evt (0x20000 + 0x10 * k) [wordAt b 0, wordAt b 4, word (leAt b 8 2)]
  let base := match locate (leAt b 0 4) with
    | some (blk, off) => s.count blk off
    | none => 0
  let v : Watch := if b.isEmpty then {} else { base := base, start := s.nowNs }
  { s1 with evt := { s1.evt with watch := Sparse.put (fun _ => {}) s1.evt.watch k v } }

/-- Region 0x10. -/
def State.loadEvents (s : State) (l : Load) : State :=
  ((l.keys 0x10).filter (fun k => l.writes 0x10 0xFFFF k)).foldl (fun (t : State) k =>
    if k < 2048 then t.loadRoute l.new k else t.loadWatch l.new (k - 0x1000)) s

/-- The flume layout (10_flumes.md R406, R410, R424): only the boot load applies it. -/
def State.loadFlumes (s : State) (l : Load) : State :=
  if !l.boot then s
  else ((regionRecs l.new 0x11).filter (fun r => (byteAt r.body 10).testBit 0)).foldl (fun (t : State) r =>
    let b := r.body
    let role := byteAt b 2
    let cfg := 2 ^ 31 + 2 ^ 30 * (byteAt b 10 / 2 % 2) + 2 ^ 24 * (role % 8) + 2 ^ 20 * (byteAt b 3 % 16) + leAt b 0 2
    (t.wrs .flm (flumeReg r.key 0) [word cfg, word (leAt b 4 2 + 2 ^ 16 * leAt b 6 2), word (leAt b 8 2)]).setFlume r.key { owed := owedAll role }) s

/-! ### Time, pins, tandem (regions 0x13, 0x14, 0x15) -/

/-- A domain's settings; EN of the primary domain is 1 (03_time_and_order.md R655). DESIGN CHOICE: where DOM_ROLE0 and DOM_ROLE1 together
name two slave ports, both stay as they were; a DOM_CFG whose number an enabled domain without a changed record holds is ignored, as a
write of it is (R112; notes/assumptions/152.md). -/
def State.loadDomain (s : State) (l : Load) (d : Nat) : State :=
  if !l.writes 0x13 d 0 then s
  else
    let body := recBody l.new 0x13 d 0
    let offs := [0x8, 0xC, 0x10, 0x14, 0x18, 0x1C]
    let s1 := (List.zip (List.range 6) offs).foldl (fun (t : State) x => t.wr .tkp (domReg d x.2) (settingFor .tkp (domReg d x.2) body (x.1 + 1))) s
    let r0 := settingFor .tkp (domReg d 0x38) body 7
    let r1 := settingFor .tkp (domReg d 0x3C) body 8
    let s2 := if 1 < slaves r0 r1 then s1 else (s1.wr .tkp (domReg d 0x38) r0).wr .tkp (domReg d 0x3C) r1
    let s3 := s2.wr .tkp (domReg d 0x48) (settingFor .tkp (domReg d 0x48) body 9)
    let cfg := settingFor .tkp (domReg d 0) body 0
    let w := if d = s.primary then cfg ||| 1 else cfg
    if domCfgAllowed (s.domNumbers (fun e => e != d && !l.writes 0x13 e 0)) (bit w 0) (field w 15 8) then s3.domCfgStore d w else s3

/-- PRIMARY becomes `prim`, which runs from then on (R109, R111); FIRST_LOCK speaks of it (R138). -/
def State.setPrimary (s : State) (prim : Nat) : State :=
  let s1 := if (s.dom prim).state = .disabled then s.domCfgStore prim (s.rd .tkp (domReg prim 0) ||| 1) else s
  let s2 := s1.setFld .tkp 0 1 0 prim
  { s2 with tkp := { s2.tkp with firstLock := decide ((s2.dom prim).state = .locked) || decide ((s2.dom prim).state = .grandmaster) } }

/-- The time keeper: PRIMARY only at the boot load (R109, R110), and before the domains' settings. -/
def State.loadTime (s : State) (l : Load) : State :=
  let s1 := if l.boot && decide (primaryIn l.new ≠ s.primary) then s.setPrimary (primaryIn l.new) else s
  let s2 := [0, 1, 2, 3].foldl (fun (t : State) d => t.loadDomain l d) s1
  let body := recBody l.new 0x13 0 1
  let offs := [0x30, 0x34, 0x38, 0x3C, 0x4C, 0x50]
  let s3 := if l.writes 0x13 0 1 then
      ((List.zip (List.range 6) offs).foldl (fun (t : State) x => t.wr .tkp x.2 (settingFor .tkp x.2 body (x.1 + 1))) s2).ppsResteer
    else s2
  (List.range 29).foldl (fun (t : State) p =>
    if l.writes 0x13 0 (0x100 + p) then
      (t.loadWords .tkp ([0, 0x10, 0x14, 0x18, 0x1C].map (tkpPort p)) (recBody l.new 0x13 0 (0x100 + p))).recapable p
    else t) s3

/-- The range of PIN_FILT[i] (16_electrical_and_pins.md R619). -/
def filterRange (i : Nat) : Nat × Nat :=
  if i = 0 then (0, 100) else if i = 1 then (0, 250) else if i = 2 then (1, 32) else if i = 3 then (0, 100) else if i = 4 then (0, 8)
  else if i = 5 then (0, 2) else if i = 6 then (0, 250) else if i < 11 then (0, 3) else (0, 7)

/-- The pins (R622, R627). -/
def State.loadPins (s : State) (l : Load) : State :=
  let one := fun (key off : Nat) => settingFor .pin off (recBody l.new 0x14 0xFFFF key) 0
  let s1 := (List.range 48).foldl (fun (t : State) m => if l.writes 0x14 0xFFFF m then t.loadPin m (one m (0x100 + 4 * m)) else t) s
  let s2 := (List.range 43).foldl (fun (t : State) i =>
    let r := filterRange i
    if l.writes 0x14 0xFFFF (0x100 + i) then t.wr .pin (0x300 + 4 * i) (heldIn 7 0 r.1 r.2 (one (0x100 + i) (0x300 + 4 * i))) else t) s1
  if l.writes 0x14 0xFFFF 0x200 then s2.wr .pin 8 (one 0x200 8) else s2

/-- While TFAIL_EN = 0, TFAIL_OUT is held low and TFAIL_IN reads lost (14_tandem_redundancy.md R532, R533). -/
def State.tfailMuted (s : State) : State :=
  if s.tfailEn then s else { s with tdm := { s.tdm with tfailOut := false, tfailOk := false, tfailRun := 0 } }

/-- The tandem settings (14_tandem_redundancy.md R529-R531, R541): EN, POS_SRC and POSITION only at the boot load, which also enters WAIT
or SOLO. -/
def State.loadTandem (s : State) (l : Load) : State :=
  let body := recBody l.new 0x15 0xFFFF 0
  let old := s.rd .tdm 0
  let s1 := if l.writes 0x15 0xFFFF 0 then (s.loadWords .tdm [0, 4, 8, 0xC, 0x10] body).tfailMuted else s
  if l.boot then
    let s2 := { s1 with tdm := { s1.tdm with position := s1.fld .tdm 0 28 28 } }
    if s2.tdmEn then s2.drawPairId.enterWait else s2
  else s1.wr .tdm 0 (setField (setField (s1.rd .tdm 0) 31 31 (field old 31 31)) 29 28 (field old 29 28))

/-! ### The whole -/

/-- Epochs that frames still carry: before classification, in the cistern, at the gateway and in the crypto engine. -/
def State.epochsCarried (s : State) : List Nat :=
  (s.prs.wait.map (fun f => f.epoch)) ++ ((s.cis.held.map (fun h => h.frame.epoch)) ++
    ((s.gwy.arrived.map (fun a => a.2.2.epoch)) ++ ((s.gwy.crypto.map CryptoJob.epoch) ++ s.gwy.acf.filterMap (fun a => a.2.epoch))))

/-- The configuration in force becomes one of the past, for the frames that carry its epoch (01_architecture.md R33). -/
def State.keepPast (s : State) : State :=
  let past := s.img.history ++ (match s.img.conf with
    | some c => [⟨s.epoch, c, s.tbl.entries, s.rds .prs 0x100 29, s.rds .prs 0x200 16⟩]
    | none => [])
  { s with img := { s.img with history := past.filter (fun h => s.epochsCarried.contains h.epoch) } }

/-- IMG registers of a configuration in force: epoch, overlay mask, digest, slot, GOLDEN. -/
def State.showConf (s : State) (c : Conf) (epoch : Nat) : State :=
  let slot := match c.slot with
    | .a => 0
    | .b => 1
    | .g => 2
  (((((s.wr .img 0x18 (word epoch)).setFld .img 0x1C 15 0 c.overlays).wrs .img 0x80 (wordsOf (padTo 48 c.digest))).setFld .img 8 1 0 slot).setFld
    .img 4 16 16 (decide (slot = 2)).toNat)

/-- What every part of a configuration loads, in an order in which each finds what it needs: the tandem role first, since ports, channels and
rings come up by it. -/
def State.loadAll (s : State) (l : Load) (works : List Works) : State :=
  let s1 := works.foldl (fun (t : State) w => t.beginWorks w) (s.loadTandem l)
  let s2 := (s1.loadTime l).loadFlumes l
  let s3 := (List.range 29).foldl (fun (t : State) p => ((t.loadPort l p).loadSchedule l p).loadShapers l p) s2
  let s4 := (List.range 31).foldl (fun (t : State) n => t.loadTable l n) s3
  let s5 := ((s4.loadWeirs l).loadIngress l).loadLimits l
  let s6 := (List.range 32).foldl (fun (t : State) n => t.loadChannel l works n) (s5.loadPdus l.old l.new)
  let s7 := [0, 1].foldl (fun (t : State) n => t.buildMvb n) s6
  let s8 := ((s7.gwyCommit l.old l.new).loadPolicies l).loadIsland l
  ((s8.loadEvents l).loadPins l).decideGms

/-- Puts a configuration in force as an epoch: the state and how many units are under roadworks. -/
def State.install (s : State) (c : Conf) (epoch : Nat) (boot : Bool) : State × Nat :=
  let l : Load := { fresh := s.img.conf.isNone, boot := boot, wholly := decide (s.img.conf.map (fun o => o.base) ≠ some c.base),
                    old := s.recs, new := c.recs }
  let works := s.worksOf l
  let s1 := s.keepPast
  let s2 := { s1 with img := { s1.img with conf := some c, works := works, worksFrom := s.nowNs } }.showConf c epoch
  let s3 := s2.loadAll l works
  (if boot then s3.formRoot 1 else if l.wholly then s3.formRoot 2 else s3, works.length)

end Sys2Proof.Machine
end

