-- ==== Sys2Proof/Machine/Img.lean ====
section
/-!
DEFINITION. The commands of the image loader and epoch controller (02_ikiem_images.md R67-R104): boot selection, staging, arming, commits,
tandem agreement and following.
-/
namespace Sys2Proof.Machine

/-- The slot's letter as a code: 0 A, 1 B, 2 G. -/
def slotCode : Slot → Nat
  | .a => 0
  | .b => 1
  | .g => 2

/-- Sets LAST_ERR (R99). -/
def State.lastErr (s : State) (e : Nat) : State := s.setFld .img 4 11 8 e

/-- A command that the state table does not list (R73). -/
def State.imgBusy (s : State) : State := s.lastErr 0xC

/-- Moves the loader to a state. -/
def State.setLoader (s : State) (k : LoaderState) : State := { s with img := { s.img with state := k } }

/-- Where the loader returns to: RUNNING, or NO_IMAGE until a first commit (R74). -/
def State.imgBase (s : State) : LoaderState := if s.img.conf.isNone then .noImage else .running

/-! ### Boot (R67-R72) -/

/-- A slot's reason becomes nonzero (R68, R100). -/
def State.slotFails (s : State) (sl : Slot) (reason : Nat) : State :=
  if reason = 0 then s
  else (s.setFld .img 8 (4 * slotCode sl + 7) (4 * slotCode sl + 4) reason).emit 5 (p1 (slotCode sl) ++ p1 reason)
def State.reasonOf (s : State) (sl : Slot) : Nat := s.fld .img 8 (4 * slotCode sl + 7) (4 * slotCode sl + 4)

/-- IMG_SLOT_VER of the three slots (R101). -/
def State.slotVersions (s : State) : State :=
  [Slot.a, .b, .g].foldl (fun (t : State) sl =>
    let h := t.imgHeader sl
    t.wr .img (0xC + 4 * slotCode sl) (word (if hasMagic h then hdrVersion h else 0))) s

/-- Loads a slot with its default overlays and checks it (R69, R70): its configuration, or the reason it fails. -/
def State.bootSlot (s : State) (gs : List ReadGlitch) (sl : Slot) : State × Option Conf :=
  let r := s.loadSlot sl (hdrDefault (s.imgHeader sl)) gs
  match r.conf with
  | none => (r.state.slotFails sl (if r.err = 2 then 6 else 2), none)
  | some c =>
    if !confLegal (primaryIn c.recs) c.recs then (r.state.slotFails sl 2, none)
    else
      let a := r.state.admitConf c.recs
      if a.2 then (a.1, some c) else (a.1.slotFails sl 8, none)

/-- Tries the candidates in order; G must still authenticate. -/
def State.bootFirst (s : State) (gs : List ReadGlitch) : List Slot → State × Option Conf
  | [] => (s, none)
  | sl :: rest =>
    let reason := if sl = .g then s.slotReason .g else 0
    if reason ≠ 0 then State.bootFirst (s.slotFails sl reason) gs rest
    else match s.bootSlot gs sl with
      | (s1, some c) => (s1, some c)
      | (s1, none) => State.bootFirst s1 gs rest

/-- The candidates of R68 in order, and whether A and B conflict. -/
def State.bootOrder (s : State) (okA okB : Bool) : List Slot × Bool :=
  let va := hdrVersion (s.imgHeader .a)
  let vb := hdrVersion (s.imgHeader .b)
  if okA && okB then
    if va ≠ vb then (if vb < va then [.a, .b, .g] else [.b, .a, .g], false)
    else if s.signedDigest .a = s.signedDigest .b then ([.a, .b, .g], false)
    else ([.g], true)
  else if okA then ([.a, .g], false)
  else if okB then ([.b, .g], false)
  else ([.g], false)

/-- BOOT_SELECT (R68): every E5 comes before E6, E7 and E8. The ROM has read the boot record before (18_bring_up_reference_unit.md R645). -/
def State.doBootSelect (s : State) (gs : List ReadGlitch) : State :=
  if s.lmp.held || s.img.state ≠ .booting || s.img.boot.isSome || !s.key.booted then s
  else
    let s0 := s.slotVersions
    let ra := s0.slotReason .a
    let rb := s0.slotReason .b
    let s1 := (s0.slotFails .a ra).slotFails .b rb
    let order := s1.bootOrder (ra == 0) (rb == 0)
    let s2 := if order.2 then (s1.slotFails .a 7).slotFails .b 7 else s1
    let picked := s2.bootFirst gs order.1
    let s3 := picked.1
    let s4 := if ra ≠ 0 && rb ≠ 0 then s3.emit 6 (p1 (s3.reasonOf .a) ++ p1 (s3.reasonOf .b))
      else if order.2 then s3.emit 7 (p4 (hdrVersion (s3.imgHeader .a))) else s3
    match picked.2 with
    | some c => { s4 with img := { s4.img with boot := some c } }
    | none => (s4.setLoader .noImage).emit 8 (p1 (s4.reasonOf .a) ++ (p1 (s4.reasonOf .b) ++ p1 (s4.reasonOf .g)))

/-- BOOT_LOAD_DONE (R71): epoch 1. -/
def State.doBootLoad (s : State) : State :=
  match s.img.boot with
  | none => s
  | some c =>
    if s.lmp.held || s.img.state ≠ .booting then s
    else
      let s1 := (s.install c 1 true).1
      let s2 := ({ s1 with img := { s1.img with boot := none } }.setLoader .running).bump .img 0x110
      s2.emit 4 (p1 (slotCode c.slot) ++ (p4 c.version ++ p4 1))

/-! ### Staging (R73-R75) -/

/-- The slot that IMG_STAGE_SRC names; none when the running image's slot no longer holds it, or no image runs (R74, R75). -/
def State.stageSlot (s : State) : Option Slot :=
  match s.fld .img 0x20 1 0 with
  | 0 => some .a
  | 1 => some .b
  | 2 => some .g
  | _ => match s.img.conf with
    | some c => if s.signedDigest c.slot = bytesOf (s.rds .img 0x80 12) then some c.slot else none
    | none => none

/-- Authenticates, loads, merges and checks the source: LAST_ERR, and the configuration where it is 0. -/
def State.stageResult (s : State) (gs : List ReadGlitch) : State × Nat × Option Conf :=
  match s.stageSlot with
  | none => (s, 3, none)
  | some sl =>
    let reason := s.slotReason sl
    if reason ≠ 0 then (s, reasonError reason, none)
    else
      let r := s.loadSlot sl (s.fld .img 0x20 31 16) gs
      match r.conf with
      | none => (r.state, r.err, none)
      | some c =>
        if !confLegal s.primary c.recs then (r.state, 3, none)
        else
          let a := r.state.admitConf c.recs
          if a.2 then (a.1, 0, some c) else (a.1, 6, none)

/-- STAGE: what staging will end with is settled now. -/
def State.doStage (s : State) (gs : List ReadGlitch) : State :=
  if s.img.state = .running ∨ s.img.state = .noImage then
    let r := (s.lastErr 0).stageResult gs
    { r.1 with img := { r.1.img with outcome := some r.2 } }.setLoader .staging
  else s.imgBusy

/-- What IMG_OVL.STAGED and IMG_STAGED_DIGEST show (R101). -/
def State.showStaged (s : State) (mask : Nat) (digest : List Byte) : State :=
  (s.setFld .img 0x1C 31 16 mask).wrs .img 0xC0 (wordsOf (padTo 48 digest))

/-- STAGING_COMPLETE. -/
def State.doStaged (s : State) : State :=
  match s.img.state, s.img.outcome with
  | .staging, some (e, c) =>
    let s0 := { s with img := { s.img with outcome := none } }
    match c with
    | some c =>
      let s1 := ({ s0 with img := { s0.img with staged := some c } }.showStaged c.overlays c.digest).bump .img 0x100
      (s1.setLoader .staged).emit 9 (p1 (slotCode c.slot) ++ (p2 c.overlays ++ c.digest.take 8))
    | none =>
      let s1 := ((s0.lastErr e).bump .img 0x108).setLoader s.imgBase
      if e = 6 then s1.emit 11 (p4 (s1.rd .img 0x34).toNat ++ p4 (s1.rd .img 0x38).toNat) else s1.emit 10 (p1 e)
  | _, _ => s

/-- The staging and what belongs to it is gone. -/
def State.dropStaging (s : State) : State :=
  { s with img := { s.img with staged := none, armed := none, decision := none, partner := none, abortRx := false, refusedHold := false,
                               kept := s.img.kept.filter (fun k => !k.2.2) } }.showStaged 0 []

/-! ### Arming (R76-R79, R83) -/

/-- The domain that T refers to (R98, R109), its time, and the state it is in. -/
def State.commitDomain (s : State) : Domain := s.dom (s.fld .img 0 9 8)

/-- MIN_LEAD in ns. -/
def State.minLead (s : State) : Nat := 100000 * s.fld .img 0 23 16

/-- The epoch number that a commit must take (R76). -/
def State.nextEpoch (s : State) : Nat := if s.epoch = 0xFFFFFFFF then 1 else s.epoch + 1

/-- Do commits follow the tandem (R83, R98)? -/
def State.agreeing (s : State) : Bool := s.inPairing && s.flag .img 0 1

/-- May a commit be armed in this state of the domain (R78, R121)? -/
def State.timeOk (s : State) : Bool :=
  match s.commitDomain.state with
  | .locked => true
  | .holdover => true
  | .grandmaster => true
  | .freeRun => !s.inPairing
  | _ => false

/-- The present flumes of a configuration (10_flumes.md R406). -/
def layoutIn (rs : List Rec) : List Rec := (regionRecs rs 0x11).filter (fun r => (byteAt r.body 10).testBit 0)

/-- Does a configuration have the flume layout in force (R79)? Without an image no flume is present. -/
def State.sameLayout (s : State) (c : Conf) : Bool := sameRecs (layoutIn s.recs) (layoutIn c.recs)

/-- The arm record as it goes to the partner (R83; 14_tandem_redundancy.md R538). -/
def ArmRecord.body (a : ArmRecord) : List Byte := beBytes 4 a.epoch ++ (beBytes 8 a.t ++ (beBytes 2 a.overlays ++ ([0, 0] ++ padTo 48 a.digest)))

/-- ARM with T = `t`: the first rule that is broken sets LAST_ERR. -/
def State.armAt (s : State) (c : Conf) (t : Nat) : State :=
  if !s.sameLayout c then s.lastErr 0xB
  else if (s.rd .img 0x30).toNat ≠ s.nextEpoch then s.lastErr 8
  else if t * 2 ^ 32 < s.commitDomain.time + s.minLead * 2 ^ 32 then s.lastErr 7
  else if !s.timeOk then s.lastErr 0xE
  else
    let a := s.admitConf c.recs
    if !a.2 then (a.1.lastErr 6).emit 11 (p4 (a.1.rd .img 0x34).toNat ++ p4 (a.1.rd .img 0x38).toNat)
    else
      let r : ArmRecord := ⟨s.nextEpoch, t, c.digest, c.overlays⟩
      let s1 := { a.1 with img := { a.1.img with armed := some r, decision := none, refusedHold := false } }
      let s2 := (s1.setLoader .armed).emit 12 (p4 r.epoch ++ p8 r.t)
      if s2.agreeing then s2.queueTandem 1 3 r.body else s2

/-- ARM. -/
def State.doArm (s : State) : State :=
  match s.img.state, s.img.staged with
  | .staged, some c => s.armAt c (s.rd64 .img 0x28)
  | _, _ => s.imgBusy

/-- COMMIT_NOW: T is now + MIN_LEAD, rounded up to a nanosecond. -/
def State.doCommitNow (s : State) : State :=
  match s.img.state, s.img.staged with
  | .staged, some c => if s.inPairing then s.imgBusy else s.armAt c (ceilDiv s.commitDomain.time (2 ^ 32) + s.minLead)
  | _, _ => s.imgBusy

/-- ABORT. -/
def State.doAbort (s : State) : State :=
  match s.img.state, s.img.armed with
  | .staged, _ => (s.dropStaging.lastErr 0xD).setLoader s.imgBase
  | .armed, some a =>
    if s.img.decision.isSome || a.t * 2 ^ 32 ≤ s.commitDomain.time + 200000 * 2 ^ 32 then s.imgBusy
    else
      let s1 := if s.agreeing then s.queueTandem 1 4 (beBytes 4 a.epoch) else s
      (s1.dropStaging.lastErr 0xD).setLoader s.imgBase
  | _, _ => s.imgBusy

/-- A write to IMG_STAGE_SRC, IMG_COMMIT_TIME or IMG_COMMIT_EPOCH (R102). -/
def State.doConfigWrite (s : State) (path : Path) (reg : StageReg) (v : Word) : State :=
  let k := s.img.state
  if k = .staging ∨ k = .armed ∨ k = .committing then s.imgBusy
  else match reg with
    | .stageSrc => s.store path .img 0x20 v
    | .commitTimeLo => s.stageLow path (Block.base .img + 0x28) v
    | .commitTimeHi => s.storeHigh path .img 0x28 v
    | .commitEpoch => s.store path .img 0x30 v

/-! ### The agreement and the commit (R80-R88) -/

/-- Does the partner hold a matching arm record, and has no abort come (R84)? -/
def State.agreed (s : State) : Bool := s.img.armed.isSome && (s.img.partner == s.img.armed && !s.img.abortRx)

/-- AGREEMENT_DEADLINE (R84). -/
def State.doDeadline (s : State) : State :=
  if s.img.state = .armed && s.img.decision.isNone then
    { s with img := { s.img with decision := some (!s.agreeing || s.agreed) } }
  else s

/-- A commit is refused at T (R73, R86): the staging is kept. -/
def State.refuseCommit (s : State) (a : ArmRecord) (c : Conf) (e : Nat) : State :=
  let s1 := (s.lastErr e).bump .img 0x118
  let s2 := { s1 with img := { s1.img with armed := none, decision := none, partner := none, abortRx := false, refusedHold := true,
                                           kept := some (c, a.epoch, true) } }
  (s2.setLoader .staged).emit 14 (p1 e ++ p4 (s2.rd .img 0x34).toNat)

/-- After a change of configuration: COMMITTING while units are under roadworks. -/
def State.afterInstall (s : State) (works : Nat) : State := s.setLoader (if works = 0 then .running else .committing)

/-- The switch (R82): the replaced configuration is kept (R86). -/
def State.switchTo (s : State) (a : ArmRecord) (c : Conf) : State :=
  let old := s.img.conf.map (fun o => (o, s.epoch, false))
  let r := s.install c a.epoch false
  let s1 := (r.1.dropStaging.wr64 .img 0x48 (r.1.commitDomain.time / 2 ^ 32)).bump .img 0x110
  let s2 := { s1 with img := { s1.img with kept := old } }
  (s2.emit 13 (p4 a.epoch ++ (p2 c.overlays ++ p2 r.2))).afterInstall r.2

/-- COMMIT_SWITCH (R80, R84, R85): the check sees a retirement that has begun (06_switch_core.md R270). -/
def State.doCommit (s : State) : State :=
  match s.img.state, s.img.armed, s.img.staged with
  | .armed, some a, some c =>
    if s.agreeing && !((s.img.decision).getD s.agreed) then s.refuseCommit a c 9
    else
      let check := s.admitAt s.usableAtT c.recs
      if check.2 then check.1.switchTo a c else check.1.refuseCommit a c 6
  | _, _, _ => s

/-- REFUSED_HOLD_EXPIRY (R73). -/
def State.doRefusedOver (s : State) : State :=
  if s.img.state = .staged && s.img.refusedHold then s.dropStaging.setLoader s.imgBase else s

/-- KEPT_CONFIG_RELEASE (R86). -/
def State.doKeptRelease (s : State) : State := { s with img := { s.img with kept := none } }

/-- COMMIT_ROADWORKS_DONE (R73): every unit is back. -/
def State.doWorksDone (s : State) : State :=
  if s.img.state = .committing && s.img.works.isEmpty then
    (s.setLoader .running).emit 15 (p4 s.epoch ++ p4 ((s.nowNs - s.img.worksFrom) / 1000))
  else s

/-- A unit is back in service: the commit waits for it no more. -/
def State.unitBack (s : State) (w : Works) : State := { s with img := { s.img with works := s.img.works.erase w } }

/-- The standby follows the active's epoch (R86): it commits its kept staging under the active's number, a commit as any other (R82, R101,
R104), or restores what it kept. -/
def State.follow (s : State) (epoch : Nat) : State :=
  match s.img.kept with
  | none => s
  | some (c, n, staging) =>
    if epoch = s.epoch || (!staging && n ≠ epoch) then s
    else
      let r := s.install c epoch false
      let s1 := if staging && r.1.img.refusedHold then r.1.dropStaging else r.1
      let s2 := { s1 with img := { s1.img with kept := none } }
      let s3 := (if staging then (s2.wr64 .img 0x48 (s2.commitDomain.time / 2 ^ 32)).bump .img 0x110 else s2).emit 16 (p4 s.epoch ++ p4 epoch)
      match s3.img.state with
      | .staging => s3
      | .armed => s3
      | .staged => if s3.img.staged.isSome then s3 else s3.afterInstall r.2
      | _ => s3.afterInstall r.2

/-! ### The commands -/

/-- BOOT_SELECT, BOOT_LOAD_DONE. -/
def execBootSelect (glitches : List ReadGlitch) (s : State) : Host.Outcome State Fault Refusal := (s.doBootSelect glitches).done
def execBootLoadDone (s : State) : Host.Outcome State Fault Refusal := s.doBootLoad.linkDone s

/-- IMG_CMD STAGE, and the end of a staging. -/
def execImgStage (glitches : List ReadGlitch) (s : State) : Host.Outcome State Fault Refusal := (s.awake (fun (t : State) => t.doStage glitches)).done
def execStagingComplete (s : State) : Host.Outcome State Fault Refusal := s.doStaged.done

/-- IMG_CMD ARM, ABORT, COMMIT_NOW. -/
def execImgArm (s : State) : Host.Outcome State Fault Refusal := (s.awake (fun (t : State) => t.doArm)).done
def execImgAbort (s : State) : Host.Outcome State Fault Refusal := (s.awake (fun (t : State) => t.doAbort)).done
def execImgCommitNow (s : State) : Host.Outcome State Fault Refusal := (s.awake (fun (t : State) => t.doCommitNow)).done

/-- IMG_CONFIG_WRITE. -/
def execImgConfigWrite (path : Path) (reg : StageReg) (value : Word) (s : State) : Host.Outcome State Fault Refusal :=
  (s.awake (fun (t : State) => t.doConfigWrite path reg value)).done

/-- AGREEMENT_DEADLINE, COMMIT_SWITCH. -/
def execAgreementDeadline (s : State) : Host.Outcome State Fault Refusal := s.doDeadline.done
def execCommitSwitch (s : State) : Host.Outcome State Fault Refusal := s.doCommit.linkDone s

/-- REFUSED_HOLD_EXPIRY, COMMIT_ROADWORKS_DONE, KEPT_CONFIG_RELEASE. -/
def execRefusedHoldExpiry (s : State) : Host.Outcome State Fault Refusal := s.doRefusedOver.done
def execCommitRoadworksDone (s : State) : Host.Outcome State Fault Refusal := s.doWorksDone.done
def execKeptConfigRelease (s : State) : Host.Outcome State Fault Refusal := s.doKeptRelease.done

end Sys2Proof.Machine
end

