-- ==== Sys2Proof/Machine/Works.lean ====
section
/-!
DEFINITION. Roadworks: their ends after a commit (02_ikiem_images.md R88, R89; 04_ethernet_ports.md R149, 06_switch_core.md R268, R275,
08_can_controllers.md R328, 09_gateway_and_culvert.md R395) and the request engine (15_management_events_health.md R586-R588).
-/
namespace Sys2Proof.Machine

/-! ### The request engine (R586-R588) -/

/-- Does the engine serve this unit? -/
def State.rwServes (s : State) (kind index : Nat) : Bool := decide (s.mgt.rw.state ≠ .idle) && (s.mgt.rw.kind == kind && s.mgt.rw.index == index)

/-- Indices of a kind (R586). -/
def rwCount (kind : Nat) : Nat :=
  match kind with
  | 0 => 29
  | 1 => 32
  | 2 => 28
  | 3 => 64
  | 4 => 31
  | _ => 0

/-- Is the unit in the build: a port with a mode, a channel with a protocol, a table that has entries? -/
def State.rwPresent (s : State) (kind index : Nat) : Bool :=
  match kind with
  | 0 => decide (s.buildMode index ≠ 0)
  | 1 => decide ((s.chan index).kind ≠ .absent)
  | 4 => (s.tblSize index).isSome
  | _ => true

/-- Is the unit under roadworks for a commit? -/
def State.rwCommitted (s : State) (kind index : Nat) : Bool := s.img.works.any (fun w => w.request == some (kind, index))

/-- The reason for which START is refused (R588), the request's form tested first, then the engine, the loader, the build, TL, and last
what the unit itself allows (DEDUCED, notes/assumptions/33.md); 0 where none applies. -/
def State.rwRefusal (s : State) (kind index action : Nat) : Nat :=
  let lane := (s.lane index).state
  if 1 < action || rwCount kind ≤ index then 8
  else if s.mgt.rw.state ≠ .idle then 6
  else if s.rwCommitted kind index || (decide (s.img.state = .armed) || decide (s.img.state = .committing)) then 5
  else if !s.rwPresent kind index then 4
  else if kind = 0 && (index = 4 && decide (s.tdm.state ≠ .solo)) then 7
  else if kind = 2 && (if index = 27 then s.spareBusy else decide (lane = .inService) && (s.spareBusy || s.xbr.spareDead)) then 1
  else if (kind = 3 && !s.bankIn index) || (kind = 2 && (decide (lane = .remapping) || decide (lane = .out))) then 2
  else if kind = 3 && s.retireLimit then 3
  else 0

/-- Takes the unit out of service (R586). -/
def State.takeOut (s : State) (kind index : Nat) : State :=
  match kind with
  | 0 => s.beginPortWorks index
  | 1 => s.beginCanWorks index
  | 2 =>
    if index = 27 then { s with xbr := { s.xbr with spareTest := true } }
    else
      let s1 := if (s.lane index).state = .inService then { s with xbr := { s.xbr with spareFor := some index } } else s
      s1.setLane index { s1.lane index with state := .roadworksOnSpare }
  | 3 => s.beginRetire index 3
  | _ => { s with tbl := { s.tbl with works := s.tbl.works ++ [index] } }

/-- Is the unit out of service? -/
def State.isOut (s : State) (kind index : Nat) : Bool :=
  match kind with
  | 0 => decide ((s.port index).state = .roadworks)
  | 1 => decide ((s.chan index).kind = .roadworks)
  | 2 => if index = 27 then s.xbr.spareTest else decide ((s.lane index).state = .roadworksOnSpare)
  | 3 => decide ((s.bank index).state = .roadworks)
  | _ => s.tbl.works.contains index

/-- A table memory is back: lookups use it again (02_ikiem_images.md R89). -/
def State.tableBack (s : State) (t : Nat) : State := { s with tbl := { s.tbl with works := s.tbl.works.filter (fun x => x != t) } }

/-- A channel's roadworks end: the target frames on it put their bytes into its new objects (09_gateway_and_culvert.md R375). -/
def State.canBack (s : State) (n : Nat) : State := (s.endCanWorks n).putTargets n

/-- The end of a unit's test: a unit that passed returns; a lane or a bank that failed goes where its chapter says. -/
def State.unitTested (s : State) (kind index : Nat) (pass : Bool) : State :=
  match kind with
  | 0 => if pass then s.endPortWorks index else s
  | 1 => if pass then s.canBack index else s
  | 2 => s.laneTested index pass
  | 3 => s.bistDone index pass
  | _ => if pass then s.tableBack index else s

/-- Moves the engine. -/
def State.setRw (s : State) (k : RwKind) : State := { s with mgt := { s.mgt with rw := { s.mgt.rw with state := k } } }

/-- START (R587, R588): MGT_RW_REQ names the unit. A lane refused for reason 1 or 2 also raises E536 (06_switch_core.md R279), after
E1604. -/
def State.rwBegin (s : State) : State :=
  let req := s.rd .mgt 0x20
  let kind := field req 18 16
  let index := field req 5 0
  let action := field req 31 28
  let reason := s.rwRefusal kind index action
  if s.lmp.held then s
  else if reason ≠ 0 then
    let s1 := ((s.setFld .mgt 0x28 15 12 reason).bump .mgt 0x440).emit 1604 (p1 kind ++ (p2 index ++ p1 reason))
    if kind = 2 && reason ≤ 2 then s1.emit 536 (p2 index ++ p1 reason) else s1
  else
    let s1 := ({ s with mgt := { s.mgt with rw := ⟨.entering, kind, index, action == 1⟩ } }).setFld .mgt 0x28 9 8 3
    s1.takeOut kind index

/-- The unit is out of service: the engine tests or holds it. -/
def State.rwEntered (s : State) : State :=
  let r := s.mgt.rw
  if r.state = .entering && s.isOut r.kind r.index then s.setRw (if r.hold then .held else .testing) else s

/-- RELEASE. -/
def State.rwLetGo (s : State) : State := if s.mgt.rw.state = .held then s.setRw .testing else s

/-- The test ends. -/
def State.rwFinish (s : State) (pass : Bool) : State :=
  let r := s.mgt.rw
  if r.state ≠ .testing then s
  else
    let s1 := (s.unitTested r.kind r.index pass).setRw (if pass || (r.kind == 2 || r.kind == 3) then .idle else .held)
    ((s1.setFld .mgt 0x28 9 8 (if pass then 0 else 1)).bump .mgt 0x438).emit 1602 (p1 r.kind ++ (p2 r.index ++ p1 (if pass then 0 else 1)))

/-! ### Ends of roadworks -/

/-- Roadworks on a unit end: a unit that the engine serves ends them with a passed test only while it is tested; the others end what a
commit began. -/
def State.worksEnd (s : State) (w : Works) (finish : State → State) : State :=
  match w.request with
  | some (k, i) =>
    if s.rwServes k i then s.rwFinish true
    else if s.isOut k i then (finish s).unitBack w else s
  | none => (finish s).unitBack w

/-- Of a port, a CAN channel, an MVB channel, a table memory, the parser. -/
def State.portWorksEnd (s : State) (p : Nat) : State := s.worksEnd (.port p) (fun (t : State) => t.endPortWorks p)
def State.canWorksEnd (s : State) (n : Nat) : State := s.worksEnd (.can n) (fun (t : State) => t.canBack n)
def State.mvbWorksEnd (s : State) (n : Nat) : State :=
  if (s.mvbChan n).kind = .roadworks then s.worksEnd (.mvb n) (fun (t : State) => t.endMvbWorks n) else s
def State.tableWorksEnd (s : State) (t : Nat) : State := s.worksEnd (.table t) (fun (u : State) => u.tableBack t)
def State.parserWorksEnd (s : State) : State :=
  s.worksEnd .parser (fun (t : State) =>
    (({ t with prs := { t.prs with roadworks := false } }.restartCounters .prs 0x400 0x420).restartCounters .prs 0x1000 0x2000))

/-- The first bus idle at or after a commit instant (02_ikiem_images.md R89). -/
def State.busIdle (s : State) (n : Nat) : State := if s.img.works.contains (.can n) then s.beginCanWorks n else s

/-- A lane's or a bank's self-test ends: under the engine it ends the request. -/
def State.laneTestEnd (s : State) (l : Nat) (pass : Bool) : State := if s.rwServes 2 l then s.rwFinish pass else s.laneTested l pass
def State.bankTestEnd (s : State) (b : Nat) (pass : Bool) : State := if s.rwServes 3 b then s.rwFinish pass else s.bistDone b pass

/-! ### The commands -/

/-- PORT_ROADWORKS_END, CAN_ROADWORKS_END, MVB_ROADWORKS_END, TABLE_ROADWORKS_END, PARSER_ROADWORKS_END, FIRST_BUS_IDLE. -/
def execPortRoadworksEnd (p : Port) (s : State) : Host.Outcome State Fault Refusal := (s.portWorksEnd p.val).linkDone s
def execCanRoadworksEnd (ch : Fin 32) (s : State) : Host.Outcome State Fault Refusal := (s.canWorksEnd ch.val).done
def execMvbRoadworksEnd (ch : Fin 2) (s : State) : Host.Outcome State Fault Refusal := (s.mvbWorksEnd ch.val).done
def execTableRoadworksEnd (table : Fin 31) (s : State) : Host.Outcome State Fault Refusal := (s.tableWorksEnd table.val).done
def execParserRoadworksEnd (s : State) : Host.Outcome State Fault Refusal := s.parserWorksEnd.done
def execFirstBusIdle (ch : Fin 32) (s : State) : Host.Outcome State Fault Refusal := (s.busIdle ch.val).done

/-- LANE_SELFTEST_DONE (06_switch_core.md R275), BANK_DRAIN_DONE, BANK_BIST_DONE (R268). -/
def execLaneSelftestDone (lane : Fin 28) (pass : Bool) (s : State) : Host.Outcome State Fault Refusal := (s.laneTestEnd lane.val pass).done
def execBankDrainDone (bank : Fin 64) (s : State) : Host.Outcome State Fault Refusal := (s.drainDone bank.val).done
def execBankBistDone (bank : Fin 64) (pass : Bool) (s : State) : Host.Outcome State Fault Refusal := (s.bankTestEnd bank.val pass).done

/-- RW_START, RW_RELEASE, RW_UNIT_OUT, RW_TEST_DONE (15_management_events_health.md R587). -/
def execRwStart (s : State) : Host.Outcome State Fault Refusal := (s.awake (fun (t : State) => t.rwBegin)).linkDone s
def execRwRelease (s : State) : Host.Outcome State Fault Refusal := (s.awake (fun (t : State) => t.rwLetGo)).done
def execRwUnitOut (s : State) : Host.Outcome State Fault Refusal := s.rwEntered.done
def execRwTestDone (pass : Bool) (s : State) : Host.Outcome State Fault Refusal := (s.rwFinish pass).linkDone s

end Sys2Proof.Machine
end

