-- ==== Sys2Proof/Machine/Mgt.lean ====
section
/-!
DEFINITION. The management plane (15_management_events_health.md R565-R592, R597): its states, firmware boot, the watchdog, watchers,
snapshots, the patrol, leases, halted cores, and the two reset commands of R598.
-/
namespace Sys2Proof.Machine

/-! ### Halted cores and timers that stand still (R570, R592, R597) -/

/-- The halted cores, as a mask. -/
def State.halted (s : State) : Nat := s.fld .mgt 0x18 3 0

/-- Does a lease's timer stand still: LEASE_FREEZE, and its holder is a halted core, or the debug port while any core is halted? -/
def State.leaseFrozen (s : State) (holder : Nat) : Bool :=
  s.flag .mgt 0x18 8 && (if holder = 5 then decide (s.halted ≠ 0) else decide (0 < holder) && s.halted.testBit (holder - 1))

/-- A lease, and the state with it replaced. -/
def State.lease (s : State) (l : Nat) : Option Lease := Sparse.get (fun _ => none) s.mgt.lease l
def State.setLease (s : State) (l : Nat) (v : Option Lease) : State :=
  { s with mgt := { s.mgt with lease := Sparse.put (fun _ => none) s.mgt.lease l v } }

/-- A timer of `ns` that stands still or runs. -/
def timerOf (now ns : Nat) (still : Bool) : Timer := if still then ⟨ns, none⟩ else startTimer now ns

/-- Stops or lets go a timer. -/
def Timer.still (t : Timer) (now : Nat) (stop : Bool) : Timer :=
  match t.since, stop with
  | some _, true => holdTimer t now
  | none, false => resumeTimer t now
  | _, _ => t

/-- The timers after a change of MGT_DBG_CTL: leases, and the watchdog of a running plane. -/
def State.holdTimers (s : State) : State :=
  let s1 := (List.range 64).foldl (fun (t : State) l =>
    match t.lease l with
    | none => t
    | some a => t.setLease l (some { a with timer := a.timer.still t.nowNs (t.leaseFrozen a.holder) })) s
  if s1.mgt.state = .running then
    { s1 with mgt := { s1.mgt with wdt := s1.mgt.wdt.still s1.nowNs (decide (s1.halted ≠ 0)) } }
  else s1

/-- A write of MGT_DBG_CTL: only the debug path's counts (R597). STEP changes nothing here: what the instruction does comes as commands
of its own. -/
def State.dbgCtlWrite (s : State) (path : Path) (v : Word) : State :=
  if path ≠ .debug || s.lmp.held then s
  else (s.wr .mgt 0x18 (v &&& 0x10F)).holdTimers

/-- Halts or resumes one core. -/
def State.setHalt (s : State) (path : Path) (n : Nat) (v : Bool) : State := s.dbgCtlWrite path (setBit (s.rd .mgt 0x18) n v)

/-- Is the management plane stopped (R567)? -/
def State.mgtStopped (s : State) : Bool := decide (s.mgt.state ≠ .running) || decide (s.halted = 15)

/-! ### States and resets (R566-R568) -/

/-- Codes of MGT_STATUS.STATE (R603). -/
def MgtKind.code : MgtKind → Nat
  | .reset => 0
  | .loading => 1
  | .running => 2
  | .noFirmware => 3

/-- Moves the plane: E1600 with the old and the new state and the cause of the last reset. -/
def State.setMgt (s : State) (k : MgtKind) : State :=
  if s.mgt.state = k then s
  else { s with mgt := { s.mgt with state := k } }.emit 1600 (p1 s.mgt.state.code ++ (p1 k.code ++ p1 (s.fld .dev 8 11 8)))

/-- TIMEOUT of the watchdog in ns. -/
def State.wdtNs (s : State) : Nat := 1000000 * s.fld .mgt 8 15 0

/-- Starts the watchdog. -/
def State.startWdt (s : State) : State :=
  { s with mgt := { s.mgt with wdt := timerOf s.nowNs s.wdtNs (decide (s.halted ≠ 0)) } }

/-- A lease ends, with the cause of E523 for its staged writes: the state and how many writes were discarded. -/
def State.freeLease (s : State) (l cause : Nat) : State × Nat :=
  match s.lease l with
  | none => (s, 0)
  | some a =>
    let n := if l < 31 then ((s.batch a.holder).filter (fun x => x.table == l)).length else 0
    let s1 := s.setLease l none
    (if l < 31 then s1.dropBatch a.holder l cause else s1, n)

/-- Is a register one of the windows of paths 1-4: the flume, TBL or key window, or a path's own copy in the CAN or MVB block (R568)? -/
def coreWindow (b : Block) (key : Nat) : Bool :=
  let paths := fun (base size : Nat) => decide (base + size ≤ key) && decide (key < base + 5 * size)
  match b with
  | .flm => paths 0x400 0x200
  | .tbl => paths 0 0x1000
  | .key => paths 0x20000 0x400
  | .can => paths 0 pathSpan
  | .mvb => paths 0 pathSpan
  | _ => false

/-- Clears the windows of paths 1-4. -/
def State.clearCoreWindows (s : State) : State :=
  let wipe := fun (b : Block) (f : RegFile) => ({ f with word := Sparse.clear (coreWindow b) f.word } : RegFile)
  let regs := { s.regs with
    flm := wipe .flm s.regs.flm, tbl := wipe .tbl s.regs.tbl, key := wipe .key s.regs.key, can := wipe .can s.regs.can, mvb := wipe .mvb s.regs.mvb }
  let core := fun (k : Nat) => decide (1 ≤ k) && decide (k ≤ 4)
  { s with regs := regs, flm := { s.flm with win := Sparse.clear core s.flm.win }, tbl := { s.tbl with batch := Sparse.clear core s.tbl.batch },
           can := { s.can with win := Sparse.clear (fun k => core (k % 8)) s.can.win } }

/-- Leases of the cores are released, their staged writes discarded as on expiry. -/
def State.freeCoreLeases (s : State) : State :=
  (List.range 64).foldl (fun (t : State) l =>
    match t.lease l with
    | none => t
    | some a => if 1 ≤ a.holder && a.holder ≤ 4 then (t.freeLease l 2).1 else t) s

/-- The plane enters RESET with a cause: 1 watchdog, 2 command, 3 SRAM. -/
def State.mgtReset (s : State) (cause : Nat) : State :=
  let n := Nat.min 0xFFFF (s.fld .dev 8 31 16 + 1)
  let s1 := (((s.bump .mgt 0x400).setFld .dev 8 11 8 cause).setFld .dev 8 31 16 n).setMgt .reset
  let s2 := s1.freeCoreLeases.clearCoreWindows
  { s2 with mgt := { s2.mgt with wdt := {} }, key := { s2.key with fw := none } }

/-- Sets an MGT_ERR bit (R603). -/
def State.mgtErr (s : State) (i : Nat) : State := s.setErr .mgt 4 i (1616 + i) (p4 0)

/-- The watchdog expires (R566, R569). -/
def State.wdtExpired (s : State) : State :=
  if s.mgt.state = .running && (s.flag .mgt 8 31 && s.mgt.wdt.since.isSome) then ((s.mgtErr 0).bump .mgt 0x408).mgtReset 1 else s

/-- A write of MGT_WDT_KICK (R569). -/
def State.wdtKicked (s : State) (path : Path) (v : Word) : State :=
  if s.lmp.held || !isCore path then s
  else if field v 15 0 = 0xA55A then (if s.mgt.state = .running then s.startWdt else s)
  else s.mgtErr 2

/-- An uncorrectable error in management SRAM. -/
def State.sramBad (s : State) : State := if s.mgt.state = .running then (s.mgtErr 1).mgtReset 3 else s

/-- DEV_CTL MGT_RESET: from RUNNING or NO_FIRMWARE. -/
def State.mgtResetCmd (s : State) : State :=
  if s.mgt.state = .running || s.mgt.state = .noFirmware then s.mgtReset 2 else s

/-! ### Firmware boot (12_keys_and_attestation.md R485-R488; 18_bring_up_reference_unit.md R645) -/

/-- The ROM's first run since device reset: boot record, signer table, anchor, identity key. -/
def State.readBootRecord (s : State) : State :=
  let w := s.bootWinner
  let br := (w.map s.bootCopy).getD []
  let bad := !bootCopyValid (s.bootCopy 0) || !bootCopyValid (s.bootCopy 1)
  let s1 := if bad then s.keyErr 4 0 0 0 else s
  let s2 := s1.setFld .key 0xC 5 4 (w.getD 2)
  let table := slice br 0x10 448
  let trusted := match s.fuses.anchor with
    | some a => decide (sha384 table = a)
    | none => true
  let usable := w.isSome && trusted
  ({ s2 with key := { s2.key with booted := true, signers := if usable then bootCount br else 0, signerTable := if usable then table else [] } }).wrs
    .key 0x200 (wordsOf (padTo 96 (ecPublic true identityKey)))

/-- Tries the banks in order. -/
def State.tryBanks (s : State) : List Nat → State × Option Firmware
  | [] => (s, none)
  | b :: bs =>
    match s.checkFirmware (bankOffset b) b with
    | (_, some fw) => (s, some fw)
    | (reason, none) =>
      let s1 := s.setFld .key 0xC (4 * b + 11) (4 * b + 8) reason
      State.tryBanks ((s1.emit 1408 (p2 b ++ p1 reason)).keyErr 3 0 0 0) bs

/-- FIRMWARE_BOOT: RESET, LOADING, then RUNNING or NO_FIRMWARE. -/
def State.bootFirmware (s : State) : State :=
  if s.lmp.held || s.mgt.state ≠ .reset then s
  else
    let again := s.key.booted
    let s0 := s.setMgt .loading
    let s1 := (if again then s0 else s0.readBootRecord).setFld .key 0xC 15 8 0
    let order := match s1.bootWinner with
      | some w => if bootActive (s1.bootCopy w) = 0 then [0, 1] else [1, 0]
      | none => [0, 1]
    match s1.tryBanks order with
    | (s2, some fw) =>
      let s3 := ((s2.setFld .key 0xC 1 0 fw.bank).wr .key 0 (setBit (s2.rd .key 0) 4 false)).wr .key 0x10 (word fw.version)
      let s4 := { s3 with key := { s3.key with fw := some fw } }
      ((if again then s4.formRoot 3 else s4).setMgt .running).startWdt
    | (s2, none) =>
      let s3 := (s2.setFld .key 0xC 1 0 3).wr .key 0x10 0
      (s3.emit 1409 (p1 (s3.fld .key 0xC 11 8) ++ p1 (s3.fld .key 0xC 15 12))).setMgt .noFirmware

/-! ### Watchers (R577, R578) -/

/-- Watcher `k` reads its counter; a window that is over is followed by the one that runs now. -/
def State.watchCheck (s : State) (k : Nat) : State :=
  match locate (s.rd .evt (0x20000 + 0x10 * k)).toNat with
  | none => s
  | some (b, off) =>
    let delta := (s.rd .evt (0x20004 + 0x10 * k)).toNat
    let ns := 1000000 * s.fld .evt (0x20008 + 0x10 * k) 15 0
    let now := s.count b off
    let w : Watch := Sparse.get (fun _ => {}) s.evt.watch k
    let ended := decide (ns ≤ s.nowNs - w.start)
    let w1 : Watch := if ended then ⟨now, w.start + (s.nowNs - w.start) / ns * ns, false⟩ else w
    let rise := (now + 2 ^ 40 - w1.base) % 2 ^ 40
    let raise := !w1.raised && decide (delta ≤ rise)
    if ns = 0 || !isCounter b off then s
    else
      let s1 := { s with evt := { s.evt with watch := Sparse.put (fun _ => {}) s.evt.watch k { w1 with raised := w1.raised || raise } } }
      if raise then (s1.bump .evt 0x428).emit (1792 + k) (p4 (b.base + off) ++ p4 rise) else s1

/-! ### Snapshots (R581, R582) -/

/-- Snapshot groups: block, lowest counter, (stride, count) of each replication, and the runs of counters (offset, number) they are of. -/
structure SnapRow where
  block : Block
  off : Nat
  dims : List (Nat × Nat)
  runs : List (Nat × Nat)
deriving DecidableEq, Repr

/-- The groups that the chapters name (R179, R230, R280, R316, R360, R400, R422, R456, R495, R525, R561, R601, R638). DESIGN CHOICE: R230
makes one group of the 320 per-ingress counters, which no snapshot buffer holds (COUNT is 0-128): here each ingress is a group
(notes/assumptions/40.md). -/
def snapRows : List SnapRow := [
  ⟨.eth, 0x400, [(0x10000, 29)], [(0, 31), (0x100, 26), (0x200, 6), (0x280, 15), (0x300, 5), (0x340, 4)]⟩,
  ⟨.prs, 0x1000, [(0x80, 32)], [(0, 10)]⟩,
  ⟨.prs, 0x20000, [(0x20, 4096)], [(0, 3)]⟩,
  ⟨.xbr, 0x1000, [(0x40, 28)], [(0, 4)]⟩,
  ⟨.cis, 0x400, [], [(0, 8)]⟩,
  ⟨.egr, 0x400, [(0x4000, 29)], (List.range 8).map (fun c => (0x40 * c, 5)) ++ [(0x200, 2)]⟩,
  ⟨.can, 0x400, [(0x8000, 32)], [(0, 28)]⟩,
  ⟨.mvb, 0x400, [(0x8000, 2)], [(0, 10)]⟩,
  ⟨.gwy, 0x400, [], [(0, 26)]⟩,
  ⟨.flm, 0x10040, [(0x80, 1536)], [(0, 7)]⟩,
  ⟨.hbr, 0x400, [], [(0, 14)]⟩,
  ⟨.hbr, 0x20000, [(0x40, 1024)], [(0, 7)]⟩,
  ⟨.key, 0x400, [], [(0, 7)]⟩,
  ⟨.lmp, 0x800, [], [(0, 9)]⟩,
  ⟨.pin, 0x8040, [(0x80, 4)], [(0, 5)]⟩,
  ⟨.tdm, 0x400, [], [(0, 18)]⟩,
  ⟨.evt, 0x400, [], [(0, 6)]⟩,
  ⟨.mgt, 0x400, [], [(0, 13)]⟩,
  ⟨.pin, 0x400, [], [(0, 8)]⟩]

/-- The counters of the group whose lowest counter is at an address, ascending. -/
def groupAt (addr : Nat) : Option (Block × List Nat) :=
  (locate addr).bind (fun x =>
    (snapRows.find? (fun r => decide (r.block = x.1) && (decide (r.off ≤ x.2) && (instanceAt r.dims (x.2 - r.off)).isSome))).map (fun r =>
      (x.1, r.runs.flatMap (fun q => (List.range q.2).map (fun i => x.2 + q.1 + 8 * i)))))

/-- Offset of a register of a snapshot buffer. -/
def snapReg (b off : Nat) : Nat := 0x40000 + 0x800 * b + off

/-- Takes the group of one buffer. -/
def State.snapBuffer (s : State) (b : Nat) : State :=
  match groupAt (s.rd .mgt (snapReg b 0)).toNat with
  | none => s.setFld .mgt (snapReg b 4) 30 30 1
  | some (blk, offs) =>
    let gen := (s.fld .mgt (snapReg b 4) 15 0 + 1) % 65536
    let values := (List.range 128).flatMap (fun i =>
      match offs[i]? with
      | some off => [lo32 (s.count blk off), hi32 (s.count blk off)]
      | none => [0, 0])
    let t := s.stamp
    let s1 := (s.wr .mgt (snapReg b 4) (word (2 ^ 16 * offs.length + gen))).wrs .mgt (snapReg b 8) [lo32 t.ns, hi32 t.ns, word t.frac, word s.epoch]
    s1.wrs .mgt (snapReg b 0x400) values

/-- MGT_SNAP_CMD: every selected buffer at one instant; the counting that the command itself brings comes after it. -/
def State.snapTake (s : State) (mask : Nat) : State :=
  if mask = 0 || s.lmp.held then s
  else
    let bs := bitsOf 16 mask
    let s1 := bs.foldl (fun (t : State) b => t.snapBuffer b) s
    let good := bs.filter (fun b => (groupAt (s.rd .mgt (snapReg b 0)).toNat).isSome)
    (s1.bumpBy .mgt 0x460 good.length).emit 1601 (p2 mask ++ p4 (s1.fld .mgt (snapReg (bs.headD 0) 4) 15 0))

/-! ### The patrol (R583-R585) -/

/-- A table entry that cannot be corrected is invalid: lookups skip it. -/
def State.entryBad (s : State) (t i : Nat) : State :=
  if (s.table t).any (fun e => e.index == i) then
    ((s.setTable t ((s.table t).filter (fun e => e.index != i))).bump .mgt 0x430).emit 1607 (p2 t ++ p4 i)
  else s

/-- A key slot that cannot be corrected is emptied with its pair half. -/
def State.slotBad (s : State) (h : Nat) : State :=
  if attrValid (s.keySlot h).attr then ((s.emptySlot h).1.bump .mgt 0x430).emit 1607 (p2 0xFFFF ++ p4 h) else s

/-- A frame to be sent is lost with its memory: counted in can.tx.drop, with its bit and event (R359). The table of causes has none for it: the
cause is a free value (notes/assumptions/165.md). -/
def State.txLost (s : State) (n : Nat) : State :=
  let (s1, v) := s.drawNat
  s1.txDrop n v

/-- A message object, or a queue entry, that cannot be corrected loses its frame. -/
def State.objectBad (s : State) (n o : Nat) : State :=
  if s.objTx n o then
    if s.objBit n 0x40 o then (s.clearRequest n o).txLost n else s
  else if s.objBit n 0x60 o then ((s.setObj n o { (s.chan n).obj o with held := {} }).setObjBit n 0x60 o false).canBump n 4
  else s
def State.queueBad (s : State) (n : Nat) (tx : Bool) (i : Nat) : State :=
  let c := s.chan n
  if tx then (if i < c.txq.length then (s.setChan n { c with txq := c.txq.eraseIdx i }).txLost n else s)
  else if i < c.rxq.length then (s.setChan n { c with rxq := c.rxq.eraseIdx i }).canBump n 4 else s

/-- A flume slot that cannot be corrected (10_flumes.md R417). -/
def State.flumeBad (s : State) (f pos : Nat) : State :=
  let v := s.flume f
  if !s.flumePresent f then s
  else if fromTo v.rl pos < fromTo v.rl v.wr then s.flumeReset f 2 0xFF pos 0
  else s.setErr .flm 4 3 1155 (p2 f)

/-- What an uncorrectable word brings (R583). -/
def State.patrolUe (s : State) : PatrolSpot → State
  | .cistern b w f => s.bankUe b.val w.val 1 (fun h => f == some h.frame.id)
  | .flume f pos => s.flumeBad f.val pos.toNat
  | .table t i => s.entryBad t.val i
  | .canObject n o => s.objectBad n.val o.val
  | .canQueue n tx i => s.queueBad n.val tx i
  | .key h => s.slotBad h.val
  | .sram => s.sramBad

/-- What a corrected word brings: the patrol's count, and those of the cistern's bank and of the SRAM. -/
def State.patrolCe (s : State) (spot : PatrolSpot) : State :=
  let s1 := s.bump .mgt 0x420
  match spot with
  | .cistern b _ _ => s1.bankCe b.val
  | .sram => s1.bump .mgt 0x410
  | _ => s1

/-- The recorded checksum of a table, and the one computed by a pass where they differ (R584): each difference counts, and E1606 comes once
until they agree. -/
def State.sumChecked (s : State) (t : Nat) (found : Option Word) : State :=
  let recorded := tableSum (s.table t)
  match found with
  | some w =>
    if w.toNat = recorded then s
    else if s.tbl.sumBad.contains t then s.bump .mgt 0x428
    else (({ s with tbl := { s.tbl with sumBad := t :: s.tbl.sumBad } }).bump .mgt 0x428).emit 1606 (p2 t ++ (p4 recorded ++ p4 w.toNat))
  | none => { s with tbl := { s.tbl with sumBad := s.tbl.sumBad.filter (fun x => x != t) } }

/-- The patrol reads a word; the last word of a pass ends the pass, with the tables whose computed checksum differs. -/
def State.patrolRead (s : State) (spot : PatrolSpot) (found : WordFound) (passEnd : Option (List (Fin 31 × Word))) : State :=
  if s.mgtStopped || !s.flag .mgt 0x14 31 then s
  else
    let s1 := match found with
      | .good => s
      | .corrected => s.patrolCe spot
      | .uncorrectable => s.patrolUe spot
    match passEnd with
    | none => s1
    | some sums =>
      (List.range 31).foldl (fun (t : State) i => t.sumChecked i ((sums.find? (fun x => x.1.val == i)).map (fun x => x.2))) (s1.bump .mgt 0x418)

/-! ### Leases (R589-R592) -/

/-- Writes a path's MGT_LEASE_RESULT. -/
def State.leaseResult (s : State) (path : Path) (r : Nat) : State := s.wr .mgt (onPath path 0x34) (word r)

/-- The lease is the path's for `ms` from now. -/
def State.holdLease (s : State) (path : Path) (l ms : Nat) : State :=
  let h := pathIndex path
  (s.setLease l (some ⟨h, timerOf s.nowNs (1000000 * ms) (s.leaseFrozen h)⟩)).leaseResult path 0

/-- LEASE_CMD (R590): 1 ACQUIRE, 2 RENEW, 3 RELEASE; another OP, or a TIMEOUT_MS of 0, gives 0x3. -/
def State.leaseCommand (s : State) (path : Path) (l op ms : Nat) : State :=
  let holder := (s.lease l).map (fun (a : Lease) => a.holder)
  let mine := holder == some (pathIndex path)
  if s.lmp.held then s
  else if ms = 0 then s.leaseResult path 3
  else match op with
  | 1 => if holder.isNone || mine then s.holdLease path l ms else s.leaseResult path 1
  | 2 => if mine then s.holdLease path l ms else s.leaseResult path 2
  | 3 => if mine then (s.freeLease l 1).1.leaseResult path 0 else s.leaseResult path 2
  | _ => s.leaseResult path 3

/-- A lease's timer reaches 0 (R591). -/
def State.leaseExpired (s : State) (l : Nat) : State :=
  match s.lease l with
  | none => s
  | some a =>
    if a.timer.since.isNone then s
    else
      let r := s.freeLease l 2
      (r.1.bump .mgt 0x448).emit 1605 (p2 l ++ (p1 a.holder ++ p4 r.2))

/-! ### The commands -/

/-- DEVICE_RESET_CMD, MGT_RESET_CMD (R598). -/
def execDeviceResetCmd (s : State) : Host.Outcome State Fault Refusal := (s.awake (fun (t : State) => t.deviceReset 4)).done
def execMgtResetCmd (s : State) : Host.Outcome State Fault Refusal := (s.awake (fun (t : State) => t.mgtResetCmd)).done

/-- FIRMWARE_BOOT (12_keys_and_attestation.md R488). -/
def execFirmwareBoot (s : State) : Host.Outcome State Fault Refusal := s.bootFirmware.done

/-- WATCHDOG_EXPIRY, WDT_KICK (R569), MGT_SRAM_UE (R566). -/
def execWatchdogExpiry (s : State) : Host.Outcome State Fault Refusal := s.wdtExpired.done
def execWdtKick (path : Path) (value : Word) (s : State) : Host.Outcome State Fault Refusal := (s.awake (fun (t : State) => t.wdtKicked path value)).done
def execMgtSramUe (s : State) : Host.Outcome State Fault Refusal := s.sramBad.done

/-- WATCHER_CHECK (R578), SNAPSHOT (R581), PATROL_WORD (R583). -/
def execWatcherCheck (k : Fin 256) (s : State) : Host.Outcome State Fault Refusal := (s.watchCheck k.val).done
def execSnapshot (mask : Fin 65536) (s : State) : Host.Outcome State Fault Refusal := (s.awake (fun (t : State) => t.snapTake mask.val)).done
def execPatrolWord (spot : PatrolSpot) (found : WordFound) (passEnd : Option (List (Fin 31 × Word))) (s : State) :
    Host.Outcome State Fault Refusal := (s.patrolRead spot found passEnd).done

/-- ACQUIRE, RENEW, LEASE_RELEASE (R590), LEASE_EXPIRY (R591). -/
def execLeaseAcquire (path : Path) (lease : Fin 64) (timeout : Fin 65536) (s : State) : Host.Outcome State Fault Refusal :=
  (s.awake (fun (t : State) => t.leaseCommand path lease.val 1 timeout.val)).done
def execLeaseRenew (path : Path) (lease : Fin 64) (timeout : Fin 65536) (s : State) : Host.Outcome State Fault Refusal :=
  (s.awake (fun (t : State) => t.leaseCommand path lease.val 2 timeout.val)).done
def execLeaseRelease (path : Path) (lease : Fin 64) (timeout : Fin 65536) (s : State) : Host.Outcome State Fault Refusal :=
  (s.awake (fun (t : State) => t.leaseCommand path lease.val 3 timeout.val)).done
def execLeaseExpiry (lease : Fin 64) (s : State) : Host.Outcome State Fault Refusal := (s.leaseExpired lease.val).done

/-- CORE_HALT, CORE_RESUME, CORE_STEP (R597). -/
def execCoreHalt (path : Path) (core : Fin 4) (s : State) : Host.Outcome State Fault Refusal := (s.awake (fun (t : State) => t.setHalt path core.val true)).done
def execCoreResume (path : Path) (core : Fin 4) (s : State) : Host.Outcome State Fault Refusal := (s.awake (fun (t : State) => t.setHalt path core.val false)).done
def execCoreStep (_path : Path) (_core : Fin 4) (s : State) : Host.Outcome State Fault Refusal := s.done

end Sys2Proof.Machine
end

