-- ==== Sys2Proof/Machine/Mvb.lean ====
section
/-!
DEFINITION. The commands of the MVB controllers (09_gateway_and_culvert.md R392-R396, R402). Roadworks of a channel stand in Works.lean.
-/
namespace Sys2Proof.Machine

/-- MVB_LINE_IDLE (R395). -/
def State.mvbIdle (s : State) (n : Nat) : State :=
  if (s.mvbChan n).kind ≠ .init then s
  else match s.mvbRole n with
    | 1 => s.setMvbKind n .device
    | 2 => s.setMvbKind n .backup
    | _ => s

/-- A poll of a master: an own source port answers at once; another device's answer is awaited (R394, R396). -/
def State.mvbPoll (s : State) (n : Nat) (w : Word) : State :=
  let a := field w 11 0
  let f := field w 14 12
  let s1 := s.send (.mvbMaster n f a)
  let cfg := s1.mvbPortCfg n a
  if mvbIsSource cfg && field cfg 26 24 == f then s1.sendMvbPort n a
  else s1.setMvb n { s1.mvbChan n with polls := (s1.mvbChan n).polls ++ [(f, a)] }

/-- An event round of an administrator (R392): its master frame, whose parameters the spec does not state, so they are free. -/
def State.eventRound (s : State) (n fcode : Nat) : State :=
  let (s1, a) := s.drawNat
  s1.send (.mvbMaster n fcode (a % 4096))

/-- An answer to an event round of a master (R392; notes/assumptions/111.md): one device alone is asked for its message; where several answered
at once, the next narrower round is run. -/
def State.eventAnswer (s : State) (n fcode addr : Nat) (fine : Bool) : State :=
  if (s.mvbChan n).kind ≠ .master || s.img.works.contains (.mvb n) then s
  else if fine then (s.send (.mvbMaster n 12 addr)).setMvb n { s.mvbChan n with polls := (s.mvbChan n).polls ++ [(12, addr)] }
  else if fcode = 9 then s.eventRound n 13
  else if fcode = 13 then s.eventRound n 14
  else s

/-- MVB_BASIC_PERIOD of a master (R394, R395): polls still unanswered time out, the due entries are polled, the event phase sends own
message data and runs the general event round; at the end of the macro cycle mastership may be offered. -/
def State.mvbPeriod (s : State) (n : Nat) : State :=
  let c := s.mvbChan n
  if c.kind ≠ .master then s
  else if s.img.works.contains (.mvb n) then (c.polls.foldl (fun (t : State) p => (t.mvbBump n 6).mvbErr n 1 p.2) s).beginMvbWorks n
  else
    let late := c.polls.foldl (fun (t : State) p => (t.mvbBump n 6).mvbErr n 1 p.2) s
    let s1 := late.setMvb n { late.mvbChan n with polls := [] }
    let count := s.fld .mvb (mvbReg n 4) 12 0
    let due := (List.range count).filterMap (fun i =>
      match recBody s.recs 0x0C n (0x2000 + i) with
      | none => none
      | some b =>
        let w := word (leAt b 0 4)
        if c.basic % 2 ^ field w 19 16 = field w 29 20 then some w else none)
    let s2 := ((due.foldl (fun (t : State) w => t.mvbPoll n w) s1).sendMvbMessage n).eventRound n 9
    let d := s2.mvbChan n
    let cycle := 2 ^ s.fld .mvb (mvbReg n 8) 31 28
    let ends := decide ((c.basic + 1) % cycle = 0)
    let offer := match d.offer with
      | none => none
      | some (a, k) => if 1 ≤ k then none else some (a, k + 1)
    let turns := if ends then d.turns + 1 else d.turns
    let most := s.fld .mvb (mvbReg n 4) 31 24
    let hand := most ≠ 0 && decide (most ≤ turns)
    let s3 := s2.setMvb n { d with basic := (c.basic + 1) % cycle, turns := if hand then 0 else turns, offer := offer }
    if hand then s3.offerMaster n else s3

/-- Answers a device status poll or an event round: the 16 bits of the answer are not stated, so they are free. -/
def State.mvbAnswer (s : State) (n fcode : Nat) : State :=
  let (s1, bs) := s.drawBytes 2
  let (s2, _) := s1.mvbStamped n bs
  s2.send (.mvbSlave n fcode (s.mvbAddr n) bs)

/-- MVB_MASTER_FRAME_RX (R395): a collision for a master; a device or a backup answers what is its own. -/
def State.mvbMasterFrame (s : State) (n fcode addr : Nat) (l : MvbLines) : State :=
  let c := s.mvbChan n
  match c.kind with
  | .absent => s
  | .roadworks => s
  | _ =>
    let s0 := s.mvbLines n addr l
    if !(l.a || l.b) then s0
    else if c.kind = .master then ((s0.mvbBump n 8).mvbErr n 2 addr).setMvbKind n .backup
    else if c.kind = .device || c.kind = .backup then
      let cfg := s.mvbPortCfg n addr
      if fcode ≤ 4 then (if mvbIsSource cfg && field cfg 26 24 == fcode then s0.sendMvbPort n addr else s0)
      else if fcode = 12 then (if addr = s.mvbAddr n then s0.sendMvbMessage n else s0)
      else if fcode = 15 then
        if addr = s.mvbAddr n then
          s0.mvbAnswer n 15
        else s0
      else if (fcode = 9 || fcode = 13 || (fcode = 14 && addr = s.mvbAddr n)) && !c.mdTx.isEmpty then
        s0.mvbAnswer n fcode
      else s0
    else s0

/-- A telegram that passed every check sequence (R396): a sink port or the message queue takes it, and the gateway is offered it. -/
def State.mvbAccepted (s : State) (n fcode addr : Nat) (data : List Byte) : State :=
  let standby := (s.mvbChan n).kind = .standby
  let (s1, d) := s.mvbStamped n data
  let c := s1.mvbChan n
  let o := fun (i : Item) (k : Nat) => (⟨i, k, n, d.stamp, 0x860 + n, false⟩ : Offer)
  if fcode ≤ 4 then
    let cfg := s.mvbPortCfg n addr
    let sink := mvbIsSink cfg && (field cfg 26 24 == fcode && data.length == mvbSize cfg)
    let s2 := (if sink then s1.setMvbPort n addr d else s1).mvbBump n 0
    if sink || !standby then s2.offer (o (.process fcode addr data) 2) else s2
  else if fcode = 12 then
    let s2 := s1.mvbBump n 2
    let s3 := if c.mdRx.length < mdQueue then s2.setMvb n { s2.mvbChan n with mdRx := c.mdRx ++ [d] } else s2.mdLost n 1
    s3.offer (o (.message addr data) 3)
  else if fcode = 8 then
    match c.offer with
    | some (a, _) =>
      let s2 := (s1.mvbBump n 9).setMvbKind n .backup
      s2.setMvb n { s2.mvbChan n with master := some a }
    | none => s1
  else s1

/-- MVB_TELEGRAM_RX (R396). -/
def State.mvbTelegram (s : State) (n fcode addr : Nat) (data : List Byte) (good : Bool) (l : MvbLines) : State :=
  let c := s.mvbChan n
  match c.kind with
  | .absent => s
  | .roadworks => s
  | .init => s
  | _ =>
    let s0 := (s.mvbLines n addr l).setMvb n { (s.mvbLines n addr l).mvbChan n with polls := c.polls.erase (fcode, addr) }
    let fine := good && (l.a || l.b)
    let s1 := if fine then s0.mvbAccepted n fcode addr data else (s0.mvbBump n 5).mvbErr n 0 addr
    (if fcode = 9 || fcode = 13 || fcode = 14 then s1.eventAnswer n fcode addr fine else s1).mvbWorksDue n

/-- MVB_REPLY_TIMEOUT: the oldest poll without a reply (R396). -/
def State.mvbReplyLate (s : State) (n : Nat) : State :=
  let c := s.mvbChan n
  match c.polls with
  | [] => s
  | p :: rest => (((s.setMvb n { c with polls := rest }).mvbBump n 6).mvbErr n 1 p.2).mvbWorksDue n

/-- MVB_MASTER_TIMEOUT, MASTERSHIP_OFFER_RX (R395): a backup becomes master. -/
def State.mvbTakes (s : State) (n : Nat) : State := if (s.mvbChan n).kind = .backup then s.setMvbKind n .master else s
def State.mvbAccepts (s : State) (n : Nat) : State := if (s.mvbChan n).kind = .backup then (s.mvbBump n 9).setMvbKind n .master else s

/-- MD_FLUSH (R402). -/
def State.mdFlush (s : State) (n : Nat) : State :=
  let c := s.mvbChan n
  (s.setMvb n { c with mdTx := [] }).mdLost n c.mdTx.length

/-! ### Port windows (R402) -/

/-- The register of a path's window. -/
def portReg (path : Path) (n off : Nat) : Nat := onPath path (mvbReg n off)

/-- Ends a window command with a result. -/
def State.portResult (s : State) (path : Path) (n result : Nat) : State := s.wr .mvb (portReg path n 0x108) (word result)

/-- PORT_CFG as the window shows it: GW when a target frame owns the port (R375). -/
def State.portCfgShown (s : State) (n a : Nat) : Word :=
  let w := s.mvbPortCfg n a
  if (targetOf s.recs 2 n a).isSome then setBit w 29 true else setBit w 29 false

/-- Copies a telegram or a port into a path's window. -/
def State.showPort (s : State) (path : Path) (n : Nat) (cfg : Word) (d : MvbData) (size : Nat) : State :=
  let age := if d.came then Nat.min 0xFFFF ((s.nowNs - d.stamp.ns) / 1000000) else 0xFFFF
  let stale := field cfg 15 0 ≠ 0 && decide (field cfg 15 0 ≤ age)
  let put := fun (t : State) (ov : Nat × Word) => t.wr .mvb (portReg path n ov.1) ov.2
  let s1 := [(0x10C, cfg), (0x110, lo32 d.stamp.ns), (0x114, hi32 d.stamp.ns), (0x118, word d.stamp.frac), (0x11C, word d.seq),
    (0x120, word (age + 2 ^ 31 * stale.toNat))].foldl put s
  (s1.wrs .mvb (portReg path n 0x140) (wordsOf (padTo 32 (padTo size d.bytes)))).portResult path n 0

/-- Why a window command is refused whatever it is. -/
def State.portClosed (s : State) (n : Nat) : Option Nat :=
  match (s.mvbChan n).kind with
  | .absent => some 4
  | .roadworks => some 5
  | _ => none

/-- PORT_SEL of a path. -/
def State.portTarget (s : State) (path : Path) (n : Nat) : Nat := s.fld .mvb (portReg path n 0x100) 31 30
def State.portIndex (s : State) (path : Path) (n : Nat) : Nat := s.fld .mvb (portReg path n 0x100) 11 0

/-- The 32 bytes in a path's window. -/
def State.portBytes (s : State) (path : Path) (n : Nat) : List Byte := bytesOf (s.rds .mvb (portReg path n 0x140) 8)

/-- READ. -/
def State.portRead (s : State) (path : Path) (n : Nat) : State :=
  let c := s.mvbChan n
  match s.portClosed n, s.portTarget path n with
  | some r, _ => s.portResult path n r
  | none, 0 =>
    let a := s.portIndex path n
    s.showPort path n (s.portCfgShown n a) (c.port a) (mvbSize (s.mvbPortCfg n a))
  | none, 1 =>
    match c.mdTx with
    | [] => s.portResult path n 1
    | m :: _ => s.showPort path n 0 { bytes := m } 32
  | none, 2 =>
    match c.mdRx with
    | [] => s.portResult path n 1
    | d :: _ => s.showPort path n 0 d 32
  | none, _ => s.portResult path n 4

/-- WRITE: source ports that no target frame owns. -/
def State.portWrite (s : State) (path : Path) (n : Nat) : State :=
  let a := s.portIndex path n
  let cfg := s.mvbPortCfg n a
  match s.portClosed n with
  | some r => s.portResult path n r
  | none =>
    if s.portTarget path n ≠ 0 then s.portResult path n 4
    else if (s.mvbChan n).kind = .standby then s.portResult path n 6
    else if !mvbIsSource cfg || (targetOf s.recs 2 n a).isSome then s.portResult path n 3
    else (s.writeMvbPort n a ((s.portBytes path n).take (mvbSize cfg))).portResult path n 0

/-- POP. -/
def State.portPop (s : State) (path : Path) (n : Nat) : State :=
  let c := s.mvbChan n
  match s.portClosed n with
  | some r => s.portResult path n r
  | none =>
    if s.portTarget path n = 3 then s.portResult path n 4
    else match c.mdRx with
      | [] => s.portResult path n 1
      | d :: rest => (s.setMvb n { c with mdRx := rest }).showPort path n 0 d 32

/-- PUSH. -/
def State.portPush (s : State) (path : Path) (n : Nat) : State :=
  match s.portClosed n with
  | some r => s.portResult path n r
  | none =>
    if s.portTarget path n = 3 then s.portResult path n 4
    else if (s.mvbChan n).kind = .standby then s.portResult path n 6
    else match s.pushMessage n (s.portBytes path n) with
      | (s1, true) => s1.portResult path n 0
      | (s1, false) => s1.portResult path n 2

/-! ### The commands -/

/-- MVB_LINE_IDLE, MVB_BASIC_PERIOD, MVB_MASTER_FRAME_RX, MVB_TELEGRAM_RX. -/
def execMvbLineIdle (ch : Fin 2) (s : State) : Host.Outcome State Fault Refusal := (s.mvbIdle ch.val).done
def execMvbBasicPeriod (ch : Fin 2) (s : State) : Host.Outcome State Fault Refusal := (s.mvbPeriod ch.val).done
def execMvbMasterFrameRx (ch : Fin 2) (fcode : Fin 16) (addr : Fin 4096) (lines : MvbLines) (s : State) : Host.Outcome State Fault Refusal :=
  (s.mvbMasterFrame ch.val fcode.val addr.val lines).done
def execMvbTelegramRx (ch : Fin 2) (fcode : Fin 16) (addr : Fin 4096) (data : List Byte) (good : Bool) (lines : MvbLines) (s : State) :
    Host.Outcome State Fault Refusal := (s.mvbTelegram ch.val fcode.val addr.val data good lines).done

/-- MVB_REPLY_TIMEOUT, MVB_MASTER_TIMEOUT, MASTERSHIP_OFFER_RX, RELINQUISH, MD_FLUSH. -/
def execMvbReplyTimeout (ch : Fin 2) (s : State) : Host.Outcome State Fault Refusal := (s.mvbReplyLate ch.val).done
def execMvbMasterTimeout (ch : Fin 2) (s : State) : Host.Outcome State Fault Refusal := (s.mvbTakes ch.val).done
def execMastershipOfferRx (ch : Fin 2) (s : State) : Host.Outcome State Fault Refusal := (s.mvbAccepts ch.val).done
def execRelinquish (ch : Fin 2) (s : State) : Host.Outcome State Fault Refusal := (s.awake (fun (t : State) => t.offerMaster ch.val)).done
def execMdFlush (ch : Fin 2) (s : State) : Host.Outcome State Fault Refusal := (s.awake (fun (t : State) => t.mdFlush ch.val)).done

/-- PORT_READ, PORT_WRITE, PORT_POP, PORT_PUSH. -/
def execPortRead (path : Path) (ch : Fin 2) (s : State) : Host.Outcome State Fault Refusal := (s.awake (fun (t : State) => t.portRead path ch.val)).done
def execPortWrite (path : Path) (ch : Fin 2) (s : State) : Host.Outcome State Fault Refusal := (s.awake (fun (t : State) => t.portWrite path ch.val)).done
def execPortPop (path : Path) (ch : Fin 2) (s : State) : Host.Outcome State Fault Refusal := (s.awake (fun (t : State) => t.portPop path ch.val)).done
def execPortPush (path : Path) (ch : Fin 2) (s : State) : Host.Outcome State Fault Refusal := (s.awake (fun (t : State) => t.portPush path ch.val)).done

end Sys2Proof.Machine
end

