-- ==== Sys2Proof/Machine/Lmp.lean ====
section
/-!
DEFINITION. The commands of the lamplight island and of the feeds (13_wake_sleep_power.md).
-/
namespace Sys2Proof.Machine

/-- Does something outside the island run: is device reset released? -/
def State.running (s : State) : Bool := !s.lmp.held

/-! ### Supply and states (R498, R499, R501) -/

/-- ISLAND_RESET: everything but fuses and flash returns to reset; every enable and gate falls (R44, R498, R512). -/
def State.islandReset (s : State) : State :=
  { lmp := { kind := .off, next := 0, enables := 0, held := true }, flash := s.flash, fuses := s.fuses, out := s.out, free := s.free, pending := s.pending }

/-- ISLAND_RESET_RELEASE: cause POWER_ON, a commanded wake (R499). -/
def State.islandOn (s : State) : State := if s.lmp.kind = .off then (s.latchCause 0x25).wakeUp 0x25 s.islandCount else s

/-- PWR_SEQ of an enable (R527). -/
def State.stepUsed (s : State) (n : Nat) : Bool := s.flag .lmp (0x60 + 4 * n) 31
def State.stepKept (s : State) (n : Nat) : Bool := s.flag .lmp (0x60 + 4 * n) 30

/-- The next enable to raise, and the next to lower; steps with EN = 0 are skipped (R501). -/
def State.nextUp (s : State) : Option Nat := (List.range 6).find? (fun n => decide (s.lmp.next ≤ n) && s.stepUsed n)
def State.nextDown (s : State) : Option Nat := ((List.range 6).reverse).find? (fun n => decide (n < s.lmp.next) && s.stepUsed n)

/-- ENABLE_STEP (R501). -/
def State.enableStep (s : State) : State :=
  match s.lmp.kind with
  | .sleeping =>
    if s.lmp.grace then s
    else match s.nextDown with
      | some n => { s with lmp := { s.lmp with next := n, enables := if s.stepKept n || !s.lmp.enables.testBit n then s.lmp.enables else s.lmp.enables - 2 ^ n } }
      | none => s
  | .waking =>
    match s.nextUp with
    | some n => { s with lmp := { s.lmp with next := n + 1, enables := s.lmp.enables ||| 2 ^ n } }
    | none => s
  | _ => s

/-- Has WAKING raised every enable, so that it waits for VCORE (R499)? -/
def State.awaitsVcore (s : State) : Bool := decide (s.lmp.kind = .waking) && s.nextUp.isNone

/-- VCORE_GOOD (R499). -/
def State.vcoreGood (s : State) : State :=
  if s.awaitsVcore then { s with lmp := { s.lmp with railFails := 0 } }.enterRun else s

/-- RAIL_TIMEOUT: every enable falls (R499). -/
def State.railTimeout (s : State) : State :=
  if s.awaitsVcore then
    let n := Nat.min 3 (s.lmp.railFails + 1)
    let s1 := ({ s with lmp := { s.lmp with enables := 0, next := 0, railFails := n, retry := decide (n < 3) } }.lmpBump 4).lmpErr 1
    s1.armAll
  else s

/-- RAIL_RETRY (R499). -/
def State.railRetry (s : State) : State :=
  if s.lmp.kind = .sleep && s.lmp.retry then (s.latchCause 0x26).wakeUp 0x26 s.islandCount else s

/-- SLEEP_ENTRY (R499, R510): E1474 carries SLEEP_REQ and the four ring states. -/
def State.sleepEntry (s : State) : State :=
  if s.lmp.kind = .run && s.running && s.sleepCondition then
    ({ s with lmp := { s.lmp with grace := true } }.setIsland .sleeping).lmpEmit 1474
      (p1 s.lmp.sleepReq.toNat ++ ([0, 1, 2, 3].flatMap (fun r => p1 (s.ringOf r).kind.code)))
  else s

/-- GRACE_EXPIRY: device reset is asserted, feeds without KEEP go down, the rings stop (R499, R519). -/
def State.graceOver (s : State) : State :=
  if s.lmp.kind = .sleeping && s.lmp.grace then
    let s1 := s.deviceReset 1
    let s2 := { s1 with lmp := { s1.lmp with grace := false, next := 6, ring := [], sleepReq := false } }
    [0, 1, 2, 3].foldl (fun (t : State) f => if t.flag .pin (feedReg f 0) 30 then t else t.feedDown f) s2
  else s

/-- MIN_OFF_EXPIRY (R499). -/
def State.minOffOver (s : State) : State :=
  if s.lmp.kind = .sleeping && !s.lmp.grace && s.nextDown.isNone then
    let s1 := s.lmpBump 2
    match s.lmp.later with
    | some (code, count) => s1.wakeUp code count
    | none => s1.armAll
  else s

/-! ### Wake sources (R504-R509) -/

/-- Is a valid classical data frame the decoder's wake-up frame (R505)? -/
def State.wakeMatch (s : State) (n : Nat) (f : CanFrame) : Bool :=
  let off := 0x100 + 0x20 * n
  let ctl := s.rd .lmp (off + 8)
  let mask := s.fld .lmp (off + 4) 28 0
  let dmask := bytesOf [s.rd .lmp (off + 0x14), s.rd .lmp (off + 0x18)]
  !f.rtr && (f.ide == s.flag .lmp off 31 && ((f.id &&& mask) == (s.fld .lmp off 28 0 &&& mask) &&
    (!bit ctl 30 || (f.data.length == field ctl 27 24 && (List.zip f.data (dmask.take f.data.length)).any (fun x => (x.1 &&& x.2) ≠ 0)))))

/-- A decoder's error counter (R506). -/
def State.setErrs (s : State) (n v : Nat) : State := { s with lmp := { s.lmp with errs := Sparse.put (fun _ => 0) s.lmp.errs n v } }

/-- WAKE_FRAME_MATCH: a frame on the bus of an armed decoder; none stands for a stuff, form or CRC error (R505, R506). -/
def State.wakeFrame (s : State) (n : Nat) (frame : Option CanFrame) : State :=
  let v := Sparse.get (fun _ => 0) s.lmp.errs n
  if s.lmp.kind ≠ .sleep || !s.flag .lmp (0x11C + 0x20 * n) 31 || s.lmp.errOff.contains n then s
  else match frame with
  | none =>
    let s1 := s.setErrs n (v + 1)
    if v + 1 < 32 then s1
    else if s.flag .lmp (0x108 + 0x20 * n) 29 then (s1.lmpErr 5).wakeCause (0x40 + n)
    else { s1.lmpErr 5 with lmp := { (s1.lmpErr 5).lmp with errOff := n :: s.lmp.errOff } }
  | some f =>
    if f.fdf || f.xlf then s
    else
      let s1 := s.setErrs n (v - 1)
      if s.wakeMatch n f then s1.wakeCause n else s1

/-- WAKE_PIN: the pin has held a level for FILT ticks (R507). -/
def State.wakePin (s : State) (p : Nat) (level : Bool) : State :=
  let cfg := s.rd .lmp (0x80 + 4 * p)
  let was := s.lmp.pins.testBit p
  let s1 := { s with lmp := { s.lmp with pins := if was = level then s.lmp.pins else if level then s.lmp.pins + 2 ^ p else s.lmp.pins - 2 ^ p } }
  if s.lmp.kind ≠ .off && s.mayWake (32 + p) && level ≠ bit cfg 28 && (bit cfg 29 || was ≠ level) then s1.wakeCause (0x20 + p) else s1

/-- LMP_ALARM (R527). -/
def State.alarm (s : State) : Nat := s.rd64 .lmp 0x48

/-- ALARM_MATCH (R508): in RUN the alarm is used up. -/
def State.alarmMatch (s : State) : State :=
  if s.alarm = 0 || s.islandCount < s.alarm then s
  else if s.lmp.kind = .run then (s.wakeCause 0x24).wr64 .lmp 0x48 0
  else s.wakeCause 0x24

/-- WAKE_WINDOW_EXPIRY (R509). -/
def State.windowOver (s : State) (x : WakeSource) : State :=
  if !s.lmp.windows.contains x then s
  else
    let n := s.falseWakes x + 1
    let s1 := ((s.closeWindow x).lmpBump 1).setFalseWakes x n
    if n ≤ s.fld .lmp 0x20 23 20 || s.disarmed x then s1
    else (((s1.setDisarmed x true).lmpErr 4).lmpBump 8).lmpEmit 1490 (p1 x ++ p4 n)

/-! ### LMP_CMD (R509, R510, R527) -/

/-- LMP_SLEEP, LMP_CANCEL. -/
def State.sleepCmd (s : State) : State := if s.running then s.setSleepReq true else s
def State.cancelCmd (s : State) : State :=
  if !s.running then s
  else
    let s1 := s.setSleepReq false
    if s.lmp.kind = .sleeping && s.lmp.grace then
      ({ s1 with lmp := { s1.lmp with grace := false } }.lmpEmit 1475 (p1 0xFE)).lmpBump 3 |>.enterRun
    else s1

/-- CONFIRM: every pin wake whose window is open. REARM. -/
def State.confirmPins (s : State) : State := if s.running then [32, 33, 34, 35].foldl (fun t x => t.confirmWake x) s else s
def State.rearmCmd (s : State) : State := if s.running then s.rearmAll 0xFE else s

/-- LATCH: island count and network time together, on the writing path. -/
def State.latchCmd (s : State) (path : Path) : State :=
  if s.running then (s.wr64 .lmp (onPath path 0x38) s.islandCount).wr64 .lmp (onPath path 0x40) s.nowNs else s

/-- VIN as measured (R498), and its error bits (R527). -/
def State.measureVin (s : State) (mv : Nat) : State := s.wr .lmp 0x28 (word mv)
def State.vinLow (s : State) (mv : Nat) : State :=
  if s.lmp.kind = .off then s else if mv < 5000 then (s.measureVin mv).lmpErr 2 else s.measureVin mv

/-! ### Ring timers (R517) -/

/-- RING_TTYP_EXPIRY. -/
def State.ringTtypOver (s : State) (r : Nat) : State :=
  let g := s.ringOf r
  match g.kind with
  | .reset =>
    let s1 := if g.members.headD (s.ringAddr r) = s.ringAddr r then s.ringSend r (.ring false) else s
    (s1.ringTo r .normal (s.ringTmax r)).ringRequest r
  | .normal =>
    if g.token then (s.putRing r { g with token := false, due := s.islandCount + islandTicks (s.ringTmax r) }).ringSend r (.ring false) else s
  | .prepSleep =>
    if !g.token then s
    else if g.agreed then (s.ringSend r (.ring true)).ringTo r .waitBusSleep (s.ringTwbs r)
    else (s.putRing r { g with token := false, due := s.islandCount + islandTicks (s.ringTmax r) }).ringSend r (.ring false)
  | _ => s

/-- RING_TMAX_EXPIRY. -/
def State.ringTmaxOver (s : State) (r : Nat) : State :=
  match (s.ringOf r).kind with
  | .normal => s.ringAlive r
  | .prepSleep => s.ringAlive r
  | _ => s

/-- RING_TWBS_EXPIRY. -/
def State.ringTwbsOver (s : State) (r : Nat) : State :=
  if (s.ringOf r).kind = .waitBusSleep then (s.putRing r { s.ringOf r with out := none }).ringTo r .busSleep 0 else s

/-- LIMPHOME_TERROR. -/
def State.limphomeOver (s : State) (r : Nat) : State :=
  let g := s.ringOf r
  if g.kind ≠ .limphome then s
  else if s.lmp.sleepReq && !g.awake then s.ringTo r .waitBusSleep (s.ringTwbs r)
  else (s.putRing r { g with awake := false, due := s.islandCount + islandTicks (s.ringTerror r) }).ringSend r .limphome

/-! ### Feeds (R519-R521) -/

/-- Do the feeds stay disabled: NO_IMAGE, until a first commit (02_ikiem_images.md R72, R74)? -/
def State.feedsBarred (s : State) : Bool := s.img.conf.isNone && decide (s.img.state ≠ .booting)

/-- FEED_ON, FEED_OFF, FEED_CLEAR. -/
def State.feedOn (s : State) (f : Nat) : State :=
  if s.running && (!s.feedsBarred && (s.feedOf f).kind = .off) then s.feedTo f .ramp else s
def State.feedOff (s : State) (f : Nat) : State :=
  if !s.running then s
  else
    let v := s.feedOf f
    let driving := v.kind = .ramp || v.kind = .on
    ((if driving then s.putFeed f { v with offAt := some s.islandCount } else s).feedDown f)
def State.feedClear (s : State) (f : Nat) : State :=
  if s.running && (s.feedOf f).kind = .latched then (s.putFeed f { s.feedOf f with trips := 0 }).feedTo f .off else s

/-- The energy integral of the latest ramp (R520). -/
def State.rampEnergy (s : State) (f energy : Nat) : State := s.setFld .pin (feedReg f 0x14) 15 0 energy

/-- FEED_RAMP_DONE. -/
def State.feedRampDone (s : State) (f energy : Nat) : State := if (s.feedOf f).kind = .ramp then (s.rampEnergy f energy).feedTo f .on else s

/-- Code of a trip's cause (R528). -/
def tripCode : TripCause → Nat
  | .overcurrent => 1
  | .shortCircuit => 2
  | .energy => 3

/-- FEED_TRIP: any cause in RAMP, a short circuit in ON; a trip in the tick of the OFF command is counted (R521). -/
def State.feedTrips (s : State) (f : Nat) (cause : TripCause) (energy : Nat) : State :=
  let v := s.feedOf f
  match v.kind with
  | .ramp => (s.rampEnergy f energy).feedTrip f (tripCode cause)
  | .on => if cause = .shortCircuit then s.feedTrip f 2 else s
  | .off => if v.offAt = some s.islandCount then s.feedTrip f (tripCode cause) else s
  | _ => s

/-- FEED_OC_BLANK_EXPIRY, FEED_COOL_EXPIRY, FEED_TRIP_CLEAR_TIMER. -/
def State.feedBlankOver (s : State) (f : Nat) : State := if (s.feedOf f).kind = .on then s.feedTrip f 1 else s
def State.feedCoolOver (s : State) (f : Nat) : State := if (s.feedOf f).kind = .cool then s.feedTo f .ramp else s
def State.feedQuiet (s : State) (f : Nat) : State := if (s.feedOf f).kind = .on then s.putFeed f { s.feedOf f with trips := 0 } else s

/-- FEED_OVERVOLTAGE, FEED_OV_RECOVER: VIN is one for all feeds. -/
def State.overvoltage (s : State) (mv : Nat) : State :=
  if s.lmp.kind = .off then s
  else if mv ≤ 40500 then s.measureVin mv
  else
    [0, 1, 2, 3].foldl (fun (t : State) f =>
      let k := (t.feedOf f).kind
      if (k = .ramp || k = .on) && t.flag .pin (feedReg f 0) 29 then t.feedTo f .ovHold else t) ((s.measureVin mv).lmpErr 3)
def State.ovRecover (s : State) (mv : Nat) : State :=
  if s.lmp.kind = .off then s
  else if 39000 ≤ mv then s.measureVin mv
  else [0, 1, 2, 3].foldl (fun (t : State) f => if (t.feedOf f).kind = .ovHold then t.feedTo f .ramp else t) (s.measureVin mv)

/-! ### The commands -/

/-- ISLAND_RESET, ISLAND_RESET_RELEASE, ENABLE_STEP, VCORE_GOOD, RAIL_TIMEOUT, RAIL_RETRY. -/
def execIslandReset (s : State) : Host.Outcome State Fault Refusal := s.islandReset.done
def execIslandResetRelease (s : State) : Host.Outcome State Fault Refusal := s.islandOn.done
def execEnableStep (s : State) : Host.Outcome State Fault Refusal := s.enableStep.done
def execVcoreGood (s : State) : Host.Outcome State Fault Refusal := s.vcoreGood.done
def execRailTimeout (s : State) : Host.Outcome State Fault Refusal := s.railTimeout.done
def execRailRetry (s : State) : Host.Outcome State Fault Refusal := s.railRetry.done

/-- SLEEP_ENTRY, GRACE_EXPIRY, MIN_OFF_EXPIRY. -/
def execSleepEntry (s : State) : Host.Outcome State Fault Refusal := s.sleepEntry.done
def execGraceExpiry (s : State) : Host.Outcome State Fault Refusal := s.graceOver.done
def execMinOffExpiry (s : State) : Host.Outcome State Fault Refusal := s.minOffOver.done

/-- WAKE_FRAME_MATCH, WAKE_PIN, ALARM_MATCH, WAKE_WINDOW_EXPIRY. -/
def execWakeFrameMatch (ch : Fin 32) (frame : Option CanFrame) (s : State) : Host.Outcome State Fault Refusal := (s.wakeFrame ch.val frame).done
def execWakePin (pin : Fin 4) (level : Bool) (s : State) : Host.Outcome State Fault Refusal := (s.wakePin pin.val level).done
def execAlarmMatch (s : State) : Host.Outcome State Fault Refusal := s.alarmMatch.done
def execWakeWindowExpiry (source : Fin 36) (s : State) : Host.Outcome State Fault Refusal := (s.windowOver source.val).done

/-- LMP_SLEEP, LMP_CANCEL, CONFIRM, REARM, LATCH, VIN_LOW. -/
def execLmpSleep (s : State) : Host.Outcome State Fault Refusal := s.sleepCmd.done
def execLmpCancel (s : State) : Host.Outcome State Fault Refusal := s.cancelCmd.done
def execLmpConfirm (s : State) : Host.Outcome State Fault Refusal := s.confirmPins.done
def execLmpRearm (s : State) : Host.Outcome State Fault Refusal := s.rearmCmd.done
def execLmpLatch (path : Path) (s : State) : Host.Outcome State Fault Refusal := (s.latchCmd path).done
def execVinLow (mv : Fin 65536) (s : State) : Host.Outcome State Fault Refusal := (s.vinLow mv.val).done

/-- RING_TTYP_EXPIRY, RING_TMAX_EXPIRY, RING_MEMBER_TIMEOUT, RING_TWBS_EXPIRY, LIMPHOME_TERROR. -/
def execRingTtypExpiry (ring : Fin 4) (s : State) : Host.Outcome State Fault Refusal := (s.ringTtypOver ring.val).done
def execRingTmaxExpiry (ring : Fin 4) (s : State) : Host.Outcome State Fault Refusal := (s.ringTmaxOver ring.val).done
def execRingMemberTimeout (ring : Fin 4) (addr : Fin 256) (s : State) : Host.Outcome State Fault Refusal := (s.ringLeave ring.val addr.val).done
def execRingTwbsExpiry (ring : Fin 4) (s : State) : Host.Outcome State Fault Refusal := (s.ringTwbsOver ring.val).done
def execLimphomeTerror (ring : Fin 4) (s : State) : Host.Outcome State Fault Refusal := (s.limphomeOver ring.val).done

/-- The feeds. -/
def execFeedOn (feed : Fin 4) (s : State) : Host.Outcome State Fault Refusal := (s.feedOn feed.val).done
def execFeedOff (feed : Fin 4) (s : State) : Host.Outcome State Fault Refusal := (s.feedOff feed.val).done
def execFeedClear (feed : Fin 4) (s : State) : Host.Outcome State Fault Refusal := (s.feedClear feed.val).done
def execFeedRampDone (feed : Fin 4) (energy : Fin 65536) (s : State) : Host.Outcome State Fault Refusal := (s.feedRampDone feed.val energy.val).done
def execFeedTrip (feed : Fin 4) (cause : TripCause) (energy : Fin 65536) (s : State) : Host.Outcome State Fault Refusal :=
  (s.feedTrips feed.val cause energy.val).done
def execFeedOcBlankExpiry (feed : Fin 4) (s : State) : Host.Outcome State Fault Refusal := (s.feedBlankOver feed.val).done
def execFeedCoolExpiry (feed : Fin 4) (s : State) : Host.Outcome State Fault Refusal := (s.feedCoolOver feed.val).done
def execFeedTripClearTimer (feed : Fin 4) (s : State) : Host.Outcome State Fault Refusal := (s.feedQuiet feed.val).done
def execFeedOvervoltage (mv : Fin 65536) (s : State) : Host.Outcome State Fault Refusal := (s.overvoltage mv.val).done
def execFeedOvRecover (mv : Fin 65536) (s : State) : Host.Outcome State Fault Refusal := (s.ovRecover mv.val).done

end Sys2Proof.Machine
end

