-- ==== Sys2Proof/Machine/Pins.lean ====
section
/-!
DEFINITION. The commands of the pins, the die sensors and the device reset (16_electrical_and_pins.md).
-/
namespace Sys2Proof.Machine

/-! ### Device reset (R611-R615) -/

/-- The number of a rail. -/
def Rail.index : Rail → Nat
  | .vcore => 0
  | .vsd09 => 1
  | .vsd12 => 2
  | .vio n => 3 + n.val

/-- The rails that the monitor watches (R612). -/
def allRails : List Rail := [.vcore, .vsd09, .vsd12, .vio 0, .vio 1, .vio 2, .vio 3]

/-- A rail's typical level, its falling and its rising threshold, in mV (R605, R612). -/
def railLevels : Rail → Nat × Nat × Nat
  | .vcore => (750, 680, 700)
  | .vsd09 => (900, 840, 860)
  | .vsd12 => (1200, 1120, 1140)
  | .vio n => if Config.bank33 n.val then (3300, 2970, 3000) else (1800, 1620, 1650)
def railTypical (r : Rail) : Nat := (railLevels r).1
def railFalling (r : Rail) : Nat := (railLevels r).2.1
def railRising (r : Rail) : Nat := (railLevels r).2.2

/-- The level of a rail as the monitor sees it. DESIGN CHOICE (notes/assumptions/148.md): typical, until BROWN_OUT says otherwise. -/
def State.rail (s : State) (r : Rail) : Nat :=
  (Sparse.get (fun _ => none) s.sense.rails (Rail.index r)).getD (railTypical r)
def State.setRail (s : State) (r : Rail) (mv : Nat) : State :=
  { s with sense := { s.sense with rails := Sparse.put (fun _ => none) s.sense.rails (Rail.index r) (some mv) } }

/-- Are all monitored rails at or above their rising thresholds (R611)? -/
def State.railsUp (s : State) : Bool := allRails.all (fun r => decide (railRising r ≤ s.rail r))

/-- BROWN_OUT (R612, R613, R615): a rail has stood at a level for 50 ns. Below its falling threshold it asserts device reset; the island's
state does not change, and a reset that is held already keeps its cause. -/
def State.brownOut (s : State) (r : Rail) (mv : Nat) : State :=
  let s1 := s.setRail r mv
  if s1.lmp.held || decide (railFalling r ≤ mv) then s1 else s1.deviceReset 2

/-- RESET_PIN (R617): the release will read cause 0x3. -/
def State.resetPin (s : State) : State := if s.lmp.held then { s with lmp := { s.lmp with cause := 3 } } else s.deviceReset 3

/-- DEVICE_RESET_RELEASE (R611): the island has released it, in RUN, no monitored rail is below its rising threshold, and the monitor's
hold is over. E0 carries the cause (R598). -/
def State.resetReleased (s : State) : State :=
  if s.lmp.held && (decide (s.lmp.kind = .run) && s.railsUp) then
    ({ s with lmp := { s.lmp with held := false } }.setFld .dev 8 3 0 s.lmp.cause).emit 0 (p1 s.lmp.cause)
  else s

/-! ### Die sensors (R635, R636) -/

/-- VCORE_LOW_DETECT: two consecutive samples of `mv` (the lower) are below 0.72 V; a sample at or above it ends the dip. -/
def State.vcoreSample (s : State) (mv : Nat) : State :=
  if s.lmp.held then s
  else
    let s1 := (s.setFld .pin 0 15 0 mv).setFld .pin 0xC 15 0 (Nat.min mv (s.fld .pin 0xC 15 0))
    if 720 ≤ mv then { s1 with sense := { s1.sense with low := false } }
    else if s.sense.low then s1
    else ({ s1 with sense := { s1.sense with low := true } }.bump .pin 0x400).setErr .pin 4 0 1729 (p4 (s1.fld .pin 0xC 15 0))

/-- THERM_WARN: the junction temperature, in signed quarters of a degree; a warning waits for the hysteresis. -/
def State.tempSample (s : State) (quarters : Nat) : State :=
  if s.lmp.held then s
  else
    let s1 := s.setFld .pin 0 31 16 quarters
    let t := signed 16 quarters
    let limit : Int := 4 * s.fld .pin 8 31 24
    let back : Int := limit - 4 * s.fld .pin 8 23 20
    if t < back then { s1 with sense := { s1.sense with hot := false } }
    else if limit < t && !s.sense.hot then
      ({ s1 with sense := { s1.sense with hot := true } }.bump .pin 0x408).setErr .pin 4 1 1730 (p4i t)
    else s1

/-- PIN_VCORE_MIN_READ: the read returns the lowest sample and restarts it. -/
def State.vcoreMinRead (s : State) (path : Path) : State :=
  if s.lmp.held then s
  else (s.setPath path { s.path path with lastRead := s.rd .pin 0xC }).wr .pin 0xC 0xFFFF

/-! ### Edges, outputs, switches (R623-R629) -/

/-- GPIO_EDGE: a new level passes the pin's filter; in GPIO input a selected edge is reported. -/
def State.gpioEdge (s : State) (m : Nat) (level : Bool) : State :=
  let v := s.pin m
  if s.lmp.held || v.switching || v.level = level || (v.func = 2 && 36 ≤ m && m < 40) then s
  else
    let s1 := s.setPin m { v with level := level }
    if v.func = 0 && edgeSelected (s.pinCfg m) level then (s1.emit 1728 (p2 m ++ p1 level.toNat)).bump .pin 0x410 else s1

/-- CAPTURE_EDGE: a selected edge of MF36 + k is stamped, the filter time subtracted (R619, R624). -/
def State.captureEdge (s : State) (k : Nat) (level : Bool) : State :=
  let m := 36 + k
  let v := s.pin m
  if s.lmp.held || v.switching || v.func ≠ 2 || v.level = level then s
  else
    let s1 := s.setPin m { v with level := level }
    let t := stampOf (s.now - field (s.pinCfg m) 15 8 * 40 * 2 ^ 32)
    if edgeSelected (s.pinCfg m) level then
      (((s1.wr64 .pin (0x500 + 0x10 * k) t.ns).wr .pin (0x508 + 0x10 * k) (word t.frac)).emit (1732 + k) (pStamp t ++ p1 level.toNat)).bump .pin (0x420 + 8 * k)
    else s1

/-- The register GPIO_OUT0 or GPIO_OUT1, and the bits it holds. -/
def gpioReg (high : Bool) : Nat := if high then 0x1C else 0x18
def gpioBits (high : Bool) (v : Word) : Nat := if high then v.toNat % 2 ^ 16 else v.toNat

/-- GPIO_OUT_WRITE, GPIO_SET, GPIO_CLR. -/
def State.gpioWrite (s : State) (high : Bool) (v : Word) : State :=
  if s.lmp.held then s else s.wr .pin (gpioReg high) (word (gpioBits high v))
def State.gpioSet (s : State) (high : Bool) (v : Word) : State :=
  if s.lmp.held then s else s.wr .pin (gpioReg high) (word ((s.rd .pin (gpioReg high)).toNat ||| gpioBits high v))
def State.gpioClr (s : State) (high : Bool) (v : Word) : State :=
  if s.lmp.held then s else s.wr .pin (gpioReg high) (s.rd .pin (gpioReg high) &&& ~~~(word (gpioBits high v)))

/-- The tandem position is the level of MF40 at the end of its boot-load switch (R625, 14_tandem_redundancy.md R531). -/
def State.takePosition (s : State) (m : Nat) (level : Bool) : State :=
  if m = 40 && s.flag .tdm 0 29 && !s.tdm.positioned then { s with tdm := { s.tdm with position := level.toNat, positioned := true } } else s

/-- PIN_SWITCH_DONE: the new function starts from the pin's level (R627). -/
def State.pinSwitched (s : State) (m : Nat) (level : Bool) : State :=
  let v := s.pin m
  if s.lmp.held || !v.switching then s
  else
    let func := field (s.pinCfg m) 31 30
    let s1 := (s.setPin m { v with func := func, switching := false, level := level }).bump .pin 0x418
    if func = 2 then s1.takePosition m level else s1

/-- LED_TIMER (R626). -/
def State.ledOver (s : State) (m : Nat) : State := s.setPin m { s.pin m with lit := false }

/-! ### The commands -/

/-- BROWN_OUT, RESET_PIN, DEVICE_RESET_RELEASE. -/
def execBrownOut (s : State) (rail : Rail := .vcore) (mv : Fin 65536 := 0) : Host.Outcome State Fault Refusal := (s.brownOut rail mv.val).done
def execResetPin (s : State) : Host.Outcome State Fault Refusal := s.resetPin.done
def execDeviceResetRelease (s : State) : Host.Outcome State Fault Refusal := s.resetReleased.done

/-- VCORE_LOW_DETECT, THERM_WARN, PIN_VCORE_MIN_READ. -/
def execVcoreLowDetect (mv : Fin 65536) (s : State) : Host.Outcome State Fault Refusal := (s.vcoreSample mv.val).done
def execThermWarn (quarters : Fin 65536) (s : State) : Host.Outcome State Fault Refusal := (s.tempSample quarters.val).done
def execPinVcoreMinRead (path : Path) (s : State) : Host.Outcome State Fault Refusal := (s.vcoreMinRead path).done

/-- GPIO_EDGE, CAPTURE_EDGE, GPIO_OUT_WRITE, GPIO_SET, GPIO_CLR, PIN_SWITCH_DONE, LED_TIMER. -/
def execGpioEdge (pin : Fin 48) (level : Bool) (s : State) : Host.Outcome State Fault Refusal := (s.gpioEdge pin.val level).done
def execCaptureEdge (k : Fin 4) (level : Bool) (s : State) : Host.Outcome State Fault Refusal := (s.captureEdge k.val level).done
def execGpioOutWrite (high : Bool) (value : Word) (s : State) : Host.Outcome State Fault Refusal := (s.gpioWrite high value).done
def execGpioSet (high : Bool) (value : Word) (s : State) : Host.Outcome State Fault Refusal := (s.gpioSet high value).done
def execGpioClr (high : Bool) (value : Word) (s : State) : Host.Outcome State Fault Refusal := (s.gpioClr high value).done
def execPinSwitchDone (pin : Fin 48) (level : Bool) (s : State) : Host.Outcome State Fault Refusal := (s.pinSwitched pin.val level).done
def execLedTimer (pin : Fin 48) (s : State) : Host.Outcome State Fault Refusal := (s.ledOver pin.val).done

end Sys2Proof.Machine
end

