-- ==== Sys2Proof/Machine/Prs.lean ====
section
/-!
DEFINITION. The commands of classification, tables, 802.1CB and weirs (05_classification.md).
-/
namespace Sys2Proof.Machine

/-- CLASSIFY_FRAME (R185): the frame that has waited longest on an input lane. -/
def execClassifyFrame (lane : Fin 28) (s : State) : Host.Outcome State Fault Refusal := (s.classifyLane lane.val).done

/-- LEARN_AGE_OUT (R210). -/
def execLearnAgeOut (s : State) : Host.Outcome State Fault Refusal := s.ageOut.done

/-- CB_RESET_TIMER (R218). -/
def execCbResetTimer (stream : Fin 1024) (s : State) : Host.Outcome State Fault Refusal := (s.resetStream stream.val).done

/-- TBL_INSERT, TBL_DELETE, TBL_WRITE_INDEX (R212): OP 0x1, 0x2, 0x5. -/
def execTblInsert (path : Path) (table : Fin 32) (s : State) : Host.Outcome State Fault Refusal := (s.awake (fun (t : State) => t.tblWrite (pathIndex path) table.val 1)).done
def execTblDelete (path : Path) (table : Fin 32) (s : State) : Host.Outcome State Fault Refusal := (s.awake (fun (t : State) => t.tblWrite (pathIndex path) table.val 2)).done
def execTblWriteIndex (path : Path) (table : Fin 32) (s : State) : Host.Outcome State Fault Refusal := (s.awake (fun (t : State) => t.tblWrite (pathIndex path) table.val 5)).done

/-- TBL_READ, TBL_READ_INDEX (R234): OP 0x3, 0x4. -/
def execTblRead (path : Path) (table : Fin 32) (s : State) : Host.Outcome State Fault Refusal := (s.awake (fun (t : State) => t.tblFetch (pathIndex path) table.val 3)).done
def execTblReadIndex (path : Path) (table : Fin 32) (s : State) : Host.Outcome State Fault Refusal := (s.awake (fun (t : State) => t.tblFetch (pathIndex path) table.val 4)).done

/-- The OP of a staged write. -/
def stagedOp : StagedOp → Nat
  | .insert => 1
  | .delete => 2
  | .writeIndex => 5

/-- TBL_STAGE, BATCH_APPLY, BATCH_DISCARD (R213). -/
def execTblStage (path : Path) (table : Fin 32) (op : StagedOp) (s : State) : Host.Outcome State Fault Refusal :=
  (s.awake (fun (t : State) => t.tblStage (pathIndex path) table.val (stagedOp op))).done
def execBatchApply (path : Path) (table : Fin 32) (s : State) : Host.Outcome State Fault Refusal := (s.awake (fun (t : State) => t.batchApply (pathIndex path) table.val)).done
def execBatchDiscard (path : Path) (table : Fin 32) (s : State) : Host.Outcome State Fault Refusal := (s.awake (fun (t : State) => t.batchDiscard (pathIndex path) table.val)).done

/-- WEIR_STAGED_WRITE, WEIR_CFG_WRITE (R226): register 0 is WEIR_RATE1, 1 WEIR_RATE2, 2 WEIR_BURST1, 3 WEIR_BURST2. -/
def execWeirStagedWrite (weir : Fin 16384) (reg : Fin 4) (value : Word) (s : State) : Host.Outcome State Fault Refusal :=
  (s.awake (fun (t : State) => t.putWeirStage weir.val reg.val value)).done
def execWeirCfgWrite (weir : Fin 16384) (value : Word) (s : State) : Host.Outcome State Fault Refusal := (s.awake (fun (t : State) => t.applyWeir weir.val value)).done

end Sys2Proof.Machine
end

