-- ==== Sys2Proof/Machine/Switch.lean ====
section
/-!
DEFINITION. The commands of the switch core (06_switch_core.md), but for the ends of self-tests and drains, which the roadworks engine
hears of too.
-/
namespace Sys2Proof.Machine

/-- A lane transfer is not acknowledged (R272): lane 27 fails as the lane it serves. -/
def State.laneUnacked (s : State) (l : Nat) : State :=
  if l = 27 then match s.xbr.spareFor with
    | some x => s.failLane x 2
    | none => s
  else s.failLane l 2

/-- The failed lane's unit is reconnected through lane 27 (R275). -/
def State.remapDone (s : State) : State :=
  match s.xbr.spareFor with
  | some l => if (s.lane l).state = .remapping then s.laneOnSpare l else s
  | none => s

/-- The five values that CIS_ACCT_SEL latches (R284, R285): MIN with FOUND, MAX, USED, RES, GUAR. -/
def State.acctWords (s : State) (sel : Word) : List Word :=
  let egress := bit sel 15
  let lane := field sel 12 8
  let cls := field sel 2 0
  match egress, fixedPool lane with
  | true, some cap => [word (2 ^ 31), word cap, word (s.fixedUsed lane), 0, 0]
  | _, _ =>
    let a : Acct := ⟨egress, lane, cls, if bit sel 16 then none else some (field sel 31 20)⟩
    if lane < 28 && (bit sel 16 || s.cis.limits.any (fun e => e.1 == a)) then
      let l := s.limitsOf a
      [word (2 ^ 31 + l.min), word l.max, word (s.acctUsed a), word (s.acctRes a), word l.guar]
    else [0, 0, 0, 0, 0]

/-- A write of CIS_ACCT_SEL latches the account's registers for the writing path (R284). -/
def State.selectAcct (s : State) (p : Path) (v : Word) : State :=
  let s1 := s.store p .cis 0x30 v
  s1.wrs .cis (onPath p 0x34) (s1.acctWords (s1.rd .cis 0x30))

/-- ROUNDABOUT_SLOT (R249). -/
def execRoundaboutSlot (faults : List SlotFault) (s : State) : Host.Outcome State Fault Refusal := (s.slot faults).done

/-- LANE_ACK_TIMEOUT (R272), LANE_REMAP_DONE (R275). -/
def execLaneAckTimeout (lane : Fin 28) (s : State) : Host.Outcome State Fault Refusal := (s.laneUnacked lane.val).done
def execLaneRemapDone (s : State) : Host.Outcome State Fault Refusal := s.remapDone.done

/-- BANK_ALLOC_STOPPED (R268). -/
def execBankAllocStopped (bank : Fin 64) (s : State) : Host.Outcome State Fault Refusal := (s.allocStopped bank.val).done

/-- CIS_ACCT_SEL_WRITE (R284). -/
def execCisAcctSelWrite (path : Path) (value : Word) (s : State) : Host.Outcome State Fault Refusal := (s.awake (fun (t : State) => t.selectAcct path value)).done

end Sys2Proof.Machine
end

