-- ==== Sys2Proof/Machine/Tdm.lean ====
section
/-!
DEFINITION. The commands of the tandem controller (14_tandem_redundancy.md): records that arrive, the fail pins, timers, resolution and the
commands of TDM_CMD; and the two port commands that reach it, a frame received and a link lost.
-/
namespace Sys2Proof.Machine

/-! ### Checking a record (R537-R539) -/

/-- A record as it arrives: VER, TYPE, PAIR_ID, SEQ, body, and whether LEN fits the frame. -/
structure TandemIn where
  ver : Nat := 1
  type : Nat
  pairId : Nat
  seq : Nat
  body : List Byte
  fits : Bool := true
deriving DecidableEq, Repr

/-- A record in the payload of a tandem frame. -/
def tandemInOf (payload : List Byte) : TandemIn :=
  let len := beAt payload 2 2
  { ver := byteAt payload 0, type := byteAt payload 1, pairId := beAt payload 4 4, seq := beAt payload 8 4, body := slice payload 16 len,
    fits := decide (16 + len ≤ payload.length) }

/-- Body bytes that a TYPE and its COUNT imply; none for an unknown TYPE (R538, R547). -/
def impliedLength (type : Nat) (body : List Byte) : Option Nat :=
  match type with
  | 0x01 => some 68
  | 0x02 => some 20
  | 0x03 => some 64
  | 0x04 => some 4
  | 0x05 => some 8
  | 0x06 => some 0
  | 0x07 => some 0
  | 0x10 => some (4 + 16 * beAt body 0 2)
  | 0x11 => some (4 + 12 * beAt body 0 2)
  | 0x12 => some 40
  | 0x13 => some (4 + 20 * beAt body 0 2)
  | 0x14 => some (4 + 24 * beAt body 0 2)
  | 0x15 => some 4
  | 0x16 => some 4
  | 0x20 => some (24 + beAt body 14 2)
  | _ => none

/-- The entries of a mirror record. -/
def recordEntries (size : Nat) (body : List Byte) : List (List Byte) := (List.range (beAt body 0 2)).map (fun i => slice body (4 + size * i) size)

/-- Is every number of a record within its range (R539)? -/
def inRanges (type : Nat) (body : List Byte) : Bool :=
  match type with
  | 0x10 => (recordEntries 16 body).all (fun e => decide (byteAt e 1 < 29) && decide (beAt e 2 2 < 4096))
  | 0x11 => (recordEntries 12 body).all (fun e => decide (beAt e 0 2 < 1024))
  | 0x12 => decide (byteAt body 0 < 4)
  | 0x13 => (recordEntries 20 body).all (fun e => decide (beAt e 0 2 < 1536))
  | 0x14 => (recordEntries 24 body).all (fun e => decide (beAt e 0 2 < 8192))
  | 0x20 => decide (byteAt body 0 < 32)
  | _ => true

/-- A record is rejected (R539). -/
def State.rejectRecord (s : State) : State := (s.tdmBump 4).tdmErr 6

/-! ### Mirror records (R540, R541, R545) -/

/-- Installs, updates or removes a dynamic learning entry; no learning counter counts. -/
def State.mirrorStation (s : State) (e : List Byte) : State :=
  let port := byteAt e 1
  let district := beAt e 2 2
  let vid := beAt e 4 2
  let mac := slice e 6 6
  match byteAt e 0 with
  | 1 =>
    let since : Int := (s.nowNs : Int) - 1000000000 * (beAt e 12 2 : Int)
    match s.station district vid mac with
    | some x =>
      if x.fixed then s
      else s.setTable 0 ((s.table 0).map (fun y => if y.index = x.index then { y with result := [byte port], refreshed := since } else y))
    | none => match freeIndex (s.table 0) learnSize with
      | none => s
      | some i => s.setTable 0 ((s.table 0) ++ [{ index := i, district := district, key := learnKey mac vid, result := [byte port], refreshed := since }])
  | 2 => s.setTable 0 ((s.table 0).filter (fun x => x.fixed || !(x.district == district && x.key == learnKey mac vid)))
  | 3 => s.setTable 0 ((s.table 0).filter (fun x => x.fixed || x.port != port))
  | _ => s

/-- Stores the 802.1CB state of a stream, a ring, the positions of a flume, the last value of a signal rule. -/
def State.mirrorCb (s : State) (e : List Byte) : State :=
  let m : CbMirror := ⟨(byteAt e 2).testBit 0, beAt e 4 2, beAt e 6 2, beAt e 8 4⟩
  { s with tdm := { s.tdm with cb := Sparse.put (fun _ => none) s.tdm.cb (beAt e 0 2) (some m) } }
def State.mirrorRingIn (s : State) (b : List Byte) : State :=
  let m : RingMirror := ⟨byteAt b 1, (byteAt b 2).testBit 0, beAt b 4 2, bitsOf 256 (beAt b 8 32), s.islandCount⟩
  { s with tdm := { s.tdm with ring := Sparse.put (fun _ => none) s.tdm.ring (byteAt b 0) (some m) } }
def State.mirrorFlume (s : State) (e : List Byte) : State :=
  let m : FlumeMirror := ⟨beAt e 4 4, beAt e 8 4, beAt e 12 4, beAt e 16 4⟩
  { s with tdm := { s.tdm with flume := Sparse.put (fun _ => none) s.tdm.flume (beAt e 0 2) (some m) } }
def State.mirrorSignal (s : State) (e : List Byte) : State :=
  let m : GwMirror := ⟨byteAt e 2, beAt e 4 8, beAt e 12 8⟩
  { s with tdm := { s.tdm with gw := Sparse.put (fun _ => none) s.tdm.gw (beAt e 0 2) (some m) } }

/-- Counts entries towards those of the bulk. -/
def State.received (s : State) (n : Nat) : State := { s with tdm := { s.tdm with bulkCount := s.tdm.bulkCount + n } }

/-- The bulk is complete (R541); in RESOLVING the standby stays unsynchronised (R557). -/
def State.bulkDone (s : State) : State :=
  if s.tdm.state = .resolving then s
  else
    let s1 := { s with tdm := { s.tdm with synced := true } }.setTdm .paired
    s1.emit 1543 (p4 s.tdm.bulkCount)

/-- Applies a mirror record. -/
def State.applyRecord (s : State) (type : Nat) (body : List Byte) : State :=
  match type with
  | 0x10 => ((recordEntries 16 body).foldl (fun (t : State) e => t.mirrorStation e) s).received (beAt body 0 2)
  | 0x11 => ((recordEntries 12 body).foldl (fun (t : State) e => t.mirrorCb e) s).received (beAt body 0 2)
  | 0x12 => (s.mirrorRingIn body).received 1
  | 0x13 => ((recordEntries 20 body).foldl (fun (t : State) e => t.mirrorFlume e) s).received (beAt body 0 2)
  | 0x14 => ((recordEntries 24 body).foldl (fun (t : State) e => t.mirrorSignal e) s).received (beAt body 0 2)
  | 0x15 => { s.dropMirror with tdm := { s.dropMirror.tdm with synced := false } }
  | 0x16 => s.bulkDone
  | _ => s

/-- Does the standby apply mirror records: in PAIRED, in RESYNC, and in a resolution that still mirrors (R541)? -/
def State.mirrored (s : State) : Bool :=
  !s.tdm.active && (decide (s.tdm.state = .paired) || (decide (s.tdm.state = .resync) || s.resolvingMirror))

/-- A mirror record on the standby (R539 check 5, R540): applied in sequence; a BULK_START anchors the sequence that was lost. -/
def State.mirrorIn (s : State) (type seq : Nat) (body : List Byte) : State :=
  let take := (({ s with tdm := { s.tdm with applied := some seq } }).tdmBump 3).applyRecord type body
  if !s.mirrored then s
  else match s.tdm.applied with
    | none => if type = 0x15 then take else s
    | some a => if seq = (a + 1) % 2 ^ 32 then take else s.lostSequence

/-! ### Decision digests (R549) -/

/-- Do image identity, epoch or overlay mask differ between the members (R544)? -/
def State.cfgDiffers (s : State) : Bool :=
  match s.tdm.partner with
  | none => true
  | some p => decide (p.epoch ≠ s.epoch) || (decide (p.overlays ≠ s.overlayMask) || p.digest != s.imageDigest.take 8)

/-- The frame that a DIGEST record describes. -/
def State.digestedFrame (s : State) (b : List Byte) : Frame :=
  let ingress := byteAt b 0
  let meta_ := byteAt b 1
  let len := beAt b 12 2
  { bytes := padTo len (b.drop 24), rxLen := len + 4, ingress := ingress, origin := ingress, lane := laneOf ingress, stamp := s.stamp,
    epoch := beAt b 8 4, verified := meta_.testBit 2, pass := meta_ / 16 % 4 }

/-- The DIGEST of the standby's own run; what the run did is discarded. -/
def State.ownDigest (s : State) (b : List Byte) : List Byte :=
  padTo 8 (sha256 ((s.decideFrame (s.digestedFrame b)).decision.bytes (beAt b 8 4)))

/-- A DIGEST record on the standby. -/
def State.digestIn (s : State) (b : List Byte) : State :=
  if s.tdm.active then s
  else if (beAt b 2 2).testBit 0 || (decide (beAt b 8 4 ≠ s.epoch) || (s.cfgDiffers || (!s.tdm.synced || decide (s.tdm.state = .frozen)))) then
    s.tdmBump 10
  else if s.ownDigest b = slice b 16 8 then { s with tdm := { s.tdm with mmRun := 0 } }.tdmBump 8
  else
    let n := Nat.min 8 (s.tdm.mmRun + 1)
    let s1 := ((({ s with tdm := { s.tdm with mmRun := n } }).tdmBump 9).wr .tdm 0x34 (word (beAt b 4 4))).tdmErr 0
    if n = 8 then s1.trigger .mismatch true else s1

/-! ### The other records -/

/-- IDENTITY (R541-R543): it forms a pairing in WAIT, or after HOLDOFF; a FAULTY member never pairs. -/
def State.identityIn (s : State) (pairId : Nat) (b : List Byte) : State :=
  let i : Identity := ⟨pairId, byteAt b 0, byteAt b 1, decide (byteAt b 2 = 1), beAt b 4 8, beAt b 12 4, beAt b 16 2, slice b 20 48⟩
  let faulty := i.state == TdmKind.faulty.code
  match s.tdm.state with
  | .wait => if faulty then s else s.formPairing i
  | .alone => if s.tdm.holdoff then (s.tdmBump 15).tdmErr 4 else if faulty then s else s.formPairing i
  | .isolated => if s.tdm.holdoff then (s.tdmBump 15).tdmErr 4 else if faulty then s else s.formPairing i
  | _ => s

/-- What a HEARTBEAT says of the partner (R538). -/
def Partner.heard (p : Partner) (b : List Byte) : Partner :=
  let flags := byteAt b 2
  { p with state := byteAt b 0, active := decide (byteAt b 1 = 1), synced := flags.testBit 0, sleepReq := flags.testBit 2,
           frozen := flags.testBit 3, epoch := beAt b 4 4, overlays := beAt b 8 2, rings := beAt b 10 2, digest := slice b 12 8 }

/-- HEARTBEAT from the partner (R540, R545; 02_ikiem_images.md R86). -/
def State.heartbeatIn (s : State) (seq : Nat) (b : List Byte) : State :=
  let s0 := s.tdmBump 1
  match s.tdm.partner with
  | none =>
    if s.tdm.state = .alone || s.tdm.state = .isolated then
      if s.tdm.holdoff then (s0.tdmBump 15).tdmErr 4
      else if byteAt b 0 = TdmKind.faulty.code then s0 else s0.sendIdentity
    else s0
  | some p =>
    let s1 := { s0 with tdm := { s0.tdm with partner := some (p.heard b), hbOk := true, hbLost := false } }
    if !s1.mirrored then s1
    else
      let lost := match s1.tdm.applied with
        | none => false
        | some a => a != seq
      let s2 := if lost then s1.lostSequence else s1
      if beAt b 4 4 = s2.epoch then s2 else s2.follow (beAt b 4 4)

/-- ARM and ABORT from the partner (02_ikiem_images.md R83, R84). -/
def State.armIn (s : State) (b : List Byte) : State :=
  let r : ArmRecord := ⟨beAt b 0 4, beAt b 4 8, slice b 16 48, beAt b 12 2⟩
  { s with img := { s.img with partner := some r, abortRx := false } }
def State.abortIn (s : State) (b : List Byte) : State :=
  let hit := (s.img.partner.map (fun a => a.epoch) = some (beAt b 0 4)) || (s.img.armed.map (fun a => a.epoch) = some (beAt b 0 4))
  if hit then { s with img := { s.img with abortRx := true } } else s

/-- RESOLVE (R550, R552): a request is a trigger of its own; a result is evidence. -/
def State.resolveIn (s : State) (b : List Byte) : State :=
  let t : Trigger := match byteAt b 2 with
    | 1 => .mismatch
    | 2 => .heartbeat
    | _ => .tfail
  match byteAt b 0 with
  | 1 => s.trigger t false
  | 2 => match s.tdm.resolution with
    | some r => { s with tdm := { s.tdm with resolution := some { r with partner := some (decide (byteAt b 1 = 0)) } } }.tryVerdict
    | none => s
  | _ => s

/-- RESYNC_REQ on the active member (R541). -/
def State.resyncIn (s : State) : State :=
  if !s.tdm.active then s
  else match s.tdm.state with
    | .paired => s.sendBulk
    | .frozen => { s with tdm := { s.tdm with wantBulk := true } }
    | _ => s

/-- SWITCH on the standby (R555): it takes over and sends a bulk. -/
def State.switchIn (s : State) : State :=
  if s.tdm.active || (s.tdm.state ≠ .paired && s.tdm.state ≠ .frozen) then s
  else ((s.takeOver 0 s.nowNs).setTdm .paired).sendBulk

/-- A record of the first or the third order that passed its checks. -/
def State.recordIn (s : State) (r : TandemIn) : State :=
  match r.type with
  | 0x01 => s.identityIn r.pairId r.body
  | 0x02 => s.heartbeatIn r.seq r.body
  | 0x03 => s.armIn r.body
  | 0x04 => s.abortIn r.body
  | 0x05 => s.resolveIn r.body
  | 0x06 => s.resyncIn
  | 0x07 => s.switchIn
  | 0x20 => s.digestIn r.body
  | _ => s

/-- Does the PAIR_ID fit (R539)? -/
def State.pairIdOk (s : State) (r : TandemIn) : Bool :=
  match s.tdm.partner with
  | some p => r.pairId == p.pairId
  | none => r.type == 1 || r.type == 2

/-- A record arrives (R539): the first failing check discards it. Without a tandem nothing takes it. -/
def State.tandemRecordIn (s : State) (r : TandemIn) : State :=
  if s.lmp.held || !s.tdmEn then s
  else if r.ver ≠ 1 || (impliedLength r.type r.body).isNone then s.rejectRecord
  else if !r.fits || impliedLength r.type r.body ≠ some r.body.length then s.rejectRecord
  else if !s.pairIdOk r then s.tdmBump 5
  else if !inRanges r.type r.body then s.rejectRecord
  else if 0x10 ≤ r.type && r.type ≤ 0x16 then s.mirrorIn r.type r.seq r.body
  else (s.tdmBump 3).recordIn r

/-- A tandem frame, its bytes before the FCS (R535). -/
def State.tandemFrameIn (s : State) (bs : List Byte) : State := s.tandemRecordIn (tandemInOf (bs.drop 14))

/-! ### The fail pins and the timers (R532, R533, R541, R542, R550) -/

/-- TFAIL_OUT changes level, or is held low (R532). -/
def State.tfailToggled (s : State) : State :=
  let runs := s.tdmEn && (s.tfailEn && (!s.lmp.held && decide (s.tdm.state ≠ .faulty)))
  { s with tdm := { s.tdm with tfailOut := runs && !s.tdm.tfailOut } }

/-- An edge of TFAIL_IN; its loss (R533). -/
def State.tfailEdge (s : State) : State :=
  if s.lmp.held || !s.tfailEn then s
  else
    let n := Nat.min 4 (s.tdm.tfailRun + 1)
    { s with tdm := { s.tdm with tfailRun := n, tfailOk := s.tdm.tfailOk || decide (n = 4) } }
def State.tfailLost (s : State) : State :=
  if s.lmp.held || !s.tfailEn then s
  else
    let s1 := { s with tdm := { s.tdm with tfailRun := 0, tfailOk := false } }
    if s.tdmEn && s.tdm.tfailOk then (s1.trigger .tfail true).tryVerdict else s1

/-- HB_PERIOD has passed (R541). -/
def State.heartbeatDue (s : State) : State :=
  if s.lmp.held || !s.tdmEn then s
  else match s.tdm.state with
    | .solo => s
    | .wait => s.sendIdentity
    | _ => s.sendHeartbeat

/-- PAIR_WAIT has elapsed in WAIT (R541). -/
def State.pairWaitOver (s : State) : State :=
  if s.tdm.state ≠ .wait then s
  else if !s.tfailEn || !s.tdm.tfailOk then s.becomeActive.setTdm .alone
  else if s.tdm.position = 0 then (s.becomeActive.tdmErr 5).setTdm .alone
  else (s.tdmErr 5).setTdm .isolated

/-- HOLDOFF has elapsed (R542). -/
def State.holdoffDone (s : State) : State := { s with tdm := { s.tdm with holdoff := false } }

/-- Epochs still differ 1 s after a commit (R541; 02_ikiem_images.md R86). -/
def State.followLate (s : State) : State :=
  match s.tdm.partner with
  | none => s
  | some p =>
    if !s.tdm.active && ((s.tdm.state = .paired || s.tdm.state = .resync) && decide (p.epoch ≠ s.epoch)) then (s.endPairing 5).enterWait else s

/-- The self-check has ended (R551): its result goes to the partner; RESOLVE_TO has elapsed (R552). -/
def State.checkDone (s : State) (pass : Bool) (detail : Nat) : State :=
  match s.tdm.resolution with
  | none => s
  | some r =>
    if r.own.isSome then s
    else (({ s with tdm := { s.tdm with resolution := some { r with own := some (pass, detail) } } }).sendResolve 2 (!pass) r.trigger detail).tryVerdict
def State.resolveLate (s : State) : State :=
  match s.tdm.resolution with
  | none => s
  | some r => { s with tdm := { s.tdm with resolution := some { r with expired := true } } }.tryVerdict

/-! ### Commands (R558) -/

/-- What a command of TDM_CMD leaves in CMD_RESULT. -/
def State.tdmResult (s : State) (r : Nat) : State := s.setFld .tdm 0x18 31 28 r

/-- A command: 3 without a tandem, 1 in a state that does not allow it. -/
def State.tdmCommand (s : State) (allowed : Bool) (f : State → State) : State :=
  if s.lmp.held then s
  else if s.tdm.state = .solo then s.tdmResult 3
  else if !allowed then s.tdmResult 1
  else f (s.tdmResult 0)

/-- The former active member discards its own state that would be mirrored (R555): learning entries, 802.1CB state, signal values. -/
def State.dropOwnMirrored (s : State) : State :=
  let s1 := (s.table 30).foldl (fun (t : State) (e : TblEntry) => (t.setRecovery e.index {}).setGenSeq e.index 0) s
  { s1.dropMirror with gwy := { s1.dropMirror.gwy with sig := [] } }

/-- SWITCHOVER (R555). -/
def State.switchOver (s : State) : State :=
  let allowed := s.tdm.active && (decide (s.tdm.state = .paired) || decide (s.tdm.state = .frozen))
  s.tdmCommand allowed (fun (t : State) =>
    if !((t.tdm.partner.map (fun p => p.synced)).getD false) then t.tdmResult 2
    else
      let t1 := (t.becomeStandby.queueTandem 1 7 []).dropOwnMirrored
      { t1 with tdm := { t1.tdm with synced := false, applied := none } }.setTdm .resync)

/-- RESUME (R541). -/
def State.resumeMirror (s : State) : State :=
  s.tdmCommand (s.tdm.state = .frozen) (fun (t : State) =>
    if t.tdm.active then
      let t1 := t.setTdm .paired
      if t1.tdm.wantBulk then t1.sendBulk else t1
    else t.lostSequence)

/-- RETIRE and REJOIN (R541, R551). -/
def State.retire (s : State) : State := s.tdmCommand true (fun (t : State) => t.enterFaulty 0 4)
def State.rejoin (s : State) : State := s.tdmCommand (s.tdm.state = .faulty) (fun (t : State) => t.drawPairId.enterWait)

/-! ### The commands of the block -/

/-- What a record row carries, as a record of its TYPE. -/
def State.rowRecord (s : State) (type : Nat) (pairId seq : Word) (body : List Byte) : Host.Outcome State Fault Refusal :=
  (s.tandemRecordIn { type := type, pairId := pairId.toNat, seq := seq.toNat, body := body }).linkDone s

/-- IDENTITY_RX, HEARTBEAT_RX (R540-R543). -/
def execIdentityRx (pairId seq : Word) (body : List Byte) (s : State) : Host.Outcome State Fault Refusal := s.rowRecord 0x01 pairId seq body
def execHeartbeatRx (pairId seq : Word) (body : List Byte) (s : State) : Host.Outcome State Fault Refusal := s.rowRecord 0x02 pairId seq body

/-- TANDEM_ARM_RX, TANDEM_ABORT_RX (02_ikiem_images.md R83, R84). -/
def execTandemArmRx (pairId seq : Word) (body : List Byte) (s : State) : Host.Outcome State Fault Refusal := s.rowRecord 0x03 pairId seq body
def execTandemAbortRx (pairId seq : Word) (body : List Byte) (s : State) : Host.Outcome State Fault Refusal := s.rowRecord 0x04 pairId seq body

/-- RESOLVE_REQUEST_RX, RESOLVE_RESULT_RX (R550, R552): PHASE in the body says which it is. -/
def execResolveRequestRx (pairId seq : Word) (body : List Byte) (s : State) : Host.Outcome State Fault Refusal := s.rowRecord 0x05 pairId seq body
def execResolveResultRx (pairId seq : Word) (body : List Byte) (s : State) : Host.Outcome State Fault Refusal := s.rowRecord 0x05 pairId seq body

/-- RESYNC_REQ_RX (R541), SWITCH_RX (R555). -/
def execResyncReqRx (pairId seq : Word) (body : List Byte) (s : State) : Host.Outcome State Fault Refusal := s.rowRecord 0x06 pairId seq body
def execSwitchRx (pairId seq : Word) (body : List Byte) (s : State) : Host.Outcome State Fault Refusal := s.rowRecord 0x07 pairId seq body

/-- The mirror records (R545) and DIGEST_RECORD_RX (R549). -/
def execLearnRecordRx (pairId seq : Word) (body : List Byte) (s : State) : Host.Outcome State Fault Refusal := s.rowRecord 0x10 pairId seq body
def execCbRecordRx (pairId seq : Word) (body : List Byte) (s : State) : Host.Outcome State Fault Refusal := s.rowRecord 0x11 pairId seq body
def execRingRecordRx (pairId seq : Word) (body : List Byte) (s : State) : Host.Outcome State Fault Refusal := s.rowRecord 0x12 pairId seq body
def execFlumeRecordRx (pairId seq : Word) (body : List Byte) (s : State) : Host.Outcome State Fault Refusal := s.rowRecord 0x13 pairId seq body
def execGwlastRecordRx (pairId seq : Word) (body : List Byte) (s : State) : Host.Outcome State Fault Refusal := s.rowRecord 0x14 pairId seq body
def execBulkStartRx (pairId seq : Word) (body : List Byte) (s : State) : Host.Outcome State Fault Refusal := s.rowRecord 0x15 pairId seq body
def execBulkEndRx (pairId seq : Word) (body : List Byte) (s : State) : Host.Outcome State Fault Refusal := s.rowRecord 0x16 pairId seq body
def execDigestRecordRx (pairId seq : Word) (body : List Byte) (s : State) : Host.Outcome State Fault Refusal := s.rowRecord 0x20 pairId seq body

/-- TFAIL_TOGGLE, TFAIL_IN_EDGE, TFAIL_IN_LOSS (R532, R533). -/
def execTfailToggle (s : State) : Host.Outcome State Fault Refusal := s.tfailToggled.done
def execTfailInEdge (s : State) : Host.Outcome State Fault Refusal := s.tfailEdge.done
def execTfailInLoss (s : State) : Host.Outcome State Fault Refusal := s.tfailLost.done

/-- HEARTBEAT_TX (R541), HEARTBEAT_LOSS (R550). -/
def execHeartbeatTx (s : State) : Host.Outcome State Fault Refusal := s.heartbeatDue.done
def execHeartbeatLoss (s : State) : Host.Outcome State Fault Refusal := s.heartbeatGone.done

/-- PAIR_WAIT_EXPIRY, TDM_HOLDOFF_EXPIRY, EPOCH_FOLLOW_TIMEOUT (R541, R542). -/
def execPairWaitExpiry (s : State) : Host.Outcome State Fault Refusal := s.pairWaitOver.done
def execTdmHoldoffExpiry (s : State) : Host.Outcome State Fault Refusal := s.holdoffDone.done
def execEpochFollowTimeout (s : State) : Host.Outcome State Fault Refusal := s.followLate.done

/-- SELF_CHECK_DONE, RESOLVE_TIMEOUT (R551, R552). -/
def execSelfCheckDone (pass : Bool) (detail : Word) (s : State) : Host.Outcome State Fault Refusal := (s.checkDone pass detail.toNat).done
def execResolveTimeout (s : State) : Host.Outcome State Fault Refusal := s.resolveLate.done

/-- SWITCHOVER, RESUME, RETIRE, REJOIN (R558). -/
def execTdmSwitchover (s : State) : Host.Outcome State Fault Refusal := (s.awake (fun (t : State) => t.switchOver)).done
def execTdmResume (s : State) : Host.Outcome State Fault Refusal := (s.awake (fun (t : State) => t.resumeMirror)).done
def execTdmRetire (s : State) : Host.Outcome State Fault Refusal := (s.awake (fun (t : State) => t.retire)).done
def execTdmRejoin (s : State) : Host.Outcome State Fault Refusal := (s.awake (fun (t : State) => t.rejoin)).done

/-- MIRROR_INTERVAL_EXPIRY (R545). -/
def execMirrorIntervalExpiry (item : MirrorItem) (s : State) : Host.Outcome State Fault Refusal := (s.mirrorItem item).done

/-- FRAME_RECEIVE (04_ethernet_ports.md R154-R156, R166; R535): on TL the tandem controller takes its frames. -/
def State.frameEvent (s : State) (p : Nat) (ev : RxEvent) : State :=
  let tandem := fun (t : State) (bs : List Byte) => t.tandemFrameIn bs
  match ev with
  | .whole f =>
    if !s.receiving p || (s.port p).rx.isSome then s
    else
      let (s1, t, seq) := s.rxBegin p
      s1.rxWhole tandem p (s.maxLen p) seq t f
  | .first f n => s.rxFirst p n f
  | .more n => s.rxMore p n
  | .last => s.rxLast tandem p
  | .fragment g => s.rxFragment tandem p g
def execFrameReceive (p : Port) (ev : RxEvent) (s : State) : Host.Outcome State Fault Refusal := (s.frameEvent p.val ev).linkDone s

/-- PCS_LINK_LOSS (04_ethernet_ports.md R149; R534). -/
def execPcsLinkLoss (p : Port) (why : LinkLoss) (s : State) : Host.Outcome State Fault Refusal := (s.linkLost p.val why).linkDone s

end Sys2Proof.Machine
end

