-- ==== Sys2Proof/Machine/Tkp.lean ====
section
/-!
DEFINITION. The commands of the time keeper (03_time_and_order.md).
-/
namespace Sys2Proof.Machine

/-- What a message on a port whose link is not UP does: nothing. -/
def State.ifPtpUp (s : State) (p : Nat) (run : State → State) : State := if s.ptpUp p then run s else s

/-- SYNC_RX (R114), FOLLOW_UP_RX (R653), ANNOUNCE_RX (R116). -/
def execSyncRx (port : Port) (m : SyncMsg) (s : State) : Host.Outcome State Fault Refusal :=
  (s.ifPtpUp port.val (fun t => t.syncIn port.val m)).done
def execFollowUpRx (port : Port) (m : FollowUpMsg) (s : State) : Host.Outcome State Fault Refusal :=
  (s.ifPtpUp port.val (fun t => t.followUpIn port.val m)).done
def execAnnounceRx (port : Port) (m : AnnounceMsg) (s : State) : Host.Outcome State Fault Refusal :=
  (s.ifPtpUp port.val (fun t => t.announceIn port.val m)).done

/-- GM_SYNC_SEND, ANNOUNCE_SEND (R116). -/
def execGmSyncSend (d : Dom) (s : State) : Host.Outcome State Fault Refusal := (s.gmSync d.val).done
def execAnnounceSend (d : Dom) (s : State) : Host.Outcome State Fault Refusal := (s.gmAnnounce d.val).done

/-- ANNOUNCE_RECEIPT_TIMEOUT (R142). -/
def execAnnounceReceiptTimeout (d : Dom) (port : Port) (s : State) : Host.Outcome State Fault Refusal := (s.announceLost d.val port.val).done

/-- SIGNALING_RX (R118). -/
def execSignalingRx (port : Port) (m : SignalingMsg) (s : State) : Host.Outcome State Fault Refusal :=
  (s.ifPtpUp port.val (fun t => t.signalingIn port.val m)).done

/-- PDELAY_REQ_SEND, PDELAY_REQ_RX, PDELAY_RESP_RX (R115). -/
def execPdelayReqSend (port : Port) (s : State) : Host.Outcome State Fault Refusal := (s.pdelayStart port.val).done
def execPdelayReqRx (port : Port) (m : PtpHeader) (s : State) : Host.Outcome State Fault Refusal :=
  (s.ifPtpUp port.val (fun t => t.pdelayAnswer port.val m)).done
def execPdelayRespRx (port : Port) (r : PdelayResp) (f : PdelayRespFollowUp) (s : State) : Host.Outcome State Fault Refusal :=
  (s.ifPtpUp port.val (fun t => t.pdelayDone port.val r f)).done

/-- SYNC_RECEIPT_TIMEOUT, HOLDOVER_MAX_EXPIRY (R120). -/
def execSyncReceiptTimeout (d : Dom) (s : State) : Host.Outcome State Fault Refusal := (s.syncTimeout d.val).done
def execHoldoverMaxExpiry (d : Dom) (s : State) : Host.Outcome State Fault Refusal := (s.holdoverMax d.val).done

/-- SET, RESYNC (R142). -/
def execTkpSet (d : Dom) (s : State) : Host.Outcome State Fault Refusal := (s.awake (fun (t : State) => t.setTime d.val)).done
def execTkpResync (d : Dom) (s : State) : Host.Outcome State Fault Refusal := (s.awake (fun (t : State) => t.resync d.val)).done

/-- DOM_ENABLE, DOM_DISABLE (R120): a write of DOM_CFG with EN = 1, and with EN = 0. -/
def execDomEnable (d : Dom) (value : Word) (s : State) : Host.Outcome State Fault Refusal := (s.awake (fun (t : State) => t.domCfg d.val (setBit value 0 true))).done
def execDomDisable (d : Dom) (value : Word) (s : State) : Host.Outcome State Fault Refusal := (s.awake (fun (t : State) => t.domCfg d.val (setBit value 0 false))).done

/-- DOM_ROLE_WRITE (R116). -/
def execDomRoleWrite (d : Dom) (half : Fin 2) (value : Word) (s : State) : Host.Outcome State Fault Refusal :=
  (s.awake (fun (t : State) => t.roleWrite d.val half.val value)).done

/-- PPS_IN_EDGE, PPS_IN_LOSS (R126-R128), PPS_OUT_EDGE, PPS_OUT_WIDTH_END (R129). -/
def execPpsInEdge (falling : Bool) (s : State) : Host.Outcome State Fault Refusal := (s.ppsEdge falling).done
def execPpsInLoss (s : State) : Host.Outcome State Fault Refusal := s.ppsLoss.done
def execPpsOutEdge (s : State) : Host.Outcome State Fault Refusal := s.ppsRise.done
def execPpsOutWidthEnd (s : State) : Host.Outcome State Fault Refusal := s.ppsFall.done

end Sys2Proof.Machine
end

