-- ==== Sys2Proof/Machine/Live.lean ====
section
/-!
DEFINITION. What a register reads where its value is not in the register file: fields that the units hold themselves, block by block
(the field tables of the chapters, 17_register_map.md R641-R644), and the reading of a register by an access path (00_scope.md R6-R16).
-/
namespace Sys2Proof.Machine

/-- A word with fields (low bit, value) added into zeros. -/
def fields (fs : List (Nat × Nat)) : Word := word ((fs.map (fun f => f.2 * 2 ^ f.1)).sum)

/-- One half of a 64-bit value: the low half at offset 0, the high half at offset 4. -/
def halfOf (off n : Nat) : Word := if off = 0 then lo32 n else hi32 n

/-- Codes of IMG_STATUS.STATE (02_ikiem_images.md R99). -/
def LoaderState.code : LoaderState → Nat
  | .noImage => 0
  | .booting => 1
  | .running => 2
  | .staging => 3
  | .staged => 4
  | .armed => 5
  | .committing => 6

/-- DEV_ID (00_scope.md R5). -/
def State.liveDev (s : State) (off : Nat) : Option Word := if off = 0 then some (word s.devId) else none

/-- IMG_STATUS (R99). -/
def State.liveImg (s : State) (off : Nat) : Option Word := if off = 4 then some (setField (s.rd .img 4) 3 0 s.img.state.code) else none

/-- Roles in force of ports 0-15, or 16-28 (03_time_and_order.md R142). -/
def State.roleWord (s : State) (d half : Nat) : Word :=
  fields ((List.range (if half = 0 then 16 else 13)).map (fun i => (2 * i, s.role d (16 * half + i))))

/-- Registers of a domain (R142). -/
def State.liveDomain (s : State) (d off : Nat) : Option Word :=
  let x := s.dom d
  match off with
  | 0x04 => some (fields [(0, x.state.code), (4, (s.servesGm d).toNat), (8, x.steps % 256), (16, Nat.min x.lockRun 0xFFFF)])
  | 0x24 => some x.rateWord
  | 0x28 => some (lo32 (x.time / 2 ^ 32))
  | 0x2C => some (hi32 (x.time / 2 ^ 32))
  | 0x30 => some (lo32 (le (beBytes 8 x.gm)))
  | 0x34 => some (hi32 (le (beBytes 8 x.gm)))
  | 0x40 => some (s.roleWord d 0)
  | 0x44 => some (s.roleWord d 1)
  | _ => none

/-- TKP_STATUS, TKP_NOW, the domains, PORT_STATUS (R138, R142). -/
def State.liveTkp (s : State) (off : Nat) : Option Word :=
  if off = 4 then
    some (fields ([0, 1, 2, 3].map (fun d => (4 * d, (s.dom d).state.code)) ++
      [(16, s.tkp.firstLock.toNat), (17, (s.tkp.pps.ok && !s.tkp.pps.lost).toNat), (20, s.fld .tkp 4 22 20)]))
  else if off = 0x10 then some (lo32 s.stamp.ns)
  else if off = 0x14 then some (hi32 s.stamp.ns)
  else if off = 0x18 then some (word s.stamp.frac)
  else if 0x1000 ≤ off && off < 0x1400 then s.liveDomain ((off - 0x1000) / 0x100) (off % 0x100)
  else if 0x8000 ≤ off && off % 0x40 = 4 then some (setBit (s.rd .tkp off) 0 (s.ptp ((off - 0x8000) / 0x40)).capable)
  else none

/-- The status registers of a port (04_ethernet_ports.md R182). -/
def State.liveEth (s : State) (off : Nat) : Option Word :=
  let p := off / 0x10000
  match off % 0x10000 with
  | 0x0C => some (s.linkStatus p)
  | 0x48 => some (s.pauseStatus p)
  | 0x54 => some (s.mmStatus p)
  | 0x88 => some (s.plcaStatus p)
  | _ => none

/-- The level of a weir's bucket at this instant (05_classification.md R221, R232). -/
def State.weirNow (s : State) (w : Nat) : WeirLevel := (s.weir w).refilled (s.weirRates w) s.nowNs

/-- PRS_STATUS and the weir levels (R232). -/
def State.livePrs (s : State) (off : Nat) : Option Word :=
  if off = 0 then some (fields [(0, (graphOf s.recs).length), (16, s.prs.roadworks.toNat)])
  else if off < 0x100000 then none
  else
    let w := (off - 0x100000) / 0x80
    match off % 0x80 with
    | 0x18 => some (lo32 (s.weirNow w).l1)
    | 0x1C => some (hi32 (s.weirNow w).l1)
    | 0x20 => some (lo32 (s.weirNow w).l2)
    | 0x24 => some (hi32 (s.weirNow w).l2)
    | _ => none

/-- TBL_BATCH and TBL_OCC (R234). -/
def State.liveTbl (s : State) (off : Nat) : Option Word :=
  if off < 0x6000 then (if off % 0x1000 = 0x14 then some (word (s.batch (off / 0x1000)).length) else none)
  else if 0x8100 ≤ off && off < 0x817C then some (word (s.table ((off - 0x8100) / 4)).length)
  else none

/-- Codes of XBR_LANE_ST (06_switch_core.md R282). -/
def LaneState.code : LaneState → Nat
  | .inService => 0
  | .remapping => 1
  | .onSpare => 2
  | .out => 3
  | .roadworksOnSpare => 4

/-- Lanes in state OUT. -/
def State.lanesOut (s : State) : List Nat := (List.range 28).filter (fun l => (s.lane l).state = .out)

/-- XBR_STATUS, XBR_LANE_OUT, XBR_LANE_ST; lane 27 reads SPARE_IDLE or SPARE_SERVING (R275, R282). -/
def State.liveXbr (s : State) (off : Nat) : Option Word :=
  if off = 4 then some (fields [(0, s.lanesOut.length), (8, s.xbr.spareFor.getD 0x1F), (15, s.spareBusy.toNat)])
  else if off = 8 then some (fields (s.lanesOut.map (fun l => (l, 1))))
  else if 0x100 ≤ off && off < 0x16C then some (word (s.lane ((off - 0x100) / 4)).state.code)
  else if off = 0x16C then some (word (if s.xbr.spareFor.isSome then 7 else 6))
  else none

/-- CIS_STATUS to CIS_DESC_USED, CIS_PORT_ST (R285). -/
def State.liveCis (s : State) (off : Nat) : Option Word :=
  let gone := ((List.range 64).filter (fun b => !s.bankIn b)).map (fun b => 2 ^ b)
  if off = 8 then
    some (fields [(0, (decide (s.banksRetired = s.fld .cis 0 24 20)).toNat), (1, (decide (descriptors ≤ s.cis.copies.length)).toNat), (16, s.banksRetired)])
  else if off = 0x10 || off = 0x14 then some (halfOf (off - 0x10) gone.sum)
  else if off = 0x18 then some (word s.usable)
  else if off = 0x1C then some (word s.poolSize)
  else if off = 0x20 then some (word s.poolUsed)
  else if off = 0x24 then some (word s.cellsUsed)
  else if off = 0x28 then some (word s.cis.copies.length)
  else if 0x100 ≤ off && off < 0x174 then
    let p := (off - 0x100) / 4
    some (fields [(0, s.ctMask p), (8, Sparse.get (fun _ => 0) s.cis.xoff p)])
  else none

/-- The entry in force of a port's schedule, and the start of its cycle (07_egress_scheduling.md R296, R318). -/
def State.gateEntry (s : State) (p : Nat) : Nat :=
  if s.scheduled p then ((entryAt (s.gateList p) (s.gatePos p s.nowNs) 0).map (fun x => x.1)).getD 0 else 0
def State.cycleStart (s : State) (p : Nat) : Nat := if s.scheduled p then s.nowNs - s.gatePos p s.nowNs else 0

/-- Credit in whole bits, saturating (R318). -/
def State.creditWord (s : State) (p c : Nat) : Word := word (twos 32 (clampInt (-0x7FFFFFFF) 0x7FFFFFFF (Int.tdiv (s.credit p c) 65536)))

/-- EGR_STATUS, EGR_CYCLE_START, EGR_WINDOW, EGR_CREDIT, EGR_DEFICIT (R318). -/
def State.liveEgr (s : State) (off : Nat) : Option Word :=
  let p := off / 0x4000
  let r := off % 0x4000
  if r = 4 then some (fields [(0, s.gateEntry p), (16, s.gatesAt p s.nowNs), (31, (s.egress p).hold.toNat)])
  else if r = 0x20 || r = 0x24 then some (halfOf (r - 0x20) (s.cycleStart p))
  else if 0x80 ≤ r && r < 0xA0 then some (word (s.windowFor p ((r - 0x80) / 4)))
  else if 0xA0 ≤ r && r < 0xC0 then some (s.creditWord p ((r - 0xA0) / 4))
  else if 0xC0 ≤ r && r < 0xE0 then some (word ((s.egress p).deficitOf ((r - 0xC0) / 4)))
  else none

/-- CAN_STATUS and CAN_ERRCNT (08_can_controllers.md R363). -/
def State.canStatusWord (s : State) (n : Nat) : Word :=
  let c := s.chan n
  let act := if !(c.kind.onBus || c.kind == .standby) then 3 else if c.busy.isSome then 2 else if c.receiving then 1 else 0
  fields [(0, c.errKind), (4, c.errData.toNat), (6, act), (8, c.kind.code)]
def State.canErrcnt (s : State) (n : Nat) : Word :=
  let c := s.chan n
  fields [(0, if c.kind = .busOff then 256 else Nat.min 255 c.tec), (16, Nat.min 255 c.rxe)]

/-- SPDU_CTL, SPDU_INFO, SPDU_FV of the channel's PDU `j` (R363). -/
def State.spduWord (s : State) (n j r : Nat) : Word :=
  let k := s.pduBase n + j
  if s.pduCount n ≤ j then 0
  else match r with
  | 0 => fields [(31, (s.spdu k).en.toNat)]
  | 4 =>
    let b := (s.pduRec k).getD []
    fields [(0, leAt b 3 1), (8, leAt b 2 1), (16, k), (30, ((leAt b 1 1).testBit 2).toNat), (31, ((leAt b 1 1).testBit 1).toNat)]
  | 8 => lo32 (s.spdu k).fv
  | _ => hi32 (s.spdu k).fv

/-- The word of the data window of a path that MSG_DATA[i] shows: the page of MSG_SEL (R363). -/
def State.msgOffset (s : State) (path : Path) (n i : Nat) : Nat := 64 * s.fld .can (msgReg path n 0x100) 15 11 + 4 * i

/-- Registers of a CAN channel that its unit holds. -/
def State.liveCan (s : State) (path : Path) (off : Nat) : Option Word :=
  let n := off / 0x8000
  let r := off % 0x8000
  let c := s.chan n
  if r = 0x20 then some (s.canStatusWord n)
  else if r = 0x24 then some (s.canErrcnt n)
  else if r = 0x74 then some (fields [(0, c.rxq.length), (16, c.txq.length)])
  else if r = 0x88 then some (setField (s.rd .can off) 2 0 c.ref.code)
  else if r = 0xC0 || r = 0xC4 then some (halfOf (r - 0xC0) (s.sofCount n))
  else if 0x140 ≤ r && r < 0x180 then some (word (leAt (s.msgData path n) (s.msgOffset path n ((r - 0x140) / 4)) 4))
  else if 0x4000 ≤ r then some (s.spduWord n ((r - 0x4000) / 0x10) (r % 0x10))
  else none

/-- MVB_STATUS (09_gateway_and_culvert.md R402). -/
def State.liveMvb (s : State) (off : Nat) : Option Word :=
  let c := s.mvbChan (off / 0x8000)
  if off % 0x8000 = 0x10 then
    some (fields [(0, c.kind.code), (8, c.lineA.toNat), (9, c.lineB.toNat), (19, c.master.isSome.toNat), (20, c.master.getD 0)])
  else none

/-- GWY_CFG and GWY_SA (R401): ORIGIN as sent, once region 0x0D is in force. -/
def State.liveGwy (s : State) (off : Nat) : Option Word :=
  let loaded := !(regionRecs s.recs 0x0D).isEmpty
  if off = 0 then some (if loaded then fields [(0, 1), (16, s.gwyOrigin s.recs)] else 0)
  else if off = 4 then some (word (be ((gwySa s.recs).drop 2)))
  else if off = 8 then some (word (be ((gwySa s.recs).take 2)))
  else none

/-- A flume's registers (10_flumes.md R424). -/
def State.flumeWord (s : State) (f r : Nat) : Option Word :=
  let x := s.flume f
  match r with
  | 0x0C => some (fields [(0, (decide (x.rd ≠ x.wr)).toNat), (1, x.stale.toNat), (16, x.epoch)])
  | 0x10 => some (word x.wr)
  | 0x14 => some (word x.rd)
  | 0x18 => some (word x.mark)
  | 0x1C => some (word x.rl)
  | 0x20 => some (word x.credits)
  | _ => none

/-- FLM_STATUS, the item windows, the flumes (R414, R424). -/
def State.liveFlm (s : State) (off : Nat) : Option Word :=
  let present := (List.range 1536).filter (fun f => s.flumePresent f)
  if off = 0 then some (fields [(0, (present.map (fun f => s.fld .flm (flumeReg f 0) 12 0)).sum), (16, present.length)])
  else if 0x400 ≤ off && off < 0xE00 then
    let w := (off - 0x400) / 0x200
    let r := (off - 0x400) % 0x200
    let i := Sparse.get (fun _ => ({} : FlumeWin)) s.flm.win w
    if r = 4 then some (fields [(0, i.slots), (21, i.flume)])
    else if r = 8 then some (word i.pos)
    else if 0x100 ≤ r then some (word (leAt i.bytes (256 * s.fld .flm (0x400 + 0x200 * w) 5 0 + (r - 0x100)) 4))
    else none
  else if 0x10000 ≤ off then s.flumeWord ((off - 0x10000) / 0x80) (off % 0x80)
  else none

/-- Codes of QP_STATUS.TX (11_host_bridge.md R458). -/
def TxSide.code : TxSide → Nat
  | .disabled => 0
  | .running => 1
  | .stopped => 2

/-- HBR_STATUS and QP_STATUS (R458). -/
def State.liveHbr (s : State) (off : Nat) : Option Word :=
  if off = 4 then some (fields [(0, s.hbr.link.code), (4, s.hbr.speed), (8, s.hbr.width), (16, s.hbr.held.length)])
  else if 0x10000 ≤ off && off % 0x40 = 4 then
    let q := (off - 0x10000) / 0x40
    let x := s.qp q
    some (fields [(0, x.tx.code), (2, x.rx.toNat), (8, x.err), (16, (s.queueDistrict q).getD 0)])
  else none

/-- Codes of KEY_STATUS.RNG (12_keys_and_attestation.md R497). -/
def RngState.code : RngState → Nat
  | .startup => 0
  | .ok => 1
  | .failed => 2

/-- KEY_STATUS, KEY_FUSE, KEY_ATTR (R497). -/
def State.liveKey (s : State) (off : Nat) : Option Word :=
  if off = 0 then some (setBit (setField (s.rd .key 0) 1 0 s.key.rng.code) 6 s.fuses.anchor.isNone)
  else if off = 8 then
    some (fields [(0, s.fuses.rollback), (8, s.fuses.anchor.isSome.toNat), (12, s.fuses.signerRevoked % 16), (16, s.fuses.fwkey0Revoked.toNat)])
  else if 0x10000 ≤ off && off < 0x18000 then some (s.keySlot ((off - 0x10000) / 4)).attr
  else none

/-- LMP_STATUS, LMP_ISL_CNT, RING_ST (13_wake_sleep_power.md R527). -/
def State.liveLmp (s : State) (off : Nat) : Option Word :=
  if off = 0 then
    some (fields ([0, 1, 2, 3].map (fun r => (16 + r, (decide ((s.ringOf r).kind = .busSleep)).toNat)) ++
      [(0, s.lmp.kind.code), (4, s.lmp.railFails), (8, s.lmp.sleepReq.toNat)]))
  else if off = 0x30 || off = 0x34 then some (halfOf (off - 0x30) s.islandCount)
  else if 0x700 ≤ off && off < 0x780 && off % 0x20 = 0xC then
    let r := (off - 0x700) / 0x20
    let g := s.ringOf r
    let a := s.ringAddr r
    some (if g.kind = .off then 0 else fields [(0, g.kind.code), (7, g.members.length), (16, predecessor g.members a), (24, successor g.members a)])
  else none

/-- TDM_CFG, TDM_STATUS and what the partner told (14_tandem_redundancy.md R563). -/
def State.liveTdm (s : State) (off : Nat) : Option Word :=
  let d := s.tdm
  let p := d.partner.getD {}
  match off with
  | 0x00 => some (setField (s.rd .tdm 0) 28 28 d.position)
  | 0x18 => some (fields [(0, d.state.code), (8, d.active.toNat), (10, d.synced.toNat), (11, d.degraded.toNat), (17, d.tfailOk.toNat), (18, d.hbOk.toNat),
      (19, p.active.toNat), (20, p.state), (24, d.mmRun), (28, s.fld .tdm 0x18 31 28)])
  | 0x24 => some (word p.pairId)
  | 0x28 => some (lo32 (le (beBytes 8 p.hash)))
  | 0x2C => some (hi32 (le (beBytes 8 p.hash)))
  | 0x30 => some (word p.epoch)
  | _ => none

/-- EVT_STATUS: occupied holds (15_management_events_health.md R603). -/
def State.liveEvt (s : State) (off : Nat) : Option Word :=
  if off = 0 then some (word (s.evt.hold.filter (fun e => e.2.isSome)).length) else none

/-- Codes of MGT_RW_ST.STATE (R603). -/
def RwKind.code : RwKind → Nat
  | .idle => 0
  | .entering => 1
  | .testing => 2
  | .held => 3

/-- Does the watchdog stand still (R570)? -/
def State.wdtHeld (s : State) : Bool := decide (s.halted ≠ 0) || (decide (s.mgt.state = .loading) || decide (s.mgt.state = .noFirmware))

/-- LEASE_ST: whole milliseconds left (R603). -/
def State.leaseWord (s : State) (l : Nat) : Word :=
  match s.lease l with
  | none => 0
  | some a => fields [(0, timerLeft a.timer s.nowNs / 1000000), (16, a.holder), (30, a.timer.since.isNone.toNat), (31, 1)]

/-- MGT_STATUS, MGT_WDT_LEFT, MGT_RW_ST, LEASE_ST (R603). -/
def State.liveMgt (s : State) (off : Nat) : Option Word :=
  if off = 0 then
    some (fields [(0, s.mgt.state.code), (4, s.halted), (8, s.mgtStopped.toNat), (9, s.wdtHeld.toNat), (10, s.mgt.unlocked.toNat)])
  else if off = 0x10 then some (word (timerLeft s.mgt.wdt s.nowNs / 1000000))
  else if off = 0x28 then some (setField (s.rd .mgt 0x28) 2 0 s.mgt.rw.state.code)
  else if 0x1000 ≤ off && off < 0x1200 && off % 8 = 4 then some (s.leaseWord ((off - 0x1000) / 8))
  else none

/-- The filtered levels of `n` pins from `m` on. -/
def State.pinLevels (s : State) (m n : Nat) : Word := fields ((List.range n).map (fun i => (i, (s.pin (m + i)).level.toNat)))

/-- GPIO_IN, GPIO_SET and GPIO_CLR (which read GPIO_OUT), PIN_MF_ST, FEED_ST (16_electrical_and_pins.md R640, 13_wake_sleep_power.md R528). -/
def State.livePin (s : State) (off : Nat) : Option Word :=
  if off = 0x10 then some (s.pinLevels 0 32)
  else if off = 0x14 then some (s.pinLevels 32 16)
  else if off = 0x20 || off = 0x28 then some (s.rd .pin 0x18)
  else if off = 0x24 || off = 0x2C then some (s.rd .pin 0x1C)
  else if 0x200 ≤ off && off < 0x2C0 then
    let v := s.pin ((off - 0x200) / 4)
    some (fields [(28, v.level.toNat), (29, v.switching.toNat), (30, v.func)])
  else if 0x8000 ≤ off && off % 0x80 = 0x10 then
    let f := (off - 0x8000) / 0x80
    some (fields [(0, (s.feedOf f).kind.code), (4, (s.feedOf f).trips), (8, Nat.min 4095 (Config.feedSense f s.nowNs))])
  else none

/-- What a unit shows at an offset of its block in place of the stored word. -/
def State.live (s : State) (path : Path) (b : Block) (off : Nat) : Option Word :=
  match b with
  | .dev => s.liveDev off
  | .img => s.liveImg off
  | .tkp => s.liveTkp off
  | .eth => s.liveEth off
  | .prs => s.livePrs off
  | .tbl => s.liveTbl off
  | .xbr => s.liveXbr off
  | .cis => s.liveCis off
  | .egr => s.liveEgr off
  | .can => s.liveCan path off
  | .mvb => s.liveMvb off
  | .gwy => s.liveGwy off
  | .flm => s.liveFlm off
  | .hbr => s.liveHbr off
  | .key => s.liveKey off
  | .lmp => s.liveLmp off
  | .tdm => s.liveTdm off
  | .evt => s.liveEvt off
  | .mgt => s.liveMgt off
  | .pin => s.livePin off

/-- Registers that this unit does not have: the pause, PFC, MAC merge and MACsec registers of an S-port, the PLCA registers of another
(04_ethernet_ports.md R181); of a CAN channel the registers of the other kind (08_can_controllers.md R361). -/
def State.lacks (s : State) (b : Block) (off : Nat) : Bool :=
  match b with
  | .eth =>
    let p := off / 0x10000
    let r := off % 0x10000
    if isSPort p then (decide (0x40 ≤ r) && decide (r < 0x80)) || decide (0x1000 ≤ r) else decide (0x80 ≤ r) && decide (r < 0x8C)
  | .can =>
    let n := off / 0x8000
    let r := off % 0x8000
    let within := fun (a c : Nat) => decide (a ≤ r) && decide (r < c)
    (if 28 ≤ n then within 0x80 0xA0 else within 0xC0 0xE0) ||
      ((s.canMode n == 2 && (within 0x40 0x70 || within 0x1000 0x1200)) || (s.canMode n == 1 && within 0x70 0x78)) ||
        (within 0x4000 0x8000 && decide (s.pduCount n ≤ (r - 0x4000) / 0x10))
  | _ => false

/-- The path whose window holds an offset, where it lies in one (05_classification.md R211, 10_flumes.md R414, 12_keys_and_attestation.md
R468). -/
def windowPath (b : Block) (off : Nat) : Option Nat :=
  match b with
  | .tbl => if off < 0x6000 then some (off / 0x1000) else none
  | .flm => if 0x400 ≤ off && off < 0xE00 then some ((off - 0x400) / 0x200) else none
  | .key => if 0x20000 ≤ off && off < 0x21400 then some ((off - 0x20000) / 0x400) else none
  | _ => none

/-- Is there a register at an offset that serves the path? -/
def State.serves (s : State) (path : Path) (b : Block) (off : Nat) : Bool :=
  !s.lacks b off && (windowPath b off).all (fun w => w == pathIndex path)

/-- What the register or counter at an offset of a block holds for a path, with no side effect: a reserved address, and the window of
another path, read 0 (00_scope.md R6, R13, R16, 17_register_map.md R642). -/
def State.look (s : State) (path : Path) (b : Block) (off : Nat) : Word :=
  if !s.serves path b off then 0
  else if isCounter b off then lo32 (s.count b off)
  else if 4 ≤ off && isCounter b (off - 4) then hi32 (s.count b (off - 4))
  else match rowAt b off with
    | none => 0
    | some row => (s.live path b off).getD (s.rd b (row.key path off))

/-- The same at an address of the register space. -/
def State.lookAt (s : State) (path : Path) (addr : Nat) : Word :=
  match locate addr with
  | none => 0
  | some x => s.look path x.1 x.2

end Sys2Proof.Machine
end

