-- ==== Sys2Proof/Machine/Access.lean ====
section
/-!
DEFINITION. Register accesses: reads with their latches, writes with what each register starts, the inspection alias (00_scope.md R4-R14),
BAR0 and the address windows of the host bridge (11_host_bridge.md R426-R434), REG_ACCESS (15_management_events_health.md R596).
-/
namespace Sys2Proof.Machine

/-! ### 64-bit values (R9, R12) -/

/-- Offsets, in the first instance, of the _LO register of each 64-bit value of a block that is not a counter. DESIGN CHOICE (notes/assumptions/160.md):
of the 48-bit pairs, MAC_ADDR and GWY_SA are no such values, each half a register by itself; R12 speaks of 64-bit values alone. -/
def wideRows : Block → List Nat
  | .img => [0x28, 0x48]
  | .tkp => [0x10, 0x20, 0x40, 0x1028, 0x1030]
  | .eth => [0x68, 0x70, 0x1008, 0x2008, 0x2048]
  | .prs => [0x100018, 0x100020]
  | .cis => [0x10]
  | .egr => [0x10, 0x20]
  | .can => [0x90, 0x98, 0xC0, 0xCC, 0xD4, 0x124, 0x134, 0x4008]
  | .mvb => [0x110]
  | .gwy => [0x28]
  | .hbr => [0x10008, 0x10010, 0x10018]
  | .lmp => [0x18, 0x30, 0x38, 0x40, 0x48, 0x10C, 0x114]
  | .tdm => [0x28]
  | .mgt => [0x40008, 0x40400]
  | .pin => [0x500]
  | _ => []

/-- Offsets, in the first instance, of the fraction that follows a stamp's two halves. -/
def fracRows : Block → List Nat
  | .tkp => [0x18, 0x48]
  | .can => [0xDC, 0x12C]
  | .mvb => [0x118]
  | .mgt => [0x40010]
  | .pin => [0x508]
  | _ => []

/-- Does `off` hold the low half, the high half, or the fraction of a 64-bit value? -/
def wideLow (b : Block) (off : Nat) : Bool := isCounter b off || (rowAt b off).any (fun r => (wideRows b).contains r.off)
def wideHigh (b : Block) (off : Nat) : Bool := decide (4 ≤ off) && wideLow b (off - 4)
def wideFrac (b : Block) (off : Nat) : Bool := (rowAt b off).any (fun r => (fracRows b).contains r.off)

/-- May software write the register at `off`? -/
def writable (b : Block) (off : Nat) : Bool := (rowAt b off).any (fun r => r.rw != 0)

/-! ### Reads -/

/-- The read returns `v`. -/
def State.readAs (s : State) (path : Path) (v : Word) : State := s.setPath path { s.path path with lastRead := v }

/-- The latch of a path: address of the _LO register, high half, fraction (R9, R10). -/
def State.latchOf (s : State) (path : Path) : Option (Nat × Word × Word) := (s.path path).latch

/-- A read of a live address (R9-R11). -/
def State.readLive (s : State) (path : Path) (addr : Nat) (b : Block) (off : Nat) : State :=
  let v := s.look path b off
  if !s.serves path b off then s.readAs path 0
  else if wideLow b off then
    s.setPath path { s.path path with
      latch := some (addr, s.look path b (off + 4), if wideFrac b (off + 8) then s.look path b (off + 8) else 0), lastRead := v }
  else if wideHigh b off then s.readAs path (((s.latchOf path).map (fun l => l.2.1)).getD v)
  else if wideFrac b off then
    s.readAs path (match s.latchOf path with
      | some l => if l.1 + 8 = addr then l.2.2 else v
      | none => v)
  else if b = .pin && off = 0xC then s.vcoreMinRead path
  else s.readAs path v

/-- A read of any address (R4, R13, 17_register_map.md R642). -/
def State.accessRead (s : State) (path : Path) (addr : Nat) : State :=
  if addr % 4 ≠ 0 then s.readAs path 0xFFFFFFFF
  else if addr < mirrorBase then
    match locate addr with
    | some x => s.readLive path addr x.1 x.2
    | none => s.readAs path 0
  else if addr < 2 * mirrorBase then s.readAs path (s.lookAt path (addr - mirrorBase))
  else s.readAs path 0

/-! ### Writes, block by block -/

/-- A write that only stores (R6, R12). -/
def State.writePlain (s : State) (path : Path) (b : Block) (off : Nat) (v : Word) : State :=
  if !writable b off then s.store path b off v
  else if wideLow b off then s.stageLow path (b.base + off) v
  else if wideHigh b off then s.storeHigh path b (off - 4) v
  else s.store path b off v

/-- DEV_CTL (15_management_events_health.md R598). -/
def State.writeDev (s : State) (off : Nat) (v : Word) : State :=
  if off = 4 && field v 31 16 = 0x8828 then
    match field v 3 0 with
    | 1 => s.deviceReset 4
    | 2 => s.mgtResetCmd
    | _ => s
  else s

/-- IMG_CFG: TIME_DOMAIN stands while a commit is armed, with LAST_ERR 0xC (02_ikiem_images.md R98). -/
def State.writeImgCfg (s : State) (path : Path) (v : Word) : State :=
  if s.img.state = .armed then (s.store path .img 0 (setField v 9 8 (s.fld .img 0 9 8))).lastErr 0xC
  else s.store path .img 0 v

/-- The image loader's registers (R101, R102). -/
def State.writeImg (s : State) (path : Path) (off : Nat) (v : Word) : State :=
  match off with
  | 0x00 => s.writeImgCfg path v
  | 0x20 => s.doConfigWrite path .stageSrc v
  | 0x28 => s.doConfigWrite path .commitTimeLo v
  | 0x2C => s.doConfigWrite path .commitTimeHi v
  | 0x30 => s.doConfigWrite path .commitEpoch v
  | 0x24 =>
    match field v 3 0 with
    | 1 => s.doStage []
    | 2 => s.doArm
    | 3 => s.doAbort
    | 4 => s.doCommitNow
    | _ => s
  | _ => s.writePlain path .img off v

/-- TKP_PPS_OUT_CFG: POLARITY sets the level of PPS out (03_time_and_order.md R140); a pulse that has begun goes on (R130). -/
def State.writePpsOut (s : State) (path : Path) (v : Word) : State :=
  let s1 := s.store path .tkp 0x34 v
  if s1.ppsLevel = s.ppsLevel then s1 else s1.send (.pps s1.ppsLevel)

/-- A domain's registers (R142). -/
def State.writeDomain (s : State) (path : Path) (off : Nat) (v : Word) : State :=
  let d := (off - 0x1000) / 0x100
  match off % 0x100 with
  | 0x00 => s.domCfg d v
  | 0x08 => (s.store path .tkp off v).decideGm d
  | 0x38 => s.roleWrite d 0 v
  | 0x3C => s.roleWrite d 1 v
  | _ => s.writePlain path .tkp off v

/-- The time keeper's registers. -/
def State.writeTkp (s : State) (path : Path) (off : Nat) (v : Word) : State :=
  if off = 8 then
    match field v 3 0 with
    | 1 => s.setTime (field v 5 4)
    | 2 => s.resync (field v 5 4)
    | _ => s
  else if off = 0x30 then (s.store path .tkp 0x30 v).ppsResteer
  else if off = 0x34 then s.writePpsOut path v
  else if 0x1000 ≤ off && off < 0x1400 then s.writeDomain path off v
  else if 0x8000 ≤ off then (s.writePlain path .tkp off v).recapable ((off - 0x8000) / 0x40)
  else s.writePlain path .tkp off v

/-- The register of an SA at its offset in the SA (04_ethernet_ports.md R172). -/
def saRegAt : Nat → Option SaReg
  | 0x00 => some .ctl
  | 0x08 => some .nextPnLo
  | 0x0C => some .nextPnHi
  | 0x10 => some .ssci
  | 0x14 => some (.salt 0)
  | 0x18 => some (.salt 1)
  | 0x1C => some (.salt 2)
  | _ => none

/-- The SA that holds offset `r` of a port, and the offset within it. -/
def saAt (r : Nat) : Option (SaId × Nat) :=
  if r < 0x1000 then none
  else if r < 0x1100 then some (.tx (Fin.ofNat 4 ((r - 0x1000) / 0x40)), r % 0x40)
  else if r < 0x2000 then none
  else
    let k := r % 0x200
    if k < 0x40 || 0x140 ≤ k then none
    else some (.rx (Fin.ofNat 16 ((r - 0x2000) / 0x200)) (Fin.ofNat 4 (k / 0x40 - 1)), k % 0x40)

/-- A port's registers. -/
def State.writeEth (s : State) (path : Path) (off : Nat) (v : Word) : State :=
  let p := off / 0x10000
  match off % 0x10000 with
  | 0x04 => if bit v 0 then s.portOn p else s.portOff p
  | 0x48 => if bit v 16 then s.watchdogClear p else s
  | 0x50 => s.mmCfg p v
  | 0x60 => s.secCfg p v
  | r =>
    match saAt r with
    | some (sa, o) =>
      match saRegAt o with
      | some reg => s.saWrite path p sa reg v
      | none => s
    | none => s.writePlain path .eth off v

/-- Classification: weirs are staged and applied (05_classification.md R226). -/
def State.writePrs (s : State) (path : Path) (off : Nat) (v : Word) : State :=
  if off < 0x100000 then s.writePlain path .prs off v
  else
    let w := (off - 0x100000) / 0x80
    match off % 0x80 with
    | 0x00 => s.applyWeir w v
    | 0x04 => s.putWeirStage w 0 v
    | 0x08 => s.putWeirStage w 1 v
    | 0x0C => s.putWeirStage w 2 v
    | 0x10 => s.putWeirStage w 3 v
    | _ => s

/-- TBL_CMD of window `w` (R234). -/
def State.tblCmd (s : State) (w : Nat) (v : Word) : State :=
  let t := field v 20 16
  let op := field v 3 0
  if bit v 8 then (if op = 1 || (op = 2 || op = 5) then s.tblStage w t op else s.tblResult w op 5)
  else match op with
    | 1 => s.tblWrite w t 1
    | 2 => s.tblWrite w t 2
    | 3 => s.tblFetch w t 3
    | 4 => s.tblFetch w t 4
    | 5 => s.tblWrite w t 5
    | 6 => s.batchApply w t
    | 7 => s.batchDiscard w t
    | _ => s.tblResult w op 5

/-- The table windows and the learning settings. -/
def State.writeTbl (s : State) (path : Path) (off : Nat) (v : Word) : State :=
  if off < 0x6000 && off % 0x1000 = 0 then s.tblCmd (off / 0x1000) v else s.writePlain path .tbl off v

/-- A write of MSG_DATA[i] changes the bytes of the path's window that it shows (08_can_controllers.md R363). -/
def State.msgDataWrite (s : State) (path : Path) (n i : Nat) (v : Word) : State :=
  s.setMsgData path n (overwrite (padTo 2048 (s.msgData path n)) (s.msgOffset path n i) (leBytes 4 v.toNat))

/-- MSG_CMD (R362). -/
def State.msgCmd (s : State) (path : Path) (n : Nat) (v : Word) : State :=
  match field v 3 0 with
  | 1 => s.msgRead path n false
  | 2 => s.msgWrite path n
  | 3 => s.msgPop path n
  | 4 => s.msgPush path n
  | 5 => s.msgRead path n true
  | _ => s.msgResult path n 4

/-- A secured PDU's registers (R357). -/
def State.writeSpdu (s : State) (path : Path) (n off : Nat) (v : Word) : State :=
  let j := (off - 0x4000) / 0x10
  let k := s.pduBase n + j
  match off % 0x10 with
  | 0x0 => if j < s.pduCount n then s.setSpdu k { s.spdu k with en := bit v 31 } else s
  | 0x8 => s.spduFvWrite path n j .lo v
  | 0xC => s.spduFvWrite path n j .hi v
  | _ => s

/-- A CAN channel's registers. -/
def State.writeCan (s : State) (path : Path) (off : Nat) (v : Word) : State :=
  let n := off / 0x8000
  let r := off % 0x8000
  if r = 0x1C then
    let s1 := if bit v 0 then s.flushQueue n else s
    if bit v 1 then s1.recoverNow n else s1
  else if 0x40 ≤ r && r < 0x50 then s.requestObjs n ((r - 0x40) / 4) v
  else if 0x50 ≤ r && r < 0x60 then s.cancelObjs n ((r - 0x50) / 4) v
  else if r = 0xC8 then (if bit v 0 then s.sofcLatch path n else s)
  else if r = 0x104 then s.msgCmd path n v
  else if 0x140 ≤ r && r < 0x180 then s.msgDataWrite path n ((r - 0x140) / 4) v
  else if 0x4000 ≤ r then s.writeSpdu path n r v
  else s.writePlain path .can off v

/-- PORT_CMD (09_gateway_and_culvert.md R402). -/
def State.portCmd (s : State) (path : Path) (n : Nat) (v : Word) : State :=
  match field v 3 0 with
  | 1 => s.portRead path n
  | 2 => s.portWrite path n
  | 3 => s.portPop path n
  | 4 => s.portPush path n
  | _ => s.portResult path n 4

/-- An MVB channel's registers. -/
def State.writeMvb (s : State) (path : Path) (off : Nat) (v : Word) : State :=
  let n := off / 0x8000
  match off % 0x8000 with
  | 0x0C =>
    let s1 := if bit v 0 then s.offerMaster n else s
    if bit v 1 then s1.mdFlush n else s1
  | 0x104 => s.portCmd path n v
  | _ => s.writePlain path .mvb off v

/-- The gateway's registers (R401). -/
def State.writeGwy (s : State) (path : Path) (off : Nat) (v : Word) : State :=
  match off with
  | 0x20 => s.sigSelWrite path v
  | 0x30 => s.culSelWrite path v
  | _ => s.writePlain path .gwy off v

/-- FLM_CMD (10_flumes.md R413). -/
def State.flmCmd (s : State) (path : Path) (f : Nat) (v : Word) : State :=
  s.flumeCommand path f (fun (t : State) =>
    match field v 3 0 with
    | 1 => t.flumeFetch path f true none
    | 2 => t.moveFlume f Flume.marked
    | 3 => (t.moveFlume f Flume.rewound).bump .flm (flumeReg f 0x68)
    | 4 => t.moveFlume f Flume.releasedRead
    | 5 => t.moveFlume f Flume.releasedMark
    | 6 => t.flumeFetch path f false none
    | _ => (t.flumeResult f 4).setErr .flm 4 3 1155 (p2 f))

/-- The flumes' registers. -/
def State.writeFlm (s : State) (path : Path) (off : Nat) (v : Word) : State :=
  if 0x10000 ≤ off then (if off % 0x80 = 0x24 then s.flmCmd path ((off - 0x10000) / 0x80) v else s) else s.writePlain path .flm off v

/-- A queue pair's registers (11_host_bridge.md R457): TAIL and QP_CTL from the host alone, the rest while EN = 0. -/
def State.writeQp (s : State) (path : Path) (off : Nat) (v : Word) : State :=
  let q := (off - 0x10000) / 0x40
  match off % 0x40 with
  | 0x00 => if path ≠ .host then s else if bit v 31 then s.qpEnable q v else s.qpDisable q v
  | 0x28 => if path = .host then s.qpTailWrite q true v else s
  | 0x30 => if path = .host then s.qpTailWrite q false v else s
  | _ => if s.flag .hbr (qpReg q 0) 31 then s else s.writePlain path .hbr off v

/-- The host bridge's registers; the mailbox serves the host alone (R451). -/
def State.writeHbr (s : State) (path : Path) (off : Nat) (v : Word) : State :=
  if 0x10000 ≤ off then s.writeQp path off v
  else if 0x200 ≤ off && off < 0x400 then
    if path ≠ .host then s else if off = 0x200 then s.mbxSend v else s.store path .hbr off v
  else s.store path .hbr off v

/-- KEY_CMD (12_keys_and_attestation.md R469). -/
def State.keyCmd (s : State) (path : Path) (v : Word) : State :=
  match field v 3 0 with
  | 0x1 => s.doGenerate path
  | 0x2 => s.doImport path (bit v 4)
  | 0x3 => s.doExport path (bit v 4)
  | 0x4 => s.doDerive path
  | 0x5 => s.doEcdh path
  | 0x6 => s.doPubkey path
  | 0x7 => s.doErase path
  | 0x8 => s.doSign path
  | 0x9 => s.doAttest path
  | 0xA => s.doProvenance path
  | 0xB => s.doRandom path
  | 0xC => s.doRollback path none
  | 0xD => s.doFwInstall path none
  | 0xE => s.doProvision path none false
  | 0xF => s.doRevoke path false
  | _ => s

/-- The key unit's registers. -/
def State.writeKey (s : State) (path : Path) (off : Nat) (v : Word) : State :=
  if 0x20000 ≤ off && off % 0x400 = 0 then s.keyCmd path v else s.store path .key off v

/-- LMP_CMD and the island's registers (13_wake_sleep_power.md R527). -/
def State.writeLmp (s : State) (path : Path) (off : Nat) (v : Word) : State :=
  if off = 4 then
    match field v 3 0 with
    | 1 => s.sleepCmd
    | 2 => s.cancelCmd
    | 3 => s.confirmPins
    | 4 => s.rearmCmd
    | 5 => s.latchCmd path
    | _ => s
  else s.writePlain path .lmp off v

/-- TDM_CMD (14_tandem_redundancy.md R558). -/
def State.writeTdm (s : State) (path : Path) (off : Nat) (v : Word) : State :=
  if off = 0x14 then
    match field v 3 0 with
    | 1 => s.switchOver
    | 2 => s.resumeMirror
    | 3 => s.retire
    | 4 => s.rejoin
    | _ => s
  else s.store path .tdm off v

/-- MGT_RW_CMD (15_management_events_health.md R587). -/
def State.rwCmd (s : State) (v : Word) : State :=
  match field v 1 0 with
  | 1 => s.rwBegin
  | 2 => s.rwLetGo
  | _ => s

/-- The management plane's registers (R603); the host writes neither MGT_WDT_CFG nor MGT_WDT_KICK (R569). -/
def State.writeMgt (s : State) (path : Path) (off : Nat) (v : Word) : State :=
  match off with
  | 0x08 => if path = .host then s else s.store path .mgt 8 v
  | 0x0C => s.wdtKicked path v
  | 0x18 => s.dbgCtlWrite path v
  | 0x24 => s.rwCmd v
  | 0x30 => s.snapTake (field v 15 0)
  | _ =>
    if 0x1000 ≤ off && off < 0x1200 then
      (if off % 8 = 0 then s.leaseCommand path ((off - 0x1000) / 8) (field v 31 28) (field v 15 0) else s)
    else s.store path .mgt off v

/-- FEED_CMD (13_wake_sleep_power.md R528). -/
def State.feedCmd (s : State) (f : Nat) (v : Word) : State :=
  match field v 1 0 with
  | 1 => s.feedOn f
  | 2 => s.feedOff f
  | 3 => s.feedClear f
  | _ => s

/-- The pins' registers (16_electrical_and_pins.md R640). -/
def State.writePin (s : State) (path : Path) (off : Nat) (v : Word) : State :=
  match off with
  | 0x18 => s.gpioWrite false v
  | 0x1C => s.gpioWrite true v
  | 0x20 => s.gpioSet false v
  | 0x24 => s.gpioSet true v
  | 0x28 => s.gpioClr false v
  | 0x2C => s.gpioClr true v
  | _ => if 0x8000 ≤ off && off % 0x80 = 0xC then s.feedCmd ((off - 0x8000) / 0x80) v else s.store path .pin off v

/-- A write of the register at an offset of a block: commands act, the rest store. -/
def State.blockWrite (s : State) (path : Path) (b : Block) (off : Nat) (v : Word) : State :=
  match b with
  | .dev => s.writeDev off v
  | .img => s.writeImg path off v
  | .tkp => s.writeTkp path off v
  | .eth => s.writeEth path off v
  | .prs => s.writePrs path off v
  | .tbl => s.writeTbl path off v
  | .xbr => s.store path .xbr off v
  | .cis => if off = 0x30 then s.selectAcct path v else s.store path .cis off v
  | .egr => s.store path .egr off v
  | .can => s.writeCan path off v
  | .mvb => s.writeMvb path off v
  | .gwy => s.writeGwy path off v
  | .flm => s.writeFlm path off v
  | .hbr => s.writeHbr path off v
  | .key => s.writeKey path off v
  | .lmp => s.writeLmp path off v
  | .tdm => s.writeTdm path off v
  | .evt => s.store path .evt off v
  | .mgt => s.writeMgt path off v
  | .pin => s.writePin path off v

/-- A write through the inspection alias is ignored and logged (R14). -/
def State.aliasWritten (s : State) (path : Path) (addr : Nat) : State :=
  (s.bump .mgt 0x450).emit 1603 (p1 (pathIndex path) ++ p4 addr)

/-- Does the address lie in the inspection alias? -/
def inAlias (addr : Nat) : Bool := decide (mirrorBase ≤ addr) && decide (addr < 2 * mirrorBase)

/-- A write of any address (R4, R6, R14; 17_register_map.md R642). -/
def State.accessWrite (s : State) (path : Path) (addr : Nat) (v : Word) : State :=
  if inAlias addr then s.aliasWritten path addr
  else if addr % 4 ≠ 0 then s
  else match locate addr with
    | some x => if s.serves path x.1 x.2 && (rowAt x.1 x.2).isSome then s.blockWrite path x.1 x.2 v else s
    | none => s

/-- An access that is not a naturally aligned 32-bit access (R4). -/
def State.badAccess (s : State) (path : Path) (addr : Nat) (write : Bool) : State :=
  if !write then s.readAs path 0xFFFFFFFF
  else if inAlias addr then s.aliasWritten path addr
  else s

/-! ### BAR0 and the address windows (11_host_bridge.md R426-R434) -/

/-- WIN_CFG fields, and the target of an offset (R427). -/
def State.winFlag (s : State) (w i : Nat) : Bool := s.flag .hbr (0x100 + 0x10 * w) i
def State.winSize (s : State) (w : Nat) : Nat := 2 ^ s.fld .hbr (0x100 + 0x10 * w) 4 0
def State.winTarget (s : State) (w off : Nat) : Nat :=
  let base := s.fld .hbr (0x104 + 0x10 * w) 25 0
  base - base % s.winSize w + off

/-- An access to a window that is disabled, or beyond its first 2^SIZE bytes (R428). -/
def State.windowMisses (s : State) (w off : Nat) : Bool := !s.winFlag w 31 || decide (s.winSize w ≤ off)

/-- A write to a window passes R428, and `run` goes on with its target; or it is counted and discarded. -/
def State.windowWrite (s : State) (w off : Nat) (run : State → Nat → State) : State :=
  if s.windowMisses w off then (s.bump .hbr 0x418).hbrErr 2
  else if !s.winFlag w 29 then (s.bump .hbr 0x420).hbrErr 3
  else run s (s.winTarget w off)

/-- Can the host reach the function: the link is not DOWN, and the hold is not full (R432)? -/
def State.hostReaches (s : State) : Bool := decide (s.hbr.link ≠ .down) && decide (s.hbr.held.length < 64)

/-- POSTED_WRITE (R430): through BAR0, or a window with ACK = 0. -/
def State.postWrite (s : State) (via : HostVia) (v : Word) : State :=
  if !s.hostReaches then s
  else match via with
    | .bar0 addr => s.accessWrite .host addr.val v
    | .window w off => if s.winFlag w.val 30 then s else s.windowWrite w.val off.val (fun (t : State) a => t.accessWrite .host a v)

/-- Forwards an acknowledged write to its target. -/
def State.forwardAck (s : State) (x : AckWrite) : State := { s with hbr := { s.hbr with ack := some x } }.bump .hbr 0x400

/-- ACK_WINDOW_WRITE (R431): forwarded, or held behind the write that is outstanding. -/
def State.ackWrite (s : State) (w off : Nat) (v : Word) : State :=
  if !s.hostReaches || !s.winFlag w 30 then s
  else s.windowWrite w off (fun (t : State) a =>
    if t.hbr.ack.isSome then { t with hbr := { t.hbr with held := t.hbr.held ++ [⟨a, v, false⟩] } } else t.forwardAck ⟨a, v, false⟩)

/-- A host read through window `w` (R427, R428, R431): a miss reads 0xFFFF_FFFF; a read of an acknowledged window waits behind the write that is
outstanding. -/
def State.windowRead (s : State) (w off : Nat) : State :=
  if !s.hostReaches then s
  else if s.windowMisses w off then ((s.bump .hbr 0x418).hbrErr 2).readAs .host 0xFFFFFFFF
  else if s.winFlag w 30 && s.hbr.ack.isSome then { s with hbr := { s.hbr with held := s.hbr.held ++ [⟨s.winTarget w off, 0, true⟩] } }
  else s.accessRead .host (s.winTarget w off)

/-- The outstanding write is over: held reads up to the first held write take place, and that write is forwarded. -/
def State.releaseHeld (s : State) : State :=
  let later := s.hbr.held.dropWhile (·.read)
  let s1 := (s.hbr.held.takeWhile (·.read)).foldl (fun (t : State) x => t.accessRead .host x.addr)
    { s with hbr := { s.hbr with ack := none, held := later } }
  match later with
  | [] => s1
  | x :: xs => ({ s1 with hbr := { s1.hbr with held := xs } }).forwardAck x

/-- HBR_ACK_LAST (R458). -/
def State.ackLast (s : State) (addr : Nat) : State := s.wr .hbr 0x10 (word addr)

/-- ACK_WRITE_COMPLETE (R431), ACK_TIMEOUT (R433), ACK_LONG (R434). -/
def State.ackDone (s : State) : State :=
  match s.hbr.ack with
  | none => s
  | some x => (s.accessWrite .host x.addr x.value).releaseHeld
def State.ackTimedOut (s : State) : State :=
  match s.hbr.ack with
  | none => s
  | some x => (((s.bump .hbr 0x408).ackLast x.addr).hbrErr 0).releaseHeld
def State.ackTooLong (s : State) : State :=
  match s.hbr.ack with
  | none => s
  | some x => ((((s.accessWrite .host x.addr x.value).bump .hbr 0x410).ackLast x.addr).hbrErr 1).releaseHeld

/-! ### REG_ACCESS (15_management_events_health.md R593, R596) -/

/-- Refused while LOCKED; a read goes through the inspection alias. -/
def State.debugAccess (s : State) (write : Bool) (addr : Nat) (v : Word) : State :=
  if !s.mgt.unlocked then s
  else if write then s.accessWrite .debug addr v
  else
    let r := if addr % 4 ≠ 0 then 0xFFFFFFFF else if addr < 2 * mirrorBase then s.lookAt .debug (addr % mirrorBase) else 0
    (s.readAs .debug r).send (.tapWord r)

/-! ### The commands -/

/-- LO_READ_LATCH (R9): a read, which latches at a _LO register; the host's reads come through BAR0 or through a window. -/
def execLoReadLatch (path : Path) (addr : Nat) (s : State) (window : Option (Fin 16) := none) : Host.Outcome State Fault Refusal :=
  (s.awake (fun (t : State) => match window with
    | none => t.accessRead path addr
    | some w => t.windowRead w.val addr)).done

/-- LO_WRITE_STAGE, HI_WRITE_STORE (R12), REGISTER_WRITE (R6). -/
def execLoWriteStage (path : Path) (addr : Nat) (value : Word) (s : State) : Host.Outcome State Fault Refusal :=
  (s.awake (fun (t : State) => t.accessWrite path addr value)).linkDone s
def execHiWriteStore (path : Path) (addr : Nat) (value : Word) (s : State) : Host.Outcome State Fault Refusal :=
  (s.awake (fun (t : State) => t.accessWrite path addr value)).linkDone s
def execRegisterWrite (path : Path) (addr : Nat) (value : Word) (s : State) : Host.Outcome State Fault Refusal :=
  (s.awake (fun (t : State) => t.accessWrite path addr value)).linkDone s

/-- MISALIGNED_ACCESS (R4), of `size` bytes. -/
def execMisalignedAccess (path : Path) (addr _size : Nat) (write : Bool) (s : State) : Host.Outcome State Fault Refusal :=
  (s.awake (fun (t : State) => t.badAccess path addr write)).done

/-- ALIAS_WRITE (R14): the address as software wrote it, in the alias. -/
def execAliasWrite (path : Path) (addr : Nat) (_value : Word) (s : State) : Host.Outcome State Fault Refusal :=
  (s.awake (fun (t : State) => if inAlias addr then t.aliasWritten path addr else t)).done

/-- POSTED_WRITE, ACK_WINDOW_WRITE, ACK_WRITE_COMPLETE, ACK_TIMEOUT, ACK_LONG. -/
def execPostedWrite (via : HostVia) (value : Word) (s : State) : Host.Outcome State Fault Refusal :=
  (s.awake (fun (t : State) => t.postWrite via value)).linkDone s
def execAckWindowWrite (w : Fin 16) (off : Fin 1048576) (value : Word) (s : State) : Host.Outcome State Fault Refusal :=
  (s.awake (fun (t : State) => t.ackWrite w.val off.val value)).done
def execAckWriteComplete (s : State) : Host.Outcome State Fault Refusal := (s.awake (fun (t : State) => t.ackDone)).linkDone s
def execAckTimeout (s : State) : Host.Outcome State Fault Refusal := (s.awake (fun (t : State) => t.ackTimedOut)).done
def execAckLong (s : State) : Host.Outcome State Fault Refusal := (s.awake (fun (t : State) => t.ackTooLong)).linkDone s

/-- REG_ACCESS (R596). -/
def execRegAccess (write : Bool) (addr : Nat) (value : Word) (s : State) : Host.Outcome State Fault Refusal :=
  (s.awake (fun (t : State) => t.debugAccess write addr value)).linkDone s

end Sys2Proof.Machine
end

