-- ==== Sys2Proof/Machine/Dispatch.lean ====
section
/-!
DEFINITION. One arm for each command: a direct call of its meaning.
-/
namespace Sys2Proof.Machine

def exec (i : Instr) (s : State) : Host.Outcome State Fault Refusal :=
  match i with
  | .loReadLatch path addr window => Sys2Proof.Machine.execLoReadLatch path addr s window
  | .loWriteStage path addr value => Sys2Proof.Machine.execLoWriteStage path addr value s
  | .hiWriteStore path addr value => Sys2Proof.Machine.execHiWriteStore path addr value s
  | .misalignedAccess path addr size write => Sys2Proof.Machine.execMisalignedAccess path addr size write s
  | .aliasWrite path addr value => Sys2Proof.Machine.execAliasWrite path addr value s
  | .registerWrite path addr value => Sys2Proof.Machine.execRegisterWrite path addr value s
  | .islandReset => Sys2Proof.Machine.execIslandReset s
  | .islandResetRelease => Sys2Proof.Machine.execIslandResetRelease s
  | .enableStep => Sys2Proof.Machine.execEnableStep s
  | .vcoreGood => Sys2Proof.Machine.execVcoreGood s
  | .railTimeout => Sys2Proof.Machine.execRailTimeout s
  | .railRetry => Sys2Proof.Machine.execRailRetry s
  | .deviceResetRelease => Sys2Proof.Machine.execDeviceResetRelease s
  | .brownOut rail mv => Sys2Proof.Machine.execBrownOut s rail mv
  | .resetPin => Sys2Proof.Machine.execResetPin s
  | .deviceResetCmd => Sys2Proof.Machine.execDeviceResetCmd s
  | .mgtResetCmd => Sys2Proof.Machine.execMgtResetCmd s
  | .vcoreLowDetect mv => Sys2Proof.Machine.execVcoreLowDetect mv s
  | .thermWarn quarters => Sys2Proof.Machine.execThermWarn quarters s
  | .vinLow mv => Sys2Proof.Machine.execVinLow mv s
  | .pinVcoreMinRead path => Sys2Proof.Machine.execPinVcoreMinRead path s
  | .firmwareBoot => Sys2Proof.Machine.execFirmwareBoot s
  | .bootSelect glitches => Sys2Proof.Machine.execBootSelect glitches s
  | .bootLoadDone => Sys2Proof.Machine.execBootLoadDone s
  | .imgStage glitches => Sys2Proof.Machine.execImgStage glitches s
  | .stagingComplete => Sys2Proof.Machine.execStagingComplete s
  | .imgArm => Sys2Proof.Machine.execImgArm s
  | .imgAbort => Sys2Proof.Machine.execImgAbort s
  | .imgCommitNow => Sys2Proof.Machine.execImgCommitNow s
  | .imgConfigWrite path reg value => Sys2Proof.Machine.execImgConfigWrite path reg value s
  | .agreementDeadline => Sys2Proof.Machine.execAgreementDeadline s
  | .commitSwitch => Sys2Proof.Machine.execCommitSwitch s
  | .refusedHoldExpiry => Sys2Proof.Machine.execRefusedHoldExpiry s
  | .commitRoadworksDone => Sys2Proof.Machine.execCommitRoadworksDone s
  | .keptConfigRelease => Sys2Proof.Machine.execKeptConfigRelease s
  | .syncRx port m => Sys2Proof.Machine.execSyncRx port m s
  | .followUpRx port m => Sys2Proof.Machine.execFollowUpRx port m s
  | .announceRx port m => Sys2Proof.Machine.execAnnounceRx port m s
  | .gmSyncSend d => Sys2Proof.Machine.execGmSyncSend d s
  | .announceSend d => Sys2Proof.Machine.execAnnounceSend d s
  | .announceReceiptTimeout d port => Sys2Proof.Machine.execAnnounceReceiptTimeout d port s
  | .signalingRx port m => Sys2Proof.Machine.execSignalingRx port m s
  | .pdelayReqSend port => Sys2Proof.Machine.execPdelayReqSend port s
  | .pdelayReqRx port m => Sys2Proof.Machine.execPdelayReqRx port m s
  | .pdelayRespRx port r f => Sys2Proof.Machine.execPdelayRespRx port r f s
  | .syncReceiptTimeout d => Sys2Proof.Machine.execSyncReceiptTimeout d s
  | .holdoverMaxExpiry d => Sys2Proof.Machine.execHoldoverMaxExpiry d s
  | .tkpSet d => Sys2Proof.Machine.execTkpSet d s
  | .tkpResync d => Sys2Proof.Machine.execTkpResync d s
  | .domEnable d value => Sys2Proof.Machine.execDomEnable d value s
  | .domDisable d value => Sys2Proof.Machine.execDomDisable d value s
  | .domRoleWrite d half value => Sys2Proof.Machine.execDomRoleWrite d half value s
  | .ppsInEdge falling => Sys2Proof.Machine.execPpsInEdge falling s
  | .ppsInLoss => Sys2Proof.Machine.execPpsInLoss s
  | .ppsOutEdge => Sys2Proof.Machine.execPpsOutEdge s
  | .ppsOutWidthEnd => Sys2Proof.Machine.execPpsOutWidthEnd s
  | .portEnable port => Sys2Proof.Machine.execPortEnable port s
  | .portDisable port => Sys2Proof.Machine.execPortDisable port s
  | .pcsLinkUp port speed remoteFault => Sys2Proof.Machine.execPcsLinkUp port speed s remoteFault
  | .trainTimeout port => Sys2Proof.Machine.execTrainTimeout port s
  | .pcsLinkLoss port why => Sys2Proof.Machine.execPcsLinkLoss port why s
  | .portHoldoffExpiry port => Sys2Proof.Machine.execPortHoldoffExpiry port s
  | .portRoadworksEnd port => Sys2Proof.Machine.execPortRoadworksEnd port s
  | .frameReceive port ev => Sys2Proof.Machine.execFrameReceive port ev s
  | .pauseFrameRx port group sa quanta => Sys2Proof.Machine.execPauseFrameRx port group sa quanta s
  | .pfcFrameRx port group sa vector times => Sys2Proof.Machine.execPfcFrameRx port group sa vector times s
  | .pauseExpiry port cls => Sys2Proof.Machine.execPauseExpiry port cls s
  | .pauseWatchdogTrip port => Sys2Proof.Machine.execPauseWatchdogTrip port s
  | .pauseWdClear port => Sys2Proof.Machine.execPauseWdClear port s
  | .macControlTx port => Sys2Proof.Machine.execMacControlTx port s
  | .pauseRefresh port => Sys2Proof.Machine.execPauseRefresh port s
  | .mmCfgWrite port value => Sys2Proof.Machine.execMmCfgWrite port value s
  | .verifyTimeout port => Sys2Proof.Machine.execVerifyTimeout port s
  | .verifyRx port => Sys2Proof.Machine.execVerifyRx port s
  | .respondRx port => Sys2Proof.Machine.execRespondRx port s
  | .saWrite path port sa reg value => Sys2Proof.Machine.execSaWrite path port sa reg value s
  | .secCfgWrite port value => Sys2Proof.Machine.execSecCfgWrite port value s
  | .beaconTx port => Sys2Proof.Machine.execBeaconTx port s
  | .beaconRx port => Sys2Proof.Machine.execBeaconRx port s
  | .plcaStatusLoss port => Sys2Proof.Machine.execPlcaStatusLoss port s
  | .plcaTxOpportunity port => Sys2Proof.Machine.execPlcaTxOpportunity port s
  | .collision port => Sys2Proof.Machine.execCollision port s
  | .backoffExpiry port => Sys2Proof.Machine.execBackoffExpiry port s
  | .fecAlarm port blocks corrected uncorrected => Sys2Proof.Machine.execFecAlarm port blocks corrected uncorrected s
  | .classifyFrame lane => Sys2Proof.Machine.execClassifyFrame lane s
  | .learnAgeOut => Sys2Proof.Machine.execLearnAgeOut s
  | .cbResetTimer stream => Sys2Proof.Machine.execCbResetTimer stream s
  | .tblInsert path table => Sys2Proof.Machine.execTblInsert path table s
  | .tblDelete path table => Sys2Proof.Machine.execTblDelete path table s
  | .tblRead path table => Sys2Proof.Machine.execTblRead path table s
  | .tblReadIndex path table => Sys2Proof.Machine.execTblReadIndex path table s
  | .tblWriteIndex path table => Sys2Proof.Machine.execTblWriteIndex path table s
  | .tblStage path table op => Sys2Proof.Machine.execTblStage path table op s
  | .batchApply path table => Sys2Proof.Machine.execBatchApply path table s
  | .batchDiscard path table => Sys2Proof.Machine.execBatchDiscard path table s
  | .weirStagedWrite weir reg value => Sys2Proof.Machine.execWeirStagedWrite weir reg value s
  | .weirCfgWrite weir value => Sys2Proof.Machine.execWeirCfgWrite weir value s
  | .roundaboutSlot faults => Sys2Proof.Machine.execRoundaboutSlot faults s
  | .laneAckTimeout lane => Sys2Proof.Machine.execLaneAckTimeout lane s
  | .laneRemapDone => Sys2Proof.Machine.execLaneRemapDone s
  | .laneSelftestDone lane pass => Sys2Proof.Machine.execLaneSelftestDone lane pass s
  | .bankAllocStopped bank => Sys2Proof.Machine.execBankAllocStopped bank s
  | .bankDrainDone bank => Sys2Proof.Machine.execBankDrainDone bank s
  | .bankBistDone bank pass => Sys2Proof.Machine.execBankBistDone bank pass s
  | .cisAcctSelWrite path value => Sys2Proof.Machine.execCisAcctSelWrite path value s
  | .egressSelect port => Sys2Proof.Machine.execEgressSelect port s
  | .frameTxStart port => Sys2Proof.Machine.execFrameTxStart port s
  | .frameTxEnd port => Sys2Proof.Machine.execFrameTxEnd port s
  | .gateChange port => Sys2Proof.Machine.execGateChange port s
  | .sLaneStaleDrop => Sys2Proof.Machine.execSLaneStaleDrop s
  | .canFrameRx ch f => Sys2Proof.Machine.execCanFrameRx ch f s
  | .canArbitration ch won => Sys2Proof.Machine.execCanArbitration ch won s
  | .canTxSuccess ch tdcv => Sys2Proof.Machine.execCanTxSuccess ch tdcv s
  | .canBusError ch e => Sys2Proof.Machine.execCanBusError ch e s
  | .canIntegrationDone ch => Sys2Proof.Machine.execCanIntegrationDone ch s
  | .busOffHoldExpiry ch => Sys2Proof.Machine.execBusOffHoldExpiry ch s
  | .canRecoveryDone ch => Sys2Proof.Machine.execCanRecoveryDone ch s
  | .canRoadworksEnd ch => Sys2Proof.Machine.execCanRoadworksEnd ch s
  | .canRecover ch => Sys2Proof.Machine.execCanRecover ch s
  | .canTxqFlush ch => Sys2Proof.Machine.execCanTxqFlush ch s
  | .objTxrqWrite ch m value => Sys2Proof.Machine.execObjTxrqWrite ch m value s
  | .objTxcanWrite ch m value => Sys2Proof.Machine.execObjTxcanWrite ch m value s
  | .msgRead path ch => Sys2Proof.Machine.execMsgRead path ch s
  | .msgWrite path ch => Sys2Proof.Machine.execMsgWrite path ch s
  | .msgPop path ch => Sys2Proof.Machine.execMsgPop path ch s
  | .msgPush path ch => Sys2Proof.Machine.execMsgPush path ch s
  | .msgReadClr path ch => Sys2Proof.Machine.execMsgReadClr path ch s
  | .sofcLatch path ch => Sys2Proof.Machine.execSofcLatch path ch s
  | .refMessageDue ch => Sys2Proof.Machine.execRefMessageDue ch s
  | .refRoleTimeout ch => Sys2Proof.Machine.execRefRoleTimeout ch s
  | .spduFvWrite path ch j half value => Sys2Proof.Machine.execSpduFvWrite path ch j half value s
  | .signalTimeout rule => Sys2Proof.Machine.execSignalTimeout rule s
  | .targetFramePeriod target => Sys2Proof.Machine.execTargetFramePeriod target s
  | .lookasideCryptoDone => Sys2Proof.Machine.execLookasideCryptoDone s
  | .culvertRx => Sys2Proof.Machine.execCulvertRx s
  | .culvertRewrap => Sys2Proof.Machine.execCulvertRewrap s
  | .culvertHoldExpiry rule which => Sys2Proof.Machine.execCulvertHoldExpiry rule which s
  | .acfWaitExpiry stream => Sys2Proof.Machine.execAcfWaitExpiry stream s
  | .acfRx => Sys2Proof.Machine.execAcfRx s
  | .gwySelWrite path culvert value => Sys2Proof.Machine.execGwySelWrite path culvert value s
  | .mvbLineIdle ch => Sys2Proof.Machine.execMvbLineIdle ch s
  | .mvbBasicPeriod ch => Sys2Proof.Machine.execMvbBasicPeriod ch s
  | .mvbMasterFrameRx ch fcode addr lines => Sys2Proof.Machine.execMvbMasterFrameRx ch fcode addr lines s
  | .mvbTelegramRx ch fcode addr data good lines => Sys2Proof.Machine.execMvbTelegramRx ch fcode addr data good lines s
  | .mvbReplyTimeout ch => Sys2Proof.Machine.execMvbReplyTimeout ch s
  | .mvbMasterTimeout ch => Sys2Proof.Machine.execMvbMasterTimeout ch s
  | .mastershipOfferRx ch => Sys2Proof.Machine.execMastershipOfferRx ch s
  | .relinquish ch => Sys2Proof.Machine.execRelinquish ch s
  | .mdFlush ch => Sys2Proof.Machine.execMdFlush ch s
  | .mvbRoadworksEnd ch => Sys2Proof.Machine.execMvbRoadworksEnd ch s
  | .portRead path ch => Sys2Proof.Machine.execPortRead path ch s
  | .portWrite path ch => Sys2Proof.Machine.execPortWrite path ch s
  | .portPop path ch => Sys2Proof.Machine.execPortPop path ch s
  | .portPush path ch => Sys2Proof.Machine.execPortPush path ch s
  | .flumeItemHandoff flume producer bytes => Sys2Proof.Machine.execFlumeItemHandoff flume producer bytes s
  | .flumeGrant flume producer => Sys2Proof.Machine.execFlumeGrant flume producer s
  | .flumeRead path flume ue => Sys2Proof.Machine.execFlumeRead path flume ue s
  | .flumeMark path flume => Sys2Proof.Machine.execFlumeMark path flume s
  | .flumeRewind path flume => Sys2Proof.Machine.execFlumeRewind path flume s
  | .flumeRelease path flume => Sys2Proof.Machine.execFlumeRelease path flume s
  | .flumeReleaseMark path flume => Sys2Proof.Machine.execFlumeReleaseMark path flume s
  | .flumePeek path flume ue => Sys2Proof.Machine.execFlumePeek path flume ue s
  | .flumeStale flume => Sys2Proof.Machine.execFlumeStale flume s
  | .pointerMismatch flume position copy => Sys2Proof.Machine.execPointerMismatch flume position copy s
  | .postedWrite via value => Sys2Proof.Machine.execPostedWrite via value s
  | .ackWindowWrite w off value => Sys2Proof.Machine.execAckWindowWrite w off value s
  | .ackWriteComplete => Sys2Proof.Machine.execAckWriteComplete s
  | .ackTimeout => Sys2Proof.Machine.execAckTimeout s
  | .ackLong => Sys2Proof.Machine.execAckLong s
  | .qpEnable q value => Sys2Proof.Machine.execQpEnable q value s
  | .qpDisable q value => Sys2Proof.Machine.execQpDisable q value s
  | .qpTailWrite q tx value => Sys2Proof.Machine.execQpTailWrite q tx value s
  | .dmaTxFetch q descs => Sys2Proof.Machine.execDmaTxFetch q descs s
  | .dmaCplTimeout q n => Sys2Proof.Machine.execDmaCplTimeout q n s
  | .hostRxFrame descs => Sys2Proof.Machine.execHostRxFrame descs s
  | .queueEngineItem q => Sys2Proof.Machine.execQueueEngineItem q s
  | .irqModerationExpiry q => Sys2Proof.Machine.execIrqModerationExpiry q s
  | .msixUnmask vector => Sys2Proof.Machine.execMsixUnmask vector s
  | .pcieLinkDown why => Sys2Proof.Machine.execPcieLinkDown why s
  | .pcieLinkUp speed width => Sys2Proof.Machine.execPcieLinkUp speed width s
  | .hbrHoldoffExpiry => Sys2Proof.Machine.execHbrHoldoffExpiry s
  | .mbxSend value => Sys2Proof.Machine.execMbxSend value s
  | .fwPing => Sys2Proof.Machine.execFwPing s
  | .flashErase fault => Sys2Proof.Machine.execFlashErase fault s
  | .flashWrite fault => Sys2Proof.Machine.execFlashWrite fault s
  | .flashRead fails => Sys2Proof.Machine.execFlashRead fails s
  | .keyGenerate path => Sys2Proof.Machine.execKeyGenerate path s
  | .keyImport path w5649 => Sys2Proof.Machine.execKeyImport path w5649 s
  | .keyExport path w5649 => Sys2Proof.Machine.execKeyExport path w5649 s
  | .keyDerive path => Sys2Proof.Machine.execKeyDerive path s
  | .keyEcdh path => Sys2Proof.Machine.execKeyEcdh path s
  | .keyPubkey path => Sys2Proof.Machine.execKeyPubkey path s
  | .keyErase path => Sys2Proof.Machine.execKeyErase path s
  | .keySign path => Sys2Proof.Machine.execKeySign path s
  | .keyAttest path => Sys2Proof.Machine.execKeyAttest path s
  | .keyProvenance path => Sys2Proof.Machine.execKeyProvenance path s
  | .keyRandom path => Sys2Proof.Machine.execKeyRandom path s
  | .keyRollback path fuseFails => Sys2Proof.Machine.execKeyRollback path fuseFails s
  | .keyFwInstall path fault => Sys2Proof.Machine.execKeyFwInstall path fault s
  | .keyProvision path fault fuseFails => Sys2Proof.Machine.execKeyProvision path fault fuseFails s
  | .keyRevoke path fuseFails => Sys2Proof.Machine.execKeyRevoke path fuseFails s
  | .genAtLoadDone slot => Sys2Proof.Machine.execGenAtLoadDone slot s
  | .entropyHealthFail test => Sys2Proof.Machine.execEntropyHealthFail test s
  | .entropyStartupDone => Sys2Proof.Machine.execEntropyStartupDone s
  | .drbgReseed => Sys2Proof.Machine.execDrbgReseed s
  | .sleepEntry => Sys2Proof.Machine.execSleepEntry s
  | .graceExpiry => Sys2Proof.Machine.execGraceExpiry s
  | .minOffExpiry => Sys2Proof.Machine.execMinOffExpiry s
  | .wakeFrameMatch ch frame => Sys2Proof.Machine.execWakeFrameMatch ch frame s
  | .wakePin pin level => Sys2Proof.Machine.execWakePin pin level s
  | .alarmMatch => Sys2Proof.Machine.execAlarmMatch s
  | .wakeWindowExpiry source => Sys2Proof.Machine.execWakeWindowExpiry source s
  | .lmpSleep => Sys2Proof.Machine.execLmpSleep s
  | .lmpCancel => Sys2Proof.Machine.execLmpCancel s
  | .lmpConfirm => Sys2Proof.Machine.execLmpConfirm s
  | .lmpRearm => Sys2Proof.Machine.execLmpRearm s
  | .lmpLatch path => Sys2Proof.Machine.execLmpLatch path s
  | .ringTtypExpiry ring => Sys2Proof.Machine.execRingTtypExpiry ring s
  | .ringTmaxExpiry ring => Sys2Proof.Machine.execRingTmaxExpiry ring s
  | .ringMemberTimeout ring addr => Sys2Proof.Machine.execRingMemberTimeout ring addr s
  | .ringTwbsExpiry ring => Sys2Proof.Machine.execRingTwbsExpiry ring s
  | .limphomeTerror ring => Sys2Proof.Machine.execLimphomeTerror ring s
  | .feedOn feed => Sys2Proof.Machine.execFeedOn feed s
  | .feedOff feed => Sys2Proof.Machine.execFeedOff feed s
  | .feedClear feed => Sys2Proof.Machine.execFeedClear feed s
  | .feedRampDone feed energy => Sys2Proof.Machine.execFeedRampDone feed energy s
  | .feedTrip feed cause energy => Sys2Proof.Machine.execFeedTrip feed cause energy s
  | .feedOcBlankExpiry feed => Sys2Proof.Machine.execFeedOcBlankExpiry feed s
  | .feedCoolExpiry feed => Sys2Proof.Machine.execFeedCoolExpiry feed s
  | .feedTripClearTimer feed => Sys2Proof.Machine.execFeedTripClearTimer feed s
  | .feedOvervoltage mv => Sys2Proof.Machine.execFeedOvervoltage mv s
  | .feedOvRecover mv => Sys2Proof.Machine.execFeedOvRecover mv s
  | .tfailToggle => Sys2Proof.Machine.execTfailToggle s
  | .tfailInEdge => Sys2Proof.Machine.execTfailInEdge s
  | .tfailInLoss => Sys2Proof.Machine.execTfailInLoss s
  | .heartbeatTx => Sys2Proof.Machine.execHeartbeatTx s
  | .identityRx pairId seq body => Sys2Proof.Machine.execIdentityRx pairId seq body s
  | .heartbeatRx pairId seq body => Sys2Proof.Machine.execHeartbeatRx pairId seq body s
  | .heartbeatLoss => Sys2Proof.Machine.execHeartbeatLoss s
  | .tandemArmRx pairId seq body => Sys2Proof.Machine.execTandemArmRx pairId seq body s
  | .tandemAbortRx pairId seq body => Sys2Proof.Machine.execTandemAbortRx pairId seq body s
  | .resolveRequestRx pairId seq body => Sys2Proof.Machine.execResolveRequestRx pairId seq body s
  | .resolveResultRx pairId seq body => Sys2Proof.Machine.execResolveResultRx pairId seq body s
  | .resyncReqRx pairId seq body => Sys2Proof.Machine.execResyncReqRx pairId seq body s
  | .switchRx pairId seq body => Sys2Proof.Machine.execSwitchRx pairId seq body s
  | .learnRecordRx pairId seq body => Sys2Proof.Machine.execLearnRecordRx pairId seq body s
  | .cbRecordRx pairId seq body => Sys2Proof.Machine.execCbRecordRx pairId seq body s
  | .ringRecordRx pairId seq body => Sys2Proof.Machine.execRingRecordRx pairId seq body s
  | .flumeRecordRx pairId seq body => Sys2Proof.Machine.execFlumeRecordRx pairId seq body s
  | .gwlastRecordRx pairId seq body => Sys2Proof.Machine.execGwlastRecordRx pairId seq body s
  | .bulkStartRx pairId seq body => Sys2Proof.Machine.execBulkStartRx pairId seq body s
  | .bulkEndRx pairId seq body => Sys2Proof.Machine.execBulkEndRx pairId seq body s
  | .digestRecordRx pairId seq body => Sys2Proof.Machine.execDigestRecordRx pairId seq body s
  | .pairWaitExpiry => Sys2Proof.Machine.execPairWaitExpiry s
  | .tdmHoldoffExpiry => Sys2Proof.Machine.execTdmHoldoffExpiry s
  | .epochFollowTimeout => Sys2Proof.Machine.execEpochFollowTimeout s
  | .selfCheckDone pass detail => Sys2Proof.Machine.execSelfCheckDone pass detail s
  | .resolveTimeout => Sys2Proof.Machine.execResolveTimeout s
  | .tdmSwitchover => Sys2Proof.Machine.execTdmSwitchover s
  | .tdmResume => Sys2Proof.Machine.execTdmResume s
  | .tdmRetire => Sys2Proof.Machine.execTdmRetire s
  | .tdmRejoin => Sys2Proof.Machine.execTdmRejoin s
  | .watchdogExpiry => Sys2Proof.Machine.execWatchdogExpiry s
  | .wdtKick path value => Sys2Proof.Machine.execWdtKick path value s
  | .mgtSramUe => Sys2Proof.Machine.execMgtSramUe s
  | .watcherCheck k => Sys2Proof.Machine.execWatcherCheck k s
  | .snapshot mask => Sys2Proof.Machine.execSnapshot mask s
  | .patrolWord spot found passEnd => Sys2Proof.Machine.execPatrolWord spot found passEnd s
  | .rwStart => Sys2Proof.Machine.execRwStart s
  | .rwRelease => Sys2Proof.Machine.execRwRelease s
  | .rwUnitOut => Sys2Proof.Machine.execRwUnitOut s
  | .rwTestDone pass => Sys2Proof.Machine.execRwTestDone pass s
  | .tableRoadworksEnd table => Sys2Proof.Machine.execTableRoadworksEnd table s
  | .parserRoadworksEnd => Sys2Proof.Machine.execParserRoadworksEnd s
  | .leaseAcquire path lease timeout => Sys2Proof.Machine.execLeaseAcquire path lease timeout s
  | .leaseRenew path lease timeout => Sys2Proof.Machine.execLeaseRenew path lease timeout s
  | .leaseRelease path lease timeout => Sys2Proof.Machine.execLeaseRelease path lease timeout s
  | .leaseExpiry lease => Sys2Proof.Machine.execLeaseExpiry lease s
  | .dbgChallenge => Sys2Proof.Machine.execDbgChallenge s
  | .dbgResponse response => Sys2Proof.Machine.execDbgResponse response s
  | .dbgLock => Sys2Proof.Machine.execDbgLock s
  | .regAccess write addr value => Sys2Proof.Machine.execRegAccess write addr value s
  | .idcode => Sys2Proof.Machine.execIdcode s
  | .bypass tdi => Sys2Proof.Machine.execBypass tdi s
  | .samplePreload tdi => Sys2Proof.Machine.execSamplePreload tdi s
  | .extest tdi => Sys2Proof.Machine.execExtest tdi s
  | .coreHalt path core => Sys2Proof.Machine.execCoreHalt path core s
  | .coreResume path core => Sys2Proof.Machine.execCoreResume path core s
  | .coreStep path core => Sys2Proof.Machine.execCoreStep path core s
  | .gpioEdge pin level => Sys2Proof.Machine.execGpioEdge pin level s
  | .captureEdge k level => Sys2Proof.Machine.execCaptureEdge k level s
  | .gpioOutWrite high value => Sys2Proof.Machine.execGpioOutWrite high value s
  | .gpioSet high value => Sys2Proof.Machine.execGpioSet high value s
  | .gpioClr high value => Sys2Proof.Machine.execGpioClr high value s
  | .pinSwitchDone pin level => Sys2Proof.Machine.execPinSwitchDone pin level s
  | .ledTimer pin => Sys2Proof.Machine.execLedTimer pin s
  | .mirrorIntervalExpiry item => Sys2Proof.Machine.execMirrorIntervalExpiry item s
  | .aerError uncorrectable => Sys2Proof.Machine.execAerError uncorrectable s
  | .firstBusIdle ch => Sys2Proof.Machine.execFirstBusIdle ch s

end Sys2Proof.Machine
end

