-- ==== Sys2Proof/Machine/Tick.lean ====
section
/-!
DEFINITION. The passing of time: one period of the 25 MHz oscillator (01_architecture.md, 03_time_and_order.md R106), in which the domains,
the shaper credits, the SOF counter and the island count advance. What falls due within it is a command of its own.
-/
namespace Sys2Proof.Machine

/-- The island count goes on whatever is held (13_wake_sleep_power.md R498). -/
def State.islandTicked (s : State) : State := { s with lmp := { s.lmp with clock := s.lmp.clock + 512 } }

/-- Everything else runs in network time. -/
def State.networkTicked (s : State) : State :=
  let s1 := [0, 1, 2, 3].foldl (fun (t : State) d => t.tickDomain d) s
  let s2 := (s1.accrueCredits s.now (s1.now - s.now)).preemptClosings
  { s2 with can := { s2.can with sofc := s2.can.sofc + 16 } }

/-- One oscillator period: while device reset is held only the island's clock runs. -/
def State.tick (s : State) : State := if s.lmp.held then s.islandTicked else s.networkTicked.islandTicked

end Sys2Proof.Machine
end

