-- ==== Sys2Proof/Safety.lean ====
section
/-!
DEFINITION. What claims mean by a safe run: a step answers a next state; what the state keeps in every state that a step can reach.
-/
namespace Sys2Proof.Machine

/-- The step answers a next state. -/
def Answers (o : Host.Outcome State Fault Refusal) : Prop := ∃ t, o = .next t

/-- The command answers a next state: `P` says what it leaves, before `State.settle`, which follows every command at once, lets out the event
records and tandem records that are due (an obligation of its own says what `settle` can change). -/
def Runs (c : Instr) (s : State) (P : State → Prop) : Prop := ∃ u : State, exec c s = .next u.settle ∧ P u

/-- The same for a command that may change a link: first TL is watched and the grandmasters are decided again (14_tandem_redundancy.md R534,
03_time_and_order.md R116). -/
def RunsLink (c : Instr) (s : State) (P : State → Prop) : Prop := ∃ u : State, exec c s = .next ((u.tlWatched s).decideGms).settle ∧ P u

/-- From `s` to `u` event `e` was raised with this payload, stamped with the time of `s` (15_management_events_health.md R571). -/
def Raised (e : Nat) (payload : List Byte) (s u : State) : Prop :=
  ∃ (l : List EventRec) (r : EventRec), u.evt.offered = s.evt.offered ++ l ∧ r ∈ l ∧ r.source = e ∧ r.payload = padTo 16 payload ∧ r.stamp = s.stamp

/-- Every register word but those listed reads the same. -/
def Kept (ks : List (Block × Nat)) (s u : State) : Prop := ∀ (b : Block) (a : Nat), (b, a) ∉ ks → u.rd b a = s.rd b a

/-- Every counter has counted as often as it is listed, modulo 2^40 (00_scope.md R15), and no other counter has moved. -/
def Counted (ks : List (Block × Nat)) (s u : State) : Prop :=
  ∀ (b : Block) (a : Nat), u.count b a = (s.count b a + ks.count (b, a)) % 2 ^ 40

/-- The island is as it was but for its rings. -/
def SameButRings (s u : State) : Prop := u.lmp = { s.lmp with ring := u.lmp.ring }

/-- The island is as it was but for its feeds. -/
def SameButFeeds (s u : State) : Prop := u.lmp = { s.lmp with feed := u.lmp.feed }

/-- Fuses only blow (12_keys_and_attestation.md R490-R492): from `f` to `g` no count falls, no revocation is undone, an anchor once fused stays, and
the revision and the identity stand. -/
def Fuses.grownFrom (g f : Fuses) : Prop :=
  f.rollback ≤ g.rollback ∧ (f.fwkey0Revoked = true → g.fwkey0Revoked = true) ∧
    (∀ i, f.signerRevoked.testBit i = true → g.signerRevoked.testBit i = true) ∧
      (∀ a, f.anchor = some a → g.anchor = some a) ∧ g.revision = f.revision ∧ g.clockId = f.clockId

/-- A part of the state: the register file of a block, or another field of `State`. -/
inductive Part where
  | regs (b : Block)
  | paths | seq | img | tkp | flm | evt | net | prs | tbl | xbr | cis | tdm | key | gwy | can | mvb | hbr | lmp | mf | sense | mgt | fuses | flash | out | free | pending
deriving DecidableEq, Repr

/-- Does part `p` read the same in `s` and `t`? -/
def Part.same (s t : State) : Part → Prop
  | .regs b => t.regs.get b = s.regs.get b
  | .paths => t.paths = s.paths
  | .seq => t.seq = s.seq
  | .img => t.img = s.img
  | .tkp => t.tkp = s.tkp
  | .flm => t.flm = s.flm
  | .evt => t.evt = s.evt
  | .net => t.net = s.net
  | .prs => t.prs = s.prs
  | .tbl => t.tbl = s.tbl
  | .xbr => t.xbr = s.xbr
  | .cis => t.cis = s.cis
  | .tdm => t.tdm = s.tdm
  | .key => t.key = s.key
  | .gwy => t.gwy = s.gwy
  | .can => t.can = s.can
  | .mvb => t.mvb = s.mvb
  | .hbr => t.hbr = s.hbr
  | .lmp => t.lmp = s.lmp
  | .mf => t.mf = s.mf
  | .sense => t.sense = s.sense
  | .mgt => t.mgt = s.mgt
  | .fuses => t.fuses = s.fuses
  | .flash => t.flash = s.flash
  | .out => t.out = s.out
  | .free => t.free = s.free
  | .pending => t.pending = s.pending

/-- `t` differs from `s` at most in the parts listed: what a frame statement says. -/
def Only (ps : List Part) (s t : State) : Prop := ∀ p : Part, p ∉ ps → p.same s t

end Sys2Proof.Machine
end

