-- ==== Sys2Proof/Claims.lean ====
section
/-!
DEFINITION. Words that the statements use.
-/
namespace Sys2Proof.Machine

/-- A command on path `p` ended with RESULT `n` and this output (12_keys_and_attestation.md R468): of the key block's registers only RESULT, OUT_LEN
and KEY_OUT of the path's window and those at `ks` changed. -/
def KeyEnds (p n : Nat) (output : List Byte) (ks : List Nat) (s u : State) : Prop :=
  u.rd .key (keyReg p 4) = word n ∧ u.rd .key (keyReg p 0x14) = word output.length ∧
    (∀ i, i < 96 → u.rd .key (keyReg p (0x200 + 4 * i)) = (wordsOf output).getD i 0) ∧
      (∀ a, a ∉ ks → a ≠ keyReg p 4 → a ≠ keyReg p 0x14 → (∀ i, i < 96 → a ≠ keyReg p (0x200 + 4 * i)) → u.rd .key a = s.rd .key a)

/-- Slot `h`, and for a 384-bit key the slot after it, hold the key with attribute word `w`; every other slot stands (R462); KEY_LEDGER_GEN has counted
the slots written. -/
def Filled (h : Nat) (w : Word) (value : List Byte) (s u : State) : Prop :=
  (∀ k, u.keySlot k = if k = h then ⟨w, value⟩ else if isPairAlg (attrAlg w) ∧ k = h + 1 then ⟨setBit w 24 true, []⟩ else s.keySlot k) ∧
  u.rd .key 0x14 = s.rd .key 0x14 + (if isPairAlg (attrAlg w) then 2 else 1)

/-! ### Register writes -/

/-- Registers on whose write a command of their own acts, or a rule beside the access codes (02_ikiem_images.md R102, 03_time_and_order.md R142, 04_ethernet_ports.md R181,
05_classification.md R226, R234, 08_can_controllers.md R361-R363, 09_gateway_and_culvert.md R401, R402, 10_flumes.md R413, 11_host_bridge.md R451, R457, and their like). -/
def actsOnWrite (b : Block) (off : Nat) : Bool :=
  let from_ := fun (lo hi r : Nat) => decide (lo ≤ r) && decide (r < hi)
  match b with
  | .dev => off == 4
  | .img => [0x00, 0x20, 0x24, 0x28, 0x2C, 0x30].contains off
  | .tkp => [0x08, 0x30, 0x34].contains off || (from_ 0x1000 0x1400 off && [0x00, 0x08, 0x38, 0x3C].contains (off % 0x100)) || decide (0x8000 ≤ off)
  | .eth => [0x04, 0x48, 0x50, 0x60].contains (off % 0x10000) || (saAt (off % 0x10000)).isSome
  | .prs => decide (0x100000 ≤ off)
  | .tbl => decide (off < 0x6000) && off % 0x1000 == 0
  | .cis => off == 0x30
  | .can => let r := off % 0x8000; [0x1C, 0xC8, 0x104].contains r || from_ 0x40 0x60 r || from_ 0x140 0x180 r || decide (0x4000 ≤ r)
  | .mvb => [0x0C, 0x104].contains (off % 0x8000)
  | .gwy => [0x20, 0x30].contains off
  | .flm => decide (0x10000 ≤ off)
  | .hbr => decide (0x200 ≤ off)
  | .key => decide (0x20000 ≤ off) && off % 0x400 == 0
  | .lmp => off == 4
  | .tdm => off == 0x14
  | .mgt => [0x08, 0x0C, 0x18, 0x24, 0x30].contains off || from_ 0x1000 0x1200 off
  | .pin => from_ 0x18 0x30 off || (decide (0x8000 ≤ off) && off % 0x80 == 0x0C)
  | _ => false

/-- The writable 64-bit values that no command of their own stages: TKP_SET_NS, LMP_ALARM, the SEC_TX_SCI and SEC_PN_THRESH of the ports with MACsec, and the three
addresses of a queue pair that is off (00_scope.md R12; 11_host_bridge.md R457). -/
def State.widePair (s : State) (b : Block) (off : Nat) : Prop :=
  (b, off) = (.tkp, 0x20) ∨ (b, off) = (.lmp, 0x48) ∨ (∃ p, p < 21 ∧ ((b, off) = (.eth, ethReg p 0x68) ∨ (b, off) = (.eth, ethReg p 0x70))) ∨
    (∃ q o, q < 1024 ∧ o ∈ [0x08, 0x10, 0x18] ∧ s.flag .hbr (qpReg q 0) 31 = false ∧ (b, off) = (.hbr, qpReg q o))

/-! ### Words of the other families -/

/-- The link epoch of port `p` ends (04_ethernet_ports.md R150, R151, R165): LINK_EPOCH counts up, the frames queued for the port are discarded and counted in tx.drop.link (with `keepWire` the frame on
the wire is finished), a frame being received and one being reassembled are cut off and counted, pauses, backoff, waiting gPTP messages, the PLCA turn and running verification end, its dynamic learning entries and its peer delay go; every MACsec register stands.
The ETH counters at `ks` have moved too. -/
def EpochEnded (p : Nat) (keepWire : Bool) (ks : List Nat) (s u : State) : Prop :=
  let kept := if keepWire then (s.egress p).wire.filter (fun w => !w.suspended) else []
  let gone := s.cis.copies.filter (fun c => c.dest == .port p && !(kept.any (fun w => w.copy == c.id)))
  u.rd .eth (ethReg p 0x10) = s.rd .eth (ethReg p 0x10) + 1 ∧ (u.egress p).staged = [] ∧ (u.egress p).wire = kept ∧ (∀ q, q ≠ p → u.egress q = s.egress q ∧ u.port q = s.port q) ∧
    (∀ c ∈ u.cis.copies, c ∈ s.cis.copies ∧ c ∉ gone) ∧ (∀ c ∈ s.cis.copies, c ∉ gone → (∀ r, (s.port p).rx = some r → c.frame ≠ r.id) → c ∈ u.cis.copies) ∧
    (u.port p).rx = none ∧ (u.port p).assembly = none ∧ (u.port p).linkPaused = false ∧ (u.port p).classPaused = 0 ∧ (u.port p).ignorePause = false ∧ (u.port p).ptpWait = [] ∧ (u.port p).backoff = false ∧ (u.port p).turn = false ∧ (u.port p).burst = 0 ∧ (u.port p).speed = 0 ∧ (u.port p).verify = (s.port p).verify.afterEpoch ∧
    (∀ e, e ∈ u.table 0 ↔ e ∈ s.table 0 ∧ (e.fixed = true ∨ e.port ≠ p)) ∧ (u.ptp p).req = none ∧ (u.ptp p).capable = false ∧ u.rd .tkp (tkpPort p 8) = 0 ∧
    (∀ a, u.count .eth a = (s.count .eth a + ((if a = ethReg p 0x5B8 then gone.length else 0) + (if a = ethReg p 0x4F0 then (s.port p).rx.isSome.toNat + (s.port p).assembly.isSome.toNat else 0) + ks.count a)) % 2 ^ 40)

/-- Port `p` has moved to a link state, and the change raised its link event (R149, R180). -/
def LinkMoved (p : Nat) (new : LinkState) (s u : State) : Prop :=
  (u.port p).state = new ∧ ((s.port p).state ≠ new →
    Raised (128 + 8 * p) (p1 (s.port p).state.code ++ (p1 new.code ++ (p4 (u.rd .eth (ethReg p 0x10)).toNat ++ p1 (u.port p).speed))) s u)

/-- The counters of a block from `lo` up to `hi` have restarted at 0 (00_scope.md R15). -/
def Restarted (b : Block) (lo hi : Nat) (s u : State) : Prop := ∀ a, u.count b a = if lo ≤ a ∧ a < hi then 0 else s.count b a

/-- Unit `index` of `kind` is back in service after a passed test (15_management_events_health.md R587), its counters restarted. -/
def UnitBack (kind index : Nat) (s u : State) : Prop :=
  (kind = 0 → (s.port index).state = .roadworks → LinkMoved index (if s.flag .eth (ethReg index 4) 0 && decide (s.buildMode index ≠ 0) then .training else .disabled) s u ∧
    Restarted .eth (ethReg index 0x400) (ethReg index 0x800) s u) ∧
  (kind = 1 → (s.chan index).kind = .roadworks → (u.chan index).kind ≠ .roadworks ∧ (u.chan index).tec = 0 ∧ (u.chan index).rxe = 0 ∧ Restarted .can (canReg index 0x400) (canReg index 0x500) s u) ∧
  (kind = 2 → index < 27 → (s.lane index).state = .roadworksOnSpare → index ∉ s.xbr.outOrder → u.lane index = {} ∧ Raised 535 (p2 index ++ p1 0) s u ∧
    Restarted .xbr (xbrCounter index 0) (xbrCounter index 4) s u) ∧
  (kind = 2 → index = 27 → s.xbr.spareTest = true → u.xbr.spareTest = false ∧ u.xbr.spareDead = false ∧ Raised 535 (p2 27 ++ p1 0) s u ∧ Restarted .xbr (xbrCounter 27 0) (xbrCounter 27 4) s u) ∧
  (kind = 3 → (s.bank index).state = .roadworks → u.bank index = {} ∧ Raised 542 (p2 index ++ p1 0) s u ∧ Restarted .cis (0x1000 + 0x10 * index) (0x1010 + 0x10 * index) s u) ∧
  (kind = 4 → u.tbl.works = s.tbl.works.filter (fun t => t != index))

/-- Lane or bank `index` has failed its test (R587; 06_switch_core.md R268, R275); a unit of another kind stays out. -/
def UnitFailed (kind index : Nat) (s u : State) : Prop :=
  (kind = 2 → index < 27 → (s.lane index).state = .roadworksOnSpare → (u.lane index).state = .onSpare ∧ Raised 535 (p2 index ++ p1 1) s u) ∧
  (kind = 2 → index = 27 → s.xbr.spareTest = true → u.xbr.spareTest = false ∧ u.xbr.spareDead = true ∧ u.flag .xbr 0x10 2 = true ∧ Raised 535 (p2 27 ++ p1 1) s u) ∧
  (kind = 3 → (s.bank index).state = .roadworks → (u.bank index).state = .retired ∧ Raised 542 (p2 index ++ p1 1) s u) ∧ (kind ≠ 2 → kind ≠ 3 → Only [.regs .mgt, .mgt, .seq, .evt] s u)

/-- The test of the unit that the request engine serves ends (R587): RESULT, E1602, mgt.rw.done and the next state. -/
def RwTested (pass : Bool) (s u : State) : Prop :=
  let r := s.mgt.rw
  u.mgt = { s.mgt with rw := { r with state := if pass || (r.kind == 2 || r.kind == 3) then .idle else .held } } ∧ u.fld .mgt 0x28 9 8 = (if pass then 0 else 1) ∧
    u.fld .mgt 0x28 15 12 = s.fld .mgt 0x28 15 12 ∧ Raised 1602 (p1 r.kind ++ (p2 r.index ++ p1 (if pass then 0 else 1))) s u ∧ u.count .mgt 0x438 = (s.count .mgt 0x438 + 1) % 2 ^ 40 ∧
      (pass = true → UnitBack r.kind r.index s u) ∧ (pass = false → UnitFailed r.kind r.index s u)

/-- What device reset returns to its reset value and what it keeps (01_architecture.md R44, 17_register_map.md R644): from `s` to `u` it was asserted with cause `c`. -/
def DeviceResetTaken (c : Nat) (s u : State) : Prop :=
  u.lmp = { s.lmp with held := true, cause := c } ∧ (∀ b a, b ≠ .lmp → b ≠ .pin → u.rd b a = resetWord b a ∧ u.count b a = 0) ∧
    (∀ a, u.rd .lmp a = s.rd .lmp a ∧ u.count .lmp a = s.count .lmp a) ∧
    (∀ a, u.rd .pin a = (if 0x8000 ≤ a ∧ a < 0x8200 then s.rd .pin a else resetWord .pin a) ∧ u.count .pin a = (if 0x8000 ≤ a ∧ a < 0x8200 then s.count .pin a else 0)) ∧
      u.flash = s.flash ∧ u.fuses = s.fuses ∧ u.img = {} ∧ u.key = {} ∧ u.tdm = {} ∧ u.mgt = {} ∧ u.mf = []

/-- A command on path `p` filled its target with attribute word `w` and value `v` and ended with RESULT 0 (12_keys_and_attestation.md R463, R469, R495). -/
def KeyFills (p : Nat) (r : KeyReq) (w : Word) (v : List Byte) (s u : State) : Prop :=
  Filled r.tgt w v s u ∧ KeyEnds p 0 [] [0x14] s u ∧ Counted [(.key, 0x400)] s u ∧ Only [.regs .key, .key, .free, .seq, .evt] s u

/-- A command on path `p` was refused with RESULT `n` (R470): it wrote no slot, counted in key.cmd.refused, set KEY_ERR.REFUSED and raised E1416. -/
def KeyRefused (p op n : Nat) (s u : State) : Prop :=
  KeyEnds p n [] [4] s u ∧ u.flag .key 4 0 = true ∧ (s.flag .key 4 0 = false → Raised 1416 (p1 p ++ (p1 op ++ p1 n)) s u) ∧ Counted [(.key, 0x408)] s u ∧ Only [.regs .key, .seq, .evt] s u

/-- From `s` to `u` the management plane entered RESET with cause `c` (15_management_events_health.md R566, R568, 01_architecture.md R44): watchdog stopped, no firmware, the cores' leases and
staged writes gone, the windows of paths 1-4 at reset; MGT_ERR bit `i`, where one is named, set; the counters at `cs` moved; everything else stands. -/
def MgtResetTaken (c : Nat) (i : Option Nat) (cs : List (Block × Nat)) (s u : State) : Prop :=
  u.mgt.state = .reset ∧ u.mgt.wdt = {} ∧ u.key = { s.key with fw := none } ∧ u.fld .dev 8 3 0 = s.fld .dev 8 3 0 ∧ u.fld .dev 8 11 8 = c ∧ u.fld .dev 8 31 16 = Nat.min 0xFFFF (s.fld .dev 8 31 16 + 1) ∧
    (∀ l, l < 64 → u.lease l = if (s.lease l).any (fun a => decide (1 ≤ a.holder) && decide (a.holder ≤ 4)) then none else s.lease l) ∧ (∀ w, 1 ≤ w → w ≤ 4 → u.batch w = []) ∧
      (∀ j, i = some j → u.flag .mgt 4 j = true) ∧ (∀ b a, (b, a) ≠ (.dev, 8) → (i = none ∨ (b, a) ≠ (.mgt, 4)) → u.rd b a = if coreWindow b a = true then resetWord b a else s.rd b a) ∧
        Raised 1600 (p1 s.mgt.state.code ++ (p1 0 ++ p1 c)) s u ∧ Counted cs s u ∧
          (∀ p : Part, (∀ b, p ≠ .regs b) → p ∉ [.seq, .flm, .evt, .tbl, .key, .can, .mgt] → p.same s u)

/-- A received gPTP message was rejected on port `p` with code `c` (03_time_and_order.md R119): counted in tkp.rx.reject, LAST_REJECT written, nothing else updated. -/
def PtpRejected (p c : Nat) (s u : State) : Prop :=
  u.fld .tkp (tkpPort p 4) 11 8 = c ∧ Kept [(.tkp, tkpPort p 4)] s u ∧ Counted [(.tkp, tkpPort p 0x28)] s u ∧ u.tkp = s.tkp ∧ Only [.regs .tkp, .seq, .evt] s u

/-- A gPTP message passes the MACsec engine of port `p` as it is (04_ethernet_ports.md R169): the port has none, the engine is off, or PTP_BYPASS is set. -/
def State.ptpPlain (s : State) (p : Nat) : Prop := s.macsecBuilt p = false ∨ s.macsecOn p = false ∨ s.flag .eth (ethReg p 0x60) 3 = true

/-- Port `p` puts messages on the wire, oldest first (03_time_and_order.md R143, 04_ethernet_ports.md R169), each in its frame, and counts each in tkp.tx.ptp; while the transmitter may begin no frame they
wait behind it with the time at which they were made (R158, R161, R175). Nothing is said of a message that MACsec protects. -/
def PtpSent (p : Nat) (ms : List PtpMsg) (s u : State) : Prop :=
  (s.ptpWaits p = true → (u.port p).ptpWait = (s.port p).ptpWait ++ ms.map (fun m => (m, s.now / 65536)) ∧ u.out = s.out) ∧
  (s.ptpWaits p = false → s.ptpPlain p → u.count .tkp (tkpPort p 0x30) = (s.count .tkp (tkpPort p 0x30) + ms.length) % 2 ^ 40 ∧
    u.out = (ms.map (fun m => Output.ptp p m (padded (ptpFrame (s.macAddr p) m) ++ fcsOf (padded (ptpFrame (s.macAddr p) m))))).reverse ++ s.out)

/-- The same where other ports send too: this port's messages are among what left, or wait. -/
def PtpAmong (p : Nat) (ms : List PtpMsg) (s u : State) : Prop :=
  (s.ptpWaits p = true → (u.port p).ptpWait = (s.port p).ptpWait ++ ms.map (fun m => (m, s.now / 65536))) ∧
  (s.ptpWaits p = false → s.ptpPlain p → ∀ m ∈ ms, Output.ptp p m (padded (ptpFrame (s.macAddr p) m) ++ fcsOf (padded (ptpFrame (s.macAddr p) m))) ∈ u.out)

/-- Every register word but those listed and the next packet numbers of MACsec, which a protected gPTP frame uses up (04_ethernet_ports.md R171), reads the same. -/
def KeptButPn (ks : List (Block × Nat)) (s u : State) : Prop :=
  ∀ b a, (b, a) ∉ ks → (b ≠ .eth ∨ a % 0x10000 < 0x1000) → u.rd b a = s.rd b a

/-- A MAC control frame with the bytes `bs` before padding and FCS has left port `p` as the next frame on the wire (04_ethernet_ports.md R153, R160, R161, R178): it counts as one good multicast frame of
64 bytes, at the counters `ks` and, where MACsec is built, as a bypassing frame (R169); a preemptable frame that was on the wire is suspended. -/
def ControlSent (p : Nat) (bs : List Byte) (ks : List Nat) (s u : State) : Prop :=
  u.out = .wire p true (padTo 60 bs ++ fcsOf (padTo 60 bs)) :: s.out ∧ (u.egress p).active = none ∧ ((s.egress p).active = none → u.egress p = s.egress p) ∧
    Counted ([(.eth, ethReg p 0x570), (.eth, ethReg p 0x500), (.eth, ethReg p 0x518)] ++ (List.replicate 64 (.eth, ethReg p 0x508) ++ ((if s.macsecBuilt p then [(.eth, ethReg p 0x6F0)] else []) ++
      ks.map (fun k => (.eth, ethReg p k))))) s u ∧ Kept [] s u ∧ Only [.regs .eth, .seq, .evt, .net, .mf, .out] s u

/-- A MAC control frame of 64 bytes to address `da` counts as a good frame of port `p` (R157, R178), as one that bypasses MACsec where that is built (R169), and at the counters `ks`. -/
def ControlCounted (p : Nat) (da : List Byte) (ks : List Nat) (s u : State) : Prop :=
  Counted ([(.eth, ethReg p 0x470), (.eth, ethReg p 0x400), (.eth, ethReg p (castCounter 0x410 da))] ++ (List.replicate 64 (.eth, ethReg p 0x408) ++ ((if s.macsecBuilt p then [(.eth, ethReg p 0x6C8)] else []) ++
    ks.map (fun k => (.eth, ethReg p k))))) s u ∧ Kept [] s u ∧ u.seqOf (0x800 + p) = (s.seqOf (0x800 + p) + 1) % 2 ^ 32 ∧ Only [.regs .eth, .seq, .evt, .net, .mf] s u

/-- The counters of block `b` have counted as listed, modulo 2^40. -/
def CountedIn (b : Block) (ks : List Nat) (s u : State) : Prop := ∀ a, u.count b a = (s.count b a + ks.count a) % 2 ^ 40

/-- A frame of `n` bytes, DA through FCS, counts in its district `d` on its first pass, and there as dropped where it was (05_classification.md R230). -/
def districtCounts (f : Frame) (d : Nat) (dropped : Bool) : List Nat :=
  (if f.pass = 0 then (0x20000 + 0x20 * d) :: List.replicate f.rxLen (0x20008 + 0x20 * d) else []) ++ (if dropped then [0x20010 + 0x20 * d] else [])

/-- A table command of window `w` ended with RESULT `n` (R234) and did nothing else. -/
def TblAnswered (w op n : Nat) (s u : State) : Prop := u.rd .tbl (winReg w 4) = word (256 * op + n) ∧ Kept [(.tbl, winReg w 4)] s u ∧ Only [.regs .tbl] s u

/-- Copies and locks as the switch keeps them (06_switch_core.md R237, R250): copy identifiers are distinct, and a locked copy crosses between the lanes of its lock. -/
def State.queuesSound (s : State) : Prop :=
  (s.cis.copies.map (fun c => c.id)).Nodup ∧ (∀ l ∈ s.xbr.lock, ∀ c ∈ s.cis.copies, c.id = l.2.2 → c.outLane = l.1 ∧ c.inLane = l.2.1)

/-- The copies that move a cell in this slot: those of the matches (R248). -/
def State.movers (s : State) : List Copy := s.matching.1.pairs.filterMap (fun p => (s.request s.matching.2 p.1 p.2).2)

/-- The sum of the intervals of the first `n` entries of a sluice schedule (07_egress_scheduling.md R296). -/
def gateStart (es : List GateEntry) (n : Nat) : Nat := ((es.take n).map (fun e => e.interval)).sum

/-- Channel `n` has moved from its state in `s` to `new` (08_can_controllers.md R328), raising its event on a change. -/
def CanMoved (n : Nat) (new : CanKind) (s u : State) : Prop :=
  (u.chan n).kind = new ∧ ((s.chan n).kind ≠ new → ∃ tec rxe, Raised (640 + 8 * n) (p1 (s.chan n).kind.code ++ (p1 new.code ++ (p4 tec ++ p4 rxe))) s u)

/-- The counter at place `k` of the list of R360 has counted once on channel `n`. -/
def CanOnce (n k : Nat) (s u : State) : Prop := u.count .can (canReg n (0x400 + 8 * k)) = (s.count .can (canReg n (0x400 + 8 * k)) + 1) % 2 ^ 40

/-- A window command on path `p` ended with RESULT `r` and did nothing else (R363). -/
def MsgAnswered (p : Path) (n r : Nat) (s u : State) : Prop := u.rd .can (msgReg p n 0x108) = word r ∧ Kept [(.can, msgReg p n 0x108)] s u ∧ Only [.regs .can] s u

/-- The window of path `p` shows a frame's record (R363), the command done. -/
def MsgShows (p : Path) (n : Nat) (r : CanRecord) (mask : Nat) (s u : State) : Prop :=
  u.rd .can (msgReg p n 0x108) = 0 ∧ u.rd .can (msgReg p n 0x110) = word (r.frame.id + 2 ^ 31 * r.frame.ide.toNat) ∧ u.rd .can (msgReg p n 0x114) = word mask ∧ u.rd .can (msgReg p n 0x118) = msgCtrl r ∧
    u.rd .can (msgReg p n 0x11C) = word (2 ^ 24 * r.frame.vcid + 2 ^ 16 * r.frame.sdt) ∧ u.rd .can (msgReg p n 0x120) = word r.frame.af ∧ u.rd64 .can (msgReg p n 0x124) = r.stamp.ns % 2 ^ 64 ∧
      u.rd .can (msgReg p n 0x12C) = word r.stamp.frac ∧ u.rd .can (msgReg p n 0x130) = word r.seq ∧ u.rd64 .can (msgReg p n 0x134) = r.sofc % 2 ^ 64 ∧ u.msgData p n = r.frame.data ∧ Only [.regs .can, .can] s u

/-- The gateway dropped something (09_gateway_and_culvert.md R372, R385, R398): counted once at `off`, GWY_ERR bit `i` set, with its event when the bit was 0; channels keep what they hold. -/
def GwyCounted (off : Nat) (i : Option Nat) (s u : State) : Prop :=
  Counted [(.gwy, off)] s u ∧ (∀ k, i = some k → u.flag .gwy 0x10 k = true ∧ (s.flag .gwy 0x10 k = false → Raised (1024 + k) [] s u)) ∧ Kept [(.gwy, 0x10)] s u ∧ u.can = s.can ∧ u.mvb = s.mvb ∧ u.prs = s.prs

/-- The header, length and foreign frame of a culvert frame (R378). -/
def culParts (f : Frame) : Nat × List Byte × List Byte × Bool :=
  let h := slice f.bytes ((etherAt 8 f.bytes 12).1) 20
  ((etherAt 8 f.bytes 12).1, h, slice f.bytes ((etherAt 8 f.bytes 12).1 + 20) (beAt h 16 2), (leAt h 1 1).testBit 0)

/-- Does a culvert frame pass checks 1 to 3 of R385 under the ingress rule with body `b`? -/
def culMatches (s : State) (b : List Byte) (f : Frame) : Prop :=
  let p := culParts f; let h := p.2.1; let fl := leAt b 0 1
  culHeaderOk (etherAt 8 f.bytes 12).2 h = true ∧ p.1 + 20 + beAt h 16 2 + (if p.2.2.2 then 16 else 0) ≤ s.frameEnd f ∧ (p.2.2.2 = false → beAt h 16 2 = foreignLen (leAt h 0 1 % 16) p.2.2.1 ∧ p.2.2.1.length = beAt h 16 2) ∧
    fl.testBit 0 = true ∧ fl.testBit 1 = false ∧ fl.testBit 2 = p.2.2.2 ∧ (leAt b 2 2 = 0xFFFF ∨ leAt b 2 2 / 2 = beAt h 2 2 / 2) ∧ (leAt b 4 2 = 0xFFFF ∨ leAt b 4 2 = beAt h 4 2)

/-- MVB channel `n` has moved to `new` (09_gateway_and_culvert.md R395), raising its event on a change. -/
def MvbMoved (n : Nat) (new : MvbKind) (s u : State) : Prop :=
  (u.mvbChan n).kind = new ∧ ((s.mvbChan n).kind ≠ new → ∃ m, Raised (896 + 64 * n) (p1 (s.mvbChan n).kind.code ++ (p1 new.code ++ p2 m)) s u)

/-- The counter at place `k` of the list of R400 has counted once on MVB channel `n`. -/
def MvbOnce (n k : Nat) (s u : State) : Prop := u.count .mvb (mvbReg n (0x400 + 8 * k)) = (s.count .mvb (mvbReg n (0x400 + 8 * k)) + 1) % 2 ^ 40

/-- A port command on path `p` ended with RESULT `r` and did nothing else (R402). -/
def PortAnswered (p : Path) (n r : Nat) (s u : State) : Prop := u.rd .mvb (portReg p n 0x108) = word r ∧ Kept [(.mvb, portReg p n 0x108)] s u ∧ Only [.regs .mvb] s u

/-- The window of path `p` shows a port or telegram of `size` bytes (R402), the command done. -/
def PortShows (p : Path) (n : Nat) (cfg : Word) (d : MvbData) (size : Nat) (s u : State) : Prop :=
  u.rd .mvb (portReg p n 0x108) = 0 ∧ u.rd .mvb (portReg p n 0x10C) = cfg ∧ u.rd64 .mvb (portReg p n 0x110) = d.stamp.ns % 2 ^ 64 ∧ u.rd .mvb (portReg p n 0x118) = word d.stamp.frac ∧
    u.rd .mvb (portReg p n 0x11C) = word d.seq ∧ (∀ i, i < 8 → u.rd .mvb (portReg p n (0x140 + 4 * i)) = (wordsOf (padTo 32 (padTo size d.bytes))).getD i 0) ∧ Only [.regs .mvb, .mvb] s u

/-- The poll entries of a master that are due in this basic period (R394). -/
def State.mvbDue (s : State) (n : Nat) : List Word :=
  (List.range (s.fld .mvb (mvbReg n 4) 12 0)).filterMap (fun i => ((recBody s.recs 0x0C n (0x2000 + i)).map (fun b => word (leAt b 0 4))).filter (fun w => (s.mvbChan n).basic % 2 ^ field w 19 16 == field w 29 20))

/-- Is a polled port one of this device's own source ports of that size? -/
def State.mvbOwns (s : State) (n : Nat) (w : Word) : Bool := mvbIsSource (s.mvbPortCfg n (field w 11 0)) && field (s.mvbPortCfg n (field w 11 0)) 26 24 == field w 14 12

/-- Items lie one behind the other from position `a` to position `b` (10_flumes.md R404, R405). -/
def chainedItems : Nat → List FlumeItem → Nat → Prop
  | a, [], b => a = b
  | a, i :: is, b => i.pos = a ∧ 1 ≤ i.slots ∧ chainedItems ((a + i.slots) % 2 ^ 32) is b

/-- A flume with a ring of `ring` slots holds together (R405, R410, R416): its items fill RL to WR, MK and RD stand at bounds of items in serial order, both copies agree, and the slots
held with all credits fit the ring. -/
def Flume.sound (ring : Nat) (f : Flume) : Prop :=
  f.rl < 2 ^ 32 ∧ chainedItems f.rl f.items f.wr ∧ (f.items.map (fun i => i.slots)).sum = fromTo f.rl f.wr ∧ fromTo f.rl f.mark ≤ fromTo f.rl f.rd ∧ fromTo f.rl f.rd ≤ fromTo f.rl f.wr ∧
    (f.rd = f.wr ∨ ∃ i ∈ f.items, i.pos = f.rd) ∧ (f.mark = f.wr ∨ ∃ i ∈ f.items, i.pos = f.mark) ∧ (f.wr2 = f.wr ∧ f.rd2 = f.rd ∧ f.mark2 = f.mark ∧ f.rl2 = f.rl) ∧
      Sparse.canon (fun _ => 0) f.credit = true ∧ fromTo f.rl f.wr + f.credits ≤ ring

/-- A flume command left RESULT `r` (R412, R413) and moved no position. -/
def FlumeAnswered (f r : Nat) (s u : State) : Prop := u.rd .flm (flumeReg f 0x28) = word r ∧ u.flm = s.flm ∧ Counted [] s u ∧ Kept [(.flm, flumeReg f 0x28), (.flm, 4)] s u ∧ Only [.regs .flm, .seq, .evt] s u

/-- Flume `f` was reset (R418): empty, at position 0, without credit, two grants owed to every producer; counted, and E1160 raised. -/
def FlumeResetDone (f cause code a b : Nat) (s u : State) : Prop :=
  u.flume f = { epoch := ((s.flume f).epoch + 1) % 2 ^ 16, owed := owedAll (s.flumeRole f) } ∧ (∀ g, g ≠ f → u.flume g = s.flume g) ∧
    Counted ((.flm, flumeReg f 0x70) :: List.replicate (s.flume f).items.length (.flm, flumeReg f 0x60)) s u ∧
      Raised 1160 (p2 f ++ (p1 cause ++ (p1 code ++ (p4 a ++ (p4 b ++ p4 (s.flume f).items.length))))) s u

/-- Bit `i` of HBR_ERR is set; its event is raised when it was clear (11_host_bridge.md R455). -/
def HbrFlagged (i : Nat) (s u : State) : Prop := u.flag .hbr 8 i = true ∧ (s.flag .hbr 8 i = false → Raised (1280 + i) [] s u)

/-- An access to window `w` is turned away (11_host_bridge.md R428): counted at `k`, bit `i` of HBR_ERR set, nothing else. -/
def WinRefused (k i : Nat) (s u : State) : Prop := Counted [(.hbr, k)] s u ∧ HbrFlagged i s u ∧ Kept [(.hbr, 8)] s u ∧ Only [.regs .hbr, .seq, .evt] s u

/-- The acknowledged write that was outstanding in `t` is over (11_host_bridge.md R431): the reads held before the next write take place, and that write is forwarded and counted; the
global counters at `ks` have counted too, and of HBR's words only those at `ws` changed. -/
def AckReleased (ks ws : List Nat) (t u : State) : Prop :=
  let later := t.hbr.held.dropWhile (·.read)
  u.hbr = { t.hbr with ack := later.head?, held := later.tail } ∧ Counted ((ks ++ (if later = [] then [] else [0x400])).map (fun k => (.hbr, k))) t u ∧
    (∀ a, a ∉ ws → u.rd .hbr a = t.rd .hbr a) ∧ Only [.regs .hbr, .regs .pin, .seq, .evt, .hbr, .paths] t u ∧
    (later = t.hbr.held → Kept (ws.map (fun a => (.hbr, a))) t u ∧ Only [.regs .hbr, .seq, .evt, .hbr] t u) ∧
    (∀ p, p ≠ Path.host → u.path p = t.path p)

/-- Firmware took the request at the head of mailbox flume `f` and offers the reply to the flume of ROLE 0x04 (11_host_bridge.md R450, R452, R453): same TYPE, TAG and LINK_EPOCH, this STATUS and body. -/
def MbxReplied (f status : Nat) (body : List Byte) (s u : State) : Prop := ∀ i, (s.flume f).head = some i →
  let rd := ((s.flume f).rd + i.slots) % 2 ^ 32; let b := i.bytes.take 2 ++ (leBytes 2 (16 + body.length) ++ (slice i.bytes 4 8 ++ (leBytes 2 status ++ ([0, 0] ++ body))))
  (u.flume f).rd = rd ∧ (u.flume f).mark = rd ∧ (u.flume f).rl = rd ∧ (u.flume f).wr = (s.flume f).wr ∧ (∀ g, g ≠ f → s.flumeWithRole 4 ≠ some g → u.flume g = s.flume g) ∧
    Kept [] s u ∧ (∀ a, u.count .hbr a = s.count .hbr a) ∧
    (s.flumeWithRole 4 = none → Counted [(.flm, flumeReg f 0x50)] s u) ∧ (∀ g, s.flumeWithRole 4 = some g →
      (slotsOf b.length ≤ s.flumeMaxItem g → slotsOf b.length ≤ (s.flume g).creditOf 0 → (u.flume g).items = (s.flume g).items ++ [⟨0, slotsOf b.length, (s.flume g).wr, b⟩] ∧
        (u.flume g).creditOf 0 = (s.flume g).creditOf 0 - slotsOf b.length) ∧
      (s.flumeMaxItem g < slotsOf b.length ∨ (s.flume g).creditOf 0 < slotsOf b.length → u.flume g = s.flume g ∧ Counted [(.flm, flumeReg f 0x50), (.flm, flumeReg g 0x58)] s u))

/-- The host link moves to a state with E1296 (11_host_bridge.md R447). -/
def HostLinkMoved (new : HostLink) (s u : State) : Prop :=
  u.hbr.link = new ∧ Raised 1296 (p1 s.hbr.link.code ++ (p1 new.code ++ (p4 (u.rd .hbr 0xC).toNat ++ (p1 u.hbr.speed ++ p1 u.hbr.width)))) s u

/-- `n` entries of one ring of queue pair `q` are complete (11_host_bridge.md R437, R444, R445, R457): HEAD is past them, and the bridge has issued `outs`, oldest first, then the head writeback, then the vector, where
COUNT, `atOnce` and IRQ_EN say so; a masked vector is pending instead. -/
def EntriesDone (q : Nat) (tx : Bool) (n : Nat) (atOnce : Bool) (outs : List Output) (s u : State) : Prop :=
  let irq := s.rd .hbr (qpReg q 0x24); let v := field irq 31 21; let fresh := (s.qp q).fresh + n; let wb := s.rd64 .hbr (qpReg q 0x18); let unmasked := Sparse.get (fun _ => false) s.hbr.unmasked v
  let due := bit irq 20 && (field irq 19 12 = 0 || atOnce || field irq 19 12 ≤ fresh); let pends := fun (t : State) (w : Nat) => Sparse.get (fun _ => false) t.hbr.irq w
  let note := if wb = 0 then [] else [Output.host wb (leBytes 4 (u.qpHead q true) ++ (leBytes 4 (u.qpHead q false) ++ (leBytes 4 (s.rd .hbr 0xC).toNat ++ [0, 0, 0, 0])))]
  u.qpHead q tx = (s.qpHead q tx + n) % s.qpSize q tx ∧ u.qpHead q (!tx) = s.qpHead q (!tx) ∧ (u.qp q).fresh = (if due then 0 else fresh) ∧ u.out = (if due && unmasked then [.msix v] else []) ++ (note ++ (outs.reverse ++ s.out)) ∧
    pends u v = (pends s v || (due && !unmasked)) ∧ (∀ w, w ≠ v → pends u w = pends s w) ∧ (∀ k, k ≠ q → u.qp k = s.qp k)

/-- The transmit side of queue pair `q` stopped (11_host_bridge.md R438, R439): the next `n` descriptors are written back with this STATUS, DONE and zeros; ERR, E1285 and E1297 say why; the receive side runs on. -/
def TxStopped (q n status err : Nat) (s u : State) : Prop :=
  EntriesDone q true n false ((List.range n).map (fun i => Output.host (s.rd64 .hbr (qpReg q 8) + 32 * ((s.qpHead q true + i) % s.qpSize q true) + 16)
    (List.replicate 10 0 ++ ([byte status, byte (128 + (s.rd .hbr 0xC).toNat % 128)] ++ List.replicate 4 0)))) s u ∧
  (u.qp q).tx = .stopped ∧ (u.qp q).err = err ∧ (u.qp q).rx = (s.qp q).rx ∧ HbrFlagged 5 s u ∧ Raised 1297 (p2 q ++ p1 err) s u ∧ Counted [] s u ∧ Kept [(.hbr, 8), (.hbr, qpReg q 0x2C)] s u ∧
    Only [.regs .hbr, .seq, .evt, .hbr, .out] s u

/-- The first item of flume `f` was taken and released (10_flumes.md R413). -/
def ItemTaken (f : Nat) (i : FlumeItem) (s u : State) : Prop :=
  let rd := ((s.flume f).rd + i.slots) % 2 ^ 32
  (u.flume f).rd = rd ∧ (u.flume f).mark = rd ∧ (u.flume f).rl = rd ∧ (u.flume f).wr = (s.flume f).wr ∧ (u.flume f).credit = (s.flume f).credit ∧ (∀ g, g ≠ f → u.flume g = s.flume g)

/-- Event `e` was raised with this payload between `s` and `u`, whatever the time by then. -/
def Told (e : Nat) (payload : List Byte) (s u : State) : Prop :=
  ∃ (l : List EventRec) (r : EventRec), u.evt.offered = s.evt.offered ++ l ∧ r ∈ l ∧ r.source = e ∧ r.payload = padTo 16 payload

/-- Bit `i` of TDM_ERR is set; its event is raised when it was clear, with bit detail 0 (14_tandem_redundancy.md R560; 15_management_events_health.md R572). -/
def TdmFlagged (i : Nat) (s u : State) : Prop := u.flag .tdm 0x1C i = true ∧ (s.flag .tdm 0x1C i = false → Raised (1544 + i) (p4 0) s u)

/-- The mirrored store is empty. -/
def MirrorEmpty (u : State) : Prop := u.tdm.cb = [] ∧ u.tdm.ring = [] ∧ u.tdm.flume = [] ∧ u.tdm.gw = []

/-- A standby lost the sequence (14_tandem_redundancy.md R540, R541): SYNCED is 0, its mirrored state is discarded, RESYNC_REQ waits to go out, and it is in RESYNC,
unless a resolution runs. -/
def SequenceLost (s u : State) : Prop :=
  u.tdm.synced = false ∧ u.tdm.applied = none ∧ u.tdm.state = (if s.tdm.state = .resolving then .resolving else .resync) ∧ MirrorEmpty u ∧ u.tdm.tx = s.tdm.tx ++ [⟨1, 6, s.tdm.nextSeq, [], false⟩] ∧ u.tdm.active = s.tdm.active ∧
    u.table 0 = (s.table 0).filter (fun e => e.fixed) ∧ (s.tdm.state ≠ .resync → s.tdm.state ≠ .resolving → Raised 1536 (p1 s.tdm.state.code ++ (p1 4 ++ p1 s.tdm.active.toNat)) s u) ∧ Kept [] s u ∧ Counted [] s u ∧ Only [.seq, .evt, .tbl, .tdm] s u

/-- Command `c` is a row that brings a tandem record of this TYPE (14_tandem_redundancy.md R538). -/
def RecordRow (pairId seq : Word) (body : List Byte) (c : Instr) (type : Nat) : Prop := (c, type) ∈
  [(.identityRx pairId seq body, 0x01), (.heartbeatRx pairId seq body, 0x02), (.tandemArmRx pairId seq body, 0x03), (.tandemAbortRx pairId seq body, 0x04), (.resolveRequestRx pairId seq body, 0x05),
   (.resolveResultRx pairId seq body, 0x05), (.resyncReqRx pairId seq body, 0x06), (.switchRx pairId seq body, 0x07), (.learnRecordRx pairId seq body, 0x10), (.cbRecordRx pairId seq body, 0x11),
   (.ringRecordRx pairId seq body, 0x12), (.flumeRecordRx pairId seq body, 0x13), (.gwlastRecordRx pairId seq body, 0x14), (.bulkStartRx pairId seq body, 0x15), (.bulkEndRx pairId seq body, 0x16),
   (.digestRecordRx pairId seq body, 0x20)]

/-- A record passes checks 1 to 4 of 14_tandem_redundancy.md R539: length, PAIR_ID, ranges. -/
def RecordPasses (type pairId : Nat) (body : List Byte) (s : State) : Prop :=
  impliedLength type body = some body.length ∧ (∀ p, s.tdm.partner = some p → pairId = p.pairId) ∧ (s.tdm.partner = none → type = 1 ∨ type = 2) ∧ inRanges type body = true

/-- Ports, CAN channels and MVB channels have followed a change of role (14_tandem_redundancy.md R534, R541, R553, R555): all but TL leave STANDBY with the active role, and enter it with the standby role. -/
def RoleFollowed (s u : State) : Prop :=
  (s.tdm.active = false → u.tdm.active = true → (∀ p, p < 29 → p ≠ 4 → (u.port p).state = if (s.port p).state = .standby then .up else (s.port p).state) ∧
    (∀ n, n < 32 → (u.chan n).kind = if (s.chan n).kind = .standby then .integrating else (s.chan n).kind) ∧ (∀ n, n < 2 → (u.mvbChan n).kind = if (s.mvbChan n).kind = .standby then .init else (s.mvbChan n).kind)) ∧
  (s.tdm.active = true → u.tdm.active = false → (∀ p, p < 29 → p ≠ 4 → (u.port p).state = if (s.port p).state = .up then .standby else (s.port p).state) ∧
    (∀ n, n < 32 → (u.chan n).kind = if (s.chan n).kind = .absent ∨ (s.chan n).kind = .roadworks then (s.chan n).kind else .standby) ∧
      (∀ n, n < 2 → (u.mvbChan n).kind = if (s.mvbChan n).kind = .absent ∨ (s.mvbChan n).kind = .roadworks then (s.mvbChan n).kind else .standby)) ∧
  (s.tdm.active = u.tdm.active → (∀ p, (u.port p).state = (s.port p).state) ∧ (∀ n, (u.chan n).kind = (s.chan n).kind) ∧ (∀ n, (u.mvbChan n).kind = (s.mvbChan n).kind)) ∧ (u.port 4).state = (s.port 4).state

/-- The member has moved to a state, with E1536 (14_tandem_redundancy.md R541, R560). -/
def MemberIn (k : TdmKind) (s u : State) : Prop := u.tdm.state = k ∧ (s.tdm.state ≠ k → Told 1536 (p1 s.tdm.state.code ++ (p1 k.code ++ p1 u.tdm.active.toNat)) s u)

/-- No pairing is left; one that was ended did so with E1538, an empty transmit buffer, HOLDOFF running and, without random numbers, PAIR_ID from the island count (14_tandem_redundancy.md R542). -/
def Unpaired (cause : Nat) (s u : State) : Prop :=
  u.tdm.partner = none ∧ (s.tdm.partner ≠ none → u.tdm.tx = [] ∧ u.tdm.nextSeq = 0 ∧ u.tdm.sentSeq = 0xFFFFFFFF ∧ u.tdm.applied = none ∧ u.tdm.synced = false ∧ u.tdm.hbOk = false ∧ u.tdm.hbLost = false ∧ u.tdm.mmRun = 0 ∧
    u.tdm.holdoff = true ∧ Told 1538 (p1 cause) s u ∧ (s.rngOk = false → u.rd .tdm 0x20 = word s.islandCount) ∧
      (s.rngOk = true → ∃ k, s.free ≤ k ∧ u.rd .tdm 0x20 = word (le ((List.range 4).map (fun i => Config.freeByte (k + i))))))

/-- The member has entered FAULTY (14_tandem_redundancy.md R541, R551). -/
def FaultyNow (detail cause : Nat) (s u : State) : Prop :=
  MemberIn .faulty s u ∧ u.tdm.active = false ∧ RoleFollowed s u ∧ u.tdm.tfailOut = false ∧ u.tdm.resolution = none ∧ Told 1542 (p4 detail ++ p1 9) s u ∧ Unpaired cause s u

/-- The body of the IDENTITY that a member sends (14_tandem_redundancy.md R538). -/
def identityBody (s : State) : List Byte :=
  [byte s.tdm.position, byte s.tdm.state.code, byte s.tdm.active.toNat, 0] ++ (beBytes 8 s.idHash ++ (beBytes 4 s.epoch ++ (beBytes 2 (s.fld .img 0x1C 15 0) ++ ([0, 0] ++ bytesOf (s.rds .img 0x80 12)))))
/-- The body of the HEARTBEAT that a member sends (14_tandem_redundancy.md R538). -/
def heartbeatBody (s : State) : List Byte :=
  [byte s.tdm.state.code, byte s.tdm.active.toNat, byte (s.tdm.synced.toNat + 2 * s.tdm.degraded.toNat + 4 * s.lmp.sleepReq.toNat + 8 * (decide (s.tdm.state = .frozen)).toNat), 0] ++
    (beBytes 4 s.epoch ++ (beBytes 2 (s.fld .img 0x1C 15 0) ++ (beBytes 2 ((s.ringOf 0).kind.code + 8 * (s.ringOf 1).kind.code + 64 * (s.ringOf 2).kind.code + 512 * (s.ringOf 3).kind.code) ++ (bytesOf (s.rds .img 0x80 12)).take 8)))

/-- Flash and every register file and counter file are in their one canonical form: keys strictly rising, no entry equal to what an unlisted key reads as. -/
def State.stored (s : State) : Prop :=
  Memory.wf s.flash = true ∧ ∀ b : Block, Sparse.canon (resetWord b) (s.regs.get b).word = true ∧ Sparse.canon (fun _ => (0 : BitVec 40)) (s.regs.get b).count = true

end Sys2Proof.Machine
end

