-- ==== Sys2Proof/Certificates/Slice0/Obligations.lean ====
section
/-!
DEFINITION. The statements for the provers: what the commands of each family do, what they leave unchanged, and what every step keeps.
-/
open Sys2Proof Sys2Proof.Machine

/-- With a command at the front of the queue, a step is that command's effect on the state with the queue's rest. -/
def Obligations.StepRunsFront : Prop := ∀ (c : Instr) (cs : List Instr) (s : State), step { s with pending := c :: cs } = exec c { s with pending := cs }

/-- DESIGN CHOICE (notes/assumptions/1.md): on an empty queue a step is one period of the 25 MHz oscillator. The island count runs on in every state (13_wake_sleep_power.md
R498); while device reset is held nothing else moves; otherwise every enabled domain advances by its own rate (03_time_and_order.md R106) and the 80 MHz start-of-frame
count by 3.2 (08_can_controllers.md R346), and no register, flash byte, fuse or output changes. -/
def Obligations.EmptyQueueLetsTimePass : Prop := ∀ s : State, s.pending = [] → ∃ t, step s = .next t ∧ t.lmp = { s.lmp with clock := s.lmp.clock + 512 } ∧
  (s.lmp.held = true → Only [.lmp] s t) ∧
  (s.lmp.held = false → t.can.sofc = s.can.sofc + 16 ∧ (∀ d, d < 4 → t.dom d = (s.dom d).ticked) ∧ (∀ b a, t.rd b a = s.rd b a) ∧
    Only [.regs .tkp, .tkp, .net, .can, .lmp, .seq, .evt] s t)

/-- The machine right after reset (17_register_map.md R644, 00_scope.md R15): storage is canonical, nothing waits, every counter reads 0, and the registers listed answer a
host read with the value that the register map's Reset column gives. The model's choices, no rule of the spec: that flash reads as erased (notes/assumptions/3.md), that
no fuse is blown (8), that no identity and revision are fused (6), and that the island has reached RUN (18). -/
def Obligations.ResetLeavesStatedValues : Prop :=  State.reset.stored ∧ State.reset.pending = [] ∧ (∀ b a, State.reset.count b a = 0) ∧ (∀ a, Sparse.get (fun _ => (0xFF : Byte)) State.reset.flash a = 0xFF) ∧
  State.reset.fuses = { revision := 0, rollback := 0, clockId := 0, fwkey0Revoked := false, signerRevoked := 0, anchor := none } ∧ State.reset.lmp.held = false ∧ State.reset.lmp.kind = .run ∧
  (∀ x ∈ ([(.img, 0, 0xA0002), (.img, 4, 1), (.img, 8, 3), (.img, 0x20, 3), (.tkp, 4, 1), (.tkp, 0x30, 0x3E80000), (.tkp, 0x38, 0x5F5E100), (.tkp, 0x50, 0x12C), (.tkp, 0x1000, 9), (.tkp, 0x1100, 0x108),
      (.tkp, 0x1200, 0x208), (.tkp, 0x1300, 0x308), (.tkp, 0x1004, 1), (.tkp, 0x1008, 0xFEF8F8F8), (.tkp, 0x1048, 0x30300FD), (.tkp, 0x8000, 0x10001)] : List (Block × Nat × Nat)),
    (State.reset.look .host x.1 x.2.1).toNat = x.2.2) ∧
  (∀ p, p < 21 → ∀ x ∈ ([(8, 0x1F402801), (0x10, 0), (0x14, 0x800), (0x40, 0xFFFF2064), (0x44, 0x7FFF0000)] : List (Nat × Nat)), (State.reset.look .host .eth (ethReg p x.1)).toNat = x.2) ∧
  (∀ w ∈ [0, 5, 2048], ∀ x ∈ ([(0, 0x38), (4, 0xBEBC20), (0xC, 0x1000000), (0x18, 0x40000000), (0x1C, 0xF42)] : List (Nat × Nat)), (State.reset.look .host .prs (0x100000 + 0x80 * w + x.1)).toNat = x.2) ∧
  (∀ x ∈ ([(.tbl, 0xC, 0xFFF0000), (.tbl, 0x10, 0xFF00), (.tbl, 0x8000, 0x8000012C), (.xbr, 0, 7), (.xbr, 4, 0x1F00), (.xbr, 0xC, 0x3E80004), (.xbr, 0x16C, 6), (.cis, 0, 0x96804000), (.cis, 4, 0x3E80040),
      (.cis, 0x18, 0x7F000), (.cis, 0x1C, 0x7F000), (.egr, 4, 0xFF0000), (.can, 4, 0x6480), (.can, 0x20, 0xC0), (.mvb, 4, 0x40000), (.mvb, 8, 0xA12C01AB), (.gwy, 0, 0), (.flm, 0, 0), (.hbr, 0, 0x1900320A),
      (.hbr, 4, 0), (.hbr, 0xC, 0), (.hbr, 0x100, 0x2000000C), (.hbr, 0x10020, 0x33), (.key, 0, 0x40), (.key, 0xC, 0x23), (.lmp, 0, 2), (.lmp, 0x14, 0x25), (.lmp, 0x20, 0x5320A32), (.lmp, 0x24, 0x1401),
      (.tdm, 0, 0x40140064), (.tdm, 4, 0x19403C10), (.tdm, 8, 0x32320000), (.tdm, 0xC, 0x3E8), (.tdm, 0x10, 0xFFFFFFFF), (.tdm, 0x18, 0xF00100), (.evt, 0x10000, 0x7FF07FF), (.mgt, 0, 0x100),
      (.mgt, 8, 0x80000032), (.mgt, 0x14, 0x8000000A), (.pin, 8, 0x73500200), (.pin, 0xC, 0xFFFF), (.pin, 0x100, 0x4000000), (.pin, 0x8000, 0x20320064), (.pin, 0x8004, 0x64320A0A)] : List (Block × Nat × Nat)),
    (State.reset.look .host x.1 x.2.1).toNat = x.2.2)

/-- Every step keeps flash, the register files and the counter files in their canonical form, so equal contents are equal data, whatever the command and whatever the state
before held beside. -/
def Obligations.StorageStaysCanonical : Prop := ∀ s t : State, s.stored → step s = .next t → t.stored

/-- Fuses only blow (12_keys_and_attestation.md R490-R492): from any state, whatever the step does, resets included, no rollback count falls, no revocation is undone, an
anchor once fused stays, and the silicon revision and the identity stand. -/
def Obligations.FusesOnlyBlow : Prop := ∀ s t : State, step s = .next t → t.fuses.grownFrom s.fuses

/-- What follows every command at once (15_management_events_health.md R573-R576, 14_tandem_redundancy.md R535-R537, 04_ethernet_ports.md R158): with no event record offered,
no tandem record and no gPTP message waiting nothing changes; otherwise only routes, holds, flumes, counters, errors, the tandem buffer, the ports' wires, the pending
requests of the peer delay and the fieldbus lane can change, and no command waiting. A
record without a destination counts in evt.no_route with EVT_ERR bit 0 and E1624; a record for a flume whose hold is taken replaces the held one, counts in evt.coalesced
with bit 1 and E1625; a record that its flume accepts counts as delivered; one that it refuses is held. That these happen within the command's own step is the model's
choice (notes/assumptions/15.md). -/
def Obligations.SettleDeliversRecords : Prop := ∀ s : State,
  (s.evt.offered = [] → s.tdm.tx = [] → (∀ p, (s.port p).ptpWait = []) → s.settle = s) ∧
  Only [.regs .tkp, .regs .eth, .regs .prs, .regs .xbr, .regs .gwy, .regs .flm, .regs .tdm, .regs .evt, .seq, .tkp, .flm, .evt, .net, .prs, .cis, .tdm, .gwy, .mf, .out] s s.settle ∧
  (∀ r : EventRec, s.tdm.tx = [] → (∀ p, (s.port p).ptpWait = []) → s.evt.offered = [r] → s.routeFlumes r.source = [] → s.routeCulvert r.source = none → s.flag .evt 4 0 = true → s.count .evt 0x400 < 2 ^ 39 - 1 →
    s.count .evt 0x418 < 2 ^ 39 - 1 → s.settle.evt = { s.evt with offered := [] } ∧ Counted [(.evt, 0x400), (.evt, 0x418)] s s.settle ∧ Kept [] s s.settle ∧ Only [.regs .evt, .evt] s s.settle) ∧
  (∀ r : EventRec, s.routeFlumes r.source = [] → s.routeCulvert r.source = none → let u := s.deliver r
    u.flag .evt 4 0 = true ∧ (s.flag .evt 4 0 = false → Raised 1624 (p2 r.source) s u) ∧ Counted [(.evt, 0x400), (.evt, 0x418)] s u ∧ Kept [(.evt, 4)] s u ∧ Only [.regs .evt, .seq, .evt] s u) ∧
  (∀ (f : Nat) (r : EventRec), (s.hold f r.source).isSome = true → let u := s.offerRecord f r
    u.hold f r.source = some r ∧ (∀ g e, holdKey g e ≠ holdKey f r.source → u.hold g e = s.hold g e) ∧ u.flag .evt 4 1 = true ∧ Counted [(.evt, 0x410)] s u ∧
      (s.flag .evt 4 1 = false → Raised 1625 (p2 r.source) s u) ∧ Kept [(.evt, 4)] s u ∧ Only [.regs .evt, .seq, .evt] s u) ∧
  (∀ (f : Nat) (r : EventRec), s.hold f r.source = none → s.flumePresent f = true → let u := s.offerRecord f r
    let n := slotsOf r.bytes.length
    let p := producerOf r.source
    ((1 ≤ n ∧ n ≤ s.flumeMaxItem f ∧ n ≤ (s.flume f).creditOf p) → (u.flume f).items = (s.flume f).items ++ [⟨p, n, (s.flume f).wr, r.bytes⟩] ∧ (u.flume f).wr = ((s.flume f).wr + n) % 2 ^ 32 ∧
      (u.flume f).creditOf p = (s.flume f).creditOf p - n ∧ u.count .evt 0x408 = (s.count .evt 0x408 + 1) % 2 ^ 40 ∧ u.evt.hold = s.evt.hold ∧ (∀ g, g ≠ f → u.flume g = s.flume g)) ∧
    (¬(1 ≤ n ∧ n ≤ s.flumeMaxItem f ∧ n ≤ (s.flume f).creditOf p) → u.hold f r.source = some r ∧ u.flm = s.flm ∧ u.count .evt 0x408 = s.count .evt 0x408 ∧
      u.count .flm (flumeReg f 0x58) = (s.count .flm (flumeReg f 0x58) + 1) % 2 ^ 40))

/-- Roadworks on request (15_management_events_health.md R586-R588): START is refused in the eight cases of R588 and no other, with REASON, E1604 and a count, and otherwise
takes the unit out and enters ENTERING; a unit that is out is tested or held; RELEASE starts the test; the test's end gives RESULT, E1602 and the unit's fate. Which
reason is given where several apply is the model's choice (notes/assumptions/33.md). The ends of roadworks (02_ikiem_images.md R88, R89; 04_ethernet_ports.md R149;
06_switch_core.md R268, R275; 08_can_controllers.md R328): a unit that the engine tests ends as its passed test; a unit that a commit took out comes back and leaves the
commit's list; a bank drained loses its frames; a lane's or bank's self-test decides what becomes of it; the first bus idle after a commit takes the channel out. -/
def Obligations.RoadworksEngineAndReturn : Prop :=
  (∀ (s : State) (kind index action reason : Nat), s.lmp.held = false → kind = field (s.rd .mgt 0x20) 18 16 → index = field (s.rd .mgt 0x20) 5 0 →
    action = field (s.rd .mgt 0x20) 31 28 → reason = s.rwRefusal kind index action → let out := (s.lane index).state
  (reason = 0 ↔ action ≤ 1 ∧ index < rwCount kind ∧ s.mgt.rw.state = .idle ∧ s.rwCommitted kind index = false ∧ s.img.state ≠ .armed ∧ s.img.state ≠ .committing ∧ s.rwPresent kind index = true ∧
    ¬(kind = 0 ∧ index = 4 ∧ s.tdm.state ≠ .solo) ∧ ¬(kind = 2 ∧ index = 27 ∧ s.spareBusy = true) ∧ ¬(kind = 2 ∧ index ≠ 27 ∧ out = .inService ∧ (s.spareBusy = true ∨ s.xbr.spareDead = true)) ∧
    ¬(kind = 3 ∧ s.bankIn index = false) ∧ ¬(kind = 2 ∧ (out = .remapping ∨ out = .out)) ∧ ¬(kind = 3 ∧ s.retireLimit = true)) ∧
  (reason ≠ 0 → RunsLink .rwStart s (fun u => u.fld .mgt 0x28 15 12 = reason ∧ u.fld .mgt 0x28 9 8 = s.fld .mgt 0x28 9 8 ∧ Raised 1604 (p1 kind ++ (p2 index ++ p1 reason)) s u ∧
    (kind = 2 → reason ≤ 2 → Raised 536 (p2 index ++ p1 reason) s u) ∧ Kept [(.mgt, 0x28)] s u ∧ Counted [(.mgt, 0x440)] s u ∧ Only [.regs .mgt, .seq, .evt] s u)) ∧
  (reason = 0 → RunsLink .rwStart s (fun u => u.mgt.rw = ⟨.entering, kind, index, action == 1⟩ ∧ u.fld .mgt 0x28 9 8 = 3 ∧
    (kind = 0 → (s.port index).state ≠ .roadworks → LinkMoved index .roadworks s u ∧ EpochEnded index false [] s u) ∧ (kind = 1 → (u.chan index).kind = .roadworks) ∧
    (kind = 2 → index < 27 → (u.lane index).state = .roadworksOnSpare ∧ (out = .inService → u.xbr.spareFor = some index)) ∧ (kind = 2 → index = 27 → u.xbr.spareTest = true) ∧
    (kind = 3 → (u.bank index).state = .retiring true) ∧ (kind = 4 → u.tbl = { s.tbl with works := s.tbl.works ++ [index] }))) ∧
  (Runs .rwUnitOut s (fun u => let r := s.mgt.rw; u = if r.state = .entering ∧ s.isOut r.kind r.index = true then s.setRw (if r.hold then .held else .testing) else s)) ∧
  (Runs .rwRelease s (fun u => u = if s.mgt.rw.state = .held then s.setRw .testing else s)) ∧
  (∀ pass, (s.mgt.rw.state = .testing → RunsLink (.rwTestDone pass) s (RwTested pass s)) ∧ (s.mgt.rw.state ≠ .testing → RunsLink (.rwTestDone pass) s (fun u => u = s)))) ∧
  (∀ s : State,
  (∀ p : Port, (s.rwServes 0 p.val = true → s.mgt.rw.state = .testing → RunsLink (.portRoadworksEnd p) s (RwTested true s)) ∧
    (s.rwServes 0 p.val = false → (s.port p.val).state = .roadworks → RunsLink (.portRoadworksEnd p) s (fun u => UnitBack 0 p.val s u ∧ u.img = { s.img with works := s.img.works.erase (.port p.val) } ∧
      Kept [] s u ∧ Only [.regs .eth, .net, .seq, .evt, .img] s u))) ∧
  (∀ n : Fin 32, (s.rwServes 1 n.val = true → s.mgt.rw.state = .testing → Runs (.canRoadworksEnd n) s (RwTested true s)) ∧
    (s.rwServes 1 n.val = false → (s.chan n.val).kind = .roadworks → Runs (.canRoadworksEnd n) s (fun u => UnitBack 1 n.val s u ∧ u.img = { s.img with works := s.img.works.erase (.can n.val) } ∧
      (∀ b, b ≠ .can → b ≠ .tdm → ∀ a, u.rd b a = s.rd b a))) ∧
    (s.img.works.contains (.can n.val) = true → Runs (.firstBusIdle n) s (fun u => (u.chan n.val).kind = .roadworks ∧ ((s.chan n.val).kind ≠ .roadworks → (u.chan n.val).txq = [] ∧ (u.chan n.val).rxq = [] ∧
      ∀ m, m < 4 → u.rd .can (canReg n.val (0x60 + 4 * m)) = 0) ∧ Only [.regs .can, .regs .tdm, .can, .tdm, .lmp, .seq, .evt] s u)) ∧
    (s.img.works.contains (.can n.val) = false → Runs (.firstBusIdle n) s (fun u => u = s))) ∧
  (∀ n : Fin 2, ((s.mvbChan n.val).kind = .roadworks → Runs (.mvbRoadworksEnd n) s (fun u => (u.mvbChan n.val).kind ≠ .roadworks ∧ Restarted .mvb (mvbReg n.val 0x400) (mvbReg n.val 0x450) s u ∧
      u.img = { s.img with works := s.img.works.erase (.mvb n.val) } ∧ Only [.regs .mvb, .mvb, .seq, .evt, .img] s u)) ∧
    ((s.mvbChan n.val).kind ≠ .roadworks → Runs (.mvbRoadworksEnd n) s (fun u => u = s))) ∧
  (∀ t : Fin 31, (s.rwServes 4 t.val = true → s.mgt.rw.state = .testing → Runs (.tableRoadworksEnd t) s (RwTested true s)) ∧ (s.rwServes 4 t.val = false → s.tbl.works.contains t.val = true →
      Runs (.tableRoadworksEnd t) s (fun u => u.tbl = { s.tbl with works := s.tbl.works.filter (fun x => x != t.val) } ∧ u.img = { s.img with works := s.img.works.erase (.table t.val) } ∧
        Only [.tbl, .img] s u))) ∧
  (Runs .parserRoadworksEnd s (fun u => u.prs = { s.prs with roadworks := false } ∧ u.img = { s.img with works := s.img.works.erase .parser } ∧
    (∀ a, u.count .prs a = if (0x400 ≤ a ∧ a < 0x420) ∨ (0x1000 ≤ a ∧ a < 0x2000) then 0 else s.count .prs a) ∧ Kept [] s u ∧ Only [.regs .prs, .prs, .evt, .img] s u)) ∧
  (∀ (l : Fin 28) (pass : Bool), (s.rwServes 2 l.val = true → s.mgt.rw.state = .testing → Runs (.laneSelftestDone l pass) s (RwTested pass s)) ∧ (s.rwServes 2 l.val = false →
      Runs (.laneSelftestDone l pass) s (fun u => (pass = true → UnitBack 2 l.val s u) ∧ (pass = false → UnitFailed 2 l.val s u) ∧ Only [.regs .xbr, .xbr, .seq, .evt] s u))) ∧
  (∀ (b : Fin 64) (works : Bool), (s.bank b.val).state = .retiring works → (s.bank b.val).stopped = true → Runs (.bankDrainDone b) s (fun u => (u.bank b.val).state = (if works then .roadworks else .retired) ∧
      (∀ h ∈ s.cis.held, h.banks.contains b.val = true → h.failed = false → ∀ c ∈ u.cis.copies, c.frame = h.frame.id → s.net.egr.any (fun e => e.2.wire.any (fun w => w.copy == c.id)) = true) ∧
        Counted (List.replicate (s.cis.held.filter (fun h => h.banks.contains b.val && !h.failed)).length (.cis, 0x438)) s u ∧ Kept [] s u ∧ Only [.regs .cis, .cis, .xbr, .seq, .evt] s u)) ∧
  (∀ (b : Fin 64) (pass : Bool), (s.rwServes 3 b.val = true → s.mgt.rw.state = .testing → Runs (.bankBistDone b pass) s (RwTested pass s)) ∧ (s.rwServes 3 b.val = false →
      Runs (.bankBistDone b pass) s (fun u => (pass = true → UnitBack 3 b.val s u) ∧ (pass = false → (s.bank b.val).state = .roadworks → (u.bank b.val).state = .retired ∧ Raised 542 (p2 b.val ++ p1 1) s u) ∧
        Only [.regs .cis, .cis, .seq, .evt] s u))))

/-- A read of a register address (00_scope.md R9-R11, R13, R16): a _LO register returns the low half and latches the high half for the path, whatever was latched before; a
_HI register returns the latched half where the path has read a _LO, else the live one, and keeps the latch; an address of the inspection alias returns what the live
address holds and latches nothing. Other paths' latches, stages and answers stand. A misaligned or wrongly sized access (00_scope.md R4): a read answers 0xFFFF_FFFF, a
write below the alias does nothing. A write through the inspection alias, aligned or not, changes no register, raises E1603 with the path and the address, and counts once
in mgt.alias.write (R14). -/
def Obligations.ReadsAndStrayAccesses : Prop :=
  (∀ (s : State) (path : Path) (addr : Nat), s.lmp.held = false → addr % 4 = 0 →
  (addr < mirrorBase → ∀ b off, locate addr = some (b, off) → s.serves path b off = true →
    (wideLow b off = true → Runs (.loReadLatch path addr) s (fun u => (u.path path).lastRead = s.look path b off ∧
      (u.path path).latch = some (addr, s.look path b (off + 4), if wideFrac b (off + 8) then s.look path b (off + 8) else 0) ∧
        (u.path path).stage = (s.path path).stage ∧ (∀ q, q ≠ path → u.path q = s.path q) ∧ Only [.paths] s u)) ∧
    (wideLow b off = false → wideHigh b off = true → Runs (.loReadLatch path addr) s (fun u =>
      (∀ l, (s.path path).latch = some l → (u.path path).lastRead = l.2.1) ∧ ((s.path path).latch = none → (u.path path).lastRead = s.look path b off) ∧
        (u.path path).latch = (s.path path).latch ∧ (u.path path).stage = (s.path path).stage ∧ (∀ q, q ≠ path → u.path q = s.path q) ∧ Only [.paths] s u))) ∧
  (mirrorBase ≤ addr → addr < 2 * mirrorBase → Runs (.loReadLatch path addr) s (fun u => (u.path path).lastRead = s.lookAt path (addr - mirrorBase) ∧
    (u.path path).latch = (s.path path).latch ∧ (u.path path).stage = (s.path path).stage ∧ (∀ q, q ≠ path → u.path q = s.path q) ∧ Only [.paths] s u))) ∧
  (∀ (s : State) (path : Path) (addr size : Nat) (v : Word), s.lmp.held = false →
  Runs (.misalignedAccess path addr size false) s (fun u => (u.path path).lastRead = 0xFFFFFFFF ∧ (u.path path).latch = (s.path path).latch ∧
    (∀ q, q ≠ path → u.path q = s.path q) ∧ Only [.paths] s u) ∧
  (addr < mirrorBase → Runs (.misalignedAccess path addr size true) s (fun u => u = s)) ∧
  (inAlias addr = true → let stray := fun (u : State) => Raised 1603 (p1 (pathIndex path) ++ p4 addr) s u ∧ Kept [] s u ∧ Counted [(.mgt, 0x450)] s u ∧ Only [.regs .mgt, .seq, .evt] s u
    Runs (.misalignedAccess path addr size true) s stray ∧ Runs (.aliasWrite path addr v) s stray))

/-- Writing a 64-bit value (00_scope.md R12), for TKP_SET_NS, LMP_ALARM, every Ethernet port's SEC_TX_SCI and SEC_PN_THRESH and the addresses of a queue pair that is off: a
write of _LO stages and stores nothing; a write of _HI stores the half staged for that value, or keeps the current one where the path has nothing staged, with the high half
written, each by its access code, and uses the stage up. A plain register write (00_scope.md R6): wherever the register map lists a narrow register on whose write nothing
else acts, an aligned write sets the RW bits, clears the W1C bits written with 1 and keeps the rest, as the field's limits allow; a write where no row lists a register
changes nothing (17_register_map.md R642). -/
def Obligations.WritesStoreByWidthAndAccessCode : Prop :=
  (∀ (s : State) (path : Path) (v : Word) (b : Block) (off : Nat), s.lmp.held = false → s.widePair b off →
  RunsLink (.loWriteStage path (b.base + off) v) s (fun u => (u.path path).stage = some (b.base + off, v) ∧ (u.path path).latch = (s.path path).latch ∧
    (u.path path).lastRead = (s.path path).lastRead ∧ (∀ q, q ≠ path → u.path q = s.path q) ∧ Only [.paths] s u) ∧
  RunsLink (.hiWriteStore path (b.base + off + 4) v) s (fun u => (∀ row, rowAt b (off + 4) = some row → u.rd b (off + 4) = row.written b (s.rd b (off + 4)) v) ∧
    (∀ w row, (s.path path).stage = some (b.base + off, w) → rowAt b off = some row → u.rd b off = row.written b (s.rd b off) w ∧ (u.path path).stage = none) ∧
      ((s.path path).stage = none → u.rd b off = s.rd b off ∧ (u.path path).stage = none) ∧ Kept [(b, off), (b, off + 4)] s u ∧ (∀ q, q ≠ path → u.path q = s.path q) ∧
        Only [.regs b, .paths] s u)) ∧
  (∀ (s : State) (path : Path) (addr : Nat) (v : Word), s.lmp.held = false → addr < mirrorBase → addr % 4 = 0 →
  (∀ b off row, locate addr = some (b, off) → s.serves path b off = true → rowAt b off = some row → actsOnWrite b off = false →
    (writable b off = true → wideLow b off = false ∧ wideHigh b off = false) →
    RunsLink (.registerWrite path addr v) s (fun u => u.rd b (row.key path off) = row.written b (s.rd b (row.key path off)) v ∧
      (∀ i, i < 32 → storedAs b row.off = id → bit (row.written b (s.rd b (row.key path off)) v) i =
        if bit (word row.w1c) i && bit v i then false else if bit (word row.rw) i then bit v i else bit (s.rd b (row.key path off)) i) ∧
        Kept [(b, row.key path off)] s u ∧ Only [.regs b] s u)) ∧
  ((locate addr = none ∨ ∃ b off, locate addr = some (b, off) ∧ rowAt b off = none) → RunsLink (.registerWrite path addr v) s (fun u => u = s)))

/-- Power-up of the island (13_wake_sleep_power.md R498, R499, R501, R503, R509, R512): island reset returns every register and counter to reset and lowers every enable and
gate; its release is the commanded wake POWER_ON; an ENABLE_STEP moves exactly the next used enable, and a kept one stays high on the way down; after the last enable VCORE good enters RUN;
RAIL_TO counts a rail failure and enters SLEEP; a retry wakes with cause RETRY. -/
def Obligations.IslandPowerUpFollowsStateTable : Prop := ∀ s : State,
  Runs .islandReset s (fun u => u.lmp.kind = .off ∧ u.lmp.enables = 0 ∧ u.lmp.held = true ∧ (∀ f, u.feedOf f = {}) ∧ (∀ b a, u.rd b a = resetWord b a) ∧
    (∀ b a, u.count b a = 0) ∧ u.fuses = s.fuses ∧ u.flash = s.flash ∧ u.pending = s.pending) ∧
  (s.lmp.kind = .off → Runs .islandResetRelease s (fun u => u.lmp.kind = .waking ∧ u.lmp.next = 0 ∧ u.lmp.enables = s.lmp.enables ∧ u.rd .lmp 0x14 = word 0x25 ∧
    u.flag .lmp 0x10 5 = true ∧ (∀ x, x < 36 → u.falseWakes x = 0 ∧ u.disarmed x = false) ∧ Counted [(.lmp, 0x800)] s u ∧ Only [.regs .lmp, .lmp, .seq, .evt] s u)) ∧
  (∀ n, n < 6 → s.stepUsed n = true → s.lmp.next ≤ n → (∀ m, s.lmp.next ≤ m → m < n → s.stepUsed m = false) → s.lmp.kind = .waking →
    Runs .enableStep s (fun u => (∀ m, u.lmp.enables.testBit m = (decide (m = n) || s.lmp.enables.testBit m)) ∧ u.lmp.next = n + 1 ∧ u.lmp.kind = s.lmp.kind ∧ Only [.lmp] s u)) ∧
  (∀ n, n < 6 → s.stepUsed n = true → n < s.lmp.next → s.lmp.next ≤ 6 → (∀ m, n < m → m < s.lmp.next → s.stepUsed m = false) → s.lmp.kind = .sleeping → s.lmp.grace = false →
    Runs .enableStep s (fun u => (∀ m, u.lmp.enables.testBit m = (s.lmp.enables.testBit m && (decide (m ≠ n) || s.stepKept n))) ∧ u.lmp.next = n ∧ u.lmp.kind = s.lmp.kind ∧ Only [.lmp] s u)) ∧
  (∀ n < 6, s.lmp.next ≤ n → s.stepUsed n = true → s.lmp.kind = .waking → Runs .vcoreGood s (fun u => u = s) ∧ Runs .railTimeout s (fun u => u = s)) ∧
  (s.lmp.kind = .waking → s.nextUp = none → Runs .vcoreGood s (fun u => u.lmp.kind = .run ∧ u.lmp.railFails = 0 ∧ u.lmp.sleepReq = false ∧ u.lmp.enables = s.lmp.enables ∧
    (s.lmp.held = false → Raised 1472 (p1 1 ++ p1 2) s u) ∧ Only [.regs .tdm, .regs .pin, .lmp, .tdm, .seq, .evt, .free] s u)) ∧
  (s.lmp.kind = .waking → s.nextUp = none → Runs .railTimeout s (fun u => u.lmp.kind = .sleep ∧ u.lmp.enables = 0 ∧ u.lmp.railFails = Nat.min 3 (s.lmp.railFails + 1) ∧
    (u.lmp.retry = true ↔ s.lmp.railFails < 2) ∧ u.flag .lmp 8 1 = true ∧ Counted [(.lmp, 0x820)] s u ∧ Only [.regs .lmp, .lmp, .seq, .evt] s u)) ∧
  (s.lmp.kind = .sleep → s.lmp.retry = true → Runs .railRetry s (fun u => u.lmp.kind = .waking ∧ u.rd .lmp 0x14 = word 0x26 ∧ u.flag .lmp 0x10 7 = true ∧
    Counted [(.lmp, 0x800)] s u ∧ Only [.regs .lmp, .lmp, .seq, .evt] s u))

/-- Going to sleep (R499, R501, R510, R517, R519): SLEEP and CANCEL set and clear SLEEP_REQ; in RUN the sleep condition starts the grace period and raises E1474; CANCEL in
grace returns to RUN, raises E1475 with 0xFE and counts; the end of grace asserts device reset with cause 1 and takes feeds without KEEP down; MIN_OFF after the last
enable counts lmp.sleep and enters SLEEP, or WAKING with the cause recorded since. -/
def Obligations.SleepFollowsStateTable : Prop := ∀ s : State,
  (s.lmp.held = false → Runs .lmpSleep s (fun u => u.lmp.sleepReq = true ∧ SameButRings { s with lmp := { s.lmp with sleepReq := true } } u ∧
    (∀ r, r < 4 → (s.ringOf r).kind = .normal → (u.ringOf r).kind = if s.lmp.sleepReq then .normal else .prepSleep) ∧ Only [.regs .tdm, .lmp, .tdm, .seq, .evt, .free] s u)) ∧
  (s.lmp.held = false → s.lmp.kind ≠ .sleeping → Runs .lmpCancel s (fun u => u.lmp.sleepReq = false ∧ SameButRings { s with lmp := { s.lmp with sleepReq := false } } u)) ∧
  (s.lmp.held = false → s.lmp.kind = .sleeping → s.lmp.grace = true → Runs .lmpCancel s (fun u => u.lmp.kind = .run ∧ u.lmp.grace = false ∧ u.lmp.sleepReq = false ∧
    Raised 1475 (p1 0xFE) s u ∧ Only [.regs .lmp, .regs .tdm, .regs .pin, .lmp, .tdm, .seq, .evt, .free] s u)) ∧
  (s.lmp.held = false → s.lmp.kind = .run → s.sleepCondition = true → Runs .sleepEntry s (fun u => u.lmp = { s.lmp with kind := .sleeping, grace := true } ∧
    Raised 1472 (p1 2 ++ p1 3) s u ∧ Raised 1474 (p1 s.lmp.sleepReq.toNat ++ ([0, 1, 2, 3].flatMap (fun r => p1 (s.ringOf r).kind.code))) s u ∧ Only [.lmp, .seq, .evt] s u)) ∧
  (s.lmp.kind = .sleeping → s.lmp.grace = true → Runs .graceExpiry s (fun u => u.lmp.held = true ∧ u.lmp.cause = 1 ∧ u.lmp.grace = false ∧ u.lmp.kind = .sleeping ∧ u.lmp.next = 6 ∧
    u.lmp.enables = s.lmp.enables ∧ (∀ a, u.rd .lmp a = s.rd .lmp a) ∧ (∀ f, f < 4 → s.flag .pin (feedReg f 0) 30 = false → (s.feedOf f).kind ≠ .latched → (u.feedOf f).kind = .off) ∧
    (∀ f, f < 4 → s.flag .pin (feedReg f 0) 30 = true → u.feedOf f = s.feedOf f) ∧ u.flash = s.flash ∧ u.fuses = s.fuses)) ∧
  (s.lmp.kind = .sleeping → s.lmp.grace = false → s.nextDown = none →
    (s.lmp.later = none → Runs .minOffExpiry s (fun u => u.lmp.kind = .sleep ∧ Counted [(.lmp, 0x810)] s u ∧ Only [.regs .lmp, .lmp, .seq, .evt] s u)) ∧
    (∀ code count, s.lmp.later = some (code, count) → Runs .minOffExpiry s (fun u => u.lmp.kind = .waking ∧ u.rd .lmp 0x14 = word code ∧ u.rd64 .lmp 0x18 = count % 2 ^ 64 ∧ Counted [(.lmp, 0x800), (.lmp, 0x810)] s u ∧
      Only [.regs .lmp, .lmp, .seq, .evt] s u)))

/-- Wakes (13_wake_sleep_power.md R502, R503, R505-R509, R527): an armed decoder wakes on its wake-up frame, and on its 32nd error where ERR_WAKE = 1, else is disarmed; FD
and XL frames count as nothing; a pin wakes at its active level; a cause in RUN is latched, raises E1473 and changes no state, and an alarm there is used up; a window
that ends unconfirmed counts, and above FW_THRESH disarms its source; CONFIRM clears the counts of pins whose window is open; REARM clears every count. -/
def Obligations.WakeSourcesAndFalseWakes : Prop := ∀ s : State,
  (∀ n : Fin 32, s.lmp.kind = .sleep → s.flag .lmp (0x11C + 0x20 * n.val) 31 = true → s.lmp.errOff.contains n.val = false →
    (∀ f : CanFrame, f.fdf = false → f.xlf = false → s.wakeMatch n.val f = true → Runs (.wakeFrameMatch n (some f)) s (fun u => u.lmp.kind = .waking ∧ u.rd .lmp 0x14 = word n.val ∧
      n.val ∈ u.lmp.windows ∧ u.flag .lmp 0xC n.val = true ∧ Counted [(.lmp, 0x800)] s u)) ∧
    (∀ f : CanFrame, (f.fdf = true ∨ f.xlf = true) → Runs (.wakeFrameMatch n (some f)) s (fun u => u = s)) ∧
    (Sparse.get (fun _ => 0) s.lmp.errs n.val < 31 → Runs (.wakeFrameMatch n none) s (fun u => u.lmp.kind = .sleep ∧
      (∀ m, Sparse.get (fun _ => 0) u.lmp.errs m = Sparse.get (fun _ => 0) s.lmp.errs m + (decide (m = n.val)).toNat) ∧ Only [.lmp] s u)) ∧
    (31 ≤ Sparse.get (fun _ => 0) s.lmp.errs n.val → s.flag .lmp (0x108 + 0x20 * n.val) 29 = true → Runs (.wakeFrameMatch n none) s (fun u => u.lmp.kind = .waking ∧
      u.rd .lmp 0x14 = word (0x40 + n.val) ∧ u.flag .lmp 8 5 = true)) ∧
    (31 ≤ Sparse.get (fun _ => 0) s.lmp.errs n.val → s.flag .lmp (0x108 + 0x20 * n.val) 29 = false → Runs (.wakeFrameMatch n none) s (fun u => u.lmp.kind = .sleep ∧
      n.val ∈ u.lmp.errOff ∧ u.flag .lmp 8 5 = true))) ∧
  (∀ (p : Fin 4) (level : Bool), s.mayWake (32 + p.val) = true → level ≠ bit (s.rd .lmp (0x80 + 4 * p.val)) 28 → s.lmp.pins.testBit p.val ≠ level →
    (s.lmp.kind = .sleep → Runs (.wakePin p level) s (fun u => u.lmp.kind = .waking ∧ u.rd .lmp 0x14 = word (0x20 + p.val) ∧ u.flag .lmp 0x10 p.val = true)) ∧
    (s.lmp.kind = .run → s.lmp.held = false → Runs (.wakePin p level) s (fun u => u.lmp.kind = .run ∧ u.flag .lmp 0x10 p.val = true ∧
      Raised 1473 (p1 (0x20 + p.val) ++ p4 (s.islandCount % 2 ^ 32)) s u ∧ Kept [(.lmp, 0x10)] s u ∧ Only [.regs .lmp, .lmp, .seq, .evt] s u))) ∧
  (s.alarm ≠ 0 → s.alarm ≤ s.islandCount →
    (s.lmp.kind = .sleep → Runs .alarmMatch s (fun u => u.lmp.kind = .waking ∧ u.rd .lmp 0x14 = word 0x24 ∧ u.alarm = s.alarm)) ∧
    (s.lmp.kind = .run → s.lmp.held = false → Runs .alarmMatch s (fun u => u.lmp = s.lmp ∧ u.alarm = 0 ∧ u.flag .lmp 0x10 4 = true ∧
      Raised 1473 (p1 0x24 ++ p4 (s.islandCount % 2 ^ 32)) s u ∧ Kept [(.lmp, 0x10), (.lmp, 0x48), (.lmp, 0x4C)] s u))) ∧
  (∀ x : Fin 36, s.lmp.windows.contains x.val = true → Runs (.wakeWindowExpiry x) s (fun u => u.falseWakes x.val = Nat.min 63 (s.falseWakes x.val + 1) ∧
    u.lmp = { s.lmp with windows := s.lmp.windows.erase x.val } ∧
    (s.falseWakes x.val + 1 ≤ s.fld .lmp 0x20 23 20 → u.disarmed x.val = s.disarmed x.val ∧ Counted [(.lmp, 0x808)] s u) ∧
    (s.fld .lmp 0x20 23 20 < s.falseWakes x.val + 1 → s.disarmed x.val = false → u.disarmed x.val = true ∧ u.flag .lmp 8 4 = true ∧ Counted [(.lmp, 0x808), (.lmp, 0x840)] s u ∧
      (s.lmp.held = false → Raised 1490 (p1 x.val ++ p4 (s.falseWakes x.val + 1)) s u)))) ∧
  (s.lmp.held = false → Runs .lmpConfirm s (fun u => (∀ x, x < 36 → u.falseWakes x = if 32 ≤ x ∧ s.lmp.windows.contains x = true then 0 else s.falseWakes x) ∧
    (∀ x, x < 36 → u.disarmed x = s.disarmed x) ∧ Counted [] s u ∧ Only [.regs .lmp, .lmp] s u)) ∧
  (s.lmp.held = false → Runs .lmpRearm s (fun u => (∀ x, x < 36 → u.falseWakes x = 0 ∧ u.disarmed x = false) ∧ Raised 1491 (p1 0xFE) s u ∧ Only [.regs .lmp, .seq, .evt] s u)) ∧
  (∀ path : Path, s.lmp.held = false → Runs (.lmpLatch path) s (fun u => u.rd .lmp (onPath path 0x38) = lo32 s.islandCount ∧ u.rd .lmp (onPath path 0x3C) = hi32 s.islandCount ∧
    u.rd .lmp (onPath path 0x40) = lo32 s.nowNs ∧ u.rd .lmp (onPath path 0x44) = hi32 s.nowNs ∧
    Kept [(.lmp, onPath path 0x38), (.lmp, onPath path 0x3C), (.lmp, onPath path 0x40), (.lmp, onPath path 0x44)] s u ∧ Only [.regs .lmp] s u)) ∧
  (∀ mv : Fin 65536, s.lmp.kind ≠ .off → Runs (.vinLow mv) s (fun u => u.rd .lmp 0x28 = word mv.val ∧ (mv.val < 5000 → u.flag .lmp 8 2 = true) ∧
    (5000 ≤ mv.val → u.rd .lmp 8 = s.rd .lmp 8) ∧ Kept [(.lmp, 0x28), (.lmp, 8)] s u ∧ Counted [] s u))

/-- The timers of a curfew ring (13_wake_sleep_power.md R515, R517): the lowest member sends RING when TTYP elapses in RESET; the holder of the token passes it, with
SLEEP_ACK where consent was complete; TMAX leads back to RESET with ALIVE; a silent member leaves the table; TWBS leads to BUS_SLEEP; in LIMPHOME every TERROR sends
LIMPHOME or, with SLEEP_REQ and no message without SLEEP_IND, moves to WAIT_BUS_SLEEP. Other rings stand. -/
def Obligations.RingTimersFollowStateTable : Prop := ∀ (s : State) (r : Fin 4),
  ((s.ringOf r.val).kind = .reset → Runs (.ringTtypExpiry r) s (fun u => (u.ringOf r.val).kind = (if s.lmp.sleepReq then .prepSleep else .normal) ∧
    (u.ringOf r.val).out = (if (s.ringOf r.val).members.headD (s.ringAddr r.val) = s.ringAddr r.val then some (.ring false, successor (s.ringOf r.val).members (s.ringAddr r.val)) else (s.ringOf r.val).out) ∧
    (∀ q, q ≠ r.val → u.ringOf q = s.ringOf q) ∧ SameButRings s u)) ∧
  (((s.ringOf r.val).kind = .normal ∨ ((s.ringOf r.val).kind = .prepSleep ∧ (s.ringOf r.val).agreed = false)) → (s.ringOf r.val).token = true → Runs (.ringTtypExpiry r) s (fun u =>
    (u.ringOf r.val).kind = (s.ringOf r.val).kind ∧ (u.ringOf r.val).token = false ∧
    (u.ringOf r.val).out = some (.ring false, successor (s.ringOf r.val).members (s.ringAddr r.val)) ∧ (∀ q, q ≠ r.val → u.ringOf q = s.ringOf q) ∧ SameButRings s u ∧ Only [.lmp] s u)) ∧
  ((s.ringOf r.val).kind = .prepSleep → (s.ringOf r.val).agreed = true → (s.ringOf r.val).token = true → Runs (.ringTtypExpiry r) s (fun u => (u.ringOf r.val).kind = .waitBusSleep ∧
    (u.ringOf r.val).out = some (.ring true, successor (s.ringOf r.val).members (s.ringAddr r.val)) ∧ (u.ringOf r.val).due = s.islandCount + islandTicks (s.ringTwbs r.val) ∧
    (∀ q, q ≠ r.val → u.ringOf q = s.ringOf q) ∧ SameButRings s u)) ∧
  (((s.ringOf r.val).kind = .normal ∨ (s.ringOf r.val).kind = .prepSleep) → Runs (.ringTmaxExpiry r) s (fun u => (u.ringOf r.val).kind = .reset ∧ (∃ d, d < 256 ∧ (u.ringOf r.val).out = some (.alive, d)) ∧
    (u.ringOf r.val).due = s.islandCount + islandTicks (s.ringTtyp r.val) ∧ (∀ q, q ≠ r.val → u.ringOf q = s.ringOf q) ∧ SameButRings s u)) ∧
  (∀ a : Fin 256, a.val ≠ s.ringAddr r.val → (s.ringOf r.val).members.contains a.val = true → Runs (.ringMemberTimeout r a) s (fun u =>
    u.ringOf r.val = { s.ringOf r.val with members := (s.ringOf r.val).members.erase a.val, consented := (s.ringOf r.val).consented.erase a.val } ∧
    (s.lmp.held = false → Raised (1484 + r.val) (p2 a.val ++ p1 0) s u) ∧ (∀ q, q ≠ r.val → u.ringOf q = s.ringOf q) ∧ SameButRings s u)) ∧
  ((s.ringOf r.val).kind = .waitBusSleep → Runs (.ringTwbsExpiry r) s (fun u => (u.ringOf r.val).kind = .busSleep ∧ (u.ringOf r.val).out = none ∧ (∀ q, q ≠ r.val → u.ringOf q = s.ringOf q) ∧
    SameButRings s u ∧ (s.lmp.held = false → Raised (1480 + r.val) (p1 4 ++ (p1 5 ++ p4 (s.ringOf r.val).members.length)) s u))) ∧
  ((s.ringOf r.val).kind = .limphome → Runs (.limphomeTerror r) s (fun u => (if s.lmp.sleepReq = true ∧ (s.ringOf r.val).awake = false then (u.ringOf r.val).kind = .waitBusSleep
    else (u.ringOf r.val).kind = .limphome ∧ ∃ d, d < 256 ∧ (u.ringOf r.val).out = some (.limphome, d)) ∧ (∀ q, q ≠ r.val → u.ringOf q = s.ringOf q) ∧ SameButRings s u))

/-- The switched feeds (13_wake_sleep_power.md R519-R521, R524, R525, R528): each row of the feed state table, what it counts and raises; the other feeds stand. A trip takes
TRIPS one up and leads to COOL, or LATCHED at the third; ON is ignored outside OFF and in NO_IMAGE (02_ikiem_images.md R72), and only CLEAR leaves LATCHED. -/
def Obligations.FeedsFollowStateTable : Prop := ∀ (s : State) (f : Fin 4),
  (s.lmp.held = false → s.feedsBarred = false → (s.feedOf f.val).kind = .off → Runs (.feedOn f) s (fun u => u.feedOf f.val = { s.feedOf f.val with kind := .ramp } ∧
    Raised (1776 + f.val) (p1 0 ++ (p1 1 ++ (p4 (s.feedOf f.val).trips ++ p1 (s.fld .pin (feedReg f.val 0x14) 31 30)))) s u ∧
    Counted [(.pin, feedReg f.val 0x40)] s u ∧ Kept [] s u ∧ (∀ g, g ≠ f.val → u.feedOf g = s.feedOf g) ∧ SameButFeeds s u ∧ Only [.regs .pin, .lmp, .seq, .evt] s u)) ∧
  ((s.feedOf f.val).kind ≠ .off ∨ (s.img.conf = none ∧ s.img.state = .noImage) → Runs (.feedOn f) s (fun u => u = s)) ∧
  (s.lmp.held = false → (s.feedOf f.val).kind ≠ .off → (s.feedOf f.val).kind ≠ .latched → Runs (.feedOff f) s (fun u => (u.feedOf f.val).kind = .off ∧ (u.feedOf f.val).trips = (s.feedOf f.val).trips ∧
    Counted [] s u ∧ Kept [] s u ∧ (∀ g, g ≠ f.val → u.feedOf g = s.feedOf g) ∧ SameButFeeds s u)) ∧
  (s.lmp.held = false → (s.feedOf f.val).kind = .latched → Runs (.feedClear f) s (fun u => u.feedOf f.val = { s.feedOf f.val with kind := .off, trips := 0 } ∧
    Counted [] s u ∧ Kept [] s u ∧ (∀ g, g ≠ f.val → u.feedOf g = s.feedOf g) ∧ SameButFeeds s u)) ∧
  (∀ e : Fin 65536, (s.feedOf f.val).kind = .ramp → Runs (.feedRampDone f e) s (fun u => u.feedOf f.val = { s.feedOf f.val with kind := .on } ∧ u.fld .pin (feedReg f.val 0x14) 15 0 = e.val ∧
    Counted [] s u ∧ Kept [(.pin, feedReg f.val 0x14)] s u ∧ (∀ g, g ≠ f.val → u.feedOf g = s.feedOf g) ∧ SameButFeeds s u)) ∧
  (∀ (c : TripCause) (e : Fin 65536), ((s.feedOf f.val).kind = .ramp ∨ ((s.feedOf f.val).kind = .on ∧ c = .shortCircuit)) → Runs (.feedTrip f c e) s (fun u =>
    (u.feedOf f.val).trips = Nat.min 3 ((s.feedOf f.val).trips + 1) ∧ (u.feedOf f.val).kind = (if 2 ≤ (s.feedOf f.val).trips then .latched else .cool) ∧
    u.fld .pin (feedReg f.val 0x14) 31 30 = tripCode c ∧
    Counted ((.pin, feedReg f.val (0x40 + 8 * tripCode c)) :: (if 2 ≤ (s.feedOf f.val).trips then [(Block.pin, feedReg f.val 0x60)] else [])) s u ∧
    (∀ g, g ≠ f.val → u.feedOf g = s.feedOf g) ∧ SameButFeeds s u)) ∧
  ((s.feedOf f.val).kind = .on → Runs (.feedOcBlankExpiry f) s (fun u => (u.feedOf f.val).trips = Nat.min 3 ((s.feedOf f.val).trips + 1) ∧
    (u.feedOf f.val).kind = (if 2 ≤ (s.feedOf f.val).trips then .latched else .cool) ∧ u.fld .pin (feedReg f.val 0x14) 31 30 = 1 ∧ (∀ g, g ≠ f.val → u.feedOf g = s.feedOf g) ∧ SameButFeeds s u)) ∧
  ((s.feedOf f.val).kind = .cool → Runs (.feedCoolExpiry f) s (fun u => u.feedOf f.val = { s.feedOf f.val with kind := .ramp } ∧ Counted [(.pin, feedReg f.val 0x40)] s u ∧ Kept [] s u ∧
    (∀ g, g ≠ f.val → u.feedOf g = s.feedOf g) ∧ SameButFeeds s u)) ∧
  ((s.feedOf f.val).kind = .on → Runs (.feedTripClearTimer f) s (fun u => u.feedOf f.val = { s.feedOf f.val with trips := 0 } ∧ (∀ g, g ≠ f.val → u.feedOf g = s.feedOf g) ∧ Only [.lmp] s u)) ∧
  (∀ mv : Fin 65536, s.lmp.kind ≠ .off → 40500 < mv.val → Runs (.feedOvervoltage mv) s (fun u => u.flag .lmp 8 3 = true ∧ u.rd .lmp 0x28 = word mv.val ∧
    (∀ g, g < 4 → u.feedOf g = if ((s.feedOf g).kind = .ramp ∨ (s.feedOf g).kind = .on) ∧ s.flag .pin (feedReg g 0) 29 = true then { s.feedOf g with kind := .ovHold } else s.feedOf g) ∧ SameButFeeds s u)) ∧
  (∀ mv : Fin 65536, s.lmp.kind ≠ .off → mv.val < 39000 → Runs (.feedOvRecover mv) s (fun u => u.rd .lmp 0x28 = word mv.val ∧
    (∀ g, g < 4 → u.feedOf g = if (s.feedOf g).kind = .ovHold then { s.feedOf g with kind := .ramp } else s.feedOf g) ∧ SameButFeeds s u))

/-- Device reset (16_electrical_and_pins.md R611-R613, R615, R617; 15_management_events_health.md R598, R603): a monitored rail below its falling threshold, RESET_N and DEV_CTL
with key 0x8828 assert it with causes 2, 3 and 4; everything outside the island, the feed windows, flash and fuses returns to reset, and no island state changes; a rail's
new level alone changes nothing else. Its release needs the island in RUN and every monitored rail at its rising threshold, shows the cause in DEV_RESET_CAUSE and raises E0. Die sensors and multi-function pins (16_electrical_and_pins.md
R619, R623-R629, R635, R636, R640): a VCORE dip below 0.72 V sets VCORE_LOW, counts once and raises E1729 until VCORE recovers; the thermal warning sets THERM_WARN,
counts and raises E1730 and waits for its hysteresis; a live read of PIN_VCORE_MIN answers the minimum and restarts it; GPIO writes set, or and clear the output bits; a
selected edge raises E1728 or is stamped, less the filter time; nothing is reported during a switch, which ends with the new function at the pin's level. -/
def Obligations.DeviceResetPinsAndSensors : Prop :=
  (∀ s : State,
  (∀ (r : Rail) (mv : Fin 65536), s.lmp.held = false → mv.val < railFalling r → Runs (.brownOut r mv) s (fun u => DeviceResetTaken 2 s u ∧ u.rail r = mv.val)) ∧
  (∀ (r : Rail) (mv : Fin 65536), s.lmp.held = true ∨ railFalling r ≤ mv.val → Runs (.brownOut r mv) s (fun u => u.rail r = mv.val ∧ (∀ q, q ≠ r → u.rail q = s.rail q) ∧ Only [.sense] s u)) ∧
  (s.lmp.held = false → Runs .resetPin s (DeviceResetTaken 3 s) ∧ Runs .deviceResetCmd s (DeviceResetTaken 4 s)) ∧
  (s.lmp.held = true → Runs .resetPin s (fun u => u.lmp = { s.lmp with cause := 3 } ∧ Only [.lmp] s u)) ∧
  (s.lmp.held = true → s.lmp.kind = .run → (∀ r, railRising r ≤ s.rail r) → s.lmp.cause < 16 → Runs .deviceResetRelease s (fun u => u.lmp = { s.lmp with held := false } ∧ u.fld .dev 8 3 0 = s.lmp.cause ∧
    Raised 0 (p1 s.lmp.cause) s u ∧ Kept [(.dev, 8)] s u ∧ Counted [] s u ∧ Only [.regs .dev, .lmp, .seq, .evt] s u)) ∧
  (s.lmp.kind ≠ .run ∨ (∃ r, s.rail r < railRising r) → Runs .deviceResetRelease s (fun u => u = s))) ∧
  (∀ s : State, s.lmp.held = false →
  (∀ mv : Fin 65536, Runs (.vcoreLowDetect mv) s (fun u => u.fld .pin 0 15 0 = mv.val ∧ u.fld .pin 0xC 15 0 = Nat.min mv.val (s.fld .pin 0xC 15 0) ∧
    (u.sense.low = true ↔ mv.val < 720) ∧ (mv.val < 720 → s.sense.low = false → u.flag .pin 4 0 = true ∧ Counted [(.pin, 0x400)] s u) ∧ ((720 ≤ mv.val ∨ s.sense.low = true) → Counted [] s u) ∧
      Kept [(.pin, 0), (.pin, 4), (.pin, 0xC)] s u ∧ Only [.regs .pin, .sense, .seq, .evt] s u)) ∧
  (∀ q : Fin 65536, 4 * (s.fld .pin 8 31 24 : Int) < signed 16 q.val → s.sense.hot = false → s.flag .pin 4 1 = false → Runs (.thermWarn q) s (fun u => u.flag .pin 4 1 = true ∧ u.sense.hot = true ∧
    Counted [(.pin, 0x408)] s u ∧ Raised 1730 (p4i (signed 16 q.val)) s u ∧ Kept [(.pin, 0), (.pin, 4)] s u ∧ Only [.regs .pin, .sense, .seq, .evt] s u)) ∧
  (∀ path, Runs (.pinVcoreMinRead path) s (fun u => (u.path path).lastRead = s.rd .pin 0xC ∧ u.rd .pin 0xC = 0xFFFF ∧ (∀ q, q ≠ path → u.path q = s.path q) ∧ Kept [(.pin, 0xC)] s u ∧ Only [.regs .pin, .paths] s u)) ∧
  (∀ (m : Fin 48) (level : Bool), (s.pin m.val).switching = false → (s.pin m.val).level ≠ level → (s.pin m.val).func = 0 → Runs (.gpioEdge m level) s (fun u => u.pin m.val = { s.pin m.val with level := level } ∧
    (∀ n, n ≠ m.val → u.pin n = s.pin n) ∧ (bit (s.pinCfg m.val) (if level then 22 else 23) = true → Raised 1728 (p2 m.val ++ p1 level.toNat) s u ∧ Counted [(.pin, 0x410)] s u) ∧
      (bit (s.pinCfg m.val) (if level then 22 else 23) = false → u.evt = s.evt ∧ Counted [] s u) ∧ Kept [] s u)) ∧
  (∀ (k : Fin 4) (level : Bool), (s.pin (36 + k.val)).switching = false → (s.pin (36 + k.val)).level ≠ level → (s.pin (36 + k.val)).func = 2 → bit (s.pinCfg (36 + k.val)) (if level then 22 else 23) = true →
    Runs (.captureEdge k level) s (fun u => let t := stampOf (s.now - field (s.pinCfg (36 + k.val)) 15 8 * 40 * 2 ^ 32)
      u.rd .pin (0x500 + 0x10 * k.val) = lo32 t.ns ∧ u.rd .pin (0x504 + 0x10 * k.val) = hi32 t.ns ∧ u.rd .pin (0x508 + 0x10 * k.val) = word t.frac ∧
        Raised (1732 + k.val) (pStamp t ++ p1 level.toNat) s u ∧ Counted [(.pin, 0x420 + 8 * k.val)] s u ∧
          Kept [(.pin, 0x500 + 0x10 * k.val), (.pin, 0x504 + 0x10 * k.val), (.pin, 0x508 + 0x10 * k.val)] s u)) ∧
  (∀ (high : Bool) (v : Word), Runs (.gpioOutWrite high v) s (fun u => (∀ i, i < 32 → u.flag .pin (gpioReg high) i = (bit v i && (!high || decide (i < 16)))) ∧ Kept [(.pin, gpioReg high)] s u ∧ Only [.regs .pin] s u) ∧
    Runs (.gpioSet high v) s (fun u => (∀ i, i < 32 → u.flag .pin (gpioReg high) i = (s.flag .pin (gpioReg high) i || (bit v i && (!high || decide (i < 16))))) ∧ Kept [(.pin, gpioReg high)] s u ∧ Only [.regs .pin] s u) ∧
    Runs (.gpioClr high v) s (fun u => (∀ i, i < 32 → u.flag .pin (gpioReg high) i = (s.flag .pin (gpioReg high) i && !(bit v i && (!high || decide (i < 16))))) ∧ Kept [(.pin, gpioReg high)] s u ∧ Only [.regs .pin] s u)) ∧
  (∀ (m : Fin 48) (level : Bool), (s.pin m.val).switching = true → Runs (.pinSwitchDone m level) s (fun u => u.pin m.val = { s.pin m.val with func := field (s.pinCfg m.val) 31 30, switching := false, level := level } ∧
    (∀ n, n ≠ m.val → u.pin n = s.pin n) ∧ Counted [(.pin, 0x418)] s u ∧ Kept [] s u ∧ Only [.regs .pin, .tdm, .mf, .seq, .evt] s u ∧
      (m.val = 40 → field (s.pinCfg 40) 31 30 = 2 → s.flag .tdm 0 29 = true → s.tdm.positioned = false → u.tdm = { s.tdm with position := level.toNat, positioned := true })) ∧
    Runs (.gpioEdge m level) s (fun u => u = s)) ∧
  (∀ m : Fin 48, Runs (.ledTimer m) s (fun u => u.pin m.val = { s.pin m.val with lit := false } ∧ (∀ n, n ≠ m.val → u.pin n = s.pin n) ∧ Only [.mf] s u)))

/-- The commands that fill a slot (12_keys_and_attestation.md R460-R466, R469, R471, R477, R478): when the conditions of R470 hold, GENERATE, IMPORT, DERIVE and ECDH write
value and attribute word of TGT, and of the slot after it for a 384-bit key, in one step, end with RESULT 0 and no output, and count in key.cmd.ok. The value is a fresh
one, the unwrapped one, the SP 800-108 output keyed by SRC or the sealing root, and the shared x-coordinate. -/
def Obligations.KeyCommandsFillSlots : Prop := ∀ (s : State) (path : Path), s.lmp.held = false → path ≠ .debug → let p := pathIndex path; let r := s.keyReq p; let from_ := s.keySlot r.src
  (∀ w, w = attrFor r.attrIn 0 → s.targetEmpty r.tgt (attrAlg w) = true → attrLegal w = true → s.policyAllows r.tgt w = true → s.rngOk = true →
    Runs (.keyGenerate path) s (fun u => ∃ v, KeyFills p r w v s u)) ∧
  (∀ w v w5649, w = attrFor r.attrIn 1 → firstFail (s.importChecks r w) = none → aesUnwrap w5649 from_.value (r.input.take r.len) = some v → some v.length = keyBytes (attrAlg w) →
    Runs (.keyImport path w5649) s (KeyFills p r w v s)) ∧
  (∀ w, w = attrFor r.attrIn 2 → s.targetEmpty r.tgt (attrAlg w) = true → attrLegal w = true → s.policyAllows r.tgt w = true → derivable (attrAlg w) = true →
    (r.root = true → s.flag .key 0 5 = true → Runs (.keyDerive path) s (KeyFills p r w (derivedValue s.key.root r.drv (attrAlg w)) s)) ∧
    (r.root = false → s.keyServes r.src = true → attrAlg from_.attr ∈ [8, 9] → attrDistrict w = attrDistrict from_.attr →
      Runs (.keyDerive path) s (KeyFills p r w (derivedValue from_.value r.drv (attrAlg w)) s))) ∧
  (∀ w x, w = attrFor r.attrIn 2 → s.isEcdh r.src = true → r.len = pointBytes (attrAlg from_.attr) → s.targetEmpty r.tgt (attrAlg w) = true → attrLegal w = true → s.policyAllows r.tgt w = true →
    attrAlg w = (if isP384 (attrAlg from_.attr) then 9 else 8) → attrDistrict w = attrDistrict from_.attr → ecShared (isP384 (attrAlg from_.attr)) from_.value (r.input.take r.len) = some x →
      Runs (.keyEcdh path) s (KeyFills p r w x s))

/-- The commands that answer (12_keys_and_attestation.md R468, R469, R472, R480, R481): when the conditions of R470 hold, EXPORT, PUBKEY, SIGN, ATTEST, PROVENANCE and RANDOM
end with RESULT 0 and their output in KEY_OUT and change no slot; ATTEST and PROVENANCE take the next ATT_SEQ; ERASE empties its target and the other half of a pair.
Refusals (12_keys_and_attestation.md R470, R472, R480, R481, R490-R492): the first failing condition gives the RESULT; a refused command writes nothing, counts in
key.cmd.refused and sets KEY_ERR.REFUSED. -/
def Obligations.KeyCommandsAnswerOrRefuse : Prop :=
  (∀ (s : State) (path : Path), s.lmp.held = false → path ≠ .debug → let p := pathIndex path; let r := s.keyReq p; let a := (s.keySlot r.tgt).attr
  (∀ w5649, s.isWrapKey r.src = true → s.keyUsable r.tgt = true → s.wrapsLength r.src ((keyBytes (attrAlg a)).getD 0) = true → attrDistrict a = attrDistrict (s.keySlot r.src).attr →
    attrOrigin a = 1 → attrExportable a = true → Runs (.keyExport path w5649) s (fun u => Counted [(.key, 0x400)] s u ∧ Only [.regs .key, .seq, .evt] s u ∧
      KeyEnds p 0 ((aesWrap w5649 (s.keySlot r.src).value (s.keySlot r.tgt).value).take (wrappedBytes (attrAlg a))) [] s u)) ∧
  (s.isEcPair r.tgt = true → Runs (.keyPubkey path) s (fun u => Counted [(.key, 0x400)] s u ∧ Only [.regs .key, .seq, .evt] s u ∧
    KeyEnds p 0 (padTo (pointBytes (attrAlg a)) (ecPublic (isP384 (attrAlg a)) (s.keySlot r.tgt).value)) [] s u)) ∧
  (s.isEcdsa r.tgt = true → r.len = digestBytes (attrAlg a) → s.rngOk = true → Runs (.keySign path) s (fun u => u.key.slot = s.key.slot ∧ Counted [(.key, 0x400)] s u ∧ Only [.regs .key, .key, .free, .seq, .evt] s u ∧
    KeyEnds p 0 (padTo (pointBytes (attrAlg a)) (ecSign (isP384 (attrAlg a)) (s.keySlot r.tgt).value (r.input.take r.len) s.free)) [] s u)) ∧
  (s.keyUsable r.src = true → attrAttest (s.keySlot r.src).attr = true → Runs (.keyAttest path) s (fun u => Only [.regs .key, .seq, .evt] s u ∧ u.rd .key 0x18 = s.rd .key 0x18 + 1 ∧
    Counted [(.key, 0x400), (.key, 0x420)] s u ∧ ∃ m, m.length = 288 ∧ KeyEnds p 0 m [0x18] s u)) ∧
  (attrPair a = false → attrAttest a = false → attrValid a = true → attrOrigin a = 0 → attrExportable a = false → s.rngOk = true → Runs (.keyProvenance path) s (fun u => u.key.slot = s.key.slot ∧ Only [.regs .key, .key, .free, .seq, .evt] s u ∧
    u.rd .key 0x18 = s.rd .key 0x18 + 1 ∧ Counted [(.key, 0x400), (.key, 0x428)] s u ∧ ∃ m, m.length = 384 ∧ KeyEnds p 0 m [0x18] s u)) ∧
  (1 ≤ r.len → r.len ≤ 384 → s.rngOk = true → Runs (.keyRandom path) s (fun u => u.key.slot = s.key.slot ∧ Counted [(.key, 0x400)] s u ∧ Only [.regs .key, .key, .free, .seq, .evt] s u ∧ ∃ m, m.length = r.len ∧ KeyEnds p 0 m [] s u)) ∧
  (attrPair a = false → Runs (.keyErase path) s (fun u => (∀ k, u.keySlot k = if k = r.tgt ∧ attrValid a = true then {} else
    if k = r.tgt + 1 ∧ attrValid a = true ∧ isPairAlg (attrAlg a) = true then {} else s.keySlot k) ∧ Counted [(.key, 0x400)] s u ∧ KeyEnds p 0 [] [0x14] s u ∧ Only [.regs .key, .key, .seq, .evt] s u))) ∧
  (∀ (s : State) (path : Path) (n : Nat), s.lmp.held = false → path ≠ .debug → let p := pathIndex path; let r := s.keyReq p
  (∀ w, w = attrFor r.attrIn 0 → firstFail [(s.targetEmpty r.tgt (attrAlg w), 1), (attrLegal w && s.policyAllows r.tgt w, 3), (s.rngOk, 7)] = some n →
    Runs (.keyGenerate path) s (KeyRefused p 1 n s)) ∧
  (∀ w5649, firstFail (s.importChecks r (attrFor r.attrIn 1)) = some n → Runs (.keyImport path w5649) s (KeyRefused p 2 n s)) ∧
  (firstFail [(s.isEcPair r.tgt, 2)] = some n → Runs (.keyPubkey path) s (KeyRefused p 6 n s)) ∧
  (firstFail [(if s.isEcdsa r.tgt then r.len == digestBytes (attrAlg (s.keySlot r.tgt).attr) else r.len == 32 || r.len == 48, 8), (s.isEcdsa r.tgt, 2), (s.rngOk, 7)] = some n →
    Runs (.keySign path) s (KeyRefused p 8 n s)) ∧
  (firstFail [(s.keyUsable r.src, 2), (attrAttest (s.keySlot r.src).attr, 0xD)] = some n → Runs (.keyAttest path) s (KeyRefused p 9 n s)) ∧
  (firstFail [(decide (1 ≤ r.len) && decide (r.len ≤ 384), 8), (s.rngOk, 7)] = some n → Runs (.keyRandom path) s (KeyRefused p 0xB n s)) ∧
  (s.rollbackAllowed r.len = false → ∀ f, Runs (.keyRollback path f) s (KeyRefused p 0xC 9 s)) ∧
  (s.fuses.anchor ≠ none → ∀ f b, Runs (.keyProvision path f b) s (KeyRefused p 0xE 0xC s)) ∧
  (r.len ≤ 4 → s.signerNeeded r.len = true → ∀ b, Runs (.keyRevoke path b) s (KeyRefused p 0xF 9 s)))

/-- Fuses, firmware and random numbers (12_keys_and_attestation.md R467, R483, R484, R489-R492): ROLLBACK blows fuses one at a time, ends with 0xB at those verified when a
fuse fails, and raises E1413; REVOKE blows one revocation; PROVISION fuses SHA-384 of the staged table; FW_INSTALL refuses an invalid package with 0xA; a health failure,
the start-up test and a reseed set RNG, their events and counters; a slot that waits for GEN_AT_LOAD is generated under its policy. -/
def Obligations.FusesAndRandomNumbers : Prop := ∀ (s : State) (path : Path), s.lmp.held = false → path ≠ .debug → let p := pathIndex path; let r := s.keyReq p
  (s.rollbackAllowed r.len = true → Runs (.keyRollback path none) s (fun u => u.fuses = { s.fuses with rollback := r.len } ∧ Raised 1413 (p4 s.fuses.rollback ++ p4 r.len) s u ∧
      KeyEnds p 0 [] [] s u ∧ Counted [(.key, 0x400)] s u ∧ Only [.regs .key, .fuses, .seq, .evt] s u) ∧
    ∀ k : Fin 65, s.fuses.rollback < k.val → k.val ≤ r.len → Runs (.keyRollback path (some k)) s (fun u => u.fuses = { s.fuses with rollback := k.val - 1 } ∧ u.flag .key 4 5 = true ∧
      KeyEnds p 0xB [] [4] s u ∧ Counted [] s u ∧ Only [.regs .key, .fuses, .seq, .evt] s u)) ∧
  (r.len ≤ 4 → s.signerNeeded r.len = false → Runs (.keyRevoke path false) s (fun u => KeyEnds p 0 [] [] s u ∧ Counted [(.key, 0x400)] s u ∧ Only [.regs .key, .fuses, .seq, .evt] s u ∧
    u.fuses = if r.len = 4 then { s.fuses with fwkey0Revoked := true } else { s.fuses with signerRevoked := s.fuses.signerRevoked ||| 2 ^ r.len })) ∧
  (s.fuses.anchor = none → Runs (.keyProvision path none false) s (fun u => u.fuses = { s.fuses with anchor := some (sha384 ((s.flashBytes 0x3F00000 452).drop 4)) } ∧
    KeyEnds p 0 [] [] s u ∧ Counted [(.key, 0x400)] s u ∧ Only [.regs .key, .fuses, .flash, .seq, .evt] s u)) ∧
  (∀ fw, (s.checkFirmware 0x3400000 s.idleBank).2 = some fw → Runs (.keyFwInstall path none) s (fun u => KeyEnds p 0 [] [0] s u ∧ u.flag .key 0 4 = true ∧ Counted [(.key, 0x400)] s u ∧
    Raised 1414 (p2 s.idleBank ++ p4 fw.version) s u ∧ u.flashBytes (bankOffset s.idleBank) 256 = s.flashBytes 0x3400000 256 ∧
      (∀ off n, bankOffset s.idleBank + 0x100000 ≤ off → 0x2000 ≤ off → u.flashBytes off n = s.flashBytes off n) ∧ Only [.regs .key, .flash, .seq, .evt] s u)) ∧
  ((s.checkFirmware 0x3400000 s.idleBank).2 = none → ∀ f, Runs (.keyFwInstall path f) s (KeyRefused p 0xD 0xA s)) ∧
  (∀ t : Fin 3, Runs (.entropyHealthFail t) s (fun u => u.key = { s.key with rng := .failed, requests := 0 } ∧ u.flag .key 4 1 = true ∧ Raised 1411 (p1 (t.val + 1)) s u ∧
    Counted [(.key, 0x410)] s u ∧ Kept [(.key, 4)] s u ∧ Only [.regs .key, .key, .seq, .evt] s u)) ∧
  (s.rngOk = false → Runs .entropyStartupDone s (fun u => u.key = { s.key with rng := .ok, requests := 0, seededAt := s.nowNs } ∧ Raised 1412 [] s u ∧ Kept [] s u ∧ Only [.key, .seq, .evt] s u)) ∧
  (s.rngOk = true → Runs .drbgReseed s (fun u => u.key = { s.key with requests := 0, seededAt := s.nowNs } ∧ Kept [] s u ∧ Counted [(.key, 0x418)] s u ∧ Only [.regs .key, .key, .seq, .evt] s u)) ∧
  (∀ (h : Fin 8192) allow flags w, s.key.due.contains h.val = true → policyOf s.recs h.val = some (allow, flags) → w = attrFor allow 0 → flags.testBit 0 = true → s.targetEmpty h.val (attrAlg w) = true →
    s.rngOk = true → Runs (.genAtLoadDone h) s (fun u => (∃ v, Filled h.val w v s u) ∧ u.key.due = s.key.due.filter (fun x => x != h.val) ∧ Kept [(.key, 0x14)] s u ∧
      Only [.regs .key, .key, .free, .seq, .evt] s u))

/-- The management plane (15_management_events_health.md R565-R570, R598; 12_keys_and_attestation.md R488): watchdog expiry (cause 1), MGT_RESET (2) and an SRAM error (3)
enter RESET; 0xA55A from a core restarts a running watchdog and another value sets MGT_ERR.KICK, while the host's kick is ignored; from RESET the first bank that verifies
is loaded and the plane runs, or both are reported and it stays without firmware. -/
def Obligations.ManagementPlaneStateTable : Prop := ∀ s : State,
  (s.lmp.held = false → (s.mgt.state = .running ∨ s.mgt.state = .noFirmware) → Runs .mgtResetCmd s (MgtResetTaken 2 none [(.mgt, 0x400)] s)) ∧
  (s.mgt.state = .running → s.flag .mgt 8 31 = true → s.mgt.wdt.since.isSome = true → Runs .watchdogExpiry s (MgtResetTaken 1 (some 0) [(.mgt, 0x408), (.mgt, 0x400)] s)) ∧
  (s.mgt.state = .running → Runs .mgtSramUe s (MgtResetTaken 3 (some 1) [(.mgt, 0x400)] s)) ∧
  (s.lmp.held = false → ∀ (n : Fin 4) (v : Word), (field v 15 0 = 0xA55A → s.mgt.state = .running → Runs (.wdtKick (.core n) v) s (fun u =>
      u.mgt = { s.mgt with wdt := timerOf s.nowNs (1000000 * s.fld .mgt 8 15 0) (decide (s.fld .mgt 0x18 3 0 ≠ 0)) } ∧ Only [.mgt] s u)) ∧
    (field v 15 0 ≠ 0xA55A → Runs (.wdtKick (.core n) v) s (fun u => u.flag .mgt 4 2 = true ∧ (s.flag .mgt 4 2 = false → Raised 1618 (p4 0) s u) ∧ Kept [(.mgt, 4)] s u ∧ Counted [] s u ∧
      Only [.regs .mgt, .seq, .evt] s u)) ∧ Runs (.wdtKick .host v) s (fun u => u = s)) ∧
  (s.lmp.held = false → s.mgt.state = .reset → ∀ first, first = (match s.bootWinner with | some w => bootActive (s.bootCopy w) | none => 0) →
    (∀ fw, (s.checkFirmware (bankOffset first) first).2 = some fw → Runs .firmwareBoot s (fun u => u.mgt.state = .running ∧ u.key.fw = some fw ∧ u.key.booted = true ∧ u.rd .key 0x10 = word fw.version ∧
      u.fld .key 0xC 1 0 = first ∧ u.flag .key 0 4 = false ∧ Raised 1600 (p1 0 ++ (p1 1 ++ p1 (s.fld .dev 8 11 8))) s u ∧ Raised 1600 (p1 1 ++ (p1 2 ++ p1 (s.fld .dev 8 11 8))) s u ∧
        (∀ b a, b ≠ .key → u.rd b a = s.rd b a) ∧ Counted [] s u ∧ Only [.regs .key, .key, .mgt, .seq, .evt] s u)) ∧
    ((∀ b, b < 2 → (s.checkFirmware (bankOffset b) b).2 = none) → Runs .firmwareBoot s (fun u => u.mgt.state = .noFirmware ∧ u.key.fw = s.key.fw ∧ u.key.booted = true ∧ u.rd .key 0x10 = 0 ∧
      u.fld .key 0xC 1 0 = 3 ∧ u.flag .key 4 3 = true ∧ (∀ b, b < 2 → Raised 1408 (p2 b ++ p1 (s.checkFirmware (bankOffset b) b).1) s u) ∧
        Raised 1409 (p1 (s.checkFirmware (bankOffset 0) 0).1 ++ p1 (s.checkFirmware (bankOffset 1) 1).1) s u ∧
          (∀ b a, b ≠ .key → u.rd b a = s.rd b a) ∧ Counted [] s u ∧ Only [.regs .key, .key, .mgt, .seq, .evt] s u)))

/-- Counter watchers and snapshots (15_management_events_health.md R577, R578, R581, R582): a watcher raises its event once in a window when its counter has risen by DELTA,
modulo 2^40, and starts the window that runs now when the old one is over; a snapshot fills every selected buffer that names a group with that group's counters, the stamp
and the epoch of one instant and the next GEN, marks a selected buffer that names none BAD, and counts one for each buffer taken. -/
def Obligations.WatchersAndSnapshots : Prop := ∀ s : State,
  (∀ (k : Fin 256) (b : Block) (off ns : Nat) (w w1 : Watch) (rise : Nat), locate (s.rd .evt (0x20000 + 0x10 * k.val)).toNat = some (b, off) → isCounter b off = true →
    ns = 1000000 * s.fld .evt (0x20008 + 0x10 * k.val) 15 0 → ns ≠ 0 → w = Sparse.get (fun _ => {}) s.evt.watch k.val →
      w1 = (if ns ≤ s.nowNs - w.start then ⟨s.count b off, w.start + (s.nowNs - w.start) / ns * ns, false⟩ else w) → rise = (s.count b off + 2 ^ 40 - w1.base) % 2 ^ 40 →
    (w1.raised = false → (s.rd .evt (0x20004 + 0x10 * k.val)).toNat ≤ rise → Runs (.watcherCheck k) s (fun u => Raised (1792 + k.val) (p4 (b.base + off) ++ p4 rise) s u ∧
      Sparse.get (fun _ => {}) u.evt.watch k.val = { w1 with raised := true } ∧ Kept [] s u ∧ Counted [(.evt, 0x428)] s u ∧ Only [.regs .evt, .evt, .seq] s u)) ∧
    ((w1.raised = true ∨ rise < (s.rd .evt (0x20004 + 0x10 * k.val)).toNat) → Runs (.watcherCheck k) s (fun u => u.evt.offered = s.evt.offered ∧
      Sparse.get (fun _ => {}) u.evt.watch k.val = w1 ∧ Only [.evt] s u))) ∧
  (∀ mask : Fin 65536, s.lmp.held = false → mask.val ≠ 0 → Runs (.snapshot mask) s (fun u => (∀ b, b < 16 → mask.val.testBit b = true →
      (∀ blk offs, groupAt (s.rd .mgt (snapReg b 0)).toNat = some (blk, offs) → u.fld .mgt (snapReg b 4) 23 16 = offs.length ∧ u.flag .mgt (snapReg b 4) 30 = false ∧
        u.fld .mgt (snapReg b 4) 15 0 = (s.fld .mgt (snapReg b 4) 15 0 + 1) % 65536 ∧ u.rd .mgt (snapReg b 8) = lo32 s.stamp.ns ∧ u.rd .mgt (snapReg b 0xC) = hi32 s.stamp.ns ∧
          u.rd .mgt (snapReg b 0x10) = word s.stamp.frac ∧ u.rd .mgt (snapReg b 0x14) = word s.epoch ∧ ∀ i, i < 128 → ∀ off, offs[i]? = some off →
            u.rd .mgt (snapReg b (0x400 + 8 * i)) = lo32 (s.count blk off) ∧ u.rd .mgt (snapReg b (0x404 + 8 * i)) = hi32 (s.count blk off)) ∧
      (groupAt (s.rd .mgt (snapReg b 0)).toNat = none → u.flag .mgt (snapReg b 4) 30 = true ∧ ∀ a, a < 0x800 → a ≠ 4 → u.rd .mgt (snapReg b a) = s.rd .mgt (snapReg b a))) ∧
    (∀ b, b < 16 → mask.val.testBit b = false → ∀ a, a < 0x800 → u.rd .mgt (snapReg b a) = s.rd .mgt (snapReg b a)) ∧ (∀ a, a < 0x40000 → u.rd .mgt a = s.rd .mgt a) ∧
      Counted (List.replicate ((bitsOf 16 mask.val).filter (fun b => (groupAt (s.rd .mgt (snapReg b 0)).toNat).isSome)).length (.mgt, 0x460)) s u ∧ (∃ gen, Raised 1601 (p2 mask.val ++ p4 gen) s u) ∧
        Only [.regs .mgt, .seq, .evt] s u))

/-- The patrol (15_management_events_health.md R583-R585): a corrected word counts in mgt.patrol.ce; an uncorrectable table entry is invalidated and an uncorrectable key slot
emptied with its pair half, each counted and reported; the last word of a pass counts the pass and compares every table's checksum, counting each difference and reporting it once; a stopped
plane or EN = 0 makes the patrol wait. -/
def Obligations.PatrolScrubsAndChecks : Prop := ∀ (s : State) (spot : PatrolSpot) (found : WordFound) (passEnd : Option (List (Fin 31 × Word))),
  ((s.mgtStopped = true ∨ s.flag .mgt 0x14 31 = false) → Runs (.patrolWord spot found passEnd) s (fun u => u = s)) ∧
  (s.mgtStopped = false → s.flag .mgt 0x14 31 = true →
    Runs (.patrolWord spot .good none) s (fun u => u = s) ∧
    (∀ (t : Fin 31) (i : Nat), Runs (.patrolWord (.table t i) .corrected none) s (fun u => Counted [(.mgt, 0x420)] s u ∧ Kept [] s u ∧ Only [.regs .mgt, .seq, .evt] s u) ∧
      ((s.table t.val).any (fun e => e.index == i) = true → Runs (.patrolWord (.table t i) .uncorrectable none) s (fun u => u.table t.val = (s.table t.val).filter (fun e => e.index != i) ∧
        (∀ k, k ≠ t.val → u.table k = s.table k) ∧ Raised 1607 (p2 t.val ++ p4 i) s u ∧ Counted [(.mgt, 0x430)] s u ∧ Kept [] s u ∧ Only [.regs .mgt, .tbl, .seq, .evt] s u))) ∧
    (∀ h : Fin 8192, attrValid (s.keySlot h.val).attr = true → isPairAlg (attrAlg (s.keySlot h.val).attr) = false → Runs (.patrolWord (.key h) .uncorrectable none) s (fun u => u.keySlot h.val = {} ∧
      (∀ k, k ≠ h.val → u.keySlot k = s.keySlot k) ∧ u.rd .key 0x14 = s.rd .key 0x14 + 1 ∧ Raised 1607 (p2 0xFFFF ++ p4 h.val) s u ∧ Counted [(.mgt, 0x430)] s u ∧ Kept [(.key, 0x14)] s u ∧
        Only [.regs .mgt, .regs .key, .key, .seq, .evt] s u)) ∧
    (∀ (t : Fin 31) (w : Word), w.toNat ≠ tableSum (s.table t.val) → s.tbl.sumBad = [] → Runs (.patrolWord spot .good (some [(t, w)])) s (fun u => u.tbl = { s.tbl with sumBad := [t.val] } ∧
      Raised 1606 (p2 t.val ++ (p4 (tableSum (s.table t.val)) ++ p4 w.toNat)) s u ∧ Counted [(.mgt, 0x418), (.mgt, 0x428)] s u ∧ Kept [] s u ∧ Only [.regs .mgt, .tbl, .seq, .evt] s u)) ∧
    (∀ (t : Fin 31) (w : Word), w.toNat ≠ tableSum (s.table t.val) → s.tbl.sumBad = [t.val] → Runs (.patrolWord spot .good (some [(t, w)])) s (fun u =>
      Counted [(.mgt, 0x418), (.mgt, 0x428)] s u ∧ Kept [] s u ∧ Only [.regs .mgt, .seq, .evt] s u ∧ ((s.count .mgt 0x428 + 1).testBit 39 = false → (s.count .mgt 0x418 + 1).testBit 39 = false → Only [.regs .mgt] s u))))

/-- Leases (15_management_events_health.md R589-R592): ACQUIRE of a free lease or of one's own, and RENEW of one's own, hold it for TIMEOUT_MS; ACQUIRE of another path's
answers 0x1 and RENEW or RELEASE of it 0x2; RELEASE frees it and discards its staged writes; TIMEOUT_MS 0 answers 0x3; a running timer that ends frees it, discards the
staged writes, counts and raises E1605. -/
def Obligations.LeasesLockAndExpire : Prop := ∀ (s : State) (path : Path) (l : Fin 64) (ms : Fin 65536), s.lmp.held = false → let h := pathIndex path; let result := (Block.mgt, onPath path 0x34)
  let holder := (s.lease l.val).map (fun (a : Lease) => a.holder)
  let held := fun (u : State) => u.lease l.val = some ⟨h, timerOf s.nowNs (1000000 * ms.val) (s.leaseFrozen h)⟩ ∧ (∀ k, k ≠ l.val → u.lease k = s.lease k) ∧ u.rd .mgt result.2 = 0 ∧
    Kept [result] s u ∧ Only [.regs .mgt, .mgt] s u
  let answer := fun (n : Nat) (u : State) => u.rd .mgt result.2 = word n ∧ Kept [result] s u ∧ Only [.regs .mgt] s u
  (ms.val ≠ 0 → ((holder = none ∨ holder = some h) → Runs (.leaseAcquire path l ms) s held) ∧ (holder ≠ none → holder ≠ some h → Runs (.leaseAcquire path l ms) s (answer 1)) ∧
    (holder = some h → Runs (.leaseRenew path l ms) s held) ∧ (holder ≠ some h → Runs (.leaseRenew path l ms) s (answer 2) ∧ Runs (.leaseRelease path l ms) s (answer 2)) ∧
    (holder = some h → Runs (.leaseRelease path l ms) s (fun u => u.lease l.val = none ∧ (∀ k, k ≠ l.val → u.lease k = s.lease k) ∧ u.rd .mgt result.2 = 0 ∧ Kept [result] s u ∧
      (∀ w, u.batch w = if w = h ∧ l.val < 31 then (s.batch w).filter (fun x => x.table != l.val) else s.batch w) ∧ Only [.regs .mgt, .mgt, .tbl, .seq, .evt] s u))) ∧
  (ms.val = 0 → ∀ c ∈ [Instr.leaseAcquire path l ms, .leaseRenew path l ms, .leaseRelease path l ms], Runs c s (answer 3)) ∧
  (∀ a, s.lease l.val = some a → a.timer.since.isSome = true → Runs (.leaseExpiry l) s (fun u => u.lease l.val = none ∧ (∀ k, k ≠ l.val → u.lease k = s.lease k) ∧
    (∀ w, u.batch w = if w = a.holder ∧ l.val < 31 then (s.batch w).filter (fun x => x.table != l.val) else s.batch w) ∧ Counted [(.mgt, 0x448)] s u ∧ Kept [] s u ∧
      Raised 1605 (p2 l.val ++ (p1 a.holder ++ p4 (if l.val < 31 then ((s.batch a.holder).filter (fun x => x.table == l.val)).length else 0))) s u ∧ Only [.regs .mgt, .mgt, .tbl, .seq, .evt] s u))

/-- Unlocking the debug port (15_management_events_health.md R593-R595): a challenge shifts out 64 bytes, 32 of them fresh; a response that answers it under an unrevoked
signer unlocks the port, and any other is refused and counted; either uses the challenge up; DBG_LOCK locks it again. A LOCKED port refuses REG_ACCESS; UNLOCKED, a write
acts as from path 5 and a read reads the inspection alias. The scan instructions and halted cores (15_management_events_health.md R570, R592, R593, R597): IDCODE, BYPASS
and SAMPLE/PRELOAD work in every state and EXTEST drives the balls only UNLOCKED; only the debug path halts and resumes cores, whose watchdog and frozen leases then stand
still. -/
def Obligations.DebugPortAndScan : Prop :=
  (∀ s : State, s.lmp.held = false →
  (s.rngOk = true → Runs .dbgChallenge s (fun u => ∃ r hash, r.length = 32 ∧ hash.length = 8 ∧ u.mgt = { s.mgt with challenge := some (r ++ (hash ++ (leBytes 4 s.devId ++ (leBytes 4 s.mgt.refusals ++ List.replicate 16 0)))) } ∧
    u.out = .tapBytes (r ++ (hash ++ (leBytes 4 s.devId ++ (leBytes 4 s.mgt.refusals ++ List.replicate 16 0)))) :: s.out ∧ Only [.key, .mgt, .out, .free] s u)) ∧
  (s.rngOk = false → Runs .dbgChallenge s (fun u => u.mgt = { s.mgt with challenge := none } ∧ u.out = .tapBytes (List.replicate 64 0) :: s.out ∧ Only [.mgt, .out] s u)) ∧
  (∀ (resp b : List Byte) (accepted : Prop), b = padTo 100 resp → (accepted ↔ ∃ c, s.mgt.challenge = some c ∧ s.mgt.refusals < 8 ∧ s.rngOk = true ∧ leAt b 0 1 < s.key.signers ∧
      s.fuses.signerRevoked.testBit (leAt b 0 1) = false ∧ ecdsaVerify (slice s.key.signerTable (112 * leAt b 0 1 + 16) 96) (sha384 c) (slice b 4 48) (slice b 52 48) = true) →
    (accepted → Runs (.dbgResponse resp) s (fun u => u.mgt = { s.mgt with challenge := none, unlocked := true, opened := true, signer := leAt b 0 1 } ∧ u.flag .key 0 7 = true ∧
      Raised 1608 (p1 1 ++ p1 (leAt b 0 1)) s u ∧ Counted [] s u ∧ (s.mgt.opened = true → Kept [(.key, 0)] s u) ∧ Only [.regs .key, .key, .mgt, .seq, .evt] s u)) ∧
    (¬accepted → Runs (.dbgResponse resp) s (fun u => u.mgt = { s.mgt with challenge := none, refusals := s.mgt.refusals + 1 } ∧ Raised 1609 (p4 (s.mgt.refusals + 1)) s u ∧
      Counted [(.mgt, 0x458)] s u ∧ Kept [] s u ∧ Only [.regs .mgt, .mgt, .seq, .evt] s u))) ∧
  (s.mgt.unlocked = true → Runs .dbgLock s (fun u => u.mgt = { s.mgt with unlocked := false } ∧ Raised 1608 (p1 0 ++ p1 s.mgt.signer) s u ∧ Only [.mgt, .seq, .evt] s u)) ∧
  (∀ (addr : Nat) (v : Word), (s.mgt.unlocked = false → ∀ w, RunsLink (.regAccess w addr v) s (fun u => u = s)) ∧ (s.mgt.unlocked = true →
    (∃ t, exec (.regAccess true addr v) s = .next t ∧ exec (.registerWrite .debug addr v) s = .next t) ∧
    (addr % 4 = 0 → addr < 2 * mirrorBase → RunsLink (.regAccess false addr v) s (fun u => u.out = .tapWord (s.lookAt .debug (addr % mirrorBase)) :: s.out ∧
      (u.path .debug).lastRead = s.lookAt .debug (addr % mirrorBase) ∧ (u.path .debug).latch = (s.path .debug).latch ∧ (∀ q, q ≠ .debug → u.path q = s.path q) ∧ Only [.paths, .out] s u))))) ∧
  (∀ s : State,
  Runs .idcode s (fun u => u.out = .tapWord s.idWord :: s.out ∧ field s.idWord 27 12 = 0x8828 ∧ field s.idWord 11 0 = 1 ∧ field s.idWord 31 28 = s.fuses.revision % 16 ∧ Only [.out] s u) ∧
  (∀ tdi : List Bool, Runs (.bypass tdi) s (fun u => u.out = .tapBits ((false :: tdi).take tdi.length) :: s.out ∧ Only [.out] s u) ∧
    Runs (.samplePreload tdi) s (fun u => u.mgt = { s.mgt with scan := tdi } ∧ (∃ bs, bs.length = tdi.length ∧ u.out = .tapBits bs :: s.out) ∧ Only [.mgt, .out, .free] s u) ∧
    (s.mgt.unlocked = false → Runs (.extest tdi) s (fun u => u.out = .tapBits ((false :: tdi).take tdi.length) :: s.out ∧ Only [.out] s u)) ∧
    (s.mgt.unlocked = true → Runs (.extest tdi) s (fun u => u.mgt = { s.mgt with scan := tdi } ∧ (∃ bs, bs.length = tdi.length ∧ u.out = .scan tdi :: .tapBits bs :: .scan s.mgt.scan :: s.out) ∧
      Only [.mgt, .out, .free] s u))) ∧
  (s.lmp.held = false → ∀ n : Fin 4,
    (let haltIs := fun (v : Bool) (u : State) => u.flag .mgt 0x18 n.val = v ∧
      (∀ i, i < 9 → (i < 4 ∨ i = 8) → i ≠ n.val → u.flag .mgt 0x18 i = s.flag .mgt 0x18 i) ∧
        (∀ l, l < 64 → u.lease l = (s.lease l).map (fun a => { a with timer := a.timer.still s.nowNs (u.leaseFrozen a.holder) })) ∧
          (s.mgt.state = .running → u.mgt.wdt = s.mgt.wdt.still s.nowNs (decide (u.halted ≠ 0))) ∧ (s.mgt.state ≠ .running → u.mgt.wdt = s.mgt.wdt) ∧
            Kept [(.mgt, 0x18)] s u ∧ Only [.regs .mgt, .mgt] s u;
      Runs (.coreHalt .debug n) s (haltIs true) ∧ Runs (.coreResume .debug n) s (haltIs false)) ∧
    ∀ path, path ≠ .debug → Runs (.coreHalt path n) s (fun u => u = s) ∧ Runs (.coreResume path n) s (fun u => u = s)) ∧
  (∀ (path : Path) (n : Fin 4), Runs (.coreStep path n) s (fun u => u = s)))

/-- The boot selection and the boot load (02_ikiem_images.md R67-R72, R101): IMG_SLOT_VER shows the three versions; a slot of A and B that does not authenticate raises E5;
equal versions with different digests raise E7; what is picked authenticated and is legal, or the loader ends in NO_IMAGE with E8. The load takes effect as epoch 1 with
E4 and shows its slot, overlays and digest. -/
def Obligations.BootSelectsAndLoads : Prop := ∀ (s : State) (gs : List ReadGlitch), s.lmp.held = false → s.img.state = .booting →
  (s.img.boot = none → s.key.booted = true → Runs (.bootSelect gs) s (fun u =>
    (∀ sl, u.rd .img (0xC + 4 * slotCode sl) = word (if hasMagic (s.imgHeader sl) then hdrVersion (s.imgHeader sl) else 0)) ∧
    (∀ sl, sl ≠ .g → s.slotReason sl ≠ 0 → Raised 5 (p1 (slotCode sl) ++ p1 (s.slotReason sl)) s u) ∧
    (s.slotReason .a ≠ 0 → s.slotReason .b ≠ 0 → ∃ x y, Raised 6 (p1 x ++ p1 y) s u) ∧
    (s.slotReason .a = 0 → s.slotReason .b = 0 → hdrVersion (s.imgHeader .a) = hdrVersion (s.imgHeader .b) → s.signedDigest .a ≠ s.signedDigest .b →
      Raised 7 (p4 (hdrVersion (s.imgHeader .a))) s u ∧ Raised 5 (p1 0 ++ p1 7) s u ∧ Raised 5 (p1 1 ++ p1 7) s u ∧ ∀ c, u.img.boot = some c → c.slot = .g) ∧
    (∀ c, u.img.boot = some c → s.slotReason c.slot = 0 ∧ confLegal (primaryIn c.recs) c.recs = true ∧ u.img = { s.img with boot := some c }) ∧
    (u.img.boot = none → u.img = { s.img with state := .noImage } ∧ ∃ x y z, Raised 8 (p1 x ++ (p1 y ++ p1 z)) s u) ∧ Only [.regs .img, .img, .seq, .evt] s u)) ∧
  (∀ c, s.img.boot = some c → RunsLink .bootLoadDone s (fun u => u.img.conf = some c ∧ u.img.state = .running ∧ u.img.boot = none ∧ u.rd .img 0x18 = 1 ∧ u.fld .img 0x1C 15 0 = c.overlays % 65536 ∧
    u.fld .img 8 1 0 = slotCode c.slot ∧ (∀ i, i < 12 → u.rd .img (0x80 + 4 * i) = (wordsOf (padTo 48 c.digest)).getD i 0) ∧
      (∃ r ∈ u.evt.offered, r.source = 4 ∧ r.payload = padTo 16 (p1 (slotCode c.slot) ++ (p4 c.version ++ p4 1))) ∧ u.count .img 0x110 = (s.count .img 0x110 + 1) % 2 ^ 40 ∧
        (∀ p ∈ [Part.regs .dev, .regs .xbr, .regs .hbr, .paths, .hbr, .sense, .fuses, .flash, .pending], p.same s u)))

/-- Staging (02_ikiem_images.md R73-R75, R101, R102): STAGE from RUNNING or NO_IMAGE clears LAST_ERR and settles what the staging ends with: 0x3 without a source, the reason
of a source that does not authenticate, or a legal configuration; STAGING_COMPLETE shows it with E9, or returns with LAST_ERR and E10 or E11; a command that the state
table does not list sets LAST_ERR 0xC, and so does a write of the staging registers while STAGING, ARMED or COMMITTING. That the
outcome of a staging is settled at STAGE is the model's reading (notes/assumptions/47.md). -/
def Obligations.StagingFollowsStateTable : Prop := ∀ (s : State) (gs : List ReadGlitch) (path : Path) (reg : StageReg) (v : Word),
  let busy := fun (u : State) => u.fld .img 4 11 8 = 0xC ∧ Kept [(.img, 4)] s u ∧ Only [.regs .img] s u
  (s.lmp.held = false → (s.img.state = .running ∨ s.img.state = .noImage) → Runs (.imgStage gs) s (fun u => u.img.state = .staging ∧ u.fld .img 4 11 8 = 0 ∧ (∃ e oc, u.img = { s.img with state := .staging, outcome := some (e, oc) } ∧
    (s.stageSlot = none → e = 3 ∧ oc = none) ∧ (∀ sl, s.stageSlot = some sl → s.slotReason sl ≠ 0 → e = reasonError (s.slotReason sl) ∧ oc = none) ∧ (oc = none → e ≠ 0) ∧
      (∀ c, oc = some c → e = 0 ∧ confLegal s.primary c.recs = true ∧ s.stageSlot = some c.slot ∧ s.slotReason c.slot = 0 ∧ c.overlays = s.fld .img 0x20 31 16)) ∧
        Kept [(.img, 4), (.img, 0x34), (.img, 0x38), (.img, 0x3C)] s u ∧ Only [.regs .img, .img, .seq, .evt] s u)) ∧
  (s.lmp.held = false → s.img.state ≠ .running → s.img.state ≠ .noImage → Runs (.imgStage gs) s busy) ∧
  (∀ c e, s.img.state = .staging → s.img.outcome = some (e, some c) → Runs .stagingComplete s (fun u => u.img = { s.img with state := .staged, outcome := none, staged := some c } ∧ u.fld .img 0x1C 31 16 = c.overlays % 65536 ∧
    (∀ i, i < 12 → u.rd .img (0xC0 + 4 * i) = (wordsOf (padTo 48 c.digest)).getD i 0) ∧ Raised 9 (p1 (slotCode c.slot) ++ (p2 c.overlays ++ c.digest.take 8)) s u ∧ Counted [(.img, 0x100)] s u ∧
      Only [.regs .img, .img, .seq, .evt] s u)) ∧
  (∀ e, s.img.state = .staging → s.img.outcome = some (e, none) → Runs .stagingComplete s (fun u => u.img = { s.img with state := s.imgBase, outcome := none } ∧ u.fld .img 4 11 8 = e % 16 ∧ Counted [(.img, 0x108)] s u ∧
    (e ≠ 6 → Raised 10 (p1 e) s u) ∧ (e = 6 → Raised 11 (p4 (s.rd .img 0x34).toNat ++ p4 (s.rd .img 0x38).toNat) s u) ∧ Kept [(.img, 4)] s u ∧ Only [.regs .img, .img, .seq, .evt] s u)) ∧
  (s.lmp.held = false → (s.img.state = .staging ∨ s.img.state = .armed ∨ s.img.state = .committing) → Runs (.imgConfigWrite path reg v) s busy) ∧
  (s.lmp.held = false → s.img.state ≠ .staging → s.img.state ≠ .armed → s.img.state ≠ .committing →
    Runs (.imgConfigWrite path .stageSrc v) s (fun u => u.fld .img 0x20 31 16 = field v 31 16 ∧ u.fld .img 0x20 1 0 = field v 1 0 ∧ Kept [(.img, 0x20)] s u ∧ Only [.regs .img] s u) ∧
    Runs (.imgConfigWrite path .commitEpoch v) s (fun u => u.rd .img 0x30 = v ∧ Kept [(.img, 0x30)] s u ∧ Only [.regs .img] s u) ∧
    Runs (.imgConfigWrite path .commitTimeLo v) s (fun u => (u.path path).stage = some (Block.base .img + 0x28, v) ∧ (∀ q, q ≠ path → u.path q = s.path q) ∧ Only [.paths] s u) ∧
    Runs (.imgConfigWrite path .commitTimeHi v) s (fun u => u.rd .img 0x2C = v ∧ u.rd .img 0x28 = s.lowFor path (Block.base .img + 0x28) (s.rd .img 0x28) ∧ Kept [(.img, 0x28), (.img, 0x2C)] s u ∧
      Only [.regs .img, .paths] s u))

/-- Arming (02_ikiem_images.md R73, R76-R79, R83): ARM and, unpaired, COMMIT_NOW test the flume layout, the epoch number, the lead, the time domain and admission in the
model's order (DEDUCED, notes/assumptions/45.md) and set LAST_ERR 0xB, 0x8, 0x7, 0xE or 0x6, or arm with E12 and, when commits follow the tandem, send the arm record;
ABORT discards the staging before T - 200 us. -/
def Obligations.ArmingChecksItsRules : Prop := ∀ s : State, s.lmp.held = false →
  let lacks := fun (e : Nat) (u : State) => u.fld .img 4 11 8 = e ∧ u.img = s.img ∧ Only [.regs .img, .seq, .evt] s u
  let gone := fun (u : State) => u.img = { s.img with state := s.imgBase, staged := none, armed := none, decision := none, partner := none, abortRx := false, refusedHold := false, kept := s.img.kept.filter (fun k => !k.2.2) } ∧ u.fld .img 4 11 8 = 0xD ∧ u.fld .img 0x1C 31 16 = 0 ∧ (∀ i, i < 12 → u.rd .img (0xC0 + 4 * i) = 0)
  let fails := fun (c : Conf) (t e : Nat) => (s.sameLayout c = false ∧ e = 0xB) ∨ (s.sameLayout c = true ∧ (((s.rd .img 0x30).toNat ≠ s.nextEpoch ∧ e = 8) ∨ ((s.rd .img 0x30).toNat = s.nextEpoch ∧
    ((t * 2 ^ 32 < s.commitDomain.time + s.minLead * 2 ^ 32 ∧ e = 7) ∨ (s.commitDomain.time + s.minLead * 2 ^ 32 ≤ t * 2 ^ 32 ∧
      ((s.timeOk = false ∧ e = 0xE) ∨ (s.timeOk = true ∧ (s.admitConf c.recs).2 = false ∧ e = 6)))))))
  let passes := fun (c : Conf) (t : Nat) => s.sameLayout c = true ∧ (s.rd .img 0x30).toNat = s.nextEpoch ∧ s.commitDomain.time + s.minLead * 2 ^ 32 ≤ t * 2 ^ 32 ∧ s.timeOk = true ∧ (s.admitConf c.recs).2 = true
  let arms := fun (c : Conf) (t : Nat) (u : State) => u.img = { s.img with state := .armed, armed := some ⟨s.nextEpoch, t, c.digest, c.overlays⟩, decision := none, refusedHold := false } ∧
    Raised 12 (p4 s.nextEpoch ++ p8 t) s u ∧ Kept [(.img, 0x34), (.img, 0x38), (.img, 0x3C)] s u ∧ Counted [] s u ∧ (s.agreeing = false → u.tdm = s.tdm) ∧
      (s.agreeing = true → u.tdm = { s.tdm with tx := s.tdm.tx ++ [⟨1, 3, s.tdm.nextSeq, ArmRecord.body ⟨s.nextEpoch, t, c.digest, c.overlays⟩, false⟩] }) ∧ Only [.regs .img, .img, .tdm, .seq, .evt] s u
  (∀ c, s.img.state = .staged → s.img.staged = some c → (let t := s.rd64 .img 0x28
      (∀ e, fails c t e → Runs .imgArm s (lacks e)) ∧ (passes c t → Runs .imgArm s (arms c t))) ∧
    (s.inPairing = false → let t := ceilDiv s.commitDomain.time (2 ^ 32) + s.minLead
      (∀ e, fails c t e → Runs .imgCommitNow s (lacks e)) ∧ (passes c t → Runs .imgCommitNow s (arms c t)))) ∧
  (s.img.state ≠ .staged → Runs .imgArm s (lacks 0xC) ∧ Runs .imgCommitNow s (lacks 0xC)) ∧
  (s.img.state = .staged → Runs .imgAbort s (fun u => gone u ∧ Counted [] s u ∧ Only [.regs .img, .img] s u)) ∧
  (∀ a, s.img.state = .armed → s.img.armed = some a → s.img.decision = none → s.commitDomain.time + 200000 * 2 ^ 32 < a.t * 2 ^ 32 → Runs .imgAbort s (fun u => gone u ∧ Counted [] s u ∧
    (s.agreeing = false → u.tdm = s.tdm) ∧ Only [.regs .img, .img, .tdm] s u)) ∧
  (∀ a, s.img.state = .armed → s.img.armed = some a → a.t * 2 ^ 32 ≤ s.commitDomain.time + 200000 * 2 ^ 32 → Runs .imgAbort s (lacks 0xC))

/-- The commit (02_ikiem_images.md R73, R80, R82, R84-R86, R103): the agreement deadline settles a tandem commit; at T the armed configuration takes effect as its epoch when
it passes admission again, without the banks that retire (06_switch_core.md R270), and the tandem agreed, and the replaced one is kept; otherwise the commit is refused with LAST_ERR 0x9 or 0x6, E14 and its staging kept; the
ends of the refused hold, of the kept configuration and of the last unit's roadworks. -/
def Obligations.CommitSwitchesOrRefuses : Prop := ∀ (s : State),
  (s.img.state = .armed → s.img.decision = none → Runs .agreementDeadline s (fun u => u.img = { s.img with decision := some (!s.agreeing || s.agreed) } ∧ Only [.img] s u)) ∧
  (∀ a c, s.img.state = .armed → s.img.armed = some a → s.img.staged = some c →
    let agree := !s.agreeing || (s.img.decision).getD s.agreed
    let refused := fun (e : Nat) => RunsLink .commitSwitch s (fun u => u.img = { s.img with state := .staged, armed := none, decision := none, partner := none, abortRx := false, refusedHold := true, kept := some (c, a.epoch, true) } ∧
      u.fld .img 4 11 8 = e ∧ Raised 14 (p1 e ++ p4 (u.rd .img 0x34).toNat) s u ∧ Counted [(.img, 0x118)] s u ∧ Kept [(.img, 4), (.img, 0x34), (.img, 0x38), (.img, 0x3C)] s u ∧ Only [.regs .img, .img, .seq, .evt] s u)
    (agree = false → refused 9) ∧ (agree = true → (s.admitAt s.usableAtT c.recs).2 = false → refused 6) ∧
    (agree = true → (s.admitAt s.usableAtT c.recs).2 = true → RunsLink .commitSwitch s (fun u => u.img.conf = some c ∧ u.rd .img 0x18 = word a.epoch ∧ u.img.staged = none ∧ u.img.armed = none ∧
      u.img.kept = s.img.conf.map (fun o => (o, s.epoch, false)) ∧ u.img.state = (if u.img.works = [] then .running else .committing) ∧ u.fld .img 0x1C 15 0 = c.overlays % 65536 ∧ u.fld .img 0x1C 31 16 = 0 ∧
        (∀ i, i < 12 → u.rd .img (0x80 + 4 * i) = (wordsOf (padTo 48 c.digest)).getD i 0 ∧ u.rd .img (0xC0 + 4 * i) = 0) ∧ u.count .img 0x110 = (s.count .img 0x110 + 1) % 2 ^ 40 ∧
          (∃ r ∈ u.evt.offered, r.source = 13 ∧ r.payload = padTo 16 (p4 a.epoch ++ (p2 c.overlays ++ p2 u.img.works.length))) ∧
            (∀ p ∈ [Part.regs .dev, .regs .xbr, .regs .hbr, .paths, .hbr, .sense, .fuses, .flash, .pending], p.same s u)))) ∧
  (s.img.state = .staged → s.img.refusedHold = true → Runs .refusedHoldExpiry s (fun u => u.img = { s.img with state := s.imgBase, staged := none, armed := none, decision := none, partner := none, abortRx := false, refusedHold := false, kept := s.img.kept.filter (fun k => !k.2.2) } ∧ Only [.regs .img, .img] s u)) ∧
  (s.img.state = .committing → s.img.works = [] → Runs .commitRoadworksDone s (fun u => u.img = { s.img with state := .running } ∧ Raised 15 (p4 s.epoch ++ p4 ((s.nowNs - s.img.worksFrom) / 1000)) s u ∧
    Only [.img, .seq, .evt] s u)) ∧
  (s.img.works ≠ [] → Runs .commitRoadworksDone s (fun u => u = s)) ∧
  Runs .keptConfigRelease s (fun u => u.img = { s.img with kept := none } ∧ Only [.img] s u)

/-- Sync, Follow_Up and Announce (03_time_and_order.md R113, R114, R116, R119, R653): the first failing check in code order rejects a message and gives the code; a two-step
Sync on the slave port is noted with its receive time; the Follow_Up that matches it gives a sample, which in LOCKED within OUTLIER moves F and P by the servo's rule and
is an outlier beyond it; an Announce is noted for its port. Peer delay and Signaling (03_time_and_order.md R115, R118, R119 code 0x8): a port that is UP with PDELAY_EN
sends Pdelay_Req and counts the exchange before it lost when it got no valid response; a request is answered with its receipt and a follow-up; a matching pair of
responses stores the mean link delay, and one that does not match, or whose delay is below -10 ns, is rejected and the exchange lost; a message interval request is
clamped. -/
def Obligations.TimeMessagesAndPeerDelay : Prop :=
  (∀ (s : State) (p : Port) (d : Nat), s.ptpUp p.val = true →
  (∀ m : SyncMsg, let code := s.headerReject m.hdr (if m.twoStep then 44 else 76) (if m.twoStep then [] else [m.origin])
    (∀ c, code = some c → Runs (.syncRx p m) s (PtpRejected p.val c s)) ∧ (code = none → s.domainOf m.hdr.domain = some d →
      (s.role d p.val ≠ 2 → Runs (.syncRx p m) s (PtpRejected p.val 5 s)) ∧
      (s.role d p.val = 2 → m.twoStep = false → s.flag .tkp (tkpPort p.val 0) 16 = true → rateFits m.rateOffset = false → Runs (.syncRx p m) s (PtpRejected p.val 7 s)) ∧
      (s.role d p.val = 2 → m.twoStep = true → Runs (.syncRx p m) s (fun u => (u.dom d).sync = some ⟨m.hdr.seq, m.hdr.clock, m.hdr.portNum, (s.rxTime d p.val).toNat, m.hdr.correction⟩ ∧
        (u.dom d).time = (s.dom d).time ∧ u.count .tkp (tkpPort p.val 0x20) = (s.count .tkp (tkpPort p.val 0x20) + 1) % 2 ^ 40 ∧ KeptButPn [] s u ∧ Only [.regs .tkp, .regs .eth, .tkp, .seq, .evt, .net, .mf, .out] s u)))) ∧
  (∀ m : FollowUpMsg, (∀ c, s.headerReject m.hdr 76 [m.origin] = some c → Runs (.followUpRx p m) s (PtpRejected p.val c s)) ∧
    (s.headerReject m.hdr 76 [m.origin] = none → s.domainOf m.hdr.domain = some d → (s.role d p.val ≠ 2 → Runs (.followUpRx p m) s (PtpRejected p.val 5 s)) ∧
      (s.role d p.val = 2 → (s.dom d).sync = none → Runs (.followUpRx p m) s (PtpRejected p.val 6 s)) ∧
      (∀ y o, s.role d p.val = 2 → (s.dom d).sync = some y → y.seq = m.hdr.seq → y.clock = m.hdr.clock → y.portNum = m.hdr.portNum → s.rxTime d p.val - y.rx < syncInterval m.hdr.logInterval * 65536 →
        rateFits m.rateOffset = true → (s.dom d).state = .locked → o = (y.rx : Int) - (ptpTicks m.origin + y.correction + m.hdr.correction + (s.portDelay p.val + s.asymmetry p.val) * 256) →
        (o.natAbs ≤ 65536 * s.fld .tkp (domReg d 0x14) 23 0 → Runs (.followUpRx p m) s (fun u => (u.dom d).f = s.freqTerm d (s.sampleRate d p.val m.rateOffset) ∧ (u.dom d).p = s.phaseTerm d o (syncInterval m.hdr.logInterval) ∧
          (u.dom d).state = .locked ∧ (u.dom d).time = (s.dom d).time ∧ (u.dom d).sync = none ∧ (u.dom d).outliers = 0 ∧ u.rd .tkp (domReg d 0x20) = word (twos 32 (clampInt (-0x7FFFFFFF) 0x7FFFFFFF (o / 65536))) ∧
            u.count .tkp (domReg d 0x80) = (s.count .tkp (domReg d 0x80) + 1) % 2 ^ 40 ∧ KeptButPn [(.tkp, domReg d 0x20)] s u ∧ Only [.regs .tkp, .regs .eth, .tkp, .seq, .evt, .net, .mf, .out, .free] s u)) ∧
        (65536 * s.fld .tkp (domReg d 0x14) 23 0 < o.natAbs → Runs (.followUpRx p m) s (fun u => (u.dom d).f = (s.dom d).f ∧ u.fld .tkp (tkpPort p.val 4) 11 8 = 0xA ∧
          (u.dom d).state = (if s.fld .tkp (domReg d 0x14) 31 28 ≤ (s.dom d).outliers + 1 then .acquiring else .locked) ∧ u.count .tkp (domReg d 0x88) = (s.count .tkp (domReg d 0x88) + 1) % 2 ^ 40 ∧
            KeptButPn [(.tkp, tkpPort p.val 4)] s u ∧ Only [.regs .tkp, .regs .eth, .tkp, .seq, .evt, .net, .mf, .out, .free] s u))))) ∧
  (∀ m : AnnounceMsg, (∀ c, s.headerReject m.hdr 68 [] = some c → Runs (.announceRx p m) s (PtpRejected p.val c s)) ∧ (s.headerReject m.hdr 68 [] = none → s.domainOf m.hdr.domain = some d →
    ((255 ≤ m.steps ∨ s.fuses.clockId ∈ m.trace) → Runs (.announceRx p m) s (PtpRejected p.val 9 s)) ∧
    (m.steps < 255 → s.fuses.clockId ∉ m.trace → Runs (.announceRx p m) s (fun u => Sparse.get (fun _ => none) (u.dom d).heard p.val = some ⟨m.rank, m.steps, m.hdr.clock, m.hdr.portNum⟩ ∧
      (∀ q, q ≠ p.val → Sparse.get (fun _ => none) (u.dom d).heard q = Sparse.get (fun _ => none) (s.dom d).heard q) ∧ (u.dom d).time = (s.dom d).time ∧
        u.count .tkp (tkpPort p.val 0x20) = (s.count .tkp (tkpPort p.val 0x20) + 1) % 2 ^ 40 ∧ KeptButPn [] s u ∧ Only [.regs .tkp, .regs .eth, .tkp, .seq, .evt, .net, .mf, .out] s u))))) ∧
  (∀ (s : State) (p : Port), s.ptpUp p.val = true →
  (s.flag .tkp (tkpPort p.val 0) 0 = true → (s.ptp p.val).answered = true → Runs (.pdelayReqSend p) s (fun u => u.ptp p.val = { s.ptp p.val with req := some ((s.ptp p.val).reqSeq, (s.txTime s.primary p.val).toNat), reqSeq := ((s.ptp p.val).reqSeq + 1) % 65536, answered := false } ∧ (∃ h, PtpSent p.val [.pdelayReq h] s u ∧ h.seq = (s.ptp p.val).reqSeq % 65536 ∧ h.clock = s.fuses.clockId) ∧
        KeptButPn [] s u ∧ Only [.regs .tkp, .regs .eth, .tkp, .seq, .evt, .net, .mf, .out] s u)) ∧
  (s.flag .tkp (tkpPort p.val 0) 0 = true → (s.ptp p.val).answered = false → Runs (.pdelayReqSend p) s (fun u => (u.ptp p.val).lost = (s.ptp p.val).lost + 1 ∧
    u.count .tkp (tkpPort p.val 0x38) = (s.count .tkp (tkpPort p.val 0x38) + 1) % 2 ^ 40 ∧ (2 ≤ (s.ptp p.val).lost → (u.ptp p.val).capable = false) ∧ KeptButPn [] s u ∧ Only [.regs .tkp, .regs .eth, .tkp, .seq, .evt, .net, .mf, .out] s u)) ∧
  (s.flag .tkp (tkpPort p.val 0) 0 = false → Runs (.pdelayReqSend p) s (fun u => u = s)) ∧
  (∀ h : PtpHeader, (∀ c, s.headerReject h 54 [] = some c → Runs (.pdelayReqRx p h) s (PtpRejected p.val c s)) ∧ (s.headerReject h 54 [] = none → Runs (.pdelayReqRx p h) s (fun u =>
    (∃ r f, PtpSent p.val [.pdelayResp r, .pdelayRespFollowUp f] s u ∧ r.hdr.seq = h.seq % 65536 ∧ r.receipt = ptpTime (s.rxTime s.primary p.val).toNat ∧ r.reqClock = h.clock ∧ r.reqPort = h.portNum ∧
      f.hdr.seq = h.seq % 65536 ∧ f.origin = ptpTime (s.txTime s.primary p.val).toNat ∧ f.reqClock = h.clock ∧ f.reqPort = h.portNum) ∧
        u.count .tkp (tkpPort p.val 0x20) = (s.count .tkp (tkpPort p.val 0x20) + 1) % 2 ^ 40 ∧ KeptButPn [] s u ∧ Only [.regs .tkp, .regs .eth, .seq, .evt, .net, .mf, .out] s u))) ∧
  (∀ (r : PdelayResp) (f : PdelayRespFollowUp) (seq t1 : Nat) (delay : Int), s.headerReject r.hdr 54 [r.receipt] = none → s.headerReject f.hdr 54 [f.origin] = none → (s.ptp p.val).req = some (seq, t1) →
    delay = ((s.rxTime s.primary p.val - t1) - (ptpTicks f.origin - ptpTicks r.receipt) - r.hdr.correction - f.hdr.correction) / 2 →
    let mine := r.hdr.seq = seq ∧ r.reqClock = s.fuses.clockId ∧ r.reqPort = p.val + 1 ∧ f.hdr.seq = seq ∧ f.reqClock = s.fuses.clockId ∧ f.reqPort = p.val + 1
    (mine → -655360 ≤ delay → Runs (.pdelayRespRx p r f) s (fun u => (u.ptp p.val).req = none ∧ (u.ptp p.val).answered = true ∧ (u.ptp p.val).lost = 0 ∧ u.rd .tkp (tkpPort p.val 8) = word (twos 32 (delay / 256)) ∧
      u.count .tkp (tkpPort p.val 0x20) = (s.count .tkp (tkpPort p.val 0x20) + 2) % 2 ^ 40 ∧ Kept [(.tkp, tkpPort p.val 8), (.tkp, tkpPort p.val 0xC)] s u ∧ Only [.regs .tkp, .tkp, .seq, .evt] s u)) ∧
    ((¬mine ∨ delay < -655360) → Runs (.pdelayRespRx p r f) s (fun u => u.fld .tkp (tkpPort p.val 4) 11 8 = 8 ∧ (u.ptp p.val).req = none ∧ (u.ptp p.val).lost = (s.ptp p.val).lost + 1 ∧
      u.count .tkp (tkpPort p.val 0x20) = (s.count .tkp (tkpPort p.val 0x20) + 1) % 2 ^ 40 ∧ u.count .tkp (tkpPort p.val 0x38) = (s.count .tkp (tkpPort p.val 0x38) + 1) % 2 ^ 40 ∧ Kept [(.tkp, tkpPort p.val 4)] s u ∧ Only [.regs .tkp, .tkp, .seq, .evt] s u))) ∧
  (∀ m : SignalingMsg, s.headerReject m.hdr 44 [] = none → (m.request = none → Runs (.signalingRx p m) s (fun u => u = s)) ∧ (∀ a b c, m.request = some (a, b, c) → Runs (.signalingRx p m) s (fun u =>
    u.ptp p.val = { s.ptp p.val with linkInterval := some (clampInt (-3) 5 a), syncInterval := some (clampInt (-7) 1 b), announceInterval := some (clampInt (-3) 3 c) } ∧
      Counted [(.tkp, tkpPort p.val 0x20)] s u ∧ Kept [] s u ∧ Only [.regs .tkp, .tkp, .seq, .evt] s u))))

/-- Domains (03_time_and_order.md R111, R112, R116, R120, R142): the sync receipt timeout and HOLDOVER_MAX; SET and RESYNC with the order of their refusals; enabling,
disabling and roles, where a second slave port and a misfitting DOM_CFG are ignored; a grandmaster's Sync with Follow_Up and Announce on its master ports. -/
def Obligations.DomainsFollowStateTable : Prop := ∀ (s : State) (d : Dom), let x := s.dom d.val
  let enters := fun (new : DomState) (u : State) => u.dom d.val = x.entering new ∧ (∀ e, e ≠ d.val → u.dom e = s.dom e) ∧
    Raised (64 + d.val) (p1 x.state.code ++ (p1 new.code ++ leBytes 4 (s.rd .tkp (domReg d.val 0x20)).toNat)) s u ∧ Kept [] s u ∧ Counted [] s u ∧ Only [.tkp, .seq, .evt] s u
  let refuses := fun (cmd : Instr) (op err : Nat) => Runs cmd s (fun u => u.fld .tkp 4 22 20 = err ∧ Raised 80 (p1 op ++ (p1 d.val ++ p1 err)) s u ∧ u.tkp = s.tkp ∧ Kept [(.tkp, 4)] s u ∧ Only [.regs .tkp, .seq, .evt] s u)
  ((x.state = .locked ∨ (x.state = .acquiring ∧ x.lockedSince = true)) → Runs (.syncReceiptTimeout d) s (enters .holdover)) ∧
  (x.state = .acquiring → x.lockedSince = false → s.selfSelected d.val = false → s.extRoles d.val = true → Runs (.syncReceiptTimeout d) s (enters .freeRun)) ∧
  (x.state = .holdover → s.fld .tkp 0x50 15 0 ≠ 0 → s.selfSelected d.val = false → s.extRoles d.val = true → Runs (.holdoverMaxExpiry d) s (enters .freeRun)) ∧
  (s.fld .tkp 0x50 15 0 = 0 → Runs (.holdoverMaxExpiry d) s (fun u => u = s)) ∧
  (s.lmp.held = false → (x.state = .disabled → refuses (.tkpSet d) 1 3 ∧ refuses (.tkpResync d) 2 3) ∧ (x.state ∈ [.acquiring, .locked, .holdover] → refuses (.tkpSet d) 1 4) ∧ (x.state = .grandmaster → refuses (.tkpResync d) 2 4) ∧
    (x.state ∈ [.freeRun, .grandmaster] → d.val = s.primary → s.firstLock = true → refuses (.tkpSet d) 1 1) ∧
    (x.state ∈ [.freeRun, .grandmaster] → d.val = s.primary → s.firstLock = false → s.rd64 .tkp 0x20 * 2 ^ 32 < x.time → refuses (.tkpSet d) 1 5) ∧
    (x.state ∈ [.freeRun, .grandmaster] → (d.val ≠ s.primary ∨ (s.firstLock = false ∧ x.time ≤ s.rd64 .tkp 0x20 * 2 ^ 32)) → s.armedOn d.val = true → refuses (.tkpSet d) 1 2) ∧
    (x.state ∈ [.freeRun, .grandmaster] → (d.val ≠ s.primary ∨ (s.firstLock = false ∧ x.time ≤ s.rd64 .tkp 0x20 * 2 ^ 32)) → s.armedOn d.val = false → Runs (.tkpSet d) s (fun u => (u.dom d.val).time = s.rd64 .tkp 0x20 * 2 ^ 32 ∧
      (u.dom d.val).state = x.state ∧ (∀ e, e ≠ d.val → u.dom e = s.dom e) ∧ u.fld .tkp 4 22 20 = 0 ∧ (d.val ≠ s.primary → Raised (72 + d.val) (p8i ((s.rd64 .tkp 0x20 : Int) - ((x.time / 2 ^ 32 : Nat) : Int))) s u ∧
        Kept [(.tkp, 4)] s u ∧ Only [.regs .tkp, .tkp, .seq, .evt] s u))) ∧
    (x.state ∈ [.freeRun, .acquiring, .locked, .holdover] → s.armedOn d.val = true → refuses (.tkpResync d) 2 2) ∧
    (x.state ∈ [.freeRun, .acquiring, .locked, .holdover] → s.armedOn d.val = false → Runs (.tkpResync d) s (fun u => (u.dom d.val).state = .acquiring ∧ (u.dom d.val).p = 0 ∧ (u.dom d.val).f = x.f ∧ (u.dom d.val).lockRun = 0 ∧
      (u.dom d.val).time = x.time ∧ u.fld .tkp 4 22 20 = 0 ∧ (∀ e, e ≠ d.val → u.dom e = s.dom e) ∧ Kept [(.tkp, 4)] s u ∧ Only [.regs .tkp, .tkp, .seq, .evt] s u)) ∧
    (∀ v : Word, (s.domCfgFits d.val (setBit v 0 true &&& 0xFF0F) = false → Runs (.domEnable d v) s (fun u => u = s)) ∧
      (x.state = .disabled → s.domCfgFits d.val (setBit v 0 true &&& 0xFF0F) = true → Runs (.domEnable d v) s (fun u => (u.dom d.val).time = s.now ∧ (u.dom d.val).f = 0 ∧ (u.dom d.val).p = 0 ∧
        (u.dom d.val).state ∈ [DomState.freeRun, .grandmaster] ∧ u.rd .tkp (domReg d.val 0) = setBit v 0 true &&& 0xFF0F ∧ Kept [(.tkp, domReg d.val 0)] s u ∧ Only [.regs .tkp, .tkp, .seq, .evt] s u)) ∧
      (d.val ≠ s.primary → s.domCfgFits d.val (setBit v 0 false &&& 0xFF0F) = false → Runs (.domDisable d v) s (fun u => u = s)) ∧
      (d.val ≠ s.primary → s.domCfgFits d.val (setBit v 0 false &&& 0xFF0F) = true → x.state ≠ .disabled → Runs (.domDisable d v) s (fun u => u.dom d.val = x.entering .disabled ∧ (∀ e, e ≠ d.val → u.dom e = s.dom e) ∧ u.rd .tkp (domReg d.val 0) = setBit v 0 false &&& 0xFF0F ∧
        Raised (64 + d.val) (p1 x.state.code ++ (p1 0 ++ leBytes 4 (s.rd .tkp (domReg d.val 0x20)).toNat)) s u ∧ Kept [(.tkp, domReg d.val 0)] s u ∧ Only [.regs .tkp, .tkp, .seq, .evt] s u)) ∧
      (1 < slaves v (s.rd .tkp (domReg d.val 0x3C)) → Runs (.domRoleWrite d 0 v) s (fun u => u = s)) ∧
      (slaves v (s.rd .tkp (domReg d.val 0x3C)) ≤ 1 → Runs (.domRoleWrite d 0 v) s (fun u => u.rd .tkp (domReg d.val 0x38) = v ∧ (u.dom d.val).time = x.time ∧ Kept [(.tkp, domReg d.val 0x38)] s u ∧ Only [.regs .tkp, .tkp, .seq, .evt] s u)) ∧
      (slaves (s.rd .tkp (domReg d.val 0x38)) (v &&& 0x3FFFFFF) ≤ 1 → Runs (.domRoleWrite d 1 v) s (fun u => u.rd .tkp (domReg d.val 0x3C) = v &&& 0x3FFFFFF ∧ (u.dom d.val).time = x.time ∧ Kept [(.tkp, domReg d.val 0x3C)] s u ∧
        Only [.regs .tkp, .tkp, .seq, .evt] s u)))) ∧
  (∀ p : Port, Runs (.announceReceiptTimeout d p) s (fun u => Sparse.get (fun _ => none) (u.dom d.val).heard p.val = none ∧ (u.dom d.val).time = x.time ∧ Kept [] s u ∧ Only [.regs .tkp, .tkp, .seq, .evt] s u)) ∧
  (s.servesGm d.val = true → Runs (.gmSyncSend d) s (fun u => u.dom d.val = { x with syncSeq := (x.syncSeq + 1) % 65536 } ∧ (∀ q ∈ s.masterPorts d.val, ∃ m f, PtpAmong q [.sync m, .followUp f] s u ∧
      m.twoStep = true ∧ m.hdr.seq = x.syncSeq % 65536 ∧ f.hdr.seq = x.syncSeq % 65536 ∧ f.origin = ptpTime (s.txTime d.val q).toNat) ∧ KeptButPn [] s u ∧ Only [.regs .tkp, .regs .eth, .tkp, .seq, .evt, .net, .mf, .out] s u) ∧
    Runs (.announceSend d) s (fun u => u.dom d.val = { x with announceSeq := (x.announceSeq + 1) % 65536 } ∧ (∀ q ∈ s.masterPorts d.val, ∃ m, PtpAmong q [.announce m] s u ∧ m.rank = s.ownRank d.val ∧ m.steps = 0 ∧
      m.trace = [s.fuses.clockId] ∧ m.hdr.seq = x.announceSeq % 65536) ∧ KeptButPn [] s u ∧ Only [.regs .tkp, .regs .eth, .tkp, .seq, .evt, .net, .mf, .out] s u)) ∧
  (s.servesGm d.val = false → Runs (.gmSyncSend d) s (fun u => u = s) ∧ Runs (.announceSend d) s (fun u => u = s))

/-- Pulse per second (03_time_and_order.md R126-R130): PPS in stamps edges, rejects an edge beyond WIN of a whole second after LOCK_COUNT accepted ones, and is lost after 2.5
s, which takes a disciplined grandmaster to HOLDOVER; PPS out rises only when enabled and qualified, in the oscillator period in which the domain's time with COMP reaches
TKP_PPS_OUT_OFFSET, and a pulse that has begun completes its width, whatever EN and QUALIFY have become. -/
def Obligations.PpsStampsAndDisciplines : Prop := ∀ (s : State) (falling : Bool), let a := s.tkp.pps; let mode := s.fld .tkp 0x30 1 0; let d := s.fld .tkp 0x30 3 2
  ((mode = 0 ∨ s.flag .tkp 0x30 4 ≠ falling) → Runs (.ppsInEdge falling) s (fun u => u = s)) ∧
  (s.flag .tkp 0x30 4 = falling → mode = 1 → a.lost = false → Runs (.ppsInEdge falling) s (fun u => u.tkp = { s.tkp with pps := { a with inRow := a.inRow + 1, ok := true } } ∧ Raised 79 (pStamp s.ppsStamp) s u ∧
    u.rd .tkp 0x40 = lo32 s.ppsStamp.ns ∧ u.rd .tkp 0x44 = hi32 s.ppsStamp.ns ∧ u.rd .tkp 0x48 = word s.ppsStamp.frac ∧ Counted [(.tkp, 0x60)] s u ∧ Kept [(.tkp, 0x40), (.tkp, 0x44), (.tkp, 0x48)] s u ∧
      Only [.regs .tkp, .tkp, .seq, .evt] s u)) ∧
  (s.flag .tkp 0x30 4 = falling → mode = 2 → s.lockCount d ≤ a.inRow → 65536000 * s.fld .tkp 0x30 31 16 < (fromSecond ((((s.dom d).time / 65536 : Nat) : Int) - 65536 * signed 32 (s.rd .tkp 0x4C).toNat)).natAbs →
    Runs (.ppsInEdge falling) s (fun u => u.tkp = { s.tkp with pps := { a with inRow := 0 } } ∧ Raised 77 (pStamp s.ppsStamp) s u ∧ Counted [(.tkp, 0x68)] s u ∧ Kept [] s u ∧ Only [.regs .tkp, .tkp, .seq, .evt] s u)) ∧
  (mode ≠ 0 → a.lost = false → (mode ≠ 2 ∨ (s.dom d).state ≠ .grandmaster) → Runs .ppsInLoss s (fun u => u.tkp = { s.tkp with pps := { a with ok := false, lost := true, inRow := 0, sinceLoss := 0 } } ∧
    Raised 76 (pStamp s.lastPpsStamp) s u ∧ Only [.tkp, .seq, .evt] s u)) ∧
  (mode = 2 → a.lost = false → (s.dom d).state = .grandmaster → Runs .ppsInLoss s (fun u => u.dom d = (s.dom d).entering .holdover ∧ u.tkp.pps = { a with ok := false, lost := true, inRow := 0, sinceLoss := 0 } ∧
    Raised 76 (pStamp s.lastPpsStamp) s u ∧ Only [.tkp, .seq, .evt] s u)) ∧
  (mode = 0 ∨ a.lost = true → Runs .ppsInLoss s (fun u => u = s)) ∧
  (s.flag .tkp 0x34 0 = true → (s.flag .tkp 0x34 1 = false ∨ (s.dom (s.fld .tkp 0x34 5 4)).state ∈ [.locked, .holdover, .grandmaster]) → a.outSince = none → s.ppsDue = true → Runs .ppsOutEdge s (fun u =>
    u.tkp = { s.tkp with pps := { a with outSince := some s.now } } ∧ u.out = .pps (!s.flag .tkp 0x34 2) :: s.out ∧ Only [.tkp, .out] s u)) ∧
  ((s.flag .tkp 0x34 0 = false ∨ (s.flag .tkp 0x34 1 = true ∧ (s.dom (s.fld .tkp 0x34 5 4)).state ∉ [.locked, .holdover, .grandmaster]) ∨ a.outSince ≠ none ∨ s.ppsDue = false) →
    Runs .ppsOutEdge s (fun u => u = s)) ∧
  (∀ x, a.outSince = some x → x + (s.rd .tkp 0x38).toNat * 2 ^ 32 < s.now + 40 * 2 ^ 32 → Runs .ppsOutWidthEnd s (fun u => u.tkp = { s.tkp with pps := { a with outSince := none } } ∧
    u.out = .pps (s.flag .tkp 0x34 2) :: s.out ∧ Only [.tkp, .out] s u)) ∧
  ((∀ x, a.outSince = some x → s.now + 40 * 2 ^ 32 ≤ x + (s.rd .tkp 0x38).toNat * 2 ^ 32) → Runs .ppsOutWidthEnd s (fun u => u = s))

/-- Link states and link epochs (04_ethernet_ports.md R148-R151, R182): each command moves the port as the state table says, with its link event, and in any other state
changes nothing but ADMIN; a link epoch ends at a disable and at a loss; the speed is the one a PHY reports, up to the build's, and
LINK_STATUS says whether the partner signals a remote fault, also while the link is up (a report then changes nothing else: notes/assumptions/157.md, the model's reading). -/
def Obligations.LinkStatesAndEpochs : Prop := ∀ (s : State) (port : Port), let p := port.val; let st := (s.port p).state; let mode := s.buildMode p
  let parts := [Part.regs .tkp, .regs .eth, .regs .tbl, .regs .tdm, .seq, .tkp, .evt, .net, .prs, .tbl, .xbr, .cis, .tdm]
  let admin := fun (v : Word) (u : State) => u.rd .eth (ethReg p 4) = v ∧ Kept [(.eth, ethReg p 4)] s u ∧ Counted [] s u ∧ Only [.regs .eth] s u
  (s.lmp.held = false →
    (st = .disabled → mode ≠ 0 → RunsLink (.portEnable port) s (fun u => u.rd .eth (ethReg p 4) = 1 ∧ LinkMoved p .training s u ∧ Kept [(.eth, ethReg p 4)] s u ∧ Counted [] s u ∧
      Only [.regs .eth, .net, .seq, .evt] s u)) ∧ ((st ≠ .disabled ∨ mode = 0) → RunsLink (.portEnable port) s (admin 1)) ∧
    (st = .up ∨ st = .standby ∨ st = .down ∨ st = .training → RunsLink (.portDisable port) s (fun u => u.rd .eth (ethReg p 4) = 0 ∧ EpochEnded p true [] s u ∧ LinkMoved p .disabled s u ∧ Only parts s u)) ∧
    (st = .disabled ∨ st = .roadworks → RunsLink (.portDisable port) s (admin 0))) ∧
  (∀ (code : Fin 8) (remote : Bool), let reports := (5 ≤ mode ∧ mode ≤ 8) ∨ mode = 10; let fault := if remote then 8 else 0
    (st = .training → RunsLink (.pcsLinkUp port code remote) s (fun u => LinkMoved p (if s.tdm.active || p = 4 then .up else .standby) s u ∧ Kept [(.egr, egrReg p 8)] s u ∧
      (u.port p).speed = (if reports ∧ 0 < speedRate code.val ∧ speedRate code.val ≤ buildRate mode then code.val else speedCode (buildRate mode)) ∧ (u.port p).signals = 1 + (if s.flag .eth (ethReg p 0) 6 then 2 else 0) + (if s.fld .eth (ethReg p 0) 5 4 = 2 then 32 else 0) + fault ∧
      ((s.tdm.active || p = 4) = true → (s.port p).verify = .initial → (u.port p).verify = .verifying ∧ (u.port p).tries = 1 ∧ u.out = .verify p :: s.out) ∧
        (∀ q, q ≠ p → u.port q = s.port q) ∧ Only [.regs .egr, .net, .seq, .evt, .out] s u)) ∧
    (st = .up ∨ st = .standby → RunsLink (.pcsLinkUp port code remote) s (fun u => u.port p = { s.port p with signals := ((s.port p).signals &&& 0x37) ||| fault } ∧
      (∀ q, q ≠ p → u.port q = s.port q ∧ u.egress q = s.egress q) ∧ Only [.net] s u)) ∧
    (st ≠ .training → st ≠ .up → st ≠ .standby → RunsLink (.pcsLinkUp port code remote) s (fun u => u = s))) ∧
  (∀ why, (st = .up ∨ st = .standby → RunsLink (.pcsLinkLoss port why) s (fun u => EpochEnded p false [ethReg p 0x718] s u ∧ LinkMoved p .down s u ∧
      (u.port p).signals = lossSignals (s.port p).signals why ∧ Only parts s u)) ∧ (st ≠ .up → st ≠ .standby → RunsLink (.pcsLinkLoss port why) s (fun u => u = s))) ∧
  (st = .training → Runs (.trainTimeout port) s (fun u => Counted [(.eth, ethReg p 0x720)] s u ∧ Kept [] s u ∧ Only [.regs .eth, .seq, .evt] s u)) ∧
  (st ≠ .training → Runs (.trainTimeout port) s (fun u => u = s)) ∧
  (st = .down → Runs (.portHoldoffExpiry port) s (fun u => LinkMoved p .training s u ∧ Only [.net, .seq, .evt] s u)) ∧ (st ≠ .down → Runs (.portHoldoffExpiry port) s (fun u => u = s))

/-- Frame checks (04_ethernet_ports.md R152, R154, R155, R178): of a frame received whole, the first check that fails, in R154's order, sets the one error counter it touches
and drops it; a STANDBY port drops a good frame; a good data frame is counted, goes through MACsec and waits for classification with its stamp, or, under parser roadworks,
is dropped and counted there (02_ikiem_images.md R89). Reception in parts hands the frame on from 64 bytes, and a frame that then fails goes no further. -/
def Obligations.ReceivedFramesChecked : Prop := ∀ (s : State) (port : Port) (f : WireFrame), let p := port.val; let n := f.bytes.length; let bs := f.bytes.take (n - 4)
  let maxLen := s.fld .eth (ethReg p 0x14) 13 0; let bin := if 64 ≤ n ∧ n ≤ maxLen then [(Block.eth, ethReg p (0x470 + 8 * sizeBin n))] else []
  let fails := fun (off : Nat) => (f.codeErr = true ∧ off = 0x4C8) ∨ (f.codeErr = false ∧ n < 64 ∧ off = 0x4B8) ∨ (f.codeErr = false ∧ 64 ≤ n ∧ maxLen < n ∧ off = 0x4C0) ∨
    (f.codeErr = false ∧ 64 ≤ n ∧ n ≤ maxLen ∧ f.bytes.drop (n - 4) ≠ fcsOf bs ∧ off = 0x4B0)
  let st := (s.port p).state; let took := fun (u : State) => u.seqOf (0x800 + p) = (s.seqOf (0x800 + p) + 1) % 2 ^ 32
  ((s.receiving p = false ∨ (s.port p).rx.isSome = true) → RunsLink (.frameReceive port (.whole f)) s (fun u => u = s)) ∧
  (s.receiving p = true → (s.port p).rx = none →
    (∀ off, fails off → RunsLink (.frameReceive port (.whole f)) s (fun u => Counted (bin ++ [(.eth, ethReg p off)]) s u ∧ took u ∧ Kept [] s u ∧ Only [.regs .eth, .seq, .evt] s u)) ∧
    ((∀ off, ¬fails off) →
      (st = .standby → RunsLink (.frameReceive port (.whole f)) s (fun u => Counted (bin ++ [(.eth, ethReg p 0x4E8)]) s u ∧ took u ∧ Kept [] s u ∧ Only [.regs .eth, .seq, .evt] s u)) ∧
      (st = .up → etherType bs ≠ 0x8808 → etherType bs ≠ 0x88B6 → isGptp bs = false → s.laneServed (laneOf p) = true → s.macsecBuilt p = false →
        let fr := s.rxToFrame p s.cis.nextId maxLen (s.seqOf (0x800 + p)) (s.rxStamp p) bs n false true false
        let good := bin ++ ([(.eth, ethReg p 0x400), (.eth, ethReg p (castCounter 0x410 (bs.take 6)))] ++ List.replicate n (.eth, ethReg p 0x408))
        RunsLink (.frameReceive port (.whole f)) s (fun u => u.cis = { s.cis with nextId := s.cis.nextId + 1 } ∧ took u ∧ Kept [] s u ∧
          (s.prs.roadworks = false → u.prs = { s.prs with wait := s.prs.wait ++ [fr] } ∧ Counted good s u ∧ Only [.regs .eth, .seq, .evt, .prs, .cis, .mf] s u) ∧
          (s.prs.roadworks = true → u.prs = s.prs ∧ Counted (good ++ [(.prs, prsCounter p 9), (.prs, 0x20010 + 0x20 * s.firstDistrict fr), (.eth, ethReg p 0x4E0)]) s u ∧
            Only [.regs .eth, .regs .prs, .seq, .evt, .cis, .mf] s u))) ∧
      (st = .up → etherType bs ≠ 0x8808 → s.laneServed (laneOf p) = false → RunsLink (.frameReceive port (.whole f)) s (fun u => u.prs = s.prs ∧ took u ∧ Kept [] s u ∧
        Counted (bin ++ ([(.eth, ethReg p 0x400), (.eth, ethReg p (castCounter 0x410 (bs.take 6))), (.xbr, xbrCounter (laneOf p) 3)] ++ List.replicate n (.eth, ethReg p 0x408))) s u ∧
          Only [.regs .eth, .regs .xbr, .seq, .evt, .mf] s u))) ∧
    (s.prs.roadworks = false → ∀ k, 64 ≤ k → k ≤ n → RunsLink (.frameReceive port (.first f k)) s (fun u => (u.port p).rx = some ⟨s.cis.nextId, f.bytes, f.codeErr, k, maxLen, s.rxStamp p, s.seqOf (0x800 + p), s.earlyGiven p bs⟩ ∧
      (s.earlyGiven p bs = true → ∃ fr : Frame, u.prs.wait = s.prs.wait ++ [fr] ∧ fr.id = s.cis.nextId ∧ fr.bytes = bs ∧ fr.whole = false ∧ fr.stamp = s.rxStamp p) ∧
        (s.earlyGiven p bs = false → u.prs = s.prs ∧ u.cis = s.cis) ∧ took u ∧ Counted [] s u ∧ Kept [] s u ∧ Only [.seq, .net, .prs, .cis] s u))) ∧
  (∀ r, (s.port p).rx = some r → (∀ k, RunsLink (.frameReceive port (.more k)) s (fun u => (u.port p).rx = some { r with arrived := Nat.min r.bytes.length (Nat.max r.arrived k) } ∧ Only [.net] s u)) ∧
    (r.given = true → r.bytes = f.bytes → r.codeErr = f.codeErr → r.maxLen = maxLen → ∀ off, fails off → RunsLink (.frameReceive port .last) s (fun u => (u.port p).rx = none ∧
      Counted (bin ++ [(.eth, ethReg p off)]) s u ∧ u.prs.wait = s.prs.wait.filter (fun fr => fr.id != r.id) ∧ (∀ c ∈ u.cis.copies, c.frame = r.id →
        s.net.egr.any (fun e => e.2.wire.any (fun w => w.copy == c.id)) = true) ∧ (∀ h ∈ u.cis.held, h.frame.id = r.id → h.failed = true) ∧ Only [.regs .eth, .seq, .evt, .net, .prs, .cis, .xbr] s u)))

/-- Preemptable frames received in fragments (04_ethernet_ports.md R166): an SMD error or a wrong count drops the frame and counts in rx.mm.smd_err; a start before the final
fragment, a wrong mCRC or a wrong CRC drops it and counts in rx.mm.assy_err; each continuation counts in rx.mm.frag; a frame whose final CRC is wrong counts in its size bin too (R178); where the MAC merge
sublayer is not built, or MM_CFG.EN is 0, fragments are not received. -/
def Obligations.FragmentsReassembled : Prop := ∀ (s : State) (port : Port) (g : Fragment), let p := port.val
  let drops := fun (ks : List Nat) (u : State) => (u.port p) = { s.port p with assembly := none } ∧ Counted (ks.map (fun k => (.eth, ethReg p k))) s u ∧ Kept [] s u ∧ Only [.regs .eth, .seq, .evt, .net] s u
  ((s.receiving p = false ∨ s.mmBuilt p = false ∨ s.flag .eth (ethReg p 0x50) 0 = false) → RunsLink (.frameReceive port (.fragment g)) s (fun u => u = s)) ∧
  (s.receiving p = true → s.mmBuilt p = true → s.flag .eth (ethReg p 0x50) 0 = true →
    (g.smdErr = true → RunsLink (.frameReceive port (.fragment g)) s (drops [0x610])) ∧
    (g.smdErr = false → g.start = true → g.final = false → let lost := if (s.port p).assembly.isSome then [0x608] else []
      (g.check = mcrcOf g.bytes → RunsLink (.frameReceive port (.fragment g)) s (fun u => (u.port p).assembly = some ⟨g.bytes, g.frameNumber.val, 0, s.maxLen p, s.rxStamp p, s.seqOf (0x800 + p)⟩ ∧
        Counted (lost.map (fun k => (.eth, ethReg p k))) s u ∧ Only [.regs .eth, .seq, .evt, .net] s u)) ∧ (g.check ≠ mcrcOf g.bytes → RunsLink (.frameReceive port (.fragment g)) s (drops (lost ++ [0x608])))) ∧
    (g.smdErr = false → g.start = false →
      ((s.port p).assembly = none → RunsLink (.frameReceive port (.fragment g)) s (fun u => (u.port p) = s.port p ∧ Counted [(.eth, ethReg p 0x618), (.eth, ethReg p 0x610)] s u ∧ Only [.regs .eth, .seq, .evt] s u)) ∧
      (∀ a, (s.port p).assembly = some a → ((a.number ≠ g.frameNumber.val ∨ a.next ≠ g.fragCount.val) → RunsLink (.frameReceive port (.fragment g)) s (drops [0x618, 0x610])) ∧
        (a.number = g.frameNumber.val → a.next = g.fragCount.val →
          (g.final = false → g.check = mcrcOf (a.bytes ++ g.bytes) → RunsLink (.frameReceive port (.fragment g)) s (fun u => (u.port p).assembly = some { a with bytes := a.bytes ++ g.bytes, next := (a.next + 1) % 4 } ∧
            Counted [(.eth, ethReg p 0x618)] s u ∧ Only [.regs .eth, .seq, .evt, .net] s u)) ∧
          (g.final = false → g.check ≠ mcrcOf (a.bytes ++ g.bytes) → RunsLink (.frameReceive port (.fragment g)) s (drops [0x618, 0x608])) ∧
          (g.final = true → g.check ≠ fcsOf (a.bytes ++ g.bytes) → let n := (a.bytes ++ g.bytes).length + 4
            RunsLink (.frameReceive port (.fragment g)) s (drops ([0x618, 0x608] ++ (if 64 ≤ n ∧ n ≤ a.maxLen then [0x470 + 8 * sizeBin n] else []))))))))

/-- Pause and priority flow control received, watched and sent (04_ethernet_ports.md R157-R162): a pause stops the port, a PFC frame each enabled class of its vector, an
entry of 0 ends it; PFC enabled makes pause frames count only; a vector above 255 is dropped; the watchdog trips, reports and with WD_ACT makes the port ignore pauses
until it is cleared; a change of XOFF sends PFC, or pause where PFC is off, and a refresh repeats it. -/
def Obligations.PauseAndFlowControl : Prop := ∀ (s : State) (port : Port), let p := port.val; let e := s.port p; let pfc := s.fld .eth (ethReg p 0x44) 7 0
  (e.state = .up → 64 ≤ s.fld .eth (ethReg p 0x14) 13 0 → ∀ (group : Bool) (sa : Nat), let da := if group then macControlDa else s.macAddr p
    (∀ q : Fin 65536, (isSPort p = false ∧ s.flag .eth (ethReg p 0x40) 15 = true ∧ pfc = 0 ∧ e.ignorePause = false → Runs (.pauseFrameRx port group sa q) s (fun u =>
        u.port p = { e with linkPaused := decide (q.val ≠ 0), linkSince := if e.linkPaused then e.linkSince else s.nowNs } ∧ ControlCounted p da [0x428] s u)) ∧
      (isSPort p = true ∨ s.flag .eth (ethReg p 0x40) 15 = false ∨ pfc ≠ 0 ∨ e.ignorePause = true → Runs (.pauseFrameRx port group sa q) s (fun u => u.port p = e ∧
        ControlCounted p da (if isSPort p then [] else [0x428]) s u))) ∧
    (∀ (v : Fin 65536) (times : List Nat), let perClass := (bitsOf 8 v.val).map (fun c => 0x430 + 8 * c)
      (256 ≤ v.val → Runs (.pfcFrameRx port group sa v times) s (fun u => u.port p = e ∧
        Counted ([(.eth, ethReg p 0x470), (.eth, ethReg p 0x4D0)] ++ (if s.macsecBuilt p then [(.eth, ethReg p 0x6C8)] else [])) s u ∧ Kept [] s u ∧ Only [.regs .eth, .seq, .evt] s u)) ∧
      (v.val < 256 → isSPort p = false → e.ignorePause = false → Runs (.pfcFrameRx port group sa v times) s (fun u => ControlCounted p da perClass s u ∧
        u.port p = { e with classPaused := (u.port p).classPaused, classSince := (u.port p).classSince } ∧ ∀ c, c < 8 → let stops := (u.port p).classPaused.testBit c
          (stops = if pfc.testBit c && v.val.testBit c then decide (times.getD c 0 % 65536 ≠ 0) else e.classPaused.testBit c) ∧
            Sparse.get (fun _ => 0) (u.port p).classSince c = if stops && !e.classPaused.testBit c then s.nowNs else Sparse.get (fun _ => 0) e.classSince c)) ∧
      (v.val < 256 → (isSPort p = true ∨ e.ignorePause = true) → Runs (.pfcFrameRx port group sa v times) s (fun u => ControlCounted p da (if isSPort p then [] else perClass) s u ∧ u.port p = e)))) ∧
  (Runs (.pauseExpiry port none) s (fun u => u.port p = { e with linkPaused := false } ∧ Only [.net] s u)) ∧
  (∀ c : Fin 8, Runs (.pauseExpiry port (some c)) s (fun u => (u.port p).classPaused = e.classPaused - (if e.classPaused.testBit c.val then 2 ^ c.val else 0) ∧ Only [.net] s u)) ∧
  (let paused := e.linkPaused = true ∨ e.classPaused ≠ 0;
    (s.fld .eth (ethReg p 0x40) 11 0 ≠ 0 → paused → Runs (.pauseWatchdogTrip port) s (fun u => u.flag .eth (ethReg p 0x48) 16 = true ∧ Raised (128 + 8 * p + 2) (p1 e.linkPaused.toNat ++ p1 e.classPaused) s u ∧
      u.port p = (if s.flag .eth (ethReg p 0x40) 12 then { e with ignorePause := true, linkPaused := false, classPaused := 0, classSince := [] } else e) ∧ Kept [(.eth, ethReg p 0x48)] s u ∧ Only [.regs .eth, .net, .seq, .evt] s u)) ∧
    ((s.fld .eth (ethReg p 0x40) 11 0 = 0 ∨ ¬paused) → Runs (.pauseWatchdogTrip port) s (fun u => u = s))) ∧
  (s.lmp.held = false → Runs (.pauseWdClear port) s (fun u => u.flag .eth (ethReg p 0x48) 16 = false ∧ u.port p = { e with ignorePause := false } ∧ Kept [(.eth, ethReg p 0x48)] s u ∧ Only [.regs .eth, .net] s u)) ∧
  (let want := s.xoffWanted p; let sent := e.xoffSent; let xon := s.flag .eth (ethReg p 0x40) 13; let quanta := s.fld .eth (ethReg p 0x40) 31 16
   let frame := fun (v off : Nat) => pfcFrame macControlDa (s.macAddr p) v ((List.range 8).map (fun c => if off.testBit c then quanta else 0))
   let pfcKs := fun (v : Nat) => (bitsOf 8 v).map (fun c => 0x530 + 8 * c);
   (want = sent ∨ s.controlFits p = false → Runs (.macControlTx port) s (fun u => u = s)) ∧
   (want ≠ sent → s.controlFits p = true →
     (want = 256 → (sent = 0 ∨ (sent < 256 ∧ xon = false)) → Runs (.macControlTx port) s (fun u => (u.port p).xoffSent = want ∧ ControlSent p (pauseFrame macControlDa (s.macAddr p) quanta) [0x528] s u)) ∧
     (want < 256 → sent < 256 → let v := want ||| (if xon then sent &&& (511 - want) else 0); let news := want &&& (511 - sent) ≠ 0 ∨ (xon = true ∧ sent &&& (511 - want) ≠ 0);
       (news → Runs (.macControlTx port) s (fun u => (u.port p).xoffSent = want ∧ ControlSent p (frame v want) (pfcKs v) s u)) ∧
       (¬news → Runs (.macControlTx port) s (fun u => u.port p = { e with xoffSent := want } ∧ Only [.net] s u))) ∧
     (want = 0 → sent = 256 → xon = true → Runs (.macControlTx port) s (fun u => (u.port p).xoffSent = 0 ∧ ControlSent p (pauseFrame macControlDa (s.macAddr p) 0) [0x528] s u)) ∧
     (want = 0 → sent = 256 → xon = false → Runs (.macControlTx port) s (fun u => u.port p = { e with xoffSent := 0 } ∧ Only [.net] s u)) ∧
     (want ≠ 0 → want < 256 → sent = 256 → xon = false → Runs (.macControlTx port) s (fun u => (u.port p).xoffSent = want ∧ ControlSent p (frame want want) (pfcKs want) s u))) ∧
   (let again := want &&& sent;
     (again = 0 ∨ s.controlFits p = false → Runs (.pauseRefresh port) s (fun u => u = s)) ∧ (s.controlFits p = true →
       (again = 256 → Runs (.pauseRefresh port) s (ControlSent p (pauseFrame macControlDa (s.macAddr p) quanta) [0x528] s)) ∧
       (again ≠ 0 → again ≠ 256 → Runs (.pauseRefresh port) s (ControlSent p (frame again again) (pfcKs again) s)))))

/-- MAC merge verification and the MACsec registers (04_ethernet_ports.md R163, R165, R172, R180, R182): MM_CFG.EN or VERIFY_DIS starts or stops verification; Verify is sent
at most three times while the link is UP (in STANDBY the MAC sends nothing and verification waits, R152: notes/assumptions/156.md), a Respond ends it SUCCEEDED, silence FAILED, each with its event;
every Verify is answered while EN = 1. KEY, NEXT_PN, SSCI and SALT stand while the
SA is enabled, and CIPHER, CONF_OFFSET and DISTRICT while any SA of the port is. -/
def Obligations.MergeVerificationAndSecurityRegisters : Prop := ∀ (s : State) (port : Port) (v : Word), let p := port.val; let e := s.port p
  (s.lmp.held = false → isSPort p = true → Runs (.mmCfgWrite port v) s (fun u => u = s) ∧ Runs (.secCfgWrite port v) s (fun u => u = s) ∧ ∀ path sa reg, Runs (.saWrite path port sa reg v) s (fun u => u = s)) ∧
  (s.lmp.held = false → isSPort p = false →
    (Runs (.mmCfgWrite port v) s (fun u => u.fld .eth (ethReg p 0x50) 23 16 = field v 23 16 ∧ u.fld .eth (ethReg p 0x50) 15 8 = clamp 1 128 (field v 15 8) ∧ u.fld .eth (ethReg p 0x50) 7 6 = field v 7 6 ∧
      u.fld .eth (ethReg p 0x50) 1 0 = field v 1 0 ∧ ((bit v 0 = false ∨ bit v 1 = true) → (u.port p).verify = .disabled) ∧
      (bit v 0 = true → bit v 1 = false → e.verify = .disabled → s.flag .eth (ethReg p 0) 8 = true → (e.state ≠ .up → (u.port p).verify = .initial) ∧
        (e.state = .up → (u.port p).verify = .verifying ∧ (u.port p).tries = 1 ∧ u.out = .verify p :: s.out)) ∧ (bit v 0 = true → bit v 1 = false → e.verify ≠ .disabled → u.port p = e) ∧
          Kept [(.eth, ethReg p 0x50)] s u ∧ Only [.regs .eth, .net, .out] s u)) ∧
    (Runs (.secCfgWrite port v) s (fun u => u.fld .eth (ethReg p 0x60) 9 8 = field v 9 8 ∧ u.fld .eth (ethReg p 0x60) 3 2 = field v 3 2 ∧ u.fld .eth (ethReg p 0x60) 1 0 = (if field v 1 0 = 3 then 2 else field v 1 0) ∧
      (∀ hi lo, (hi, lo) ∈ [(27, 16), (7, 6), (5, 4)] → u.fld .eth (ethReg p 0x60) hi lo = if s.anySa p then s.fld .eth (ethReg p 0x60) hi lo else if hi = 7 ∧ field v 7 6 = 3 then 0 else field v hi lo) ∧
        Kept [(.eth, ethReg p 0x60)] s u ∧ Only [.regs .eth] s u)) ∧
    (∀ (path : Path) (sa : SaId) (reg : SaReg), let o := saOffset p sa; let en := s.flag .eth o 31
      (reg = .ctl → Runs (.saWrite path port sa reg v) s (fun u => u.flag .eth o 31 = bit v 31 ∧ u.fld .eth o 12 0 = (if en then s.fld .eth o 12 0 else field v 12 0) ∧ (u.port p).faulted = e.faulted.filter (fun x => x != o) ∧
        Kept [(.eth, o)] s u ∧ Only [.regs .eth, .net] s u)) ∧
      (reg ≠ .ctl → en = true → Runs (.saWrite path port sa reg v) s (fun u => u = s)) ∧
      (en = false → (reg = .nextPnLo → Runs (.saWrite path port sa reg v) s (fun u => (u.path path).stage = some (Block.eth.base + o + 8, v) ∧ Only [.paths, .net] s u)) ∧
        (reg = .nextPnHi → Runs (.saWrite path port sa reg v) s (fun u => u.rd .eth (o + 0xC) = v ∧ u.rd .eth (o + 8) = s.lowFor path (Block.eth.base + (o + 8)) (s.rd .eth (o + 8)) ∧
          Kept [(.eth, o + 8), (.eth, o + 0xC)] s u ∧ Only [.regs .eth, .paths, .net] s u)) ∧
        (reg = .ssci → Runs (.saWrite path port sa reg v) s (fun u => u.rd .eth (o + 0x10) = v ∧ Kept [(.eth, o + 0x10)] s u ∧ Only [.regs .eth, .net] s u)) ∧
        (∀ i, reg = .salt i → Runs (.saWrite path port sa reg v) s (fun u => u.rd .eth (o + 0x14 + 4 * i.val) = v ∧ Kept [(.eth, o + 0x14 + 4 * i.val)] s u ∧ Only [.regs .eth, .net] s u))))) ∧
  (e.verify = .verifying → (e.state = .up →
    (e.tries < 3 → Runs (.verifyTimeout port) s (fun u => u.port p = { e with tries := e.tries + 1 } ∧ u.out = .verify p :: s.out ∧ Only [.net, .out] s u)) ∧
    (3 ≤ e.tries → Runs (.verifyTimeout port) s (fun u => u.port p = { e with verify := .failed } ∧ Raised (128 + 8 * p + 3) (p1 4) s u ∧ Counted (if s.mmBuilt p then [(.eth, ethReg p 0x628)] else []) s u ∧ Kept [] s u ∧
      Only [.regs .eth, .net, .seq, .evt] s u))) ∧
    (e.state ≠ .up → Runs (.verifyTimeout port) s (fun u => u = s)) ∧
    Runs (.respondRx port) s (fun u => u.port p = { e with verify := .succeeded } ∧ Raised (128 + 8 * p + 3) (p1 3) s u ∧ Only [.net, .seq, .evt] s u)) ∧
  (e.verify ≠ .verifying → Runs (.verifyTimeout port) s (fun u => u = s) ∧ Runs (.respondRx port) s (fun u => u = s)) ∧
  (Runs (.verifyRx port) s (fun u => u.out = (if e.state = .up ∧ s.mmBuilt p = true ∧ s.flag .eth (ethReg p 0x50) 0 = true then .respond p :: s.out else s.out) ∧ Only [.out] s u))

/-- 10BASE-T1S and the FEC alarm (04_ethernet_ports.md R174-R176, R180; 07_egress_scheduling.md R291): the coordinator sends the BEACON; a follower's status comes with a
BEACON and goes with its loss, each with its event, and a coordinator that hears one counts a conflict; a BEACON gives the node one transmit opportunity, which the frame that a
collision put back uses first, else the frame that selection gives; a collided frame backs off and is tried again, and the sixteenth attempt drops it, as does a link that is no longer UP; the FEC event is raised once a second when more codewords than FEC_ALARM were uncorrectable. -/
def Obligations.MultidropAndFecAlarm : Prop := ∀ (s : State) (port : Port), let p := port.val; let e := s.port p; let g := s.egress p
  let plcaSet := fun (up : Bool) (u : State) => u.port p = { e with plca := up, turn := e.turn || up } ∧ (e.plca ≠ up → Raised (128 + 8 * p + 6) (p1 up.toNat ++ p1 0) s u)
  (s.coordinator p = true → Runs (.beaconTx port) s (fun u => u.out = .beacon p :: s.out ∧ plcaSet true u ∧ Counted [(.eth, ethReg p 0x740)] s u ∧ Kept [] s u ∧ Only [.regs .eth, .net, .seq, .evt, .out] s u) ∧
    Runs (.beaconRx port) s (fun u => u.port p = e ∧ Raised (128 + 8 * p + 6) (p1 e.plca.toNat ++ p1 1) s u ∧ Counted [(.eth, ethReg p 0x748), (.eth, ethReg p 0x750)] s u ∧ Kept [] s u ∧ Only [.regs .eth, .seq, .evt] s u)) ∧
  (s.coordinator p = false → Runs (.beaconTx port) s (fun u => u = s) ∧
    (isSPort p = true → e.state = .up → s.flag .eth (ethReg p 0x80) 31 = true → Runs (.beaconRx port) s (fun u => plcaSet true u ∧ Counted [(.eth, ethReg p 0x748)] s u ∧ Kept [] s u ∧ Only [.regs .eth, .net, .seq, .evt] s u)) ∧
    (isSPort p = true → e.plca = true → Runs (.plcaStatusLoss port) s (fun u => plcaSet false u ∧ Counted [(.eth, ethReg p 0x758)] s u ∧ Kept [] s u ∧ Only [.regs .eth, .net, .seq, .evt] s u))) ∧
  (isSPort p = false → Runs (.beaconTx port) s (fun u => u = s) ∧ Runs (.beaconRx port) s (fun u => u = s) ∧ Runs (.plcaStatusLoss port) s (fun u => u = s) ∧
    Runs (.plcaTxOpportunity port) s (fun u => u = s) ∧ Runs (.collision port) s (fun u => u = s)) ∧
  (isSPort p = true → ∀ w, g.active = some w → let n := g.triedOf w.copy + 1; let gone := g.wire.filter (fun x => x != w)
    (n < 16 → e.state = .up → Runs (.collision port) s (fun u => u.port p = { e with backoff := true, burst := 0 } ∧ u.egress p = { g with wire := gone, attempts := n, tried := w.copy } ∧
      u.net.sbuf = ⟨w.copy, s.nowNs⟩ :: s.net.sbuf ∧ Counted [(.eth, ethReg p 0x5C0)] s u ∧ Kept [] s u ∧ Only [.regs .eth, .net, .seq, .evt] s u)) ∧
    (16 ≤ n ∨ e.state ≠ .up → Runs (.collision port) s (fun u => u.port p = e ∧ u.egress p = { g with wire := gone, attempts := 0, tried := w.copy } ∧ u.cis.copies = s.cis.copies.filter (fun c => c.id != w.copy) ∧
      Counted [(.eth, ethReg p 0x5C0), (.eth, ethReg p (if n < 16 then 0x5B8 else 0x5C8))] s u ∧ Kept [] s u ∧ Only [.regs .eth, .net, .cis, .xbr, .seq, .evt] s u)) ∧
    Runs (.plcaTxOpportunity port) s (fun u => u = s)) ∧
  (e.backoff = false → Runs (.backoffExpiry port) s (fun u => u = s)) ∧
  (let due := s.retryNext p; let may := e.state = .up ∧ g.active = none ∧ s.plcaMaySend p = true
   let onWire := fun (c : Copy) => ({ copy := c.id, cls := c.cls, express := true, bytes := padded (s.frameOf c).frame.bytes, start := s.nowNs, shaped := s.cbsEn p c.cls, slope := s.idleSlope p c.cls } : OnWire);
    (e.backoff = true → (due = none ∨ ¬may) → Runs (.backoffExpiry port) s (fun u => u.port p = { e with backoff := false } ∧ (∀ q, u.egress q = s.egress q) ∧ Only [.net] s u)) ∧
    (e.backoff = true → may → s.macsecBuilt p = false → p ≠ 4 → ∀ c, due = some c → Runs (.backoffExpiry port) s (fun u => u.port p = { e with backoff := false } ∧
      u.net.sbuf = s.net.sbuf.filter (fun i => i.copy != c.id) ∧ u.egress p = { g with wire := g.wire ++ [onWire c] } ∧ Only [.net] s u)) ∧
    (s.mayBegin p = false → Runs (.plcaTxOpportunity port) s (fun u => u = s)) ∧
    (s.mayBegin p = true → let took := { e with turn := false, burst := if s.plcaRuns p then s.fld .eth (ethReg p 0x84) 15 8 else 0 }
      (s.net.sbuf = [] → Runs (.plcaTxOpportunity port) s (fun u => u.port p = took ∧ (∀ q, u.egress q = s.egress q) ∧ Only [.net] s u)) ∧
      (∀ c, due = some c → s.macsecBuilt p = false → p ≠ 4 → Runs (.plcaTxOpportunity port) s (fun u => u.port p = took ∧ u.net.sbuf = s.net.sbuf.filter (fun i => i.copy != c.id) ∧
        u.egress p = { g with wire := g.wire ++ [onWire c] } ∧ Only [.net] s u)) ∧
      (due = none → s.macsecBuilt p = false → p ≠ 4 → ∀ i c, s.net.sbuf = [i] → s.copyOf i.copy = some c → c.dest = .port p → c.cls < 8 → s.eligible p s.nowNs c.cls = true →
        s.groupOf p c.cls = 0 → (s.windowFor p c.cls = 0xFFFFFFFF ∨ s.guardFits p (s.guardFor p c) (some (s.windowFor p c.cls)) = true) → Runs (.plcaTxOpportunity port) s (fun u => u.port p = took ∧ u.net.sbuf = [] ∧
          u.egress p = { g with wire := g.wire ++ [onWire c] } ∧ Only [.net] s u)))) ∧
  (∀ blocks corrected uncorrected : Nat, let fresh := 1000000000 ≤ s.nowNs - e.fecFrom; let n := (if fresh then 0 else e.fecBase) + uncorrected; let most := s.fld .eth (ethReg p 8) 9 0
    let fires := most ≠ 0 ∧ most < n ∧ (fresh ∨ e.fecRaised = false)
    let counts := List.replicate blocks (Block.eth, ethReg p 0x700)
    (s.fld .eth (ethReg p 0) 5 4 = 0 → Runs (.fecAlarm port blocks corrected uncorrected) s (fun u => Counted counts s u ∧ Kept [] s u ∧ Only [.regs .eth, .seq, .evt] s u)) ∧
    (s.fld .eth (ethReg p 0) 5 4 ≠ 0 → Runs (.fecAlarm port blocks corrected uncorrected) s (fun u => (fires → Raised (128 + 8 * p + 1) (p4 n) s u) ∧ ((u.port p).fecRaised = true ↔ fires ∨ (¬fresh ∧ e.fecRaised = true)) ∧
      Counted (counts ++ (List.replicate corrected (.eth, ethReg p 0x708) ++ List.replicate uncorrected (.eth, ethReg p 0x710))) s u ∧ Kept [] s u ∧ Only [.regs .eth, .net, .seq, .evt] s u)))

/-- The MACsec engine (04_ethernet_ports.md R169-R171): R170's table of what becomes of a received frame and which counter counts it, for each mode; on transmit a bypassed
frame goes unprotected, an SA without a packet number left, or without its key, sends nothing, and NEXT_PN advances by one for each frame protected. -/
def Obligations.MacsecFollowsTable : Prop := ∀ (s : State) (p : Nat) (bs : List Byte), s.macsecBuilt p = true →
  let mode := if s.macsecOn p then s.fld .eth (ethReg p 0x60) 1 0 else 0; let r := s.validate p bs; let t := secTagOf bs; let e1 := t.tci.testBit 3
  let counts := fun (off : Nat) => Counted [(.eth, ethReg p off)] s r.state
  (s.macsecBypass p bs = true → r.bytes = some bs ∧ counts 0x6C8) ∧
  (s.macsecBypass p bs = false →
    (etherType bs ≠ 0x88E5 → counts 0x6A8 ∧ r.bytes = if mode = 2 then none else some bs) ∧
    (etherType bs = 0x88E5 →
      (t.ok bs.length = false → counts 0x6B0 ∧ r.bytes = if mode = 0 then some bs else none) ∧
      (t.ok bs.length = true →
        ((∀ c, s.scOf p t = some c → s.flag .eth (rxSa p c (t.tci % 4)) 31 = false) → counts 0x6B8 ∧ r.bytes = if mode = 0 ∨ (mode = 1 ∧ e1 = false) then some bs else none) ∧
        (∀ c, s.scOf p t = some c → s.flag .eth (rxSa p c (t.tci % 4)) 31 = true → let sa := rxSa p c (t.tci % 4)
          (s.saKey p sa 1 = none → counts 0x6C0 ∧ (s.macsecOn p = true → r.bytes = none ∧ ((s.port p).faulted.contains sa = false → Raised (128 + 8 * p + 5) (p1 0 ++ (p2 c ++ (p1 (t.tci % 4) ++ p2 (s.fld .eth sa 12 0)))) s r.state))) ∧
          (∀ key, s.saKey p sa 1 = some key → let pn := recoverPn (s.xpn p) (s.rd64 .eth (sa + 8)) t.pn; let size := if t.sl = 0 then bs.length - t.len - 16 else t.sl
            let clearLen := if e1 then Nat.min (s.confOffset p) size else size; let clear := slice bs t.len clearLen; let late := s.flag .eth (ethReg p 0x60) 2 = true ∧ pn + (s.rd .eth (ethReg p 0x78)).toNat < s.rd64 .eth (sa + 8)
            let opened := gcmOpen key (s.secIv p sa (s.sciAt (rxSc p c + 8)) pn) (bs.take t.len ++ clear) (slice bs (t.len + clearLen) (size - clearLen + 16))
            (opened = none → e1 = true → counts 0x690 ∧ r.bytes = if mode = 0 then some bs else none) ∧
            (opened = none → e1 = false → counts 0x688 ∧ r.bytes = if mode = 0 then some bs else if mode = 1 then some (bs.take 12 ++ slice bs t.len size) else none) ∧
            (∀ x, opened = some x → let deliver := if mode = 0 then bs else bs.take 12 ++ (clear ++ x)
              (late → counts 0x698 ∧ r.bytes = if mode = 0 then some bs else none) ∧ (¬late → pn < s.rd64 .eth (sa + 8) → counts 0x6A0 ∧ r.bytes = some deliver) ∧
              (¬late → s.rd64 .eth (sa + 8) ≤ pn → counts 0x680 ∧ r.bytes = some deliver ∧ r.state.rd64 .eth (sa + 8) = (pn + 1) % 2 ^ 64))))))) ∧
  (let out := s.protect p bs; let an := s.fld .eth (ethReg p 0x64) 1 0; let sa := txSa p an; let pn := s.rd64 .eth (sa + 8);
    (s.macsecBypass p bs = true → out.2 = some bs ∧ Counted [(.eth, ethReg p 0x6F0)] s out.1) ∧
    (s.macsecBypass p bs = false → s.macsecOn p = true →
      ((s.flag .eth sa 31 = false ∨ pn = 0 ∨ (s.xpn p = false ∧ 2 ^ 32 ≤ pn)) → out.2 = none ∧ Counted [(.eth, ethReg p 0x6E0)] s out.1) ∧
      (s.flag .eth sa 31 = true → pn ≠ 0 → (s.xpn p = true ∨ pn < 2 ^ 32) → (s.saKey p sa 0 = none → out.2 = none ∧ Counted [(.eth, ethReg p 0x6E8)] s out.1) ∧
        (∀ key, s.saKey p sa 0 = some key → out.2.isSome = true ∧ out.1.rd64 .eth (sa + 8) = (pn + 1) % 2 ^ 64 ∧ Kept [(.eth, sa + 8), (.eth, sa + 0xC)] s out.1 ∧
          Counted [(.eth, ethReg p (if s.flag .eth (ethReg p 0x60) 8 then 0x6D8 else 0x6D0))] s out.1 ∧
            (s.rd64 .eth (ethReg p 0x70) ≤ (pn + 1) % 2 ^ 64 → (s.port p).pnRaised.contains an = false → Raised (128 + 8 * p + 4) (p1 an ++ p4 ((pn + 1) % 2 ^ 64 / 2 ^ 32)) s out.1)))))

/-- Classification's policies (05_classification.md R188, R191, R195, R229, R230; 02_ikiem_images.md R89): the frame of the lane that has waited longest is taken, behind
those of lower lanes that R219 lets pass first (notes/assumptions/71.md says which the model takes for such); parser roadworks drop it, also in its district; a length conflict with LENC 0, truncation with TRUNC 0b00 and an undefined district drop it, each with its counter and PRS_ERR bit; a truncated frame
counts in no other prs counter; no dropped frame without copies reaches the cistern. -/
def Obligations.FramesMeetPolicies : Prop := ∀ (s : State) (lane : Fin 28),
  (s.waiting lane.val = none → Runs (.classifyFrame lane) s (fun u => u = s)) ∧
  (∀ f, s.waiting lane.val = some f → Runs (.classifyFrame lane) s (fun u => u.prs.wait = s.prs.wait.filter (fun x => !((s.tied f ++ [f]).any (fun g => g.id == x.id))))) ∧
  (∀ f, s.waiting lane.val = some f → s.tied f = [] → let rest := s.prs.wait.filter (fun x => x.id != f.id); let i := f.ingress
    let p := parse (graphOf (s.recsAt f.epoch)) f.bytes; let d := (s.ctxOf f p).district; let code := p.conflict f.bytes.length; let refused := code ≠ 0 ∧ s.lencPolicy f = false
    let cut := p.truncated = true ∧ s.truncPolicy f = 0
    let marked := fun (bit : Nat) (what : List Byte) (u : State) => u.flag .prs 4 bit = true ∧ (s.flag .prs 4 bit = false → Raised (512 + bit) (p2 i ++ (p2 d ++ what)) s u)
    let dropped := fun (ks : List Nat) (u : State) => CountedIn .prs (ks ++ districtCounts f d true) s u ∧ u.cis = s.cis ∧ u.prs.wait = rest ∧ Only [.regs .prs, .regs .tdm, .seq, .evt, .prs, .tdm] s u
    Runs (.classifyFrame lane) s (fun u => u.prs.wait = rest) ∧
    (s.prs.roadworks = true → Runs (.classifyFrame lane) s (fun u => u.prs = { s.prs with wait := rest } ∧ Counted ((.prs, prsCounter i 9) :: (.prs, 0x20010 + 0x20 * s.firstDistrict f) ::
      (if f.fromPort then [(.eth, ethReg i 0x4E0)] else [])) s u ∧ Kept [] s u ∧
      Only [.regs .prs, .regs .eth, .seq, .evt, .prs] s u)) ∧
    (s.prs.roadworks = false → let entered := if f.pass = 0 then prsCounter i 0 else 0x418
      (refused → Runs (.classifyFrame lane) s (fun u => dropped [entered, prsCounter i 2] u ∧ marked 1 (p1 code) u)) ∧
      (¬refused → cut → Runs (.classifyFrame lane) s (fun u => dropped ((if f.pass = 0 then [] else [0x418]) ++ ((if code = 0 then [] else [prsCounter i 2]) ++ [prsCounter i 1])) u ∧
        marked 0 (p2 ((p.hdrs.getLast?.map (fun h => h.node)).getD 0)) u)) ∧
      (code = 0 → p.truncated = false → s.districtAt f.epoch d = none → Runs (.classifyFrame lane) s (fun u => dropped [entered, prsCounter i 3] u ∧ marked 2 [] u))))

/-- Districts are isolated tenants (05_classification.md R194, R196-R198): every copy that classification makes goes where the frame's district permits, or to the exception
lane, or through classification again; a lookup finds only entries that match the frame's district; stages 2-11 leave the district; a weir outside the district's range
ends the frame, counted. -/
def Obligations.DistrictsAreIsolated : Prop := ∀ s : State,
  (∀ (lane : Fin 28) (f : Frame), s.waiting lane.val = some f → s.tied f = [] → Runs (.classifyFrame lane) s (fun u => ∀ c ∈ u.cis.copies, c ∈ s.cis.copies ∨ c.dest.isExc = true ∨ c.dest = .recirc ∨
    ∃ D, s.districtAt f.epoch (({ s with prs := { s.prs with wait := s.prs.wait.filter (fun x => x.id != f.id) } } : State).decideFrame f).ctx.district = some D ∧ D.permits c.dest = true)) ∧
  (∀ (kind : TableKind) (es : List TblEntry) (d valid : Nat) (key f0 : List Byte) (e : TblEntry), findEntry kind es d key valid f0 = some e →
    e ∈ es ∧ (kind = .ternary → e.district &&& e.dmask = d &&& e.dmask) ∧ (kind ≠ .ternary → e.district = d)) ∧
  (∀ (c : Ctx) (i : Nat), 2 ≤ i → (s.runStage c i).2.district = c.district) ∧
  (∀ (c : Ctx) (D : District) (w : Nat), w ≠ 0xFFFF → (w < D.weirBase ∨ D.weirBase + D.weirCount ≤ w) → let r := s.stageWeir c D w
    r.2 = { c with killed := true, done := true } ∧ r.1.prs.weir = s.prs.weir ∧ Counted [(.prs, prsCounter c.frame.ingress 4)] s r.1 ∧ r.1.flag .prs 4 3 = true)

/-- Weirs (05_classification.md R221-R226): a frame that meets a weir refills its buckets to the frame's stamp, up to the bursts, is coloured by RFC 2698 or RFC 4115, and
counts under its colour; the colour's action applies; rate and burst writes are staged until WEIR_CFG applies them together, which is ignored where PIR would fall below
CIR. -/
def Obligations.WeirsMeterAndStage : Prop := ∀ (s : State) (weir : Fin 16384), let w := weir.val; let l := s.weir w; let R := s.weirRates w; let cfg := s.rd .prs (weirReg w 0)
  (∀ (t len colour : Nat), let r := s.meter w t len colour; let d := t - l.last; let B := ((len : Int) + signed 7 (field cfg 29 23)).toNat * 1000000; let aware := bit cfg 30
    let t1 := Nat.min (R.burst1 * 1000000) (l.l1 + R.rate1 * d); let t2 := Nat.min (R.burst2 * 1000000) (l.l2 + R.rate2 * d); let red := aware = true ∧ colour = 2; let yellow := aware = true ∧ colour = 1
    let is := fun (k a b : Nat) => r.2 = k ∧ r.1.weir w = ⟨a, b, t⟩
    (bit cfg 31 = false → ((red ∨ t2 < B) → is 2 t1 t2) ∧ (¬red → B ≤ t2 → (yellow ∨ t1 < B) → is 1 t1 (t2 - B)) ∧ (¬red → ¬yellow → B ≤ t2 → B ≤ t1 → is 0 (t1 - B) (t2 - B))) ∧
    (bit cfg 31 = true → (red → is 2 t1 t2) ∧ (¬red → ¬yellow → B ≤ t1 → is 0 (t1 - B) t2) ∧ (¬red → (yellow ∨ t1 < B) → B ≤ t2 → is 1 t1 (t2 - B)) ∧ (¬red → (yellow ∨ t1 < B) → t2 < B → is 2 t1 t2)) ∧
      CountedIn .prs (weirReg w (0x40 + 8 * r.2) :: List.replicate len (weirReg w (0x58 + 8 * r.2))) s r.1 ∧ (∀ k, k ≠ w → r.1.weir k = s.weir k) ∧ Kept [] s r.1) ∧
  (∀ (c : Ctx) (D : District), D.weirBase ≤ w → w < D.weirBase + D.weirCount → let m := s.meter w c.frame.stamp.ns c.frame.rxLen c.colour; let r := s.stageWeir c D w; let act := field cfg (2 * m.2 + 1) (2 * m.2)
    r.2.colour = Nat.max c.colour m.2 ∧ (act = 0 → r.2 = { c with colour := r.2.colour }) ∧ (act = 1 → r.2.setPcp = some (field cfg 22 20) ∧ r.2.cls = (if c.untrusted then c.cls else field cfg 22 20)) ∧
      (act = 2 → r.2.de = true) ∧ (act = 3 → r.2.killed = true ∧ r.2.done = true ∧ Counted [(.prs, prsCounter c.frame.ingress 5)] m.1 r.1) ∧ (act ≠ 3 → r.1 = m.1 ∧ r.2.killed = c.killed)) ∧
  (s.lmp.held = false → ∀ v : Word, let g := s.weirStage w
    (∀ reg : Fin 4, Runs (.weirStagedWrite weir reg v) s (fun u => (∀ k, k ≠ w → u.weirStage k = s.weirStage k) ∧ u.prs = { s.prs with stage := u.prs.stage } ∧ Only [.prs] s u ∧
      ∃ x : Word, (reg.val < 2 → field x 23 0 = clamp 1 12500000 (field v 23 0)) ∧ (2 ≤ reg.val → field x 24 0 = clamp 64 16777216 (field v 24 0)) ∧
        u.weirStage w = (match reg.val with | 0 => { g with rate1 := some x } | 1 => { g with rate2 := some x } | 2 => { g with burst1 := some x } | _ => { g with burst2 := some x }))) ∧
    (let r1 := g.rate1.getD (s.rd .prs (weirReg w 4)); let r2 := g.rate2.getD (s.rd .prs (weirReg w 8)); let b1 := g.burst1.getD (s.rd .prs (weirReg w 0xC)); let b2 := g.burst2.getD (s.rd .prs (weirReg w 0x10))
     let low := bit v 31 = false ∧ field r2 23 0 < field r1 23 0
     let regs := [(Block.prs, weirReg w 0), (.prs, weirReg w 4), (.prs, weirReg w 8), (.prs, weirReg w 0xC), (.prs, weirReg w 0x10)];
     (low → Runs (.weirCfgWrite weir v) s (fun u => u.weirStage w = {} ∧ u.flag .prs 4 7 = true ∧ (s.flag .prs 4 7 = false → Raised 519 (p2 0 ++ (p2 0 ++ p2 w)) s u) ∧ Kept [(.prs, 4)] s u ∧
       Only [.regs .prs, .prs, .seq, .evt] s u)) ∧
     (¬low → Runs (.weirCfgWrite weir v) s (fun u => u.weirStage w = {} ∧ u.fld .prs (weirReg w 0) 31 20 = field v 31 20 ∧ u.fld .prs (weirReg w 0) 5 0 = field v 5 0 ∧ u.rd .prs (weirReg w 4) = r1 ∧
       u.rd .prs (weirReg w 8) = r2 ∧ u.rd .prs (weirReg w 0xC) = b1 ∧ u.rd .prs (weirReg w 0x10) = b2 ∧ (u.weir w).l1 ≤ field b1 24 0 * 1000000 ∧ (u.weir w).l2 ≤ field b2 24 0 * 1000000 ∧
         (∀ k, k ≠ w → u.weir k = s.weir k) ∧ Kept regs s u ∧ Only [.regs .prs, .prs] s u))))

/-- Tables at run time (05_classification.md R196, R208, R210-R214, R234): a refused command gives its result and changes nothing; an INSERT of a key held replaces its entry,
DELETE removes it, WRITE_INDEX writes its row, a full table answers 0x2; READ shows the entry; a staged write joins the batch, which is applied whole or discarded;
dynamic learning entries older than AGE are removed. -/
def Obligations.TablesUpdatedAtRunTime : Prop := ∀ (s : State) (path : Path) (table : Fin 32), s.lmp.held = false → let w := pathIndex path; let t := table.val; let e := s.winEntry w t; let kind := tableKind t
  let es := s.table t
  let done := fun (op : Nat) (es' : List TblEntry) (u : State) => u.table t = es' ∧ (∀ k, k ≠ t → u.table k = s.table k) ∧ u.rd .tbl (winReg w 4) = word (256 * op) ∧
    (∀ a, a ≠ winReg w 4 → a ≠ winReg w 8 → u.rd .tbl a = s.rd .tbl a) ∧ Only [.regs .tbl, .regs .tdm, .tbl, .tdm, .free, .seq, .evt] s u
  let barred := fun (r : Nat) => (s.tblSize t = none ∧ r = 5) ∨ (s.tblSize t ≠ none ∧ (∃ h, s.leaseHolder t = some h ∧ h ≠ w) ∧ r = 3) ∨
    (s.tblSize t ≠ none ∧ (∀ h, s.leaseHolder t = some h → h = w) ∧ s.tbl.works.contains t = true ∧ r = 4)
  let allowed := s.tblRefusal w t = none
  (∀ r, barred r → Runs (.tblInsert path table) s (TblAnswered w 1 r s) ∧ Runs (.tblDelete path table) s (TblAnswered w 2 r s) ∧ Runs (.tblWriteIndex path table) s (TblAnswered w 5 r s) ∧ Runs (.tblRead path table) s (TblAnswered w 3 r s) ∧ Runs (.tblReadIndex path table) s (TblAnswered w 4 r s) ∧
    (∀ op, Runs (.tblStage path table op) s (TblAnswered w (stagedOp op) r s)) ∧ Runs (.batchApply path table) s (TblAnswered w 6 r s) ∧ Runs (.batchDiscard path table) s (TblAnswered w 7 r s)) ∧
  ((∀ r, ¬barred r) → allowed) ∧
  (allowed → (opFits 1 kind = false → Runs (.tblInsert path table) s (TblAnswered w 1 5 s)) ∧ (opFits 2 kind = false → Runs (.tblDelete path table) s (TblAnswered w 2 5 s)) ∧
    (opFits 5 kind = false → Runs (.tblWriteIndex path table) s (TblAnswered w 5 5 s)) ∧
    (∀ r, (e.dmask ≠ 0xFFF ∧ r = 6) ∨ (e.dmask = 0xFFF ∧ s.entryLegal t e = false ∧ r = 7) → (opFits 1 kind = true → Runs (.tblInsert path table) s (TblAnswered w 1 r s)) ∧
      (opFits 5 kind = true → Runs (.tblWriteIndex path table) s (TblAnswered w 5 r s)))) ∧
  (allowed → let held := es.find? (fun x => sameKey kind x e); let onto := fun (old : TblEntry) => es.map (fun x => if x.index = old.index then { e with index := old.index } else x)
    (s.writeRefusal t 1 e = none → (∀ old, held = some old → Runs (.tblInsert path table) s (fun u => done 1 (onto old) u ∧ u.fld .tbl (winReg w 8) 17 0 = old.index % 2 ^ 18)) ∧
      (held = none → ∀ size k, s.tblSize t = some (size, k) →
        (es.length < size → (kind = .exact → 10 * es.length < 9 * size) → ∀ i, freeIndex es size = some i → Runs (.tblInsert path table) s (fun u => done 1 (es ++ [{ e with index := i }]) u ∧ u.fld .tbl (winReg w 8) 17 0 = i % 2 ^ 18)) ∧
        (size ≤ es.length → Runs (.tblInsert path table) s (fun u => u.tbl = s.tbl ∧ u.rd .tbl (winReg w 4) = word (256 * 1 + 2) ∧ Only [.regs .tbl, .free] s u)))) ∧
    (s.writeRefusal t 5 e = none → (∀ old, held = some old → Runs (.tblWriteIndex path table) s (done 5 (onto old))) ∧ (held = none → Runs (.tblWriteIndex path table) s (done 5 (es ++ [e])))) ∧
    (s.writeRefusal t 2 e = none → (es.any (fun x => sameKey kind x e) = false → Runs (.tblDelete path table) s (TblAnswered w 2 1 s)) ∧
      (es.any (fun x => sameKey kind x e) = true → Runs (.tblDelete path table) s (done 2 (es.filter (fun x => !sameKey kind x e)))))) ∧
  (allowed → (kind = .index → Runs (.tblRead path table) s (TblAnswered w 3 5 s)) ∧ (es.find? (fun x => x.index == e.index) = none → Runs (.tblReadIndex path table) s (TblAnswered w 4 1 s)) ∧
    (kind ≠ .index → kind ≠ .ternary → es.find? (fun x => sameKey kind x e) = none → Runs (.tblRead path table) s (TblAnswered w 3 1 s)) ∧
    (let shows := fun (op : Nat) (x : TblEntry) (u : State) => u.rd .tbl (winReg w 4) = word (256 * op) ∧ u.fld .tbl (winReg w 8) 17 0 = x.index % 2 ^ 18 ∧
       u.rd .tbl (winReg w 0xC) = word (x.district + 65536 * x.dmask + 2 ^ 31 * x.fixed.toNat) ∧ u.rd .tbl (winReg w 0x10) = word (x.valid + 256 * x.vmask) ∧
         (t ≠ 29 → ∀ i, i < 16 → u.rd .tbl (winReg w (0x40 + 4 * i)) = (wordsOf (padTo 64 x.key)).getD i 0) ∧ Only [.regs .tbl] s u;
     (∀ x, es.find? (fun x => x.index == e.index) = some x → Runs (.tblReadIndex path table) s (shows 4 x)) ∧
     (∀ x, kind ≠ .index → kind ≠ .ternary → es.find? (fun x => sameKey kind x e) = some x → Runs (.tblRead path table) s (shows 3 x)))) ∧
  (allowed → ∀ sop, s.writeRefusal t (stagedOp sop) e = none → (s.leaseHolder t ≠ some w → Runs (.tblStage path table sop) s (TblAnswered w (stagedOp sop) 3 s)) ∧
    (s.leaseHolder t = some w → 1024 ≤ (s.batch w).length → Runs (.tblStage path table sop) s (TblAnswered w (stagedOp sop) 8 s)) ∧
    (s.leaseHolder t = some w → (s.batch w).length < 1024 → Runs (.tblStage path table sop) s (fun u => u.batch w = s.batch w ++ [⟨stagedOp sop, t, e⟩] ∧ (∀ v, v ≠ w → u.batch v = s.batch v) ∧
      u.tbl.entries = s.tbl.entries ∧ u.rd .tbl (winReg w 4) = word (256 * stagedOp sop) ∧ Only [.regs .tbl, .tbl] s u))) ∧
  (let mine := (s.batch w).filter (fun x => x.table == t); let kept := (s.batch w).filter (fun x => x.table != t)
    (allowed → s.leaseHolder t ≠ some w → Runs (.batchApply path table) s (TblAnswered w 6 3 s)) ∧ (allowed → s.leaseHolder t = some w → mine = [] → Runs (.batchApply path table) s (TblAnswered w 6 9 s)) ∧
    (allowed → s.leaseHolder t = some w → mine ≠ [] → ∀ size k, s.tblSize t = some (size, k) → ((∀ es', (∀ b, runBatch kind size b es mine = some es') → Runs (.batchApply path table) s (fun u => u.table t = es' ∧
        (∀ k, k ≠ t → u.table k = s.table k) ∧ u.batch w = kept ∧ Raised 522 (p2 w ++ (p2 t ++ p4 mine.length)) s u ∧ u.rd .tbl (winReg w 4) = word (256 * 6) ∧
          Only [.regs .tbl, .regs .tdm, .tbl, .tdm, .free, .seq, .evt] s u)) ∧
      ((∀ b, runBatch kind size b es mine = none) → Runs (.batchApply path table) s (fun u => u.tbl = s.tbl ∧ u.rd .tbl (winReg w 4) = word (256 * 6 + 2) ∧ Only [.regs .tbl, .free] s u)))) ∧
    (allowed → mine = [] → Runs (.batchDiscard path table) s (TblAnswered w 7 9 s)) ∧
    (allowed → mine ≠ [] → Runs (.batchDiscard path table) s (fun u => u.batch w = kept ∧ u.tbl.entries = s.tbl.entries ∧ Raised 523 (p2 w ++ (p2 t ++ p1 1)) s u ∧ u.rd .tbl (winReg w 4) = word (256 * 7) ∧
      Only [.regs .tbl, .tbl, .seq, .evt] s u))) ∧
  (let age := s.fld .tbl 0x8000 15 0; let old := fun (x : TblEntry) => !x.fixed && decide (((1000000000 * age : Nat) : Int) ≤ (s.nowNs : Int) - x.refreshed)
    (age = 0 ∨ s.tdm.active = false → Runs .learnAgeOut s (fun u => u = s)) ∧
    (age ≠ 0 → s.tdm.active = true → Runs .learnAgeOut s (fun u => u.table 0 = (s.table 0).filter (fun x => !old x) ∧ (∀ k, k ≠ 0 → u.table k = s.table k) ∧
      CountedIn .tbl (List.replicate ((s.table 0).filter old).length 0x8418) s u ∧ Only [.regs .tbl, .regs .tdm, .tbl, .tdm, .seq, .evt] s u)))

/-- 802.1CB (05_classification.md R216-R218): generation inserts GEN_SEQ after the last tag and advances it; recovery passes or discards a frame as R217's rule decides, with
its counters; a frame without an R-TAG is discarded; a stream without a passed frame for RESET_MS takes any sequence again. -/
def Obligations.StreamsGenerateRecoverReset : Prop := ∀ (s : State) (stream : Fin 1024) (e : Edited), let k := stream.val
  (s.streamEntry k ≠ [] → Runs (.cbResetTimer stream) s (fun u => s.recovery k = { u.recovery k with takeAny := (s.recovery k).takeAny } ∧ (u.recovery k).takeAny = true ∧ (∀ j, j ≠ k → u.recovery j = s.recovery j) ∧
    Counted [(.prs, cbCounter k 7)] s u ∧ Raised 524 (p2 k) s u ∧ Kept [] s u ∧ Only [.regs .prs, .prs, .tdm, .seq, .evt] s u)) ∧
  (s.streamEntry k = [] → Runs (.cbResetTimer stream) s (fun u => u = s)) ∧
  (let r := s.generate e k; let seq := leAt (s.streamEntry k) 4 2
    Counted [(.prs, cbCounter k 0)] s r.1 ∧ (s.streamEntry k ≠ [] → leAt (r.1.streamEntry k) 4 2 = (seq + 1) % 65536) ∧
      r.2.bytes.length = e.bytes.length + 6 ∧ (e.tags = [] → 12 ≤ e.bytes.length → r.2.bytes = e.bytes.take 12 ++ ([0xF1, 0xC1, 0, 0] ++ (beBytes 2 seq ++ e.bytes.drop 12)))) ∧
  (e.rtag = none → ∀ strip, let r := s.recoverFrame e k strip; r.2.2 = false ∧ r.2.1 = e ∧ r.1.prs = s.prs ∧ Counted [(.prs, cbCounter k 2), (.prs, cbCounter k 6)] s r.1) ∧
  (∀ (h : Hdr) (strip : Bool), e.rtag = some h → let b := s.streamEntry k; let hist := leAt b 1 1; let x := beAt e.bytes (h.off + 2) 2; let old := s.recovery k; let r := s.recoverFrame e k strip
    let d := signed 16 ((x + 65536 - old.last) % 65536); let now := r.1.recovery k; let passes := fun (ks : List Nat) => r.2.2 = true ∧ CountedIn .prs ((1 :: ks).map (cbCounter k)) s r.1
    let discards := fun (ks : List Nat) => r.2.2 = false ∧ now = old ∧ CountedIn .prs ((2 :: ks).map (cbCounter k)) s r.1
    (old.takeAny = true → passes [] ∧ now = ⟨false, x, 1⟩) ∧
    (old.takeAny = false →
      (leAt b 0 1 = 1 → (d = 0 → discards []) ∧ (d ≠ 0 → passes [] ∧ now = { old with last := x })) ∧
      (leAt b 0 1 ≠ 1 → (((hist : Int) ≤ d ∨ d ≤ -(hist : Int)) → discards [4]) ∧
        (d < (hist : Int) → -(hist : Int) < d → d ≤ 0 → (old.hist.testBit (-d).toNat = true → discards []) ∧
          (old.hist.testBit (-d).toNat = false → passes [3] ∧ now.last = old.last ∧ now.takeAny = false ∧ ∀ i, now.hist.testBit i = (old.hist.testBit i || decide (i = (-d).toNat)))) ∧
        (d < (hist : Int) → 0 < d → let n := d.toNat
          passes (List.replicate ((List.range n).filter (fun i => !old.hist.testBit (hist - 1 - i))).length 5) ∧ now.last = x ∧ now.takeAny = false ∧
            ∀ i, now.hist.testBit i = (decide (i < hist) && (decide (i = 0) || (decide (n ≤ i) && old.hist.testBit (i - n))))))) ∧
    (∀ j, j ≠ k → r.1.recovery j = s.recovery j) ∧ (strip = false → r.2.1 = e))

/-- The roundabout (06_switch_core.md R240, R243, R247-R251): the matches of a slot pair distinct lanes in service, a locked output with its own input, and move a copy of
that pair. In any slot no copy appears, copies keep their order, each moves at most one cell, and one whose cell was lost on a lane stays lost; without faults, OUT lanes and absent ports exactly the chosen copies
move one cell, each counted on its two lanes. -/
def Obligations.RoundaboutMovesCells : Prop := ∀ s : State,
  (let m := s.matching.1; (m.pairs.map (fun p => p.1)).Nodup ∧ (m.pairs.map (fun p => p.2)).Nodup ∧ (∀ p ∈ m.pairs, s.laneServed p.1 = true ∧ s.laneServed p.2 = true ∧
    (s.request s.matching.2 p.1 p.2).1 ≠ .none ∧ (∀ l, s.lockOf p.2 = some l → l.1 = p.1)) ∧ (s.queuesSound → ∀ c ∈ s.movers, c ∈ s.cis.copies ∧ s.ready c = true ∧ (c.inLane, c.outLane) ∈ m.pairs)) ∧
  (s.queuesSound → (∀ faults, Runs (.roundaboutSlot faults) s (fun u => u.queuesSound ∧ (u.cis.copies.map (fun c => c.id)).Sublist (s.cis.copies.map (fun c => c.id)) ∧
      (∀ c ∈ u.cis.copies, ∃ c0 ∈ s.cis.copies, ∃ k, k ≤ 1 ∧ c = { c0 with moved := c0.moved + k, lost := c.lost } ∧ (c0.lost = true → c.lost = true)) ∧
        Only [.regs .eth, .regs .prs, .regs .xbr, .regs .cis, .regs .gwy, .regs .flm, .regs .mgt, .seq, .flm, .evt, .net, .prs, .xbr, .cis, .tdm, .gwy, .mgt] s u)) ∧
    ((∀ l, l < 27 → (s.lane l).state ≠ .out) → (∀ c ∈ s.cis.copies, c.outLane = c.dest.lane ∧ ∀ p, c.dest = .port p → s.buildMode p ≠ 0) → Runs (.roundaboutSlot []) s (fun u =>
      (∀ c ∈ s.cis.copies, c ∉ s.movers → c ∈ u.cis.copies) ∧ CountedIn .xbr (s.movers.flatMap (fun c => [xbrCounter c.inLane 0, xbrCounter c.outLane 1])) s u ∧
        (∀ c ∈ s.movers, (c.moved + 1 < (s.frameOf c).cells ∨ (∃ p, c.dest = .port p) ∨ (∃ q, c.dest = .host q)) → { c with moved := c.moved + 1 } ∈ u.cis.copies))))

/-- Lane failure (06_switch_core.md R272, R273, R275; 01_architecture.md R32): an unacknowledged transfer fails the lane over to lane 27, or takes it OUT while lane 27 is
busy or dead; lane 27 fails as the lane it serves; the end of the remap puts the unit on lane 27 with the time it took. -/
def Obligations.LanesFailOverToTheSpare : Prop := ∀ s : State,
  (∀ lane : Fin 28, let l := lane.val; l < 27 → (s.lane l).state = .inService → s.xbr.spareTest = false →
    (s.spareFree = true → Runs (.laneAckTimeout lane) s (fun u => (u.lane l).state = .remapping ∧ (u.lane l).failedAt = s.nowNs ∧ u.xbr.spareFor = some l ∧ u.xbr.outOrder = s.xbr.outOrder ∧
      (∀ k, k ≠ l → u.lane k = s.lane k) ∧ u.flag .xbr 0x10 1 = true ∧ Raised 532 (p2 l ++ p1 2) s u ∧ (∀ c ∈ u.cis.copies, ∃ c0 ∈ s.cis.copies, c = { c0 with lost := c.lost }) ∧
        (∀ c ∈ s.cis.copies, c.moved = 0 → (∀ p r, laneOf p = l → (s.port p).rx = some r → c.frame ≠ r.id) → c ∈ u.cis.copies) ∧ Kept [(.xbr, 0x10)] s u ∧
          Only [.regs .xbr, .seq, .evt, .net, .prs, .xbr, .cis] s u)) ∧
    (s.spareFree = false → Runs (.laneAckTimeout lane) s (fun u => (u.lane l).state = .out ∧ u.xbr.spareFor = s.xbr.spareFor ∧ u.xbr.outOrder = s.xbr.outOrder ++ [l] ∧ (∀ k, k ≠ l → u.lane k = s.lane k) ∧
      u.flag .xbr 0x10 1 = true ∧ u.flag .xbr 0x10 3 = true ∧ Raised 532 (p2 l ++ p1 2) s u ∧ Raised 534 (p2 l ++ p2 (s.xbr.spareFor.getD 0x1F)) s u ∧ Kept [(.xbr, 0x10)] s u ∧
        Only [.regs .xbr, .seq, .evt, .net, .prs, .xbr, .cis] s u))) ∧
  (∀ lane : Fin 28, lane.val < 27 → (s.lane lane.val).state ∈ [LaneState.remapping, .out] → Runs (.laneAckTimeout lane) s (fun u => u = s)) ∧
  (s.xbr.spareFor = none → Runs (.laneAckTimeout 27) s (fun u => u = s) ∧ Runs .laneRemapDone s (fun u => u = s)) ∧
  (∀ x, s.xbr.spareFor = some x → (s.lane x).state = .onSpare → Runs (.laneAckTimeout 27) s (fun u => (u.lane x).state = .out ∧ u.xbr.spareFor = none ∧ u.xbr.spareDead = true ∧
    u.xbr.outOrder = s.xbr.outOrder ++ [x] ∧ u.flag .xbr 0x10 2 = true ∧ Raised 532 (p2 27 ++ p1 2) s u ∧ Kept [(.xbr, 0x10)] s u ∧ Only [.regs .xbr, .seq, .evt, .net, .prs, .xbr, .cis] s u)) ∧
  (∀ x, s.xbr.spareFor = some x → ((s.lane x).state ≠ .remapping → Runs .laneRemapDone s (fun u => u = s)) ∧
    ((s.lane x).state = .remapping → Runs .laneRemapDone s (fun u => u.lane x = { s.lane x with state := .onSpare } ∧ (∀ k, k ≠ x → u.lane k = s.lane k) ∧ u.xbr.spareFor = some x ∧
      Raised 533 (p2 x ++ p4 ((s.nowNs - (s.lane x).failedAt) / 1000)) s u ∧ Kept [] s u ∧ Counted [] s u ∧ Only [.seq, .evt, .xbr] s u)))

/-- The cistern (06_switch_core.md R256-R259, R263, R268, R269, R284; 02_ikiem_images.md R94, R95): an admitted frame keeps every account, reserve and pool within its limit, and
its backing adds up to its charge; a retiring bank shrinks the minima to the usable cells, while held cells stay charged, and lower banks that began to retire with it go first (R269); CIS_ACCT_SEL latches the account for its path. -/
def Obligations.CisternAdmitsWithinLimits : Prop := ∀ s : State,
  (∀ (f : Frame) (D cls : Nat) (de : Bool) (reqs : List CopyReq) (keep : List (CopyReq × Option Acct)) (bIn bEg bSh : Nat) (i e : Option Acct),
    s.admission f D cls de reqs = .admitted keep bIn bEg bSh i e → let L := chargeOf f
    s.cis.copies.length + reqs.length ≤ descriptors ∧ keep ≠ [] ∧ (∀ x ∈ keep, x.1 ∈ reqs ∧ (∀ a, x.2 = some a → s.acctUsed a + L ≤ (s.limitsOf a).max) ∧
        (x.2 = none → ∃ cap, fixedPool x.1.lane = some cap ∧ s.fixedUsed x.1.lane + L ≤ cap)) ∧
      (i = none → bIn = 0 ∧ bEg = 0 ∧ bSh = 0 ∧ ∀ x ∈ keep, x.2 = none) ∧ (∀ a, i = some a → bIn + bEg + bSh = L ∧ s.acctUsed a + L ≤ (s.limitsOf a).max ∧ (bIn ≠ 0 → s.acctRes a + bIn ≤ (s.limitsOf a).min) ∧
        s.poolUsed + bSh ≤ s.poolSize ∧ (de = true → bSh = L ∧ s.poolUsed + L ≤ s.poolSize * s.fld .cis 0 31 25 / 100)) ∧ (∀ a, e = some a → bEg ≠ 0 → s.acctRes a + bEg ≤ (s.limitsOf a).min)) ∧
  (∀ bank : Fin 64, let b := bank.val
    (s.stopping b = true → Runs (.bankAllocStopped bank) s (fun u => ∀ k, k < 64 → (u.bank k).stopped = ((s.bank k).stopped || (decide (k ≤ b) && (s.stopping k && (s.bank k).since == (s.bank b).since))))) ∧
    (s.stopping b = true → (∀ k, k < b → s.stopping k = true → (s.bank k).since ≠ (s.bank b).since) → Runs (.bankAllocStopped bank) s (fun u => let cut := minSum s.cis.limits - u.usable
      u.bank b = { s.bank b with stopped := true } ∧ (∀ k, k ≠ b → u.bank k = s.bank k) ∧ u.usable = s.usable - 8192 ∧ minSum u.cis.limits = minSum s.cis.limits - cut ∧ (∀ e ∈ u.cis.limits, e.2.max ≤ u.usable) ∧
        u.cis.held.map (fun h => (h.frame, h.charge, h.bIn + h.bEg + h.bSh)) = s.cis.held.map (fun h => (h.frame, h.charge, h.bIn + h.bEg + h.bSh)) ∧ u.cis.copies = s.cis.copies ∧
          u.rd .img 0x40 = s.rd .img 0x40 + word cut ∧ u.flag .img 4 17 = (s.flag .img 4 17 || decide (cut ≠ 0)) ∧ Raised 540 (p2 b ++ (p4 u.usable ++ p4 cut)) s u ∧
            Kept [(.img, 0x40), (.img, 4)] s u ∧ Counted [] s u ∧ Only [.regs .img, .seq, .evt, .xbr, .cis] s u)) ∧
    (s.stopping b = false → Runs (.bankAllocStopped bank) s (fun u => u = s))) ∧
  (s.lmp.held = false → ∀ (p : Path) (v : Word), Runs (.cisAcctSelWrite p v) s (fun u => let sel := u.rd .cis 0x30; let base := onPath p 0x34
    field sel 31 20 = field v 31 20 ∧ bit sel 16 = bit v 16 ∧ bit sel 15 = bit v 15 ∧ field sel 12 8 = field v 12 8 ∧ field sel 2 0 = field v 2 0 ∧
      (∀ i, i < 5 → u.rd .cis (base + 4 * i) = (s.acctWords sel).getD i 0) ∧ Kept ((.cis, 0x30) :: (List.range 5).map (fun i => (Block.cis, base + 4 * i))) s u ∧ Counted [] s u ∧ Only [.regs .cis] s u)) ∧
  (∀ (sel : Word) (a : Acct) (l : Limits), bit sel 16 = false → a = ⟨bit sel 15, field sel 12 8, field sel 2 0, some (field sel 31 20)⟩ → a.lane < 28 → (a.egress = false ∨ fixedPool a.lane = none) →
    s.cis.limits.find? (fun e => e.1 == a) = some (a, l) → s.acctWords sel = [word (2 ^ 31 + l.min), word l.max, word (s.acctUsed a), word (s.acctRes a), word l.guar])

/-- Sluices and selection (07_egress_scheduling.md R286, R287, R288, R295, R296, R301, R302, R310, R311): the entry in force follows from the position in the cycle; a gate
stays open as long as the guard test says and no longer; a port selects an eligible class of the highest level for the time at which its wire is free, and stages it, with two selections while
preemption is active; a copy that fits no window is dropped; SET_AND_HOLD and SET_AND_RELEASE move the preemption hold; a gate that closes upon a preemptable frame suspends it, and the gate that opens
resumes it (R300). -/
def Obligations.SluicesGateAndSelect : Prop := ∀ (s : State) (port : Port), let p := port.val; let es := s.gateList p; let e := s.egress p
  (s.scheduled p = false → ∀ t, s.gatesAt p t = 0xFF ∧ ∀ c, s.openFor p c t = none) ∧
  (s.scheduled p = true → ∀ (t n : Nat) (x : GateEntry), es[n]? = some x → gateStart es n ≤ s.gatePos p t → s.gatePos p t < gateStart es n + x.interval → s.gatesAt p t = x.gates) ∧
  (s.scheduled p = true → gateStart es es.length = s.gateCycle p → (∀ x ∈ es, 0 < x.interval) → ∀ c t,
    (s.openFor p c t = none → ∀ k, (s.gatesAt p (t + k)).testBit c = true) ∧
    (∀ d, s.openFor p c t = some d → (∀ k, k < d → (s.gatesAt p (t + k)).testBit c = true) ∧ (s.gatesAt p (t + d)).testBit c = false)) ∧
  (∀ (t : Nat) (among : Nat → Bool), let r := s.selectClass p t among
    ((∀ c, c < 8 → among c = true → s.eligible p t c = false) → r = (s, none)) ∧
    ((∀ g, 0 < g → s.groupClasses p g ≠ [] → Sparse.get (fun _ => (s.groupClasses p g).headD 0) e.ptr g ∈ s.groupClasses p g) → ∀ c, r.2 = some c →
      c < 8 ∧ among c = true ∧ s.eligible p t c = true ∧ ∀ d, d < 8 → among d = true → s.eligible p t d = true → s.levelOf p d ≤ s.levelOf p c) ∧
    (∀ c, c < 8 → among c = true → s.eligible p t c = true → (∀ d, d < 8 → s.groupOf p d = 0) → ∃ d, r = (s, some d) ∧ c ≤ d) ∧
      r.1.egress p = { e with deficit := (r.1.egress p).deficit, ptr := (r.1.egress p).ptr } ∧ (∀ q, q ≠ p → r.1.egress q = s.egress q) ∧ Only [.net] s r.1) ∧
  (∀ (express : Bool) (among : Nat → Bool), let r := s.selectClass p (s.wireFree p express) among; let u := s.stageFrom p express among
    let full := (s.stagedNow p).any (fun x => x.express == express) = true ∨ s.maySelect p express = false
    (full → u = s) ∧ (¬full → r.2 = none → u = r.1) ∧ (¬full → ∀ c, r.2 = some c → u.egress p = { r.1.egress p with staged := s.stagedNow p ++ [{ cls := c, express := express }] } ∧
      (∀ q, q ≠ p → u.egress q = s.egress q) ∧ Only [.net] s u)) ∧
  ((isSPort p = true ∨ s.stagingHeld p = true) → Runs (.egressSelect port) s (fun u => u = s)) ∧
  (isSPort p = false → s.stagingHeld p = false → (∀ c, c < 8 → s.dropUnfit p c 64 = s) →
    (s.preempting p = false → Runs (.egressSelect port) s (fun u => u = s.stageFrom p true (fun _ => true))) ∧
    (s.preempting p = true → Runs (.egressSelect port) s (fun u => u = (s.stageFrom p true (fun c => !s.preemptable p c)).stageFrom p false (fun c => s.preemptable p c)))) ∧
  (∀ c x, s.windowFor p c ≠ 0xFFFFFFFF → (s.portHeads p c).find? (fun x => !s.guardFits p (s.guardFor p x) (some (s.windowFor p c))) = some x → let u := s.dropUnfit p c 1
    u.cis.copies = s.cis.copies.filter (fun y => y.id != x.id) ∧ CountedIn .egr [egrCounter p c 2] s u ∧ u.flag .egr (egrReg p 8) 0 = true ∧
      (s.flag .egr (egrReg p 8) 0 = false → Raised (576 + p) (p1 0 ++ p1 c) s u) ∧ Kept [(.egr, egrReg p 8)] s u) ∧
  (s.scheduled p = false → Runs (.gateChange port) s (fun u => u = s)) ∧
  (s.scheduled p = true → ∀ (n : Nat) (x : GateEntry), es[n]? = some x → gateStart es n ≤ s.gatePos p s.nowNs → s.gatePos p s.nowNs < gateStart es n + x.interval →
    let held := if s.preempting p then (if x.op = 1 then true else if x.op = 2 then false else e.hold) else e.hold; let h := s.setEgress p { e with hold := held }
    let counts := fun (u : State) => CountedIn .egr (if s.preempting p = true ∧ x.op = 1 ∧ e.hold = false then [egrReg p 0x600] else []) s u ∧ (∀ q, q ≠ p → u.egress q = s.egress q) ∧ Kept [] s u
    let stays := fun (u : State) => u.egress p = { e with hold := held } ∧ counts u ∧ Only [.regs .egr, .seq, .evt, .net] s u
    (e.wire = [] → Runs (.gateChange port) s stays) ∧
    (∀ w, e.wire = [w] → w.suspended = false → let closing := s.preempting p = true ∧ s.mayPreempt p w = true ∧ s.closePreempts p w = true
      (¬closing → Runs (.gateChange port) s stays) ∧
      (closing → Runs (.gateChange port) s (fun u => u.egress p = { e with hold := held, wire := [{ w with suspended := true, since := s.nowNs, sent := w.sent + s.fragmentSent p w }] } ∧ counts u ∧
        Only [.regs .egr, .seq, .evt, .net] s u))) ∧
    (∀ w, e.wire = [w] → w.suspended = true → let goes := s.controlDue p = false ∧ h.mayResume p w = true
      (¬goes → Runs (.gateChange port) s stays) ∧
      (goes → Runs (.gateChange port) s (fun u => u.egress p = { e with hold := held, wire := [{ w with suspended := false, start := s.nowNs, fragments := w.fragments + 1 }] } ∧ counts u ∧
        CountedIn .eth (if s.mmBuilt p then [ethReg p 0x620] else []) s u ∧ Only [.regs .eth, .regs .egr, .seq, .evt, .net] s u))))

/-- Frames on the wire (07_egress_scheduling.md R290, R292, R311; 04_ethernet_ports.md R153, R154, R164): a staged frame starts once a cell of it is there, waits behind a
pause of more than 100 ns, or preempts a preemptable frame of another class; a MAC control frame that is due goes first (R161); the hold and a closing gate suspend a preemptable frame, and its gate resumes
it; a frame that ends is sent with its FCS, or stomped where it failed, and counted; stale frames of the S-lane buffer are dropped. -/
def Obligations.FramesCrossTheWire : Prop := ∀ (s : State) (port : Port), let p := port.val; let e := s.egress p
  let plain := fun (c : Copy) => s.macsecOn p = false ∧ s.macsecBypass p (s.frameOf c).frame.bytes = false ∧ (p ≠ 4 ∨ etherType (s.frameOf c).frame.bytes ≠ 0x88B6)
  let put := fun (c : Copy) (x : Staged) => ({ copy := c.id, cls := c.cls, express := x.express, bytes := padded (s.frameOf c).frame.bytes, start := s.nowNs, shaped := s.cbsEn p c.cls, slope := s.idleSlope p c.cls } : OnWire)
  let stops := fun (v : OnWire) => if v.suspended then v else { v with suspended := true, since := s.nowNs, sent := v.sent + s.fragmentSent p v }
  let starts := fun (wire : List OnWire) (c : Copy) (x : Staged) (u : State) => u.egress p = { e with wire := wire ++ [put c x], staged := e.staged.filter (fun y => y != x) } ∧
    (∀ q, q ≠ p → u.egress q = s.egress q) ∧ u.cis = s.cis ∧ Kept [] s u ∧ Counted [] s u ∧ Only [.net] s u
  let quiet := ∀ x ∈ e.staged, s.stagedBlocked p x = true → x.held = true
  let first := s.stagedReady p true; let waits := e.wire.find? (fun v => v.suspended)
  (quiet → s.controlDue p = true → Runs (.frameTxStart port) s (fun u => u = s)) ∧
  (quiet → s.controlDue p = false →
    (e.active = none →
      (∀ w, waits = some w → (s.mayResume p w = true → Runs (.frameTxStart port) s (fun u => (u.egress p).active = some { w with suspended := false, start := s.nowNs, fragments := w.fragments + 1 } ∧ (u.egress p).staged = e.staged ∧
          CountedIn .eth (if s.mmBuilt p then [ethReg p 0x620] else []) s u ∧ Kept [] s u ∧ Only [.regs .eth, .seq, .evt, .net] s u)) ∧
        (s.mayResume p w = false → (first = none → Runs (.frameTxStart port) s (fun u => u = s)) ∧
          (∀ x c, first = some (x, c) → (c.cls = w.cls → Runs (.frameTxStart port) s (fun u => u = s)) ∧ (c.cls ≠ w.cls → plain c → Runs (.frameTxStart port) s (starts e.wire c x))))) ∧
      (waits = none → (∀ x c, first = some (x, c) → plain c → Runs (.frameTxStart port) s (starts e.wire c x)) ∧
        (first = none → (e.hold = true → s.preempting p = true → Runs (.frameTxStart port) s (fun u => u = s)) ∧
          ((e.hold = false ∨ s.preempting p = false) → (s.stagedReady p false = none → Runs (.frameTxStart port) s (fun u => u = s)) ∧
            (∀ x c, s.stagedReady p false = some (x, c) → plain c → Runs (.frameTxStart port) s (starts e.wire c x)))))) ∧
    (∀ w, e.active = some w → let can := s.preempting p = true ∧ s.mayPreempt p w = true
      (¬can → Runs (.frameTxStart port) s (fun u => u = s)) ∧
      (can → ∀ x c, first = some (x, c) → (c.cls = w.cls → Runs (.frameTxStart port) s (fun u => u = s)) ∧ (c.cls ≠ w.cls → plain c → Runs (.frameTxStart port) s (starts (e.wire.map stops) c x))) ∧
      (can → first = none → let yields := e.hold = true ∨ s.closePreempts p w = true
        (¬yields → Runs (.frameTxStart port) s (fun u => u = s)) ∧ (yields → Runs (.frameTxStart port) s (fun u => u.egress p = { e with wire := e.wire.map stops } ∧ (∀ q, q ≠ p → u.egress q = s.egress q) ∧ Only [.net] s u))))) ∧
  (∀ x, e.staged = [x] → e.wire = [] → (x.copy = none ∨ (x.copy.bind s.copyOf).isSome = true) → s.stagedBlocked p x = true → x.held = false → Runs (.frameTxStart port) s (fun u => u.egress p = { e with staged := [{ x with held := true }] } ∧
    CountedIn .egr [egrReg p 0x608] s u ∧ u.flag .egr (egrReg p 8) 3 = true ∧ (s.flag .egr (egrReg p 8) 3 = false → Raised (576 + p) (p1 3 ++ p1 x.cls) s u) ∧ Kept [(.egr, egrReg p 8)] s u ∧
      Only [.regs .egr, .seq, .evt, .net] s u)) ∧
  (e.active = none → Runs (.frameTxEnd port) s (fun u => u = s)) ∧
  (∀ w, e.active = some w → s.copyOf w.copy = none → Runs (.frameTxEnd port) s (fun u => u.egress p = { e with wire := e.wire.filter (fun v => v != w) } ∧ (∀ q, q ≠ p → u.egress q = s.egress q) ∧ Only [.net] s u)) ∧
  (∀ w c, e.active = some w → s.copyOf w.copy = some c → let h := s.frameOf c; let lost := s.broken c; let sent := if lost then w.bytes.take (Nat.min (w.sent + s.fragmentSent p w) (64 * c.moved)) else w.bytes
    (h.frame.whole = false → lost = false → Runs (.frameTxEnd port) s (fun u => u = s)) ∧
    ((h.frame.whole = true ∨ lost = true) → (isSPort p = false ∨ (s.port p).burst = 0) → Runs (.frameTxEnd port) s (fun u => u.out = .wire p w.express (padded sent ++ (if lost then stompOf (padded sent) else fcsOf (padded sent))) :: s.out ∧
      u.cis.copies = s.cis.copies.filter (fun y => y.id != c.id) ∧ (u.egress p).wire = e.wire.filter (fun v => v != w) ∧ (∀ q, q ≠ p → u.egress q = s.egress q) ∧
        CountedIn .egr (egrCounter p w.cls 0 :: List.replicate ((padded sent).length + 4) (egrCounter p w.cls 1)) s u ∧
          u.count .eth (ethReg p (if lost then 0x5B0 else 0x500)) = (s.count .eth (ethReg p (if lost then 0x5B0 else 0x500)) + 1) % 2 ^ 40 ∧ Kept [] s u ∧
            Only [.regs .eth, .regs .egr, .seq, .evt, .net, .xbr, .cis, .mf, .out] s u))) ∧
  ((s.net.sbuf.map (fun i => i.copy)).Nodup → (s.cis.copies.map (fun c => c.id)).Nodup → (∀ i ∈ s.net.sbuf, ∃ c q, s.copyOf i.copy = some c ∧ c.dest = .port q ∧ q < 29 ∧ c.cls < 8) →
    let old := s.net.sbuf.filter (fun i => decide (100000000 ≤ s.nowNs - i.since)); let gone := old.filterMap (fun i => s.copyOf i.copy)
    Runs .sLaneStaleDrop s (fun u => u.net.sbuf = s.net.sbuf.filter (fun i => !decide (100000000 ≤ s.nowNs - i.since)) ∧ u.cis.copies = s.cis.copies.filter (fun c => !gone.contains c) ∧
      (∀ c ∈ gone, ∀ q, c.dest = .port q → u.flag .egr (egrReg q 8) 4 = true) ∧
        CountedIn .egr (gone.map (fun c => egrCounter (match c.dest with | .port q => q | _ => 0) c.cls 4)) s u ∧ Only [.regs .egr, .seq, .evt, .net, .xbr, .cis] s u))

/-- Frames on a CAN bus (08_can_controllers.md R328, R330, R333, R334, R335, R338-R340, R343, R344, R353, R356): a valid frame is counted, numbered and offered to the
gateway, a secured PDU that fails a check is not, and freshness only rises; the lowest candidate contends, wins the bus or loses; a frame sent ends its request; errors
count TEC and REC, and the state follows them. -/
def Obligations.CanFramesAndErrors : Prop := ∀ (s : State) (ch : Fin 32), let n := ch.val; let c := s.chan n
  let parts := [Part.regs .eth, .regs .prs, .regs .xbr, .regs .can, .regs .gwy, .regs .lmp, .regs .tdm, .seq, .evt, .prs, .cis, .tdm, .gwy, .can, .mvb, .lmp, .free]
  (∀ f : CanFrame, (((c.kind.onBus = false ∧ c.kind ≠ .standby) ∨ c.busy.isSome = true ∨ s.canOp n = 3 ∨ s.canTakes n f = false) → Runs (.canFrameRx ch f) s (fun u => u = s)) ∧
    ((c.kind.onBus = true ∨ c.kind = .standby) → c.busy = none → s.canOp n ≠ 3 → s.canTakes n f = true → let fill := fun (u : State) => CanOnce n 0 s u ∧ u.count .can (canReg n 0x408) = (s.count .can (canReg n 0x408) + f.data.length) % 2 ^ 40 ∧ (u.chan n).receiving = false ∧ (c.kind.onBus = true → s.canSends n = true → c.rxe ≤ 127 → (u.chan n).rxe = c.rxe - 1) ∧ Only parts s u
      (s.pduFor n false f = none → Runs (.canFrameRx ch f) s (fun u => fill u ∧ u.seqOf (0x840 + n) = (s.seqOf (0x840 + n) + 1) % 2 ^ 32 ∧ u.count .gwy 0x400 = (s.count .gwy 0x400 + 1) % 2 ^ 40)) ∧
      (∀ k b, s.pduFor n false f = some (k, b) → (∀ v, s.checkPdu n k b f.data = (0, v) → (s.spdu k).fv < v ∧ Runs (.canFrameRx ch f) s (fun u => fill u ∧ (u.spdu k).fv = v ∧ CanOnce n 23 s u ∧
          u.seqOf (0x840 + n) = (s.seqOf (0x840 + n) + 1) % 2 ^ 32 ∧ u.count .gwy 0x400 = (s.count .gwy 0x400 + 1) % 2 ^ 40)) ∧
        (∀ x v, s.checkPdu n k b f.data = (x, v) → x ≠ 0 → Runs (.canFrameRx ch f) s (fun u => fill u ∧ CanOnce n (23 + x) s u ∧ u.flag .can (canReg n 0x28) 5 = true ∧
          (s.flag .can (canReg n 0x28) 5 = false → Raised (640 + 8 * n + 5) (p2 k ++ p1 x) s u) ∧ (u.chan n).objs = c.objs ∧ (u.chan n).rxq = c.rxq ∧ u.can.spdu = s.can.spdu ∧ u.gwy = s.gwy ∧
            u.seqOf (0x840 + n) = s.seqOf (0x840 + n)))))) ∧
  (∀ r : CanRecord, let u := s.storeFrame n r; let takes := fun (o : Nat) => s.objEn n o && (!s.objTx n o && idMatch r.frame (c.obj o).ide (c.obj o).id (c.obj o).mask)
    (s.canMode n = 1 → ((∀ o, o < 128 → takes o = false) → u.can = s.can ∧ CanOnce n 7 s u) ∧ (∀ o, o < 128 → takes o = true → (∀ q, q < o → takes q = false) →
      (s.objCap n o < r.frame.data.length → u.can = s.can ∧ CanOnce n 6 s u ∧ Kept [] s u) ∧
      (r.frame.data.length ≤ s.objCap n o → (s.objBit n 0x60 o = false → ((u.chan n).obj o).held = r ∧ u.objBit n 0x60 o = true ∧ Counted [] s u) ∧
        (s.objBit n 0x60 o = true → bit (s.objCfg n o) 29 = true → ((u.chan n).obj o).held = r ∧ CanOnce n 5 s u ∧ Kept [] s u) ∧
        (s.objBit n 0x60 o = true → bit (s.objCfg n o) 29 = false → u.can = s.can ∧ CanOnce n 4 s u ∧ u.flag .can (canReg n 0x28) 0 = true)))) ∧
    (s.canMode n = 2 → (c.filters.any (fun f => idMatch r.frame f.1 f.2.1 f.2.2) = false → u.can = s.can ∧ CanOnce n 7 s u) ∧ (c.filters.any (fun f => idMatch r.frame f.1 f.2.1 f.2.2) = true →
      (s.rxRoom n r.frame = true → (u.chan n).rxq = c.rxq ++ [r] ∧ Counted [] s u) ∧ (s.rxRoom n r.frame = false → u.can = s.can ∧ CanOnce n 4 s u ∧ u.flag .can (canReg n 0x28) 0 = true)))) ∧
  (∀ won, (((c.kind.onBus = false ∧ c.kind ≠ .standby) ∨ c.busy.isSome = true ∨ c.receiving = true) → Runs (.canArbitration ch won) s (fun u => u = s)) ∧
    (c.kind.onBus = true → c.busy = none → c.receiving = false → (s.candidates n = [] → Runs (.canArbitration ch won) s (fun u => u.chan n = { c with receiving := !won, sof := (u.chan n).sof, sofSteps := s.can.steps } ∧ u.out = s.out ∧ Only [.can] s u)) ∧
      (∀ what f rest, s.candidates n = (what, f) :: rest → s.sealedOf n what = none → (what.isOwn = true ∨ s.pduFor n true f = none) →
        (won = true → s.canOp n ≠ 3 → Runs (.canArbitration ch won) s (fun u => (u.chan n).busy = some (what, f) ∧ u.out = .can n f :: s.out ∧ Kept [] s u ∧ Only [.can, .out] s u)) ∧
        (s.canOp n = 3 → Runs (.canArbitration ch won) s (fun u => (u.chan n).busy = some (what, f) ∧ Kept [] s u ∧ Only [.can] s u)) ∧
        (won = false → s.canOp n ≠ 3 → Runs (.canArbitration ch won) s (fun u => (u.chan n).receiving = true ∧ (u.chan n).busy = none ∧ CanOnce n 10 s u ∧ u.out = s.out ∧
          (∀ o, what = .obj o → o < 128 → targetOf s.recs 1 n o = none → (s.objBit n 0x50 o = true → u.objBit n 0x40 o = false ∧ u.objBit n 0x50 o = false ∧ CanOnce n 9 s u) ∧
            (s.objBit n 0x50 o = false → bit (s.objCfg n o) 28 = true → u.objBit n 0x40 o = false ∧ CanOnce n 8 s u) ∧ (s.objBit n 0x50 o = false → bit (s.objCfg n o) 28 = false → u.objBit n 0x40 o = s.objBit n 0x40 o)) ∧
          (what = .queue → (u.chan n).txq = (if s.flag .can (canReg n 4) 6 then c.txq.drop 1 else c.txq)) ∧ Only [.regs .can, .regs .gwy, .seq, .evt, .gwy, .can, .lmp] s u)))) ∧
    (s.canSends n = true → (∀ o, o < 128 → s.objBit n 0x40 o = true → ∃ f, (Contender.obj o, f) ∈ s.candidates n) ∧ (∀ e, c.txq.head? = some e → (Contender.queue, e.frame) ∈ s.candidates n) ∧
      (s.candidates n).Pairwise (fun a b => canRank a.2 ≤ canRank b.2)) ∧ (s.canSends n = false → s.candidates n = [])) ∧
  (∀ (k : Nat) (b d p : List Byte) (t : State), s.sealPdu n k b d = (t, some p) → ∃ key, s.aesKey (leAt b 0xC 2) 0 (s.canDistrict n) = some key ∧ (s.spdu k).fv < (t.spdu k).fv ∧ (t.spdu k).fv < 2 ^ 64 ∧
    p = padTo (leAt b 0xA 2) d ++ (beBytes (leAt b 3 1 / 8) (t.spdu k).fv ++ pduMac key b (padTo (leAt b 0xA 2) d) (t.spdu k).fv)) ∧
  (∀ tdcv : Fin 128, (c.busy = none → Runs (.canTxSuccess ch tdcv) s (fun u => u = s)) ∧ (∀ what f, c.busy = some (what, f) → c.kind.onBus = true → (s.tdcOn n f = true → s.tdcOver n tdcv.val = true → s.canOp n = 0 → Runs (.canTxSuccess ch tdcv) s (fun u => (u.chan n).busy = none ∧
      (u.chan n).tec = c.tec + 8 ∧ (u.chan n).errKind = 7 ∧ u.rd .can (canReg n 0x2C) = word tdcv.val ∧ u.flag .can (canReg n 0x28) 3 = true ∧ CanOnce n 16 s u ∧ u.count .can (canReg n 0x410) = s.count .can (canReg n 0x410))) ∧
    ((s.tdcOn n f = false ∨ s.tdcOver n tdcv.val = false) → c.tec ≤ 255 → s.canOp n ≠ 3 → s.canOp n ≠ 4 → Runs (.canTxSuccess ch tdcv) s (fun u => (u.chan n).busy = none ∧ (u.chan n).tec = c.tec - 1 ∧ CanOnce n 2 s u ∧ u.count .can (canReg n 0x418) = (s.count .can (canReg n 0x418) + f.data.length) % 2 ^ 40 ∧
      u.seqOf (0x840 + n) = (s.seqOf (0x840 + n) + 1) % 2 ^ 32 ∧ (what = .queue → (u.chan n).txq = c.txq.drop 1) ∧ (what = .ref → (u.chan n).cycle = (c.cycle + 1) % 64 ∧ CanOnce n 20 s u ∧ (u.chan n).refPending = false) ∧
        (∀ o, what = .obj o → o < 128 → targetOf s.recs 1 n o = none → u.objBit n 0x40 o = false ∧ u.objBit n 0x50 o = false ∧ (s.objBit n 0x50 o = true → CanOnce n 9 s u)) ∧ Only parts s u)))) ∧
  (∀ e : CanError, let x := s.errorSeen n e; let late := e.dataPhase = true ∧ (∃ v f what, e.tdcv = some v ∧ c.busy = some (what, f) ∧ s.tdcOn n f = true ∧ s.tdcOver n v.val = true)
    x = { e with kind := x.kind } ∧ (late → x.kind = .delay) ∧ (¬late → (e.kind = .delay → x.kind = .bitRecessive) ∧ (e.kind = .exception → x.kind = if s.flag .can (canReg n 4) 7 then .exception else .form) ∧
      (e.kind ≠ .delay → e.kind ≠ .exception → x = e)) ∧
   (c.kind.onBus = false → c.kind ≠ .standby → Runs (.canBusError ch e) s (fun u => u = s)) ∧ (c.kind.onBus = true → s.canOp n = 0 →
    (x.kind ≠ .exception → let tec := if c.busy.isSome && !e.exempt then c.tec + 8 + 8 * e.more else c.tec; let rxe := if c.busy.isSome || e.exempt then c.rxe else Nat.min 255 (c.rxe + 1 + 8 * e.more)
      Runs (.canBusError ch e) s (fun u => (u.chan n).tec = tec ∧ (u.chan n).rxe = rxe ∧ (u.chan n).busy = none ∧ (u.chan n).errKind = errorCode x.kind ∧ (u.chan n).errData = e.dataPhase ∧ CanOnce n (errorCounter x.kind) s u ∧
        (255 < tec → CanMoved n .busOff s u ∧ CanOnce n 19 s u) ∧ (tec ≤ 255 → (127 < tec ∨ 127 < rxe) → CanMoved n .errorPassive s u) ∧ (tec ≤ 127 → rxe ≤ 127 → CanMoved n .errorActive s u) ∧
          Only [.regs .lmp, .regs .gwy, .regs .tdm, .regs .can, .seq, .evt, .tdm, .gwy, .can, .lmp] s u)) ∧
    (x.kind = .exception → Runs (.canBusError ch e) s (fun u => (u.chan n).tec = c.tec ∧ (u.chan n).rxe = c.rxe ∧ CanOnce n 18 s u ∧ u.flag .can (canReg n 0x28) 2 = true ∧
      CanMoved n .integrating s u)))) ∧
  (let moves := fun (new : CanKind) (tec rxe : Nat) (u : State) => (u.chan n).tec = tec ∧ (u.chan n).rxe = rxe ∧ CanMoved n new s u ∧ (∀ m, m ≠ n → u.chan m = s.chan m) ∧
      Only [.regs .lmp, .regs .tdm, .regs .can, .seq, .evt, .tdm, .can, .lmp] s u;
    (c.kind = .integrating → c.tec ≤ 127 → c.rxe ≤ 127 → Runs (.canIntegrationDone ch) s (moves .errorActive c.tec c.rxe)) ∧ (c.kind ≠ .integrating → Runs (.canIntegrationDone ch) s (fun u => u = s)) ∧
    (c.kind = .busOff → (s.fld .can (canReg n 4) 15 8 ≠ 0 → Runs (.busOffHoldExpiry ch) s (moves .recovering c.tec c.rxe)) ∧ (s.fld .can (canReg n 4) 15 8 = 0 → s.lmp.held = false → Runs (.canRecover ch) s (moves .recovering c.tec c.rxe))) ∧
    ((c.kind ≠ .busOff ∨ s.fld .can (canReg n 4) 15 8 = 0) → Runs (.busOffHoldExpiry ch) s (fun u => u = s)) ∧ ((c.kind ≠ .busOff ∨ s.fld .can (canReg n 4) 15 8 ≠ 0) → Runs (.canRecover ch) s (fun u => u = s)) ∧
    (c.kind = .recovering → Runs (.canRecoveryDone ch) s (moves .errorActive 0 0)) ∧ (c.kind ≠ .recovering → Runs (.canRecoveryDone ch) s (fun u => u = s)))

/-- Requests, windows, reference roles and clocks of a CAN channel (08_can_controllers.md R329, R330, R335, R336, R338, R346, R348, R349, R357, R362, R363): what a write to
OBJ_TXRQ or OBJ_TXCAN does to each object, the message commands with their results, the SOF latch, reference messages due and roles timed out, and SPDU_FV, writable while
the PDU is off. -/
def Obligations.CanRequestsAndWindows : Prop := ∀ (s : State) (ch : Fin 32) (p : Path), let n := ch.val; let c := s.chan n; let o := s.msgIndex p n; let answers := fun (cmd : Instr) (r : Nat) => Runs cmd s (MsgAnswered p n r s)
  (s.lmp.held = false → (Runs (.canTxqFlush ch) s (fun u => let keep := if c.sends .queue then c.txq.take 1 else []; (u.chan n) = { c with txq := keep } ∧
      u.count .can (canReg n 0x448) = (s.count .can (canReg n 0x448) + (c.txq.length - keep.length)) % 2 ^ 40 ∧ Kept [] s u ∧ Only [.regs .can, .seq, .evt, .can] s u)) ∧
    (∀ (m : Fin 4) (v : Word), (c.kind ∈ [CanKind.absent, .roadworks, .standby] → Runs (.objTxrqWrite ch m v) s (fun u => u = s)) ∧
      (c.kind ∉ [CanKind.absent, .roadworks, .standby] → Runs (.objTxrqWrite ch m v) s (fun u => (∀ q, q < 128 → (u.objBit n 0x40 q = true ↔ s.objBit n 0x40 q = true ∨
        (q / 32 = m.val ∧ bit v (q % 32) = true ∧ s.objTx n q = true ∧ s.canSends n = true))) ∧ Kept [(.can, canReg n (0x40 + 4 * m.val))] s u ∧ Counted [] s u ∧ Only [.regs .can] s u)) ∧
      ((∀ q, targetOf s.recs 1 n q = none) → Runs (.objTxcanWrite ch m v) s (fun u => (∀ q, q < 128 → let hit := q / 32 = m.val ∧ bit v (q % 32) = true ∧ s.objBit n 0x40 q = true
        (¬hit → u.objBit n 0x40 q = s.objBit n 0x40 q ∧ u.objBit n 0x50 q = s.objBit n 0x50 q) ∧ (hit → c.sends (.obj q) = true → u.objBit n 0x40 q = true ∧ u.objBit n 0x50 q = true) ∧
          (hit → c.sends (.obj q) = false → u.objBit n 0x40 q = false ∧ u.objBit n 0x50 q = false)) ∧ Kept [(.can, canReg n (0x40 + 4 * m.val)), (.can, canReg n (0x50 + 4 * m.val))] s u ∧
            Only [.regs .can, .seq, .evt, .can] s u))) ∧
    (∀ r, s.msgClosed n = some r → answers (.msgRead p ch) r ∧ answers (.msgWrite p ch) r ∧ answers (.msgPop p ch) r ∧ answers (.msgPush p ch) r ∧ answers (.msgReadClr p ch) r) ∧
    (s.msgClosed n = none → (s.msgTarget p n = 0 → (s.objExists n o = false → answers (.msgRead p ch) 4 ∧ answers (.msgReadClr p ch) 4 ∧ answers (.msgWrite p ch) 4) ∧
        (s.objExists n o = true → s.objDir n o = false → answers (.msgWrite p ch) 4 ∧ Runs (.msgRead p ch) s (fun u => MsgShows p n (c.obj o).held (c.obj o).mask s u ∧ u.can.chan = s.can.chan ∧ u.objBit n 0x60 o = s.objBit n 0x60 o) ∧
          Runs (.msgReadClr p ch) s (fun u => MsgShows p n (c.obj o).held (c.obj o).mask s u ∧ u.can.chan = s.can.chan ∧ u.objBit n 0x60 o = false)) ∧
        (s.objExists n o = true → s.objDir n o = true → let f := s.windowFrame p n (c.obj o).ide (c.obj o).id; let g := s.finalFrame n f
          let shown := { (c.obj o).held with frame := { (c.obj o).held.frame with ide := (c.obj o).ide, id := (c.obj o).id } }
          Runs (.msgRead p ch) s (fun u => MsgShows p n shown (c.obj o).mask s u ∧ u.can.chan = s.can.chan) ∧ Runs (.msgReadClr p ch) s (fun u => MsgShows p n shown (c.obj o).mask s u ∧ u.objBit n 0x60 o = false) ∧
          ((targetOf s.recs 1 n o).isSome = true → answers (.msgWrite p ch) 4) ∧ (targetOf s.recs 1 n o = none → (s.objBit n 0x40 o = true → answers (.msgWrite p ch) 3) ∧
            (s.objBit n 0x40 o = false → ((s.canTakes n g = false ∨ s.objCap n o < g.data.length) → answers (.msgWrite p ch) 5) ∧ (s.canTakes n g = true → g.data.length ≤ s.objCap n o →
              Runs (.msgWrite p ch) s (fun u => ((u.chan n).obj o).held.frame = f ∧ (∀ q, q ≠ o → (u.chan n).obj q = c.obj q) ∧ u.rd .can (msgReg p n 0x108) = 0 ∧ Kept [(.can, msgReg p n 0x108)] s u ∧ Only [.regs .can, .can] s u)))))) ∧
      (s.msgTarget p n ≠ 0 → answers (.msgWrite p ch) 4 ∧ answers (.msgReadClr p ch) 4) ∧ (s.msgTarget p n = 3 → answers (.msgRead p ch) 4 ∧ answers (.msgPop p ch) 4 ∧ answers (.msgPush p ch) 4) ∧
      (s.canMode n ≠ 2 → answers (.msgPop p ch) 4 ∧ answers (.msgPush p ch) 4) ∧
      (s.canMode n = 2 → s.msgTarget p n ≠ 3 → (s.msgTarget p n = 2 → c.rxq = [] → answers (.msgRead p ch) 1) ∧ (s.msgTarget p n = 1 → c.txq = [] → answers (.msgRead p ch) 1) ∧ (c.rxq = [] → answers (.msgPop p ch) 1) ∧
        (∀ r rest, c.rxq = r :: rest → Runs (.msgPop p ch) s (fun u => MsgShows p n r 0 s u ∧ u.chan n = { c with rxq := rest }) ∧ (s.msgTarget p n = 2 → Runs (.msgRead p ch) s (fun u => MsgShows p n r 0 s u ∧ u.can.chan = s.can.chan))) ∧
        (let w := s.rd .can (msgReg p n 0x110); let f := s.windowFrame p n (bit w 31) (if bit w 31 then field w 28 0 else field w 10 0)
          (c.kind = .standby → answers (.msgPush p ch) 8) ∧ (c.kind ≠ .standby → (s.canSends n = false → answers (.msgPush p ch) 7) ∧ (s.canSends n = true → (s.canTakes n (s.finalFrame n f) = false → answers (.msgPush p ch) 5) ∧
            (s.canTakes n (s.finalFrame n f) = true → (s.txRoom n f = false → answers (.msgPush p ch) 2) ∧ (s.txRoom n f = true → Runs (.msgPush p ch) s (fun u => u.chan n = { c with txq := c.txq ++ [⟨f, none⟩] } ∧
              u.rd .can (msgReg p n 0x108) = 0 ∧ Kept [(.can, msgReg p n 0x108)] s u ∧ Only [.regs .can, .can] s u)))))))) ∧
    (n < 28 → Runs (.sofcLatch p ch) s (fun u => u = s)) ∧ (28 ≤ n → Runs (.sofcLatch p ch) s (fun u => let r := fun (off : Nat) => onPath p (canReg n off)
      u.rd64 .can (r 0xCC) = s.can.sofc / 5 % 2 ^ 64 ∧ u.rd64 .can (r 0xD4) = s.stamp.ns % 2 ^ 64 ∧ u.rd .can (r 0xDC) = word s.stamp.frac ∧
        Kept [(.can, r 0xCC), (.can, r 0xD0), (.can, r 0xD4), (.can, r 0xD8), (.can, r 0xDC)] s u ∧ Only [.regs .can] s u)) ∧
    (∀ (j : Fin 1024) (v : Word), let k := s.pduBase n + j.val; let addr := Block.can.base + canReg n (0x4008 + 0x10 * j.val)
      (s.pduCount n ≤ j.val → ∀ h, Runs (.spduFvWrite p ch j h v) s (fun u => u = s)) ∧ (j.val < s.pduCount n → ((s.spdu k).en = true → ∀ h, Runs (.spduFvWrite p ch j h v) s (fun u => u = s)) ∧
        ((s.spdu k).en = false → Runs (.spduFvWrite p ch j .lo v) s (fun u => (u.path p).stage = some (addr, v) ∧ Only [.paths] s u) ∧ Runs (.spduFvWrite p ch j .hi v) s (fun u =>
          u.spdu k = { s.spdu k with fv := (s.lowFor p addr (word (s.spdu k).fv)).toNat + 2 ^ 32 * v.toNat, exceeded := false } ∧ (∀ q, q ≠ k → u.spdu q = s.spdu q) ∧ Only [.paths, .can] s u))))) ∧
  (c.ref ≠ .master → Runs (.refMessageDue ch) s (fun u => u = s)) ∧ (c.ref = .master → (s.refMay n = true → Runs (.refMessageDue ch) s (fun u => u.chan n = { c with refPending := true } ∧ Kept [] s u ∧ Only [.can] s u)) ∧
    (s.refMay n = false → Runs (.refMessageDue ch) s (fun u => u.can = s.can ∧ CanOnce n 8 s u ∧ u.flag .can (canReg n 0x28) 1 = true ∧ Kept [(.can, canReg n 0x28)] s u ∧ Only [.regs .can, .seq, .evt] s u))) ∧
  (c.ref ≠ .backup → c.ref ≠ .following → Runs (.refRoleTimeout ch) s (fun u => u = s)) ∧
  (∀ new, (c.ref = .backup ∧ new = RefKind.master) ∨ (c.ref = .following ∧ new = .wait) → Runs (.refRoleTimeout ch) s (fun u => (u.chan n).ref = new ∧ u.flag .can (canReg n 0x28) 4 = true ∧
    (s.flag .can (canReg n 0x28) 4 = false → Raised (640 + 8 * n + 4) (p1 new.code ++ (p1 (s.fld .can (canReg n 0x88) 20 20) ++ p1 (s.fld .can (canReg n 0x88) 23 21))) s u) ∧ Kept [(.can, canReg n 0x28)] s u ∧ Only [.regs .can, .seq, .evt, .can] s u))

/-- Signals, deliveries and ACF (09_gateway_and_culvert.md R372-R376, R388, R390, R391, R401): a value placed in a frame is the value read from it; updates, range and
timeouts of a signal rule; target frames sent each period; what a target refuses; the collected AVTP frame sent, and one received with its gap; the rule latched for the
path that selects it. -/
def Obligations.SignalsAndStreams : Prop := ∀ s : State, let parts := [Part.regs .eth, .regs .prs, .regs .xbr, .regs .can, .regs .gwy, .seq, .evt, .prs, .cis, .gwy, .can, .mvb]
  (∀ (msb : Bool) (start len v : Nat) (bs : List Byte), let ps := signalBits msb start len; let out := signalPut ps v bs
    (∀ x ∈ ps, x < 8 * bs.length) → signalGet ps out = v % 2 ^ len ∧ out.length = bs.length ∧ (∀ x, x ∉ ps → (leAt out (x / 8) 1).testBit (x % 8) = (leAt bs (x / 8) 1).testBit (x % 8))) ∧
  (∀ (k : Nat) (r data : List Byte), let fl := leAt r 2 1; let ps := signalBits (fl.testBit 1) (leAt r 8 2) (leAt r 0xC 1); let raw := signalGet ps data; let v : Int := if fl.testBit 3 then signed (leAt r 0xC 1) raw else raw
    let good := (∀ x ∈ ps, x < 8 * data.length) ∧ signalLimit r 0x10 ≤ v ∧ v ≤ signalLimit r 0x18; let u := (s.signalUpdate k r data).1
    (good → (s.signalUpdate k r data).2 = true ∧ u.sig k = ⟨.fresh, v, s.nowNs, false⟩ ∧ Counted [(.gwy, 0x418)] s u) ∧
    (¬good → (s.signalUpdate k r data).2 = false ∧ (u.sig k).kind = .outOfRange ∧ (u.sig k).value = (if fl.testBit 4 then (s.sig k).value else signalLimit r 0x20) ∧ Counted [(.gwy, 0x420)] s u ∧ u.flag .gwy 0x10 6 = true) ∧
      (∀ j, j ≠ k → u.sig j = s.sig j)) ∧
  (∀ (rule : Fin 8192), (gwyRec s.recs 2 rule.val = none → Runs (.signalTimeout rule) s (fun u => u = s)) ∧ (∀ r, gwyRec s.recs 2 rule.val = some r → let g := s.sig rule.val; let d := signalLimit r 0x20; let t := leAt r 0xE 2
    (((leAt r 2 1).testBit 0 = false ∨ leAt r 0x28 2 = 0 ∨ g.silent = true) → Runs (.signalTimeout rule) s (fun u => u = s)) ∧
    ((leAt r 2 1).testBit 0 = true → leAt r 0x28 2 ≠ 0 → g.silent = false → Runs (.signalTimeout rule) s (fun u => u.sig rule.val = { g with kind := .timedOut, value := d, silent := true } ∧
      (∀ j, j ≠ rule.val → u.sig j = s.sig j) ∧ u.count .gwy 0x428 = (s.count .gwy 0x428 + 1) % 2 ^ 40 ∧ u.flag .gwy 0x10 7 = true ∧ (s.flag .gwy 0x10 7 = false → Raised 1031 [] s u) ∧
        (∀ b, gwyRec s.recs 3 t = some b → u.targetBytes t b = signalPut (signalBits ((leAt r 2 1).testBit 2) (leAt r 0xA 2) (leAt r 0xC 1)) (twos 64 d) (s.targetBytes t b)) ∧ Only parts s u)))) ∧
  (∀ target : Fin 1024, ((∀ b, gwyRec s.recs 3 target.val = some b → leAt b 0 1 ≠ 1 ∨ leAt b 8 2 = 0 ∨ s.objBit (leAt b 1 1) 0x40 (leAt b 2 2) = true) → Runs (.targetFramePeriod target) s (fun u => u = s)) ∧
    (∀ b, gwyRec s.recs 3 target.val = some b → leAt b 0 1 = 1 → leAt b 8 2 ≠ 0 → let n := leAt b 1 1; let o := leAt b 2 2
      s.objBit n 0x40 o = false → (s.chan n).kind ∉ [CanKind.absent, .roadworks, .standby] → s.canSends n = true → s.objTx n o = true → Runs (.targetFramePeriod target) s (fun u =>
        u.objBit n 0x40 o = true ∧ ((u.chan n).obj o).held.frame = { targetFrame (s.targetBytes target.val b) with ide := ((s.chan n).obj o).ide, id := ((s.chan n).obj o).id } ∧ Counted [] s u ∧ Only [.regs .can, .can] s u))) ∧
  (∀ (n o : Nat) (f : CanFrame), o ≠ 0xFFFF → let u := s.deliverCan n o 0 (.can f); let fits := protoHas (s.canProto n) f = true ∧ ¬(f.rtr = true ∧ f.fdf = true) ∧ (f.xlf = true ∨ f.fdf = true ∨ f.data.length ≤ 8)
    (protoHas (s.canProto n) f = false → GwyCounted 0x438 (some 0) s u) ∧ (fits → s.objTx n o = true → (s.objCap n o < f.data.length → GwyCounted 0x440 (some 0) s u) ∧ (f.data.length ≤ s.objCap n o →
      (s.objBit n 0x40 o = true → GwyCounted 0x450 (some 0) s u) ∧ (s.objBit n 0x40 o = false → (s.chan n).kind ∉ [CanKind.absent, .roadworks, .standby] → s.canSends n = true → u.objBit n 0x40 o = true ∧
        ((u.chan n).obj o).held.frame = { f with ide := ((s.chan n).obj o).ide, id := ((s.chan n).obj o).id } ∧ Counted [] s u)))) ∧
  (∀ stream : Fin 256, let a := s.acf stream.val; let E := a.epoch.getD s.epoch; (gwyRec (s.recsAt E) 6 stream.val = none → Runs (.acfWaitExpiry stream) s (fun u => u.acf stream.val = { seqNum := a.seqNum } ∧ Counted [] s u ∧ Only [.gwy] s u)) ∧
    (∀ b, gwyRec (s.recsAt E) 6 stream.val = some b → (a.msgs = [] → Runs (.acfWaitExpiry stream) s (fun u => u = s)) ∧ (a.msgs ≠ [] →
      (s.tdm.active = false → Runs (.acfWaitExpiry stream) s (fun u => u.acf stream.val = { seqNum := a.seqNum } ∧ Counted (List.replicate a.msgs.length (.gwy, 0x458)) s u ∧ u.flag .gwy 0x10 0 = true ∧ u.prs = s.prs ∧
        Only [.regs .gwy, .seq, .evt, .gwy] s u)) ∧
      (s.tdm.active = true → s.laneServed 22 = false → Runs (.acfWaitExpiry stream) s (fun u => u.acf stream.val = { seqNum := (a.seqNum + 1) % 256 } ∧ Counted [(.gwy, 0x4B0), (.xbr, xbrCounter 22 3)] s u ∧ u.prs = s.prs)) ∧
      (s.tdm.active = true → s.laneServed 22 = true → s.prs.roadworks = false → Runs (.acfWaitExpiry stream) s (fun u => u.acf stream.val = { seqNum := (a.seqNum + 1) % 256 } ∧ Counted [(.gwy, 0x4B0)] s u ∧ (∃ f, u.prs.wait = s.prs.wait ++ [f] ∧
        f.lane = 22 ∧ f.epoch = E ∧ f.district = some (leAt b 2 2 % 4096) ∧ f.cls = some (leAt b 1 1 % 8) ∧ f.bytes = slice b 4 6 ++ (gwySa (s.recsAt E) ++ ((if (leAt b 0 1).testBit 2 then [0x81, 0x00] ++ beBytes 2 (leAt b 0xA 2) else []) ++
          ([0x22, 0xF0] ++ ntscf (leAt b 0xC 8) a.seqNum a.msgs)))) ∧ Kept [] s u ∧ Only [.regs .gwy, .seq, .evt, .prs, .cis, .gwy] s u))))) ∧
  (s.gwy.arrived.find? (fun a => (s.acfRule a).isSome) = none → Runs .acfRx s (fun u => u = s)) ∧
  (∀ a b, s.gwy.arrived.find? (fun a => (s.acfRule a).isSome) = some a → s.acfRule a = some b → let f := a.2.2; let x := f.bytes.drop (etherAt 8 f.bytes 12).1; let sub := leAt x 0 1; let q := s.ing a.2.1 0; let seq := leAt x (if sub = 4 then 2 else 3) 1
    let mine := (etherAt 8 f.bytes 12).2 = 0x22F0 ∧ (sub = 4 ∨ sub = 0x82) ∧ beAt x 4 8 = leAt b 0x14 8
    (¬mine → Runs .acfRx s (fun u => GwyCounted 0x490 none s u ∧ u.gwy = { s.gwy with arrived := s.gwy.arrived.erase a } ∧ Only [.regs .gwy, .seq, .evt, .gwy] s u)) ∧
    (mine → Runs .acfRx s (fun u => u.ing a.2.1 0 = ⟨false, seq, s.nowNs⟩ ∧ u.gwy.arrived = s.gwy.arrived.erase a ∧
      u.count .gwy 0x4C0 = (s.count .gwy 0x4C0 + (if q.takeAny = true ∨ seq = (q.last + 1) % 256 then 0 else 1)) % 2 ^ 40 ∧ (q.takeAny = false → seq ≠ (q.last + 1) % 256 → u.flag .gwy 0x10 8 = true) ∧ Only parts s u))) ∧
  (s.lmp.held = false → ∀ (p : Path) (v : Word), (Runs (.gwySelWrite p false v) s (fun u => let k := field v 12 0; u.fld .gwy 0x20 12 0 = k ∧ (gwyRec s.recs 2 k = none → u.rd .gwy (onPath p 0x24) = 0 ∧ u.rd64 .gwy (onPath p 0x28) = 0) ∧
      (gwyRec s.recs 2 k ≠ none → bit (u.rd .gwy (onPath p 0x24)) 31 = true ∧ u.rd64 .gwy (onPath p 0x28) = twos 64 (s.sig k).value ∧
        field (u.rd .gwy (onPath p 0x24)) 30 29 = (match (s.sig k).kind with | .never => 0 | .fresh => 1 | .timedOut => 2 | .outOfRange => 3)) ∧ Kept [(.gwy, 0x20), (.gwy, onPath p 0x24), (.gwy, onPath p 0x28), (.gwy, onPath p 0x2C)] s u ∧ Only [.regs .gwy] s u)) ∧
    (Runs (.gwySelWrite p true v) s (fun u => let k := field v 11 0; let st := onPath p 0x38; let ex := (gwyRec s.recs (if bit v 31 then 5 else 4) k).isSome
      (ex = false → u.rd .gwy (onPath p 0x34) = 0 ∧ u.rd .gwy st = 0) ∧ (ex = true → bit v 31 = true → let q := s.ing k (bit v 30).toNat; u.rd .gwy (onPath p 0x34) = word q.last ∧ u.rd .gwy st = word (2 ^ 31 + 2 ^ 30 * q.takeAny.toNat)) ∧
        (ex = true → bit v 31 = false → u.rd .gwy (onPath p 0x34) = word (s.culSeq k).next ∧ u.rd .gwy st = word (2 ^ 31 + 2 ^ 29 * (s.culSeq k).exhausted.toNat)) ∧
          Kept [(.gwy, 0x30), (.gwy, onPath p 0x34), (.gwy, st)] s u ∧ Only [.regs .gwy] s u)))

/-- Culverts (09_gateway_and_culvert.md R366, R380-R382, R385-R387): the first check that fails drops the frame and counts it; a replayed sequence number is refused; an
accepted frame moves LAST and is delivered or sent through the crypto engine; rewrapping gives a new SEQ of this device; a culvert never wraps on a standby member;
HOLD_MS forgets LAST. -/
def Obligations.CulvertsCheckAndWrap : Prop := ∀ s : State, let parts := [Part.regs .eth, .regs .prs, .regs .xbr, .regs .can, .regs .gwy, .seq, .evt, .prs, .cis, .gwy, .can, .mvb]
  (s.gwy.arrived.find? (fun a => !a.1 && (s.acfRule a).isNone) = none → Runs .culvertRx s (fun u => u = s)) ∧
  (∀ a, s.gwy.arrived.find? (fun a => !a.1 && (s.acfRule a).isNone) = some a → let rule := a.2.1; let f := a.2.2; let p := culParts f; let h := p.2.1; let kind := leAt h 0 1 % 16; let seq := beAt h 8 4; let st := beAt h 2 2 % 2
    let left := { s.gwy with arrived := s.gwy.arrived.erase a }
    let drops := fun (off : Nat) (i : Option Nat) => Runs .culvertRx s (fun u => GwyCounted off i s u ∧ u.gwy = left ∧ Only [.regs .gwy, .seq, .evt, .gwy] s u)
    (culHeaderOk (etherAt 8 f.bytes 12).2 h = false → drops 0x480 (some 1)) ∧
    (culHeaderOk (etherAt 8 f.bytes 12).2 h = true → s.frameEnd f < p.1 + 20 + beAt h 16 2 + (if p.2.2.2 then 16 else 0) → drops 0x488 (some 2)) ∧
    (∀ b, gwyRec (s.recsAt f.epoch) 5 rule = some b → culMatches s b f →
      (p.2.2.2 = true → (s.aesKey (leAt b 6 2) 1 (f.district.getD 0) = none → drops 0x460 (some 10)) ∧ (∀ key, s.aesKey (leAt b 6 2) 1 (f.district.getD 0) = some key → Runs .culvertRx s (fun u =>
        u.gwy = { left with crypto := s.gwy.crypto ++ [.decrypt f rule (p.1 + 20) key] } ∧ Counted [] s u ∧ Kept [] s u ∧ Only [.gwy] s u))) ∧
      (p.2.2.2 = false → let q := s.ing rule st; let d := (seq + 2 ^ 32 - q.last) % 2 ^ 32; let checks := (leAt b 0 1).testBit 3; let fresh := checks = false ∨ q.takeAny = true ∨ (0 < d ∧ d < 2 ^ 31); let now := if checks then ⟨false, seq, s.nowNs⟩ else q
        (¬fresh → drops 0x4A0 (some 4)) ∧ (fresh → foreignCheckOk kind p.2.2.1 = false → Runs .culvertRx s (fun u => GwyCounted 0x4A8 (some 5) s u ∧ u.ing rule st = now ∧ Only [.regs .gwy, .seq, .evt, .gwy] s u)) ∧
        (fresh → foreignCheckOk kind p.2.2.1 = true → (kindSuits kind (leAt b 0xC 1) = false → Runs .culvertRx s (fun u => GwyCounted 0x438 (some 0) s u ∧ u.ing rule st = now ∧ Only [.regs .gwy, .seq, .evt, .gwy] s u)) ∧
          (kindSuits kind (leAt b 0xC 1) = true → Runs .culvertRx s (fun u => u.ing rule st = now ∧ u.gwy.arrived = s.gwy.arrived.erase a ∧ u.count .gwy 0x478 = (s.count .gwy 0x478 + 1) % 2 ^ 40 ∧ Only parts s u ∧
            (s.targetAbsent (slice b 0xC 8) = true → Counted [(.gwy, 0x478), (.xbr, xbrCounter 22 3)] s u ∧ u.can = s.can ∧ u.mvb = s.mvb) ∧
            (let n := leAt b 0xD 1; let c := canOfForeign kind p.2.2.1; kind ≤ 3 → s.targetAbsent (slice b 0xC 8) = false → leAt b 0xE 2 = 0xFFFF → (leAt b 0x10 4).testBit 31 = true → protoHas (s.canProto n) c = true → (c.rtr = false ∨ c.fdf = false) →
              (c.xlf = true ∨ c.fdf = true ∨ c.data.length ≤ 8) → s.canMode n = 2 → s.canRefuses n = none → s.txRoom n c = true → (u.chan n).txq = (s.chan n).txq ++ [⟨c, none⟩]))))))) ∧
  (s.gwy.arrived.find? (fun a => a.1) = none → Runs .culvertRewrap s (fun u => u = s)) ∧
  (∀ a, s.gwy.arrived.find? (fun a => a.1) = some a → let f := a.2.2; let p := culParts f; let h := p.2.1; let kind := leAt h 0 1 % 16; let fits := p.1 + 20 + beAt h 16 2 ≤ s.frameEnd f ∧ p.2.2.1.length = foreignLen kind p.2.2.1
    let drops := fun (off : Nat) (i : Option Nat) => Runs .culvertRewrap s (fun u => GwyCounted off i s u ∧ u.gwy = { s.gwy with arrived := s.gwy.arrived.erase a } ∧ Only [.regs .gwy, .seq, .evt, .gwy] s u)
    (culHeaderOk (etherAt 8 f.bytes 12).2 h = false → drops 0x480 (some 1)) ∧ (culHeaderOk (etherAt 8 f.bytes 12).2 h = true → (p.2.2.2 = true → drops 0x490 none) ∧ (p.2.2.2 = false → (¬fits → drops 0x488 (some 2)) ∧
      (fits → (foreignCheckOk kind p.2.2.1 = false → drops 0x4A8 (some 5)) ∧ (foreignCheckOk kind p.2.2.1 = true → ∀ b, gwyRec (s.recsAt f.epoch) 4 a.2.1 = some b → (leAt b 0 1).testBit 0 = true →
        (s.tdm.active = false → drops 0x458 (some 0)) ∧ (s.tdm.active = true → (leAt b 0 1).testBit 1 = false → s.laneServed 22 = true → s.prs.roadworks = false → Runs .culvertRewrap s (fun u => u.culSeq a.2.1 = ⟨((s.culSeq a.2.1).next + 1) % 2 ^ 32, false⟩ ∧
          Counted [(.gwy, 0x470)] s u ∧ (∃ x, u.prs.wait = s.prs.wait ++ [x] ∧ x.lane = 22 ∧ x.epoch = f.epoch ∧ x.district = some (leAt b 2 2 % 4096) ∧ x.bytes = culOuter b (gwySa (s.recsAt f.epoch)) ++
            ((({ kind := kind, flags := (leAt h 1 1) / 2 % 4 * 2, origin := s.gwyOrigin (s.recsAt f.epoch), tunnel := a.2.1, source := beAt h 6 2, seq := (s.culSeq a.2.1).next, stamp := beAt h 12 4, len := p.2.2.1.length } : CulHeader).bytes) ++
              p.2.2.1)) ∧ Kept [] s u ∧ Only [.regs .gwy, .seq, .evt, .prs, .cis, .gwy] s u))))))) ∧
  (∀ (epoch rule kind source stamp : Nat) (ver disc : Bool) (fr b : List Byte), gwyRec (s.recsAt epoch) 4 rule = some b → (leAt b 0 1).testBit 0 = true → (leAt b 0 1).testBit 1 = true → s.tdm.active = true →
    let u := s.culvertWrap epoch rule kind ver disc source stamp fr; let q := s.culSeq rule
    (q.exhausted = true → GwyCounted 0x468 (some 0) s u ∧ u.gwy = s.gwy) ∧ (q.exhausted = false → s.aesKey (leAt b 0xC 2) 0 (leAt b 2 2 % 4096) = none → GwyCounted 0x460 (some 10) s u ∧ u.gwy = s.gwy) ∧
      (∀ key, q.exhausted = false → s.aesKey (leAt b 0xC 2) 0 (leAt b 2 2 % 4096) = some key → u.culSeq rule = ⟨(q.next + 1) % 2 ^ 32, q.next == 0xFFFFFFFF⟩ ∧ u.prs = s.prs ∧
        (∃ x body, u.gwy.crypto = s.gwy.crypto ++ [.encrypt x body key]) ∧ (q.next + 1 = 0xC0000000 → u.flag .gwy 0x10 9 = true))) ∧
  (s.gwy.crypto = [] → Runs .lookasideCryptoDone s (fun u => u = s)) ∧
  (∀ rest, s.prs.roadworks = false → (∀ f, s.gwy.crypto = .pass f :: rest → s.laneServed 26 = true → Runs .lookasideCryptoDone s (fun u => u.gwy = { s.gwy with crypto := rest } ∧ u.prs.wait = s.prs.wait ++ [{ f with ingress := 31, lane := 26 }] ∧ Counted [] s u ∧ Only [.gwy, .prs] s u)) ∧
    (∀ f body key, s.gwy.crypto = .encrypt f body key :: rest → s.laneServed f.lane = true → let h := slice f.bytes (body - 20) 20; let bs := f.bytes.take body ++ gcmSeal key (culIv h) h (f.bytes.drop body)
      Runs .lookasideCryptoDone s (fun u => u.gwy = { s.gwy with crypto := rest } ∧ u.prs.wait = s.prs.wait ++ [{ f with bytes := bs, rxLen := bs.length + 4 }] ∧ Counted [] s u ∧ Only [.gwy, .prs] s u)) ∧
    (∀ f rule body key b, s.gwy.crypto = .decrypt f rule body key :: rest → gwyRec (s.recsAt f.epoch) 5 rule = some b → let h := slice f.bytes (body - 20) 20
      gcmOpen key (culIv h) h (slice f.bytes body (beAt h 16 2 + 16)) = none → Runs .lookasideCryptoDone s (fun u => GwyCounted 0x498 (some 3) s u ∧ u.gwy = { s.gwy with crypto := rest } ∧ Only [.regs .gwy, .seq, .evt, .gwy] s u))) ∧
  (∀ (rule : Fin 4096) (which : Fin 2), ((∀ b, gwyRec s.recs 5 rule.val = some b → leAt b 8 2 = 0) → Runs (.culvertHoldExpiry rule which) s (fun u => u = s)) ∧
    (∀ b, gwyRec s.recs 5 rule.val = some b → leAt b 8 2 ≠ 0 → Runs (.culvertHoldExpiry rule which) s (fun u => u.ing rule.val which.val = { s.ing rule.val which.val with takeAny := true } ∧
      (∀ r w, (r, w) ≠ (rule.val, which.val) → w < 2 → u.ing r w = s.ing r w) ∧ Counted [] s u ∧ Kept [] s u ∧ Only [.gwy] s u)))

/-- MVB channels (09_gateway_and_culvert.md R392, R394-R396, R402): idle lines, masterships and collisions move a channel as the table says; a master polls the entries due,
counts those unanswered and runs the event rounds (which round follows which, and that the device that answers is polled next, is notes/assumptions/111.md); a device answers for its own ports, messages and status, in STANDBY nothing; a telegram that fails a check leaves its port; queues drop and
count; a port window answers its commands. -/
def Obligations.MvbChannelsFollowStateTable : Prop := ∀ (s : State) (ch : Fin 2), let n := ch.val; let c := s.mvbChan n; let busParts := [Part.regs .mvb, .seq, .evt, .mvb, .out, .free]
  let moves := fun (new : MvbKind) (ks : List (Block × Nat)) (u : State) => MvbMoved n new s u ∧ Counted ks s u ∧ (∀ m, m ≠ n → u.mvbChan m = s.mvbChan m) ∧ Kept [] s u ∧ Only [.regs .mvb, .seq, .evt, .mvb] s u
  let stays := fun (cmd : Instr) => Runs cmd s (fun u => u = s)
  (c.kind ≠ .init → stays (.mvbLineIdle ch)) ∧ (c.kind = .init → (s.mvbRole n = 1 → Runs (.mvbLineIdle ch) s (moves .device [])) ∧ (s.mvbRole n = 2 → Runs (.mvbLineIdle ch) s (moves .backup []))) ∧
  (c.kind ≠ .backup → stays (.mvbMasterTimeout ch) ∧ stays (.mastershipOfferRx ch)) ∧ (c.kind = .backup → Runs (.mvbMasterTimeout ch) s (moves .master []) ∧ Runs (.mastershipOfferRx ch) s (moves .master [(.mvb, mvbReg n 0x448)])) ∧
  (c.kind ≠ .master → stays (.mvbBasicPeriod ch)) ∧ (c.kind = .master → s.img.works.contains (.mvb n) = true → Runs (.mvbBasicPeriod ch) s (fun u => MvbMoved n .roadworks s u ∧ u.out = s.out ∧ (u.mvbChan n).mdTx = [] ∧ (u.mvbChan n).mdRx = [] ∧ Only busParts s u)) ∧
    (c.kind = .master → s.img.works.contains (.mvb n) = false → Runs (.mvbBasicPeriod ch) s (fun u => (u.mvbChan n).kind = .master ∧ (u.mvbChan n).basic = (c.basic + 1) % 2 ^ s.fld .mvb (mvbReg n 8) 31 28 ∧
    (u.mvbChan n).polls = ((s.mvbDue n).filter (fun w => !s.mvbOwns n w)).map (fun w => (field w 14 12, field w 11 0)) ∧ (∀ w ∈ s.mvbDue n, Output.mvbMaster n (field w 14 12) (field w 11 0) ∈ u.out) ∧ (∃ a < 4096, Output.mvbMaster n 9 a ∈ u.out) ∧
      u.count .mvb (mvbReg n 0x430) = (s.count .mvb (mvbReg n 0x430) + c.polls.length) % 2 ^ 40 ∧ (c.polls ≠ [] → u.flag .mvb (mvbReg n 0x14) 1 = true) ∧ (u.mvbChan n).mdTx = c.mdTx.drop 1 ∧ Only busParts s u)) ∧
  (∀ (fcode : Fin 16) (addr : Fin 4096) (l : MvbLines), let cfg := s.mvbPortCfg n addr.val; let heard := l.a = true ∨ l.b = true
    (c.kind ∈ [MvbKind.absent, .roadworks] → stays (.mvbMasterFrameRx ch fcode addr l)) ∧ (c.kind ∉ [MvbKind.absent, .roadworks] → (¬heard → Runs (.mvbMasterFrameRx ch fcode addr l) s (fun u => u.out = s.out ∧ (u.mvbChan n).kind = c.kind ∧ Only busParts s u)) ∧
      (heard → (c.kind = .master → Runs (.mvbMasterFrameRx ch fcode addr l) s (fun u => MvbMoved n .backup s u ∧ MvbOnce n 8 s u ∧ u.flag .mvb (mvbReg n 0x14) 2 = true ∧ u.out = s.out ∧ (u.mvbChan n).polls = [] ∧ Only busParts s u)) ∧
        (c.kind ∈ [MvbKind.init, .standby] → Runs (.mvbMasterFrameRx ch fcode addr l) s (fun u => u.out = s.out ∧ (u.mvbChan n).ports = c.ports ∧ Only busParts s u)) ∧
        (c.kind ∈ [MvbKind.device, .backup] → (fcode.val ≤ 4 → mvbIsSource cfg = true → field cfg 26 24 = fcode.val → Runs (.mvbMasterFrameRx ch fcode addr l) s (fun u => u.out = .mvbSlave n fcode.val addr.val (padTo (mvbSize cfg) (c.port addr.val).bytes) :: s.out ∧
              MvbOnce n 1 s u ∧ u.seqOf (0x860 + n) = (s.seqOf (0x860 + n) + 1) % 2 ^ 32 ∧ (u.mvbChan n).kind = c.kind ∧ Only busParts s u)) ∧
          (fcode.val ≤ 4 → (mvbIsSource cfg = false ∨ field cfg 26 24 ≠ fcode.val) → Runs (.mvbMasterFrameRx ch fcode addr l) s (fun u => u.out = s.out ∧ Only busParts s u)) ∧
          (fcode.val = 12 → addr.val = s.mvbAddr n → ∀ m rest, c.mdTx = m :: rest → Runs (.mvbMasterFrameRx ch fcode addr l) s (fun u => u.out = .mvbSlave n 12 addr.val m :: s.out ∧ (u.mvbChan n).mdTx = rest ∧ MvbOnce n 3 s u ∧ Only busParts s u)) ∧
          (fcode.val ∈ [12, 15] → addr.val ≠ s.mvbAddr n → Runs (.mvbMasterFrameRx ch fcode addr l) s (fun u => u.out = s.out ∧ Only busParts s u)) ∧
          (fcode.val = 15 → addr.val = s.mvbAddr n → Runs (.mvbMasterFrameRx ch fcode addr l) s (fun u => ∃ bs, bs.length = 2 ∧ u.out = .mvbSlave n 15 addr.val bs :: s.out ∧ u.seqOf (0x860 + n) = (s.seqOf (0x860 + n) + 1) % 2 ^ 32 ∧ Only busParts s u)))))) ∧
  (∀ (fcode : Fin 16) (addr : Fin 4096) (data : List Byte) (good : Bool) (l : MvbLines), let cfg := s.mvbPortCfg n addr.val; let polls := c.polls.erase (fcode.val, addr.val)
    let sink := mvbIsSink cfg = true ∧ field cfg 26 24 = fcode.val ∧ data.length = mvbSize cfg; let tel : MvbData := { bytes := data, stamp := s.stamp, seq := s.seqOf (0x860 + n), came := true }; let fine := good = true ∧ (l.a = true ∨ l.b = true)
    let due := s.img.works.contains (.mvb n); let all := [Part.regs .eth, .regs .prs, .regs .xbr, .regs .can, .regs .mvb, .regs .gwy, .seq, .evt, .prs, .cis, .tdm, .gwy, .can, .mvb]
    (c.kind ∈ [MvbKind.absent, .roadworks, .init] → stays (.mvbTelegramRx ch fcode addr data good l)) ∧ (due = true → c.kind ∉ [MvbKind.absent, .roadworks, .init] → polls = [] → Runs (.mvbTelegramRx ch fcode addr data good l) s (fun u => (u.mvbChan n).kind = .roadworks ∧ (u.mvbChan n).mdRx = [] ∧ Only all s u)) ∧
    (due = false → c.kind ∉ [MvbKind.absent, .roadworks, .init] →
      (¬fine → (c.kind ≠ .master ∨ fcode.val ∉ [9, 13]) → Runs (.mvbTelegramRx ch fcode addr data good l) s (fun u => (u.mvbChan n).ports = c.ports ∧ (u.mvbChan n).mdRx = c.mdRx ∧ (u.mvbChan n).polls = polls ∧ MvbOnce n 5 s u ∧ u.flag .mvb (mvbReg n 0x14) 0 = true ∧ u.seqOf (0x860 + n) = s.seqOf (0x860 + n) ∧
        Only [.regs .mvb, .seq, .evt, .mvb] s u)) ∧
      (c.kind = .master → (∀ f g : Nat, (f, g) ∈ [(9, 13), (13, 14)] → ¬fine → fcode.val = f → Runs (.mvbTelegramRx ch fcode addr data good l) s (fun u => ∃ a < 4096, u.out = .mvbMaster n g a :: s.out ∧ (u.mvbChan n).polls = polls ∧ MvbOnce n 5 s u ∧ Only busParts s u)) ∧
        (fine → fcode.val ∈ [9, 13, 14] → Runs (.mvbTelegramRx ch fcode addr data good l) s (fun u => u.out = .mvbMaster n 12 addr.val :: s.out ∧ (u.mvbChan n).polls = polls ++ [(12, addr.val)] ∧ u.seqOf (0x860 + n) = (s.seqOf (0x860 + n) + 1) % 2 ^ 32 ∧ Only busParts s u))) ∧
      (fine → fcode.val ≤ 4 → targetOf s.recs 2 n addr.val = none → Runs (.mvbTelegramRx ch fcode addr data good l) s (fun u => (sink → (u.mvbChan n).port addr.val = tel ∧ u.count .gwy 0x400 = (s.count .gwy 0x400 + 1) % 2 ^ 40) ∧ MvbOnce n 0 s u ∧ u.seqOf (0x860 + n) = (s.seqOf (0x860 + n) + 1) % 2 ^ 32 ∧ Only all s u)) ∧
      (fine → fcode.val = 12 → Runs (.mvbTelegramRx ch fcode addr data good l) s (fun u => MvbOnce n 2 s u ∧ u.count .gwy 0x400 = (s.count .gwy 0x400 + 1) % 2 ^ 40 ∧ (c.mdRx.length < 64 → (u.mvbChan n).mdRx = c.mdRx ++ [tel]) ∧
        (64 ≤ c.mdRx.length → (u.mvbChan n).mdRx = c.mdRx ∧ MvbOnce n 4 s u ∧ u.flag .mvb (mvbReg n 0x14) 4 = true) ∧ Only all s u)) ∧
      (fine → fcode.val = 8 → c.kind = .master → ∀ a k, c.offer = some (a, k) → Runs (.mvbTelegramRx ch fcode addr data good l) s (fun u => MvbMoved n .backup s u ∧ (u.mvbChan n).master = some a ∧ MvbOnce n 9 s u ∧ Only all s u)))) ∧
  (c.polls = [] → stays (.mvbReplyTimeout ch)) ∧ (∀ p rest, c.polls = p :: rest → s.img.works.contains (.mvb n) = false → Runs (.mvbReplyTimeout ch) s (fun u => u.mvbChan n = { c with polls := rest } ∧ Counted [(.mvb, mvbReg n 0x430)] s u ∧ u.flag .mvb (mvbReg n 0x14) 1 = true ∧
    (s.flag .mvb (mvbReg n 0x14) 1 = false → Raised (897 + 64 * n) (p1 1 ++ p2 p.2) s u) ∧ Kept [(.mvb, mvbReg n 0x14)] s u ∧ Only [.regs .mvb, .seq, .evt, .mvb] s u)) ∧
  (s.lmp.held = false → (let ms := s.mvbMasters n; let next := ms[((ms.findIdx? (fun a => a == s.mvbAddr n)).getD 0 + 1) % Nat.max 1 ms.length]?
      ((c.kind ≠ .master ∨ c.offer.isSome = true ∨ next = none ∨ next = some (s.mvbAddr n)) → stays (.relinquish ch)) ∧ (∀ a, next = some a → a ≠ s.mvbAddr n → c.kind = .master → c.offer = none →
        Runs (.relinquish ch) s (fun u => u.mvbChan n = { c with offer := some (a, 0) } ∧ u.out = .mvbMaster n 8 a :: s.out ∧ Kept [] s u ∧ Only [.mvb, .out] s u))) ∧
    Runs (.mdFlush ch) s (fun u => u.mvbChan n = { c with mdTx := [] } ∧ Counted (List.replicate c.mdTx.length (.mvb, mvbReg n 0x420)) s u ∧ (c.mdTx ≠ [] → u.flag .mvb (mvbReg n 0x14) 4 = true) ∧ Kept [(.mvb, mvbReg n 0x14)] s u ∧
      Only [.regs .mvb, .seq, .evt, .mvb] s u) ∧
    (∀ p : Path, let a := s.portIndex p n; let cfg := s.mvbPortCfg n a; let t := s.portTarget p n; let answers := fun (cmd : Instr) (r : Nat) => Runs cmd s (PortAnswered p n r s)
      (c.kind = .absent → answers (.portRead p ch) 4 ∧ answers (.portWrite p ch) 4 ∧ answers (.portPop p ch) 4 ∧ answers (.portPush p ch) 4) ∧ (c.kind = .roadworks → answers (.portRead p ch) 5 ∧ answers (.portWrite p ch) 5 ∧ answers (.portPop p ch) 5 ∧ answers (.portPush p ch) 5) ∧
      (c.kind ∉ [MvbKind.absent, .roadworks] → (t = 3 → answers (.portRead p ch) 4 ∧ answers (.portWrite p ch) 4 ∧ answers (.portPop p ch) 4 ∧ answers (.portPush p ch) 4) ∧ (t ≠ 0 → answers (.portWrite p ch) 4) ∧
        (t = 0 → Runs (.portRead p ch) s (fun u => PortShows p n (setBit cfg 29 (targetOf s.recs 2 n a).isSome) (c.port a) (mvbSize cfg) s u ∧ u.mvb = s.mvb) ∧ (c.kind = .standby → answers (.portWrite p ch) 6) ∧
          (c.kind ≠ .standby → ((mvbIsSource cfg = false ∨ (targetOf s.recs 2 n a).isSome = true) → answers (.portWrite p ch) 3) ∧ (mvbIsSource cfg = true → targetOf s.recs 2 n a = none → Runs (.portWrite p ch) s (fun u =>
            ((u.mvbChan n).port a).bytes = (s.portBytes p n).take (mvbSize cfg) ∧ (∀ b, b ≠ a → (u.mvbChan n).port b = c.port b) ∧ u.rd .mvb (portReg p n 0x108) = 0 ∧ Kept [(.mvb, portReg p n 0x108)] s u ∧ Only [.regs .mvb, .mvb] s u)))) ∧
        (t = 1 → (c.mdTx = [] → answers (.portRead p ch) 1) ∧ (∀ m rest, c.mdTx = m :: rest → Runs (.portRead p ch) s (fun u => PortShows p n 0 { bytes := m } 32 s u ∧ u.mvb = s.mvb))) ∧
        (t = 2 → (c.mdRx = [] → answers (.portRead p ch) 1) ∧ (∀ d rest, c.mdRx = d :: rest → Runs (.portRead p ch) s (fun u => PortShows p n 0 d 32 s u ∧ u.mvb = s.mvb))) ∧
        (t ≠ 3 → (c.mdRx = [] → answers (.portPop p ch) 1) ∧ (∀ d rest, c.mdRx = d :: rest → Runs (.portPop p ch) s (fun u => PortShows p n 0 d 32 s u ∧ u.mvbChan n = { c with mdRx := rest })) ∧
          (c.kind = .standby → answers (.portPush p ch) 6) ∧ (c.kind ≠ .standby → (64 ≤ c.mdTx.length → answers (.portPush p ch) 2) ∧ (c.mdTx.length < 64 → Runs (.portPush p ch) s (fun u =>
            u.mvbChan n = { c with mdTx := c.mdTx ++ [s.portBytes p n] } ∧ u.rd .mvb (portReg p n 0x108) = 0 ∧ Kept [(.mvb, portReg p n 0x108)] s u ∧ Only [.regs .mvb, .mvb] s u)))))))

/-- Flumes (10_flumes.md R404, R405, R408-R413, R415-R418): every flume command, and the delivery of event records behind any command, keeps a flume sound, so no producer
overfills it and no consumer sees part of an item; an item is accepted only within MAX_ITEM and its producer's credit; a due grant needs ALLOT free slots; the consumer's
commands move RD, MK and RL as stated, others are turned away; a stale tail raises E1161; copies that differ, or an uncorrectable slot, reset the flume. -/
def Obligations.FlumesNeverOverfill : Prop := ∀ (s : State) (flume : Fin 1536), let f := flume.val; let fl := s.flume f; let here := s.flumePresent f
  ((∀ g, (s.flume g).sound (s.flumeSlots g)) → (∀ g, (s.settle.flume g).sound (s.settle.flumeSlots g)) ∧ (∀ (path : Path) (p : Fin 3) (bytes : List Byte) (ue : Option Nat) (pos : Fin 4) (copy : Word) (c : Instr),
    c ∈ [Instr.flumeItemHandoff flume p bytes, .flumeGrant flume p, .flumeRead path flume ue, .flumePeek path flume ue, .flumeMark path flume, .flumeRewind path flume, .flumeRelease path flume, .flumeReleaseMark path flume,
      .flumeStale flume, .pointerMismatch flume pos copy] → Runs c s (fun u => ∀ g, (u.flume g).sound (u.flumeSlots g)))) ∧
  (∀ (p : Fin 3) (bytes : List Byte), let n := slotsOf bytes.length
    ((roleProducers (s.flumeRole f) ≤ p.val ∨ here = false) → Runs (.flumeItemHandoff flume p bytes) s (fun u => u = s)) ∧ (p.val < roleProducers (s.flumeRole f) → here = true →
      ((n = 0 ∨ s.flumeMaxItem f < n ∨ fl.creditOf p.val < n) → Runs (.flumeItemHandoff flume p bytes) s (fun u => u.flm = s.flm ∧ Counted [(.flm, flumeReg f 0x58)] s u ∧ Kept [] s u ∧ Only [.regs .flm, .seq, .evt] s u)) ∧
      (1 ≤ n → n ≤ s.flumeMaxItem f → n ≤ fl.creditOf p.val → Runs (.flumeItemHandoff flume p bytes) s (fun u => (u.flume f).items = fl.items ++ [⟨p.val, n, fl.wr, bytes⟩] ∧ (u.flume f).wr = (fl.wr + n) % 2 ^ 32 ∧ (u.flume f).rd = fl.rd ∧ (u.flume f).rl = fl.rl ∧
        (u.flume f).creditOf p.val = fl.creditOf p.val - n ∧ (∀ q, q ≠ p.val → (u.flume f).creditOf q = fl.creditOf q) ∧ (∀ g, g ≠ f → u.flume g = s.flume g) ∧
          Counted ((.flm, flumeReg f 0x40) :: List.replicate n (.flm, flumeReg f 0x48)) s u ∧ Kept [] s u ∧ Only [.regs .flm, .seq, .flm, .evt] s u)))) ∧
  (∀ p : Fin 3,
    (s.grantDue f p.val = false → Runs (.flumeGrant flume p) s (fun u => u = s)) ∧ (s.grantDue f p.val = true → (s.flumeFree f < s.flumeAllot f → Runs (.flumeGrant flume p) s (fun u => u.flm = s.flm ∧ u.flag .flm 4 0 = true ∧ (s.flag .flm 4 0 = false → Raised 1152 (p2 f) s u) ∧
        Kept [(.flm, 4)] s u ∧ Only [.regs .flm, .seq, .evt] s u)) ∧
      (s.flumeAllot f ≤ s.flumeFree f → (s.flumeRole f ≠ 1 ∨ s.evt.hold = []) → Runs (.flumeGrant flume p) s (fun u => (u.flume f).creditOf p.val = fl.creditOf p.val + s.flumeAllot f ∧ (u.flume f).owedTo p.val = fl.owedTo p.val - 1 ∧ (u.flume f).items = fl.items ∧
        (∀ q, q ≠ p.val → (u.flume f).creditOf q = fl.creditOf q) ∧ (∀ g, g ≠ f → u.flume g = s.flume g) ∧ Counted [] s u ∧ Kept [] s u ∧ Only [.flm] s u)))) ∧
  (s.lmp.held = false → ∀ path : Path, (∀ (ue : Option Nat) (c : Instr), c ∈ [Instr.flumeRead path flume ue, .flumePeek path flume ue, .flumeMark path flume, .flumeRewind path flume, .flumeRelease path flume, .flumeReleaseMark path flume] →
      (here = false → Runs c s (FlumeAnswered f 5 s)) ∧ (here = true → (path = .debug ∨ s.flumeConsumer f ≠ pathIndex path) → Runs c s (fun u => FlumeAnswered f 2 s u ∧ u.flag .flm 4 2 = true ∧ (s.flag .flm 4 2 = false → Raised 1154 (p2 f) s u)))) ∧
    (here = true → path ≠ .debug → s.flumeConsumer f = pathIndex path → let w := pathIndex path
      (fl.head = none → ∀ ue, Runs (.flumeRead path flume ue) s (FlumeAnswered f 1 s) ∧ Runs (.flumePeek path flume ue) s (FlumeAnswered f 1 s)) ∧
      (∀ i, fl.head = some i → (∀ (k : Nat) (c : Instr), c ∈ [Instr.flumeRead path flume (some k), .flumePeek path flume (some k)] → Runs c s (fun u => FlumeResetDone f 2 0xFF ((i.pos + k % i.slots) % 2 ^ 32) 0 s u ∧
          Sparse.get (fun _ => {}) u.flm.win w = {} ∧ u.rd .flm (flumeReg f 0x28) = 3 ∧ Kept [(.flm, flumeReg f 0x28)] s u ∧ Only [.regs .flm, .seq, .flm, .evt, .tdm] s u)) ∧
        (let shows := fun (rd : Nat) (u : State) => u.flume f = { fl with rd := rd, rd2 := rd, stale := false, staleArmed := true } ∧ Sparse.get (fun _ => {}) u.flm.win w = ⟨f, i.slots, i.pos, i.bytes⟩ ∧
          (∀ v, v ≠ w → Sparse.get (fun _ => {}) u.flm.win v = Sparse.get (fun _ => {}) s.flm.win v) ∧ (∀ g, g ≠ f → u.flume g = s.flume g) ∧ u.rd .flm (flumeReg f 0x28) = 0 ∧ Kept [(.flm, flumeReg f 0x28)] s u ∧ Only [.regs .flm, .seq, .flm, .evt] s u;
         Runs (.flumeRead path flume none) s (fun u => shows ((fl.rd + i.slots) % 2 ^ 32) u ∧ Counted [(.flm, flumeReg f 0x50)] s u) ∧ Runs (.flumePeek path flume none) s (fun u => shows fl.rd u ∧ Counted [] s u))) ∧
      (let moved := fun (new : Flume) (ks : List (Block × Nat)) (u : State) => u.flume f = new ∧ (∀ g, g ≠ f → u.flume g = s.flume g) ∧ u.rd .flm (flumeReg f 0x28) = 0 ∧ Counted ks s u ∧ Kept [(.flm, flumeReg f 0x28)] s u ∧
          Only [.regs .flm, .seq, .flm, .evt, .tdm] s u;
       Runs (.flumeMark path flume) s (moved { fl with mark := fl.rd, mark2 := fl.rd } []) ∧ Runs (.flumeRewind path flume) s (moved { fl with rd := fl.mark, rd2 := fl.mark } [(.flm, flumeReg f 0x68)]) ∧
       Runs (.flumeRelease path flume) s (fun u => moved (u.flume f) [] u ∧ (u.flume f).rl = fl.rd ∧ (u.flume f).rl2 = fl.rd ∧ (u.flume f).mark = fl.rd ∧ (u.flume f).rd = fl.rd ∧ (u.flume f).wr = fl.wr ∧ (u.flume f).credit = fl.credit ∧
         (u.flume f).items = fl.items.filter (fun i => fromTo fl.rl fl.rd ≤ fromTo fl.rl i.pos)) ∧
       Runs (.flumeReleaseMark path flume) s (fun u => moved (u.flume f) [] u ∧ (u.flume f).rl = fl.mark ∧ (u.flume f).rl2 = fl.mark ∧ (u.flume f).mark = fl.mark ∧ (u.flume f).rd = fl.rd ∧ (u.flume f).wr = fl.wr ∧ (u.flume f).credit = fl.credit ∧
         (u.flume f).items = fl.items.filter (fun i => fromTo fl.rl fl.mark ≤ fromTo fl.rl i.pos))))) ∧
  (let runs := here = true ∧ s.flumeTimeout f ≠ 0 ∧ fl.rd ≠ fl.wr ∧ fl.staleArmed = true
   (¬runs → Runs (.flumeStale flume) s (fun u => u = s)) ∧ (runs → Runs (.flumeStale flume) s (fun u => u.flume f = { fl with stale := true, staleArmed := false } ∧ (∀ g, g ≠ f → u.flume g = s.flume g) ∧
     Raised 1161 (p2 f ++ p4 (fromTo fl.rd fl.wr)) s u ∧ Counted [] s u ∧ Kept [] s u ∧ Only [.seq, .flm, .evt] s u))) ∧
  (∀ (pos : Fin 4) (copy : Word), let first := [fl.wr, fl.rd, fl.mark, fl.rl].getD pos.val 0
    ((here = false ∨ first = copy.toNat) → Runs (.pointerMismatch flume pos copy) s (fun u => u = s)) ∧ (here = true → first ≠ copy.toNat → Runs (.pointerMismatch flume pos copy) s (fun u =>
      FlumeResetDone f 1 pos.val first copy.toNat s u ∧ Kept [] s u ∧ Only [.regs .flm, .seq, .flm, .evt, .tdm] s u)))

/-- Host accesses (11_host_bridge.md R427, R428, R430, R431, R432, R433, R434, R456): BAR0 and posted windows write as REGISTER_WRITE on the host path does, at the window's
target; a miss and a write to a read-only window are counted and discarded, a read that misses answers 0xFFFF_FFFF; an acknowledged write is forwarded, or held while another
is outstanding, as is a read of an acknowledged window; completion, withdrawal and a write that takes too long release the held reads up to the next held write, and that
write. -/
def Obligations.HostWritesThroughWindows : Prop := ∀ s : State, s.lmp.held = false → let reaches := s.hbr.link ≠ .down ∧ s.hbr.held.length < 64
  (∀ (w off : Nat), let base := s.fld .hbr (0x104 + 0x10 * w) 25 0
    off < s.winSize w → s.winTarget w off % s.winSize w = off ∧ s.winTarget w off / s.winSize w = base / s.winSize w) ∧
  (∀ (v : Word) (addr : Fin 67108864), (¬reaches → RunsLink (.postedWrite (.bar0 addr) v) s (fun u => u = s)) ∧
    (reaches → RunsLink (.postedWrite (.bar0 addr) v) s (fun u => u = s.accessWrite .host addr.val v))) ∧
  (∀ (v : Word) (w : Fin 16) (off : Fin 1048576), let a := s.winTarget w.val off.val
    let misses := s.winFlag w.val 31 = false ∨ s.winSize w.val ≤ off.val
    (¬reaches ∨ s.winFlag w.val 30 = true → RunsLink (.postedWrite (.window w off) v) s (fun u => u = s)) ∧ (¬reaches ∨ s.winFlag w.val 30 = false → Runs (.ackWindowWrite w off v) s (fun u => u = s)) ∧
    (reaches → s.winFlag w.val 30 = false → (misses → RunsLink (.postedWrite (.window w off) v) s (WinRefused 0x418 2 s)) ∧ (¬misses → s.winFlag w.val 29 = false → RunsLink (.postedWrite (.window w off) v) s (WinRefused 0x420 3 s)) ∧
      (¬misses → s.winFlag w.val 29 = true → RunsLink (.postedWrite (.window w off) v) s (fun u => u = s.accessWrite .host a v))) ∧
    (reaches → s.winFlag w.val 30 = true → (misses → Runs (.ackWindowWrite w off v) s (WinRefused 0x418 2 s)) ∧ (¬misses → s.winFlag w.val 29 = false → Runs (.ackWindowWrite w off v) s (WinRefused 0x420 3 s)) ∧
      (¬misses → s.winFlag w.val 29 = true → s.hbr.ack = none → Runs (.ackWindowWrite w off v) s (fun u => u.hbr = { s.hbr with ack := some ⟨a, v, false⟩ } ∧ Counted [(.hbr, 0x400)] s u ∧ Kept [] s u ∧ Only [.regs .hbr, .seq, .evt, .hbr] s u)) ∧
      (¬misses → s.winFlag w.val 29 = true → s.hbr.ack ≠ none → Runs (.ackWindowWrite w off v) s (fun u => u.hbr = { s.hbr with held := s.hbr.held ++ [⟨a, v, false⟩] } ∧ Counted [] s u ∧ Kept [] s u ∧ Only [.hbr] s u)))) ∧
  (∀ (w : Fin 16) (off : Fin 1048576), let a := s.winTarget w.val off.val; let misses := s.winFlag w.val 31 = false ∨ s.winSize w.val ≤ off.val; let waits := s.winFlag w.val 30 = true ∧ s.hbr.ack ≠ none
    (¬reaches → Runs (.loReadLatch .host off.val (some w)) s (fun u => u = s)) ∧ (reaches → misses → Runs (.loReadLatch .host off.val (some w)) s (fun u => (u.path .host).lastRead = 0xFFFFFFFF ∧
        Counted [(.hbr, 0x418)] s u ∧ HbrFlagged 2 s u ∧ Kept [(.hbr, 8)] s u ∧ Only [.regs .hbr, .seq, .evt, .paths] s u)) ∧
    (reaches → ¬misses → (waits → Runs (.loReadLatch .host off.val (some w)) s (fun u => u.hbr = { s.hbr with held := s.hbr.held ++ [⟨a, 0, true⟩] } ∧ Counted [] s u ∧ Kept [] s u ∧ Only [.hbr] s u)) ∧
      (¬waits → Runs (.loReadLatch .host off.val (some w)) s (fun u => u = s.accessRead .host a)))) ∧
  (s.hbr.ack = none → RunsLink .ackWriteComplete s (fun u => u = s) ∧ Runs .ackTimeout s (fun u => u = s) ∧ RunsLink .ackLong s (fun u => u = s)) ∧
  (∀ x, s.hbr.ack = some x → let t := s.accessWrite .host x.addr x.value
    RunsLink .ackWriteComplete s (fun u => AckReleased [] [] t u ∧ (∀ y, t.hbr.held = [y] → y.read = true → u = ({ t with hbr := { t.hbr with ack := none, held := [] } } : State).accessRead .host y.addr)) ∧
    Runs .ackTimeout s (fun u => AckReleased [0x408] [8, 0x10] s u ∧ u.rd .hbr 0x10 = word x.addr ∧ HbrFlagged 0 s u) ∧
    RunsLink .ackLong s (fun u => AckReleased [0x410] [8, 0x10] t u ∧ u.rd .hbr 0x10 = word x.addr ∧ HbrFlagged 1 t u))

/-- The host link and its epochs (11_host_bridge.md R447, R448, R455, R456): up enters HOLD while HOLDOFF runs, else UP; down ends the epoch, which counts HBR_LINK_EPOCH up,
discards the held writes, lane 21's copies, pending interrupts and the staging window, and disables every queue pair; a function-level reset, hot reset or PERST# also
resets the windows, the queue registers and the vectors; expiry, unmasking and errors. -/
def Obligations.HostLinkFollowsStateTable : Prop := ∀ s : State, let h := s.hbr
  (∀ (speed : Fin 16) (width : Fin 8), (h.link ≠ .down → Runs (.pcieLinkUp speed width) s (fun u => u = s)) ∧
    (h.link = .down → Runs (.pcieLinkUp speed width) s (fun u => HostLinkMoved (if h.holdoff then .hold else .up) s u ∧
      u.hbr = { h with speed := speed.val, width := width.val, link := if h.holdoff then .hold else .up } ∧ Counted [] s u ∧ Kept [] s u ∧ Only [.seq, .evt, .hbr] s u))) ∧
  Runs .hbrHoldoffExpiry s (fun u => u.hbr = { h with holdoff := false, link := if h.link = .hold then .up else h.link } ∧ (h.link = .hold → HostLinkMoved .up s u) ∧ Counted [] s u ∧ Kept [] s u ∧
    Only [.seq, .evt, .hbr] s u) ∧
  (h.link = .down → Runs (.pcieLinkDown .dataLink) s (fun u => u = s)) ∧
  (∀ why : PcieDown, (h.link ≠ .down → let gone := s.cis.copies.filter (fun c => c.outLane == 21)
      Runs (.pcieLinkDown why) s (fun u => HostLinkMoved .down s u ∧ u.rd .hbr 0xC = s.rd .hbr 0xC + 1 ∧ u.hbr.held = [] ∧ u.hbr.irq = [] ∧ u.hbr.holdoff = true ∧ u.hbr.ack = h.ack ∧ u.hbr.speed = 0 ∧ u.hbr.width = 0 ∧
        (∀ q, (u.qp q).tx = .disabled ∧ (u.qp q).rx = false ∧ (u.qp q).fresh = 0) ∧ (∀ q, q < 1024 → u.flag .hbr (qpReg q 0) 31 = false) ∧ (∀ i, i < 64 → u.rd .hbr (0x300 + 4 * i) = 0) ∧
        u.cis.copies = s.cis.copies.filter (fun c => !(c.outLane == 21)) ∧ Counted ((.hbr, 0x468) :: List.replicate gone.length (.hbr, 0x438)) s u ∧
        (gone ≠ [] ∨ h.held ≠ [] ∨ h.irq ≠ [] → HbrFlagged 9 s u) ∧ (gone = [] → h.held = [] → h.irq = [] → u.rd .hbr 8 = s.rd .hbr 8) ∧
        (∀ b a, b ≠ .hbr → u.rd b a = s.rd b a) ∧ (∀ a, a ≠ 8 → a ≠ 0xC → (a < 0x100 ∨ 0x20000 ≤ a) → u.rd .hbr a = s.rd .hbr a) ∧
        (why = .dataLink → (∀ a, 0x100 ≤ a → a < 0x300 → u.rd .hbr a = s.rd .hbr a) ∧ (∀ q off, 0 < off → off < 0x40 → u.rd .hbr (qpReg q off) = s.rd .hbr (qpReg q off)) ∧ u.hbr.unmasked = h.unmasked) ∧
        Only [.regs .hbr, .seq, .evt, .xbr, .cis, .hbr] s u)) ∧
    (why ≠ .dataLink → Runs (.pcieLinkDown why) s (fun u => (∀ a, (0x100 ≤ a ∧ a < 0x400) ∨ (0x10000 ≤ a ∧ a < 0x20000) → u.rd .hbr a = resetWord .hbr a) ∧ u.hbr.unmasked = [] ∧ u.hbr.irq = [] ∧ u.hbr.qp = [] ∧
      (h.link = .down → u.hbr = { h with unmasked := [], irq := [], qp := [] } ∧ (∀ a, (a < 0x100 ∨ (0x400 ≤ a ∧ a < 0x10000) ∨ 0x20000 ≤ a) → u.rd .hbr a = s.rd .hbr a) ∧ Counted [] s u ∧ Only [.regs .hbr, .hbr] s u)))) ∧
  (∀ v : Fin 2048, let pending := Sparse.get (fun _ => false) h.irq v.val; Runs (.msixUnmask v) s (fun u => Sparse.get (fun _ => false) u.hbr.unmasked v.val = true ∧ Sparse.get (fun _ => false) u.hbr.irq v.val = false ∧
    (∀ w, w ≠ v.val → Sparse.get (fun _ => false) u.hbr.unmasked w = Sparse.get (fun _ => false) h.unmasked w ∧ Sparse.get (fun _ => false) u.hbr.irq w = Sparse.get (fun _ => false) h.irq w) ∧
      u.out = (if pending then [.msix v.val] else []) ++ s.out ∧ Counted [] s u ∧ Kept [] s u ∧ Only [.hbr, .out] s u)) ∧
  Runs (.aerError false) s (fun u => Counted [(.hbr, 0x458)] s u ∧ Kept [] s u ∧ Only [.regs .hbr, .seq, .evt] s u) ∧
  Runs (.aerError true) s (fun u => Counted [(.hbr, 0x460)] s u ∧ HbrFlagged 8 s u ∧ Kept [(.hbr, 8)] s u ∧ Only [.regs .hbr, .seq, .evt] s u)

/-- The mailbox (11_host_bridge.md R450, R451, R452, R453): SEND hands the message, with LINK_EPOCH filled in, to the flume of ROLE 0x03 or says why not; the firmware takes
the request at the head of that flume while it runs and answers it with TYPE, TAG and a STATUS; FLASH_ERASE and FLASH_WRITE change exactly the bytes they name, and only
with STATUS 0 or, where the device fails, 4. -/
def Obligations.MailboxSendsAndFirmwareAnswers : Prop := ∀ s : State,
  (s.lmp.held = false → ∀ v : Word, let len := field v 8 0; let badLen := len < 16 ∨ 256 < len ∨ len % 4 ≠ 0; let ended := fun (r : Nat) (u : State) => u.rd .hbr 0x204 = word r
    (field v 31 28 ≠ 1 → Runs (.mbxSend v) s (fun u => u = s)) ∧
    (field v 31 28 = 1 → badLen → Runs (.mbxSend v) s (fun u => ended 3 u ∧ Counted [] s u ∧ Kept [(.hbr, 0x204)] s u ∧ Only [.regs .hbr] s u)) ∧
    (field v 31 28 = 1 → ¬badLen → s.flumeWithRole 3 = none → Runs (.mbxSend v) s (fun u => ended 2 u ∧ Counted [] s u ∧ Kept [(.hbr, 0x204)] s u ∧ Only [.regs .hbr] s u)) ∧
    (field v 31 28 = 1 → ¬badLen → ∀ f, s.flumeWithRole 3 = some f → let b := overwrite ((bytesOf (s.rds .hbr 0x300 64)).take len) 8 (leBytes 4 (s.rd .hbr 0xC).toNat)
      let n := slotsOf len; let fits := n ≤ s.flumeMaxItem f ∧ n ≤ (s.flume f).creditOf 0
      b.length = len ∧ (fits → Runs (.mbxSend v) s (fun u => ended 0 u ∧ (u.flume f).items = (s.flume f).items ++ [⟨0, n, (s.flume f).wr, b⟩] ∧ (u.flume f).creditOf 0 = (s.flume f).creditOf 0 - n ∧
        (∀ g, g ≠ f → u.flume g = s.flume g) ∧ Counted ((.hbr, 0x448) :: (.flm, flumeReg f 0x40) :: List.replicate n (.flm, flumeReg f 0x48)) s u ∧ Kept [(.hbr, 0x204)] s u ∧
          Only [.regs .hbr, .regs .flm, .seq, .flm, .evt, .tdm] s u)) ∧
      (¬fits → Runs (.mbxSend v) s (fun u => ended 1 u ∧ HbrFlagged 7 s u ∧ Counted [(.hbr, 0x450), (.flm, flumeReg f 0x58)] s u ∧ Kept [(.hbr, 0x204), (.hbr, 8)] s u ∧ Only [.regs .hbr, .regs .flm, .seq, .evt] s u)))) ∧
  (∀ (fault : Option (List Byte)) (fails : Bool) (c : Instr) (mine : Nat → Prop), (c, mine) ∈ [(Instr.fwPing, fun t => t ≠ 0x10 ∧ t ≠ 0x11 ∧ t ≠ 0x12), (.flashErase fault, fun t => t = 0x10), (.flashWrite fault, fun t => t = 0x11),
      (.flashRead fails, fun t => t = 0x12)] → let idle := s.flumeWithRole 3 = none ∨ s.mgt.state ≠ .running ∨ ∀ f, s.flumeWithRole 3 = some f → ∀ i, (s.flume f).head = some i → ¬mine (leAt i.bytes 0 2)
    (idle → Runs c s (fun u => u = s))) ∧
  (∀ f i, s.flumeWithRole 3 = some f → s.mgt.state = .running → (s.flume f).head = some i → let req := i.bytes; let off := leAt req 16 4; let len := leAt req 20 4; let n := req.length - 24
    let answers := fun (status : Nat) (body : List Byte) (u : State) => MbxReplied f status body s u ∧ Only [.regs .flm, .seq, .flm, .evt, .tdm] s u
    let changes := fun (status : Nat) (lo m : Nat) (val : Nat → Byte) (u : State) => MbxReplied f status [] s u ∧ Only [.regs .flm, .seq, .flm, .evt, .tdm, .flash] s u ∧
      ∀ a, Sparse.get (fun _ => 0xFF) u.flash a = if lo ≤ a ∧ a < lo + m then val (a - lo) else Sparse.get (fun _ => 0xFF) s.flash a
    (leAt req 0 2 ≠ 0x10 → leAt req 0 2 ≠ 0x11 → leAt req 0 2 ≠ 0x12 → Runs .fwPing s (answers (if leAt req 0 2 ≠ 1 then 1 else if leAt req 2 2 = 16 ∧ req.length = 16 then 0 else 2) [])) ∧
    (leAt req 0 2 = 0x10 → ∀ fault : Option (List Byte), let bad := leAt req 2 2 ≠ 24 ∨ req.length ≠ 24 ∨ len = 0 ∨ len % 0x10000 ≠ 0 ∨ off % 0x10000 ≠ 0; let e := s.rangeStatus off len true
      (bad → Runs (.flashErase fault) s (answers 2 [])) ∧ (¬bad → e ≠ 0 → Runs (.flashErase fault) s (answers e [])) ∧
      (¬bad → e = 0 → (fault = none → Runs (.flashErase fault) s (changes 0 off len (fun _ => 0xFF))) ∧ (∀ held, fault = some held → Runs (.flashErase fault) s (changes 4 off (Nat.min len held.length) (fun k => held.getD k 0))))) ∧
    (leAt req 0 2 = 0x11 → ∀ fault : Option (List Byte), let bad := leAt req 2 2 ≠ req.length ∨ req.length < 28 ∨ 256 < req.length; let e := s.rangeStatus off n true
      (bad → Runs (.flashWrite fault) s (answers 2 [])) ∧ (¬bad → e ≠ 0 → Runs (.flashWrite fault) s (answers e [])) ∧
      (¬bad → e = 0 → (fault = none → Runs (.flashWrite fault) s (changes 0 off n (fun k => req.getD (24 + k) 0))) ∧ (∀ held, fault = some held → Runs (.flashWrite fault) s (changes 4 off (Nat.min n held.length) (fun k => held.getD k 0))))) ∧
    (leAt req 0 2 = 0x12 → ∀ fails : Bool, let bad := leAt req 2 2 ≠ 24 ∨ req.length ≠ 24 ∨ len < 4 ∨ 232 < len ∨ len % 4 ≠ 0; let e := s.rangeStatus off len false
      (bad → Runs (.flashRead fails) s (answers 2 [])) ∧ (¬bad → e ≠ 0 → Runs (.flashRead fails) s (answers e [])) ∧ (¬bad → e = 0 → Runs (.flashRead fails) s (answers (if fails then 4 else 0) (if fails then [] else s.flashBytes off len))))) ∧
  (∀ (off len : Nat) (write : Bool), (off < 0x400000 → s.rangeStatus off len write = 5) ∧ (0x400000 ≤ off → 0x4000000 < off + len → s.rangeStatus off len write = 3) ∧
    (∀ b ∈ [0x1400000, 0x2400000, 0x3400000], 0x400000 ≤ off → off < b → b < off + len → s.rangeStatus off len write = 3) ∧
    (0x400000 ≤ off → off + len ≤ 0x4000000 → (∀ b ∈ [0x1400000, 0x2400000, 0x3400000], ¬(off < b ∧ b < off + len)) → s.img.state ≠ .staging → s.rangeStatus off len write = 0))

/-- Queue pairs (11_host_bridge.md R435-R444, R452): enabling checks its conditions in order; disabling discards the queue's copies; a TAIL write is bounded; transmit sides
are served by PRIO and in turn; a good frame goes to classification, a bad one stops its transmit side; a received frame is written whole or not at all; event and mailbox
entries are written in turn; every completion is announced as COUNT and TIME say. -/
def Obligations.QueuePairsMoveEntries : Prop := ∀ (s : State) (qf : Fin 1024), let q := qf.val; let p := s.qp q; let en := s.flag .hbr (qpReg q 0) 31; let up := s.hbr.link = .up; let hold := s.hbr.link = .hold
  let ignored := fun (u : State) => Counted [(.hbr, 0x428)] s u ∧ HbrFlagged 4 s u ∧ Kept [(.hbr, 8)] s u ∧ Only [.regs .hbr, .seq, .evt] s u
  (s.lmp.held = false → ∀ v : Word, let mode := if field v 30 29 = 3 then 0 else field v 30 29; let f := field v 10 0
    let stored := fun (u : State) => u.fld .hbr (qpReg q 0) 30 29 = mode ∧ bit (u.rd .hbr (qpReg q 0)) 28 = bit v 28 ∧ u.fld .hbr (qpReg q 0) 23 21 = field v 23 21 ∧ u.fld .hbr (qpReg q 0) 10 0 = f
    let rings := s.rd64 .hbr (qpReg q 8) % 64 = 0 ∧ s.rd64 .hbr (qpReg q 0x10) % 64 = 0 ∧ s.rd64 .hbr (qpReg q 0x18) % 16 = 0 ∧ 3 ≤ s.fld .hbr (qpReg q 0x20) 3 0 ∧ 3 ≤ s.fld .hbr (qpReg q 0x20) 7 4
    let placed := (s.queueDistrict q).isSome = true; let suited := mode = 0 ∨ (s.flumePresent f = true ∧ s.flumeRole f = (if mode = 1 then 1 else 4) ∧ s.flumeConsumer f = 5)
    let alone := mode = 0 ∨ ∀ k, k < 1024 → k ≠ q → s.flag .hbr (qpReg k 0) 31 = true → s.qpMode k ≠ 0 → s.qpFlume k ≠ f
    (hold → Runs (.qpEnable qf v) s ignored) ∧ (¬hold → en = true → Runs (.qpEnable qf v) s (fun u => u = s)) ∧
    (¬hold → en = false → (up ∧ rings ∧ placed ∧ suited ∧ alone → Runs (.qpEnable qf v) s (fun u => stored u ∧ u.flag .hbr (qpReg q 0) 31 = true ∧ u.rd .hbr (qpReg q 0x2C) = 0 ∧ u.rd .hbr (qpReg q 0x34) = 0 ∧
        u.qp q = { tx := .running, rx := true } ∧ (∀ k, k ≠ q → u.qp k = s.qp k) ∧ Counted [] s u ∧ Kept [(.hbr, qpReg q 0), (.hbr, qpReg q 0x2C), (.hbr, qpReg q 0x34)] s u ∧ Only [.regs .hbr, .hbr] s u)) ∧
      (¬(up ∧ rings ∧ placed ∧ suited ∧ alone) → Runs (.qpEnable qf v) s (fun u => stored u ∧ u.flag .hbr (qpReg q 0) 31 = false ∧
        u.qp q = { p with err := if ¬up then 1 else if ¬rings then 2 else if ¬placed then 3 else if ¬suited then 4 else 5 } ∧ (∀ k, k ≠ q → u.qp k = s.qp k) ∧ Counted [] s u ∧ Kept [(.hbr, qpReg q 0)] s u ∧ Only [.regs .hbr, .hbr] s u))) ∧
    (en = true → let mine := fun (c : Copy) => c.outLane == 21 && c.dest == .host q
      Runs (.qpDisable qf v) s (fun u => u.flag .hbr (qpReg q 0) 31 = false ∧ (∀ i, i < 31 → u.flag .hbr (qpReg q 0) i = s.flag .hbr (qpReg q 0) i) ∧ u.qp q = { p with tx := .disabled, rx := false, fresh := 0, short := false } ∧
        (∀ k, k ≠ q → u.qp k = s.qp k) ∧ u.cis.copies = s.cis.copies.filter (fun c => !mine c) ∧ Counted (List.replicate (s.cis.copies.filter mine).length (.hbr, 0x438)) s u ∧ Kept [(.hbr, qpReg q 0)] s u ∧
          Only [.regs .hbr, .seq, .evt, .xbr, .cis, .hbr] s u)) ∧
    (en = false → Runs (.qpDisable qf v) s (fun u => stored u ∧ u.flag .hbr (qpReg q 0) 31 = false ∧ Counted [] s u ∧ Kept [(.hbr, qpReg q 0)] s u ∧ Only [.regs .hbr] s u)) ∧
    (∀ tx : Bool, let off := qpReg q (if tx then 0x28 else 0x30); (hold → Runs (.qpTailWrite qf tx v) s ignored) ∧
      (¬hold → s.qpSize q tx ≤ field v 14 0 → Runs (.qpTailWrite qf tx v) s (fun u => Counted [(.hbr, 0x428)] s u ∧ Kept [] s u ∧ Only [.regs .hbr, .seq, .evt] s u)) ∧
      (¬hold → field v 14 0 < s.qpSize q tx → Runs (.qpTailWrite qf tx v) s (fun u => u.rd .hbr off = word (field v 14 0) ∧ u.qp q = (if tx then { p with short := false } else p) ∧ (∀ k, k ≠ q → u.qp k = s.qp k) ∧
        Counted [] s u ∧ Kept [(.hbr, off)] s u ∧ Only [.regs .hbr, .hbr] s u)))) ∧
  (∀ k, s.contends k = true ↔ (s.qp k).tx = .running ∧ s.qpMode k = 0 ∧ 0 < s.posted k true ∧ (s.qp k).short = false) ∧
  (∀ k tx, s.qpHead k tx < s.qpSize k tx → s.qpTail k tx < s.qpSize k tx → s.posted k tx < s.qpSize k tx ∧ (s.qpHead k tx + s.posted k tx) % s.qpSize k tx = s.qpTail k tx) ∧ (s.fetchNext = none → ∀ k, k < 1024 → s.contends k = false) ∧
  (s.fetchNext = some q → let last := Sparse.get (fun _ => 1023) s.hbr.served (s.qpPrio q)
    s.contends q = true ∧ (∀ k, k < 1024 → s.contends k = true → s.qpPrio k ≤ s.qpPrio q ∧ (s.qpPrio k = s.qpPrio q → (last < q → last < k → q ≤ k) ∧ (q ≤ last → k ≤ last ∧ q ≤ k)))) ∧
  (∀ descs : List TxDesc, ((¬up ∨ s.fetchNext ≠ some q) → Runs (.dmaTxFetch qf descs) s (fun u => u = s)) ∧
    (up → s.fetchNext = some q → let ds := descs.take (s.posted q true); let served := fun (u : State) => Sparse.get (fun _ => 1023) u.hbr.served (s.qpPrio q) = q
      let good := fun (d : TxDesc) => d.clean = true ∧ 1 ≤ d.len.val ∧ d.len.val ≤ 9216 ∧ d.flags.toNat < 4 ∧ d.cls.toNat < 8
      (ds = [] → Runs (.dmaTxFetch qf descs) s (fun u => u = s)) ∧
      (∀ n, n < ds.length → (∀ i, i < n → ∃ d, ds[i]? = some d ∧ d.flags.toNat.testBit 0 = false) → (∃ d, ds[n]? = some d ∧ (d.flags.toNat.testBit 0 = true ∨ n = 16)) → n ≤ 16 → let mine := ds.take (n + 1)
        let total := (mine.map (fun d => d.len.val)).sum; let stops := fun (status err : Nat) => Runs (.dmaTxFetch qf descs) s (fun u => TxStopped q (n + 1) status err s u ∧ served u)
        (¬(∀ d ∈ mine, good d) → stops 3 8) ∧ ((∀ d ∈ mine, good d) → (n = 16 → stops 4 8) ∧ (n < 16 → (total < 14 ∨ 9216 < total → stops 3 8) ∧ (14 ≤ total → total ≤ 9216 →
          (¬(∀ d ∈ mine, d.data.isSome = true) → stops 1 6) ∧ ((∀ d ∈ mine, d.data.isSome = true) → let bytes := mine.flatMap (fun d => padTo d.len.val (d.data.getD [])); let seq := s.seqOf (0x1000 + q)
            let wrote := (List.range (n + 1)).map (fun i => Output.host (s.rd64 .hbr (qpReg q 8) + 32 * ((s.qpHead q true + i) % s.qpSize q true) + 16) (if i = n then leBytes 8 s.stamp.ns ++ (leBytes 2 s.stamp.frac ++
              ([0, byte (128 + (s.rd .hbr 0xC).toNat % 128)] ++ leBytes 4 seq)) else List.replicate 10 0 ++ ([0, byte (128 + (s.rd .hbr 0xC).toNat % 128)] ++ List.replicate 4 0)))
            Runs (.dmaTxFetch qf descs) s (fun u => EntriesDone q true (n + 1) (mine.any (fun d => d.flags.toNat.testBit 1)) wrote s u ∧ served u ∧ (u.qp q).tx = p.tx ∧ u.seqOf (0x1000 + q) = (seq + 1) % 2 ^ 32 ∧
              ((s.queueDistrict q).isSome = true → s.laneServed 21 = false → u.prs = s.prs ∧ Counted ((.hbr, qpCounter q 0) :: (.xbr, xbrCounter 21 3) :: List.replicate bytes.length (.hbr, qpCounter q 1)) s u) ∧
              ((s.queueDistrict q).isSome = true → s.laneServed 21 = true → s.prs.roadworks = true → u.prs = s.prs ∧ u.count .prs (prsCounter 29 9) = (s.count .prs (prsCounter 29 9) + 1) % 2 ^ 40) ∧
              ((s.queueDistrict q).isSome = true → s.laneServed 21 = true → s.prs.roadworks = false → (∃ f : Frame, u.prs.wait = s.prs.wait ++ [f] ∧ f.bytes = bytes ∧ f.stamp = s.stamp ∧ f.source = 0x1000 + q ∧ f.seq = seq ∧ f.district = s.queueDistrict q ∧ f.lane = 21 ∧
                f.cls = mine.head?.map (fun d => d.cls.toNat)) ∧ Counted ((.hbr, qpCounter q 0) :: List.replicate bytes.length (.hbr, qpCounter q 1)) s u) ∧
              (s.queueDistrict q = none → u.prs = s.prs ∧ u.flag .prs 4 2 = true ∧ Counted ((.hbr, qpCounter q 0) :: (.prs, prsCounter 29 0) :: (.prs, prsCounter 29 3) :: List.replicate bytes.length (.hbr, qpCounter q 1)) s u) ∧
                Kept [(.hbr, qpReg q 0x2C), (.prs, 4)] s u ∧ Only [.regs .eth, .regs .prs, .regs .xbr, .regs .hbr, .seq, .evt, .prs, .cis, .hbr, .out] s u)))))) ∧
      (ds ≠ [] → ds.length ≤ 16 → (∀ d ∈ ds, d.flags.toNat.testBit 0 = false) → (¬(∀ d ∈ ds, good d) → Runs (.dmaTxFetch qf descs) s (fun u => TxStopped q ds.length 3 8 s u ∧ served u)) ∧
        ((∀ d ∈ ds, good d) → Runs (.dmaTxFetch qf descs) s (fun u => u.qp q = { p with short := true } ∧ served u ∧ (∀ k, k ≠ q → u.qp k = s.qp k) ∧ Counted [] s u ∧ Kept [] s u ∧ Only [.hbr] s u))))) ∧
  (∀ n : Fin 17, (p.tx = .running → s.qpMode q = 0 → n.val ≤ s.posted q true → Runs (.dmaCplTimeout qf n) s (TxStopped q n.val 2 7 s)) ∧ ((p.tx ≠ .running ∨ s.qpMode q ≠ 0 ∨ s.posted q true < n.val) → Runs (.dmaCplTimeout qf n) s (fun u => u = s))) ∧
  (∀ descs : List RxDesc, let head := s.cis.copies.find? (fun c => c.outLane == 21 && s.crossed c)
    (head = none → Runs (.hostRxFrame descs) s (fun u => u = s)) ∧ (∀ c, head = some c → c.dest = .host q → let h := s.frameOf c; let f := h.frame; let ds := descs.take (s.posted q false); let len := f.bytes.length
      let room := fun (d : RxDesc) => if 64 ≤ d.len.val ∧ d.len.val ≤ 16384 ∧ d.len.val % 64 = 0 then d.len.val else 0; let upTo := fun (n : Nat) => ((ds.take n).map room).sum
      let took := fun (u : State) => u.cis.copies = s.cis.copies.filter (fun x => x.id != c.id) ∧ Only [.regs .hbr, .seq, .evt, .xbr, .cis, .hbr, .out] s u
      (h.failed = true → Runs (.hostRxFrame descs) s (fun u => took u ∧ u.out = s.out ∧ Counted [] s u ∧ Kept [] s u)) ∧ (h.failed = false →
        ((p.rx = false ∨ s.qpMode q ≠ 0) → Runs (.hostRxFrame descs) s (fun u => took u ∧ u.out = s.out ∧ u.hbr = s.hbr ∧ Counted [(.hbr, qpCounter q 5)] s u ∧ Kept [] s u)) ∧
        (p.rx = true → s.qpMode q = 0 → (upTo ds.length < len → Runs (.hostRxFrame descs) s (fun u => took u ∧ u.out = s.out ∧ u.hbr = s.hbr ∧ Counted [(.hbr, qpCounter q 4)] s u ∧ HbrFlagged 6 s u ∧ Kept [(.hbr, 8)] s u)) ∧
          (∀ n, n ≤ ds.length → len ≤ upTo n → (∀ m, m < n → upTo m < len) → let wrote := (List.range n).flatMap (fun i => let d := ds.getD i ⟨0, 0⟩; let last := decide (i + 1 = n)
              [Output.host d.addr (slice f.bytes (upTo i) (room d)), .host (s.rd64 .hbr (qpReg q 0x10) + 32 * ((s.qpHead q false + i) % s.qpSize q false) + 10) (leBytes 2 (Nat.min (room d) (len - upTo i)) ++
                (leBytes 2 (if last then len else 0) ++ (leBytes 2 f.source ++ (leBytes 8 f.stamp.ns ++ (leBytes 2 f.stamp.frac ++ ([byte (rxFlags c.cls last f.verified f.flags), byte (128 + (s.rd .hbr 0xC).toNat % 128)] ++
                  leBytes 4 f.seq))))))])
            Runs (.hostRxFrame descs) s (fun u => took u ∧ EntriesDone q false n false wrote s u ∧ (u.qp q).rx = true ∧ Counted ((.hbr, qpCounter q 2) :: List.replicate len (.hbr, qpCounter q 3)) s u ∧
              Kept [(.hbr, qpReg q 0x34)] s u)))))) ∧
  (let f := s.qpFlume q; let fl := s.flume f; let serves := p.rx = true ∧ s.qpMode q ≠ 0 ∧ s.posted q false ≠ 0 ∧ s.flumeConsumer f = 5; let size := if s.qpMode q = 1 then 32 else 256
   ((¬serves ∨ fl.head = none) → Runs (.queueEngineItem qf) s (fun u => u = s)) ∧ (∀ i, serves → fl.head = some i → let stale := s.qpMode q = 2 ∧ leAt i.bytes 8 4 ≠ (s.rd .hbr 0xC).toNat
      (stale → Runs (.queueEngineItem qf) s (fun u => ItemTaken f i s u ∧ u.out = s.out ∧ Counted [(.flm, flumeReg f 0x50), (.hbr, 0x440)] s u ∧ Kept [] s u ∧ Only [.regs .flm, .regs .hbr, .seq, .flm, .evt, .tdm] s u)) ∧
      (¬stale → Runs (.queueEngineItem qf) s (fun u => ItemTaken f i s u ∧ EntriesDone q false 1 false [.host (s.rd64 .hbr (qpReg q 0x10) + size * (s.qpHead q false % s.qpSize q false)) (padTo size i.bytes)] s u ∧
        Counted [(.flm, flumeReg f 0x50), (.hbr, qpCounter q 6)] s u ∧ Kept [(.hbr, qpReg q 0x34)] s u ∧ Only [.regs .flm, .regs .hbr, .seq, .flm, .evt, .tdm, .hbr, .out] s u)))) ∧
  (let irq := s.rd .hbr (qpReg q 0x24); let v := field irq 31 21; let runs := bit irq 20 = true ∧ field irq 11 0 ≠ 0 ∧ 0 < p.fresh
   (¬runs → Runs (.irqModerationExpiry qf) s (fun u => u = s)) ∧ (runs → Runs (.irqModerationExpiry qf) s (fun u => (u.qp q) = { p with fresh := 0 } ∧ (∀ k, k ≠ q → u.qp k = s.qp k) ∧ Counted [] s u ∧ Kept [] s u ∧ Only [.hbr, .out] s u ∧
     (Sparse.get (fun _ => false) s.hbr.unmasked v = true → u.out = .msix v :: s.out ∧ u.hbr.irq = s.hbr.irq) ∧
     (Sparse.get (fun _ => false) s.hbr.unmasked v = false → u.out = s.out ∧ Sparse.get (fun _ => false) u.hbr.irq v = true))))

/-- Tandem records (14_tandem_redundancy.md R538, R539, R540, R544, R545, R549; 02_ikiem_images.md R83, R84): the checks in order; mirror records are applied by a standby in
sequence and stored item by item, a gap loses the sequence; BULK_START empties the mirrored state and BULK_END completes it; a digest is skipped, equal or a mismatch; ARM
and ABORT reach the image controller. -/
def Obligations.TandemRecordsCheckedAndApplied : Prop := ∀ (s : State) (pairId seq : Word) (body : List Byte), let row := fun (type : Nat) (c : Instr) => RecordRow pairId seq body c type; let count := beAt body 0 2
  let takes := s.tdm.active = false ∧ (s.tdm.state = .paired ∨ s.tdm.state = .resync ∨ s.resolvingMirror = true); let took := fun (n : Nat) (u : State) => u.tdm.applied = some seq.toNat ∧ u.tdm.bulkCount = s.tdm.bulkCount + n ∧ Counted [(.tdm, 0x418)] s u ∧ Kept [] s u
  (∀ c type, row type c → (s.lmp.held = true ∨ s.tdmEn = false → RunsLink c s (fun u => u = s)) ∧ (s.lmp.held = false → s.tdmEn = true →
    let rejected := fun (u : State) => Counted [(.tdm, 0x420)] s u ∧ TdmFlagged 6 s u ∧ Kept [(.tdm, 0x1C)] s u ∧ Only [.regs .tdm, .seq, .evt] s u; let fits := (∀ p, s.tdm.partner = some p → pairId.toNat = p.pairId) ∧ (s.tdm.partner = none → type = 1 ∨ type = 2)
    (impliedLength type body ≠ some body.length → RunsLink c s rejected) ∧
    (impliedLength type body = some body.length → ¬fits → RunsLink c s (fun u => Counted [(.tdm, 0x428)] s u ∧ Kept [] s u ∧ Only [.regs .tdm, .seq, .evt] s u)) ∧
    (impliedLength type body = some body.length → fits → inRanges type body = false → RunsLink c s rejected))) ∧
  (∀ c type, row type c → 0x10 ≤ type → type ≤ 0x16 → s.lmp.held = false → s.tdmEn = true → RecordPasses type pairId.toNat body s →
    (¬takes → RunsLink c s (fun u => u = s)) ∧ (takes → s.tdm.applied = none → type ≠ 0x15 → RunsLink c s (fun u => u = s)) ∧
    (takes → (∃ a, s.tdm.applied = some a ∧ seq.toNat ≠ (a + 1) % 2 ^ 32) → RunsLink c s (SequenceLost s))) ∧
  (s.lmp.held = false → s.tdmEn = true → takes → let passes := fun (type : Nat) => RecordPasses type pairId.toNat body s ∧ ((s.tdm.applied = none ∧ type = 0x15) ∨ ∃ a, s.tdm.applied = some a ∧ seq.toNat = (a + 1) % 2 ^ 32)
      (passes 0x10 → RunsLink (.learnRecordRx pairId seq body) s (fun u => took count u ∧ u.table 0 = ((recordEntries 16 body).foldl (fun (t : State) e => t.mirrorStation e) s).table 0 ∧ (∀ k, k ≠ 0 → u.table k = s.table k) ∧ Only [.regs .tdm, .seq, .evt, .tbl, .tdm] s u)) ∧
      (passes 0x11 → ((recordEntries 12 body).map (fun e => beAt e 0 2)).Nodup → RunsLink (.cbRecordRx pairId seq body) s (fun u => took count u ∧ Only [.regs .tdm, .seq, .evt, .tdm] s u ∧
        (∀ e ∈ recordEntries 12 body, Sparse.get (fun _ => none) u.tdm.cb (beAt e 0 2) = some ⟨(byteAt e 2).testBit 0, beAt e 4 2, beAt e 6 2, beAt e 8 4⟩) ∧
        (∀ k, (∀ e ∈ recordEntries 12 body, beAt e 0 2 ≠ k) → Sparse.get (fun _ => none) u.tdm.cb k = Sparse.get (fun _ => none) s.tdm.cb k))) ∧
      (passes 0x12 → RunsLink (.ringRecordRx pairId seq body) s (fun u => took 1 u ∧ Only [.regs .tdm, .seq, .evt, .tdm] s u ∧
        Sparse.get (fun _ => none) u.tdm.ring (byteAt body 0) = some ⟨byteAt body 1, (byteAt body 2).testBit 0, beAt body 4 2, bitsOf 256 (beAt body 8 32), s.islandCount⟩ ∧
        (∀ k, k ≠ byteAt body 0 → Sparse.get (fun _ => none) u.tdm.ring k = Sparse.get (fun _ => none) s.tdm.ring k))) ∧
      (passes 0x13 → ((recordEntries 20 body).map (fun e => beAt e 0 2)).Nodup → RunsLink (.flumeRecordRx pairId seq body) s (fun u => took count u ∧ Only [.regs .tdm, .seq, .evt, .tdm] s u ∧
        (∀ e ∈ recordEntries 20 body, Sparse.get (fun _ => none) u.tdm.flume (beAt e 0 2) = some ⟨beAt e 4 4, beAt e 8 4, beAt e 12 4, beAt e 16 4⟩) ∧
        (∀ k, (∀ e ∈ recordEntries 20 body, beAt e 0 2 ≠ k) → Sparse.get (fun _ => none) u.tdm.flume k = Sparse.get (fun _ => none) s.tdm.flume k))) ∧
      (passes 0x14 → ((recordEntries 24 body).map (fun e => beAt e 0 2)).Nodup → RunsLink (.gwlastRecordRx pairId seq body) s (fun u => took count u ∧ Only [.regs .tdm, .seq, .evt, .tdm] s u ∧
        (∀ e ∈ recordEntries 24 body, Sparse.get (fun _ => none) u.tdm.gw (beAt e 0 2) = some ⟨byteAt e 2, beAt e 4 8, beAt e 12 8⟩) ∧
        (∀ k, (∀ e ∈ recordEntries 24 body, beAt e 0 2 ≠ k) → Sparse.get (fun _ => none) u.tdm.gw k = Sparse.get (fun _ => none) s.tdm.gw k))) ∧
      (passes 0x15 → RunsLink (.bulkStartRx pairId seq body) s (fun u => u.tdm.applied = some seq.toNat ∧ u.tdm.bulkCount = 0 ∧ u.tdm.synced = false ∧ MirrorEmpty u ∧ u.table 0 = (s.table 0).filter (fun e => e.fixed) ∧ u.tdm.state = s.tdm.state ∧
        Counted [(.tdm, 0x418)] s u ∧ Kept [] s u ∧ Only [.regs .tdm, .seq, .evt, .tbl, .tdm] s u)) ∧
      (passes 0x16 → s.tdm.state ≠ .resolving → RunsLink (.bulkEndRx pairId seq body) s (fun u => took 0 u ∧ u.tdm.synced = true ∧ u.tdm.state = .paired ∧ Raised 1543 (p4 s.tdm.bulkCount) s u ∧ Only [.regs .tdm, .seq, .evt, .tdm] s u)) ∧
      (passes 0x16 → s.tdm.state = .resolving → RunsLink (.bulkEndRx pairId seq body) s (fun u => took 0 u ∧ u.tdm.synced = s.tdm.synced ∧ u.tdm.state = .resolving ∧ Only [.regs .tdm, .seq, .evt, .tdm] s u))) ∧
  (∀ (t : State) (e : List Byte), let port := byteAt e 1; let d := beAt e 2 2; let vid := beAt e 4 2; let mac := slice e 6 6; let age : Int := 1000000000 * (beAt e 12 2 : Int); let u := t.mirrorStation e
    Only [.tbl] t u ∧ (∀ k, k ≠ 0 → u.table k = t.table k) ∧
    (byteAt e 0 = 1 → (∀ x, t.station d vid mac = some x → x.fixed = true → u = t) ∧
      (∀ x, t.station d vid mac = some x → x.fixed = false → u.table 0 = (t.table 0).map (fun y => if y.index = x.index then { y with result := [byte port], refreshed := (t.nowNs : Int) - age } else y)) ∧
      (t.station d vid mac = none → ∀ i, freeIndex (t.table 0) learnSize = some i →
        u.table 0 = t.table 0 ++ [{ index := i, district := d, key := learnKey mac vid, result := [byte port], refreshed := (t.nowNs : Int) - age }])) ∧
    (byteAt e 0 = 2 → u.table 0 = (t.table 0).filter (fun x => x.fixed || !(x.district == d && x.key == learnKey mac vid))) ∧ (byteAt e 0 = 3 → u.table 0 = (t.table 0).filter (fun x => x.fixed || x.port != port)) ∧
    (byteAt e 0 ≠ 1 → byteAt e 0 ≠ 2 → byteAt e 0 ≠ 3 → u = t)) ∧
  (s.lmp.held = false → s.tdmEn = true → (RecordPasses 0x20 pairId.toNat body s → let skips := (beAt body 2 2).testBit 0 = true ∨ beAt body 8 4 ≠ s.epoch ∨ s.cfgDiffers = true ∨ s.tdm.synced = false ∨ s.tdm.state = .frozen; let same := s.ownDigest body = slice body 16 8; let n := Nat.min 8 (s.tdm.mmRun + 1)
      (s.tdm.active = true → RunsLink (.digestRecordRx pairId seq body) s (fun u => Counted [(.tdm, 0x418)] s u ∧ Kept [] s u ∧ Only [.regs .tdm, .seq, .evt] s u)) ∧
      (s.tdm.active = false → skips → RunsLink (.digestRecordRx pairId seq body) s (fun u => Counted [(.tdm, 0x418), (.tdm, 0x450)] s u ∧ Kept [] s u ∧ Only [.regs .tdm, .seq, .evt] s u)) ∧
      (s.tdm.active = false → ¬skips → same → RunsLink (.digestRecordRx pairId seq body) s (fun u => u.tdm = { s.tdm with mmRun := 0 } ∧ Counted [(.tdm, 0x418), (.tdm, 0x440)] s u ∧ Kept [] s u ∧ Only [.regs .tdm, .seq, .evt, .tdm] s u)) ∧
      (s.tdm.active = false → ¬skips → ¬same → RunsLink (.digestRecordRx pairId seq body) s (fun u => u.tdm.mmRun = n ∧ u.rd .tdm 0x34 = word (beAt body 4 4) ∧ TdmFlagged 0 s u ∧ Kept [(.tdm, 0x1C), (.tdm, 0x34)] s u ∧ Only [.regs .tdm, .seq, .evt, .tdm] s u ∧
        (n < 8 ∨ s.tdm.state.triggerable = false → u.tdm = { s.tdm with mmRun := n } ∧ Counted [(.tdm, 0x418), (.tdm, 0x448)] s u) ∧
        (n = 8 → s.tdm.state.triggerable = true → u.tdm.state = .resolving ∧ u.tdm.resolution = some { trigger := .mismatch, since := s.nowNs } ∧
          u.tdm.tx = s.tdm.tx ++ [⟨1, 5, s.tdm.nextSeq, [1, 0, 1, 0, 0, 0, 0, 0], false⟩] ∧ Counted [(.tdm, 0x418), (.tdm, 0x448), (.tdm, 0x468)] s u)))) ∧
    (RecordPasses 0x03 pairId.toNat body s → RunsLink (.tandemArmRx pairId seq body) s (fun u => u.img = { s.img with partner := some ⟨beAt body 0 4, beAt body 4 8, slice body 16 48, beAt body 12 2⟩, abortRx := false } ∧
      Counted [(.tdm, 0x418)] s u ∧ Kept [] s u ∧ Only [.regs .tdm, .seq, .evt, .img] s u)) ∧
    (RecordPasses 0x04 pairId.toNat body s → let hit := (∃ a, s.img.partner = some a ∧ a.epoch = beAt body 0 4) ∨ (∃ a, s.img.armed = some a ∧ a.epoch = beAt body 0 4)
      (hit → RunsLink (.tandemAbortRx pairId seq body) s (fun u => u.img = { s.img with abortRx := true } ∧ Counted [(.tdm, 0x418)] s u ∧ Kept [] s u ∧ Only [.regs .tdm, .seq, .evt, .img] s u)) ∧
      (¬hit → RunsLink (.tandemAbortRx pairId seq body) s (fun u => Counted [(.tdm, 0x418)] s u ∧ Kept [] s u ∧ Only [.regs .tdm, .seq, .evt] s u))))

/-- Takeover, pairing and verdict (14_tandem_redundancy.md R541, R542, R543, R544, R545, R550, R551, R552, R553): what the tandem controller's operations do in every state. A
takeover applies the mirrored state with its guard and its positions; roles follow the first rule that applies; a trigger starts one resolution; the verdict follows the
first row of evidence. -/
def Obligations.TakeoverPairingAndVerdict : Prop := ∀ t : State,
  (∀ cause since, t.tdm.active = false → let u := t.takeOver cause since; let g := t.cbGuard; let us := Nat.min 0xFFFF ((t.nowNs - since) / 1000)
    u.tdm.active = true ∧ u.tdm.state = t.tdm.state ∧ u.tdm.partner = t.tdm.partner ∧ u.tdm.synced = false ∧ RoleFollowed t u ∧ MirrorEmpty u ∧ u.rd .tdm 0x38 = word us ∧ u.count .tdm 0x470 = (t.count .tdm 0x470 + 1) % 2 ^ 40 ∧
      Told 1541 (p1 cause ++ (p1 t.tdm.synced.toNat ++ p4 us)) t u ∧ (t.tdm.synced = false → u.flag .tdm 0x1C 7 = true) ∧
      (Sparse.canon (fun _ => none) t.tdm.flume = true → ∀ f m, Sparse.get (fun _ => none) t.tdm.flume f = some m → let d := fromTo (t.flume f).rl m.wr
        (u.flume f).wr = ((t.flume f).wr + d) % 2 ^ 32 ∧ (u.flume f).rd = ((t.flume f).rd + d) % 2 ^ 32 ∧ (u.flume f).mark = ((t.flume f).mark + d) % 2 ^ 32 ∧ (u.flume f).rl = ((t.flume f).rl + d) % 2 ^ 32) ∧
      (Sparse.canon (fun _ => none) t.tdm.cb = true → ∀ k m, Sparse.get (fun _ => none) t.tdm.cb k = some m → let full := 2 ^ (Nat.min 32 (leAt (t.streamEntry k) 1 1)) - 1
        u.recovery k = (if g = 0 then ⟨m.takeAny, m.last, m.hist⟩ else ⟨m.takeAny, (m.last + g) % 65536, full⟩) ∧ (t.streamEntry k ≠ [] → leAt (u.streamEntry k) 4 2 = (m.genSeq + g) % 65536)) ∧
      (Sparse.canon (fun _ => none) t.tdm.gw = true → ∀ k m r, Sparse.get (fun _ => none) t.tdm.gw k = some m → gwyRec t.recs 2 k = some r →
        u.sig k = if (t.sig k).at_ < m.ns then ⟨sigOfCode m.state, if (leAt r 2 1).testBit 3 then signed 64 m.value else (m.value : Int), m.ns, false⟩ else t.sig k)) ∧
  (t.tdm.nextSeq < 2 ^ 32 → ∃ l : List TdmRecord, t.sendBulk.tdm.tx = t.tdm.tx ++ l ∧ l.head?.map (fun r => r.type) = some 0x15 ∧ l.getLast?.map (fun r => r.type) = some 0x16 ∧ (∀ r ∈ l, r.bulk = true ∧ r.precedence = 2) ∧
    (∀ i r, l[i]? = some r → r.seq = (t.tdm.nextSeq + i) % 2 ^ 32) ∧ t.sendBulk.tdm.nextSeq = (t.tdm.nextSeq + l.length) % 2 ^ 32 ∧ t.sendBulk.tdm.wantBulk = false ∧ Only [.tdm] t t.sendBulk) ∧
  SequenceLost t t.lostSequence ∧
  (∀ i : Identity, let u := t.formPairing i; let mine := t.tdm.active = true ∧ t.tdm.state = .alone; let theirs := i.active = true ∧ (i.state = 0 ∨ i.state = 2 ∨ i.state = 3); let clash := t.tdm.position = i.position
    let first := if clash then i.hash > t.idHash else t.tdm.position = 0
    ((mine ∧ ¬theirs) → u.tdm.active = true) ∧ ((theirs ∧ ¬mine) → u.tdm.active = false) ∧ ((mine ↔ theirs) → (u.tdm.active = true ↔ first)) ∧ RoleFollowed t u ∧
      u.tdm.state = (if u.tdm.active = true then .paired else .resync) ∧ (clash → u.flag .tdm 0x1C 1 = true) ∧ (¬(i.epoch = t.epoch ∧ i.overlays = t.overlayMask ∧ i.digest = t.imageDigest) → u.flag .tdm 0x1C 2 = true) ∧
      (∃ p, u.tdm.partner = some p ∧ p.pairId = i.pairId ∧ p.position = i.position ∧ p.hash = i.hash ∧ p.epoch = i.epoch ∧ p.overlays = i.overlays) ∧ u.tdm.synced = false ∧ u.tdm.applied = none ∧ u.tdm.holdoff = false ∧ u.tdm.mmRun = 0 ∧
      (∃ r ∈ u.tdm.tx, r.type = 1 ∧ r.precedence = 1) ∧ (u.tdm.active = true → u.tdm.tx.getLast?.map (fun r => (r.type, r.bulk)) = some (0x16, true)) ∧
      (u.tdm.active = false → MirrorEmpty u ∧ u.tdm.nextSeq = 0 ∧ u.table 0 = (t.table 0).filter (fun e => e.fixed)) ∧ Told 1537 (p1 i.position ++ (beBytes 8 i.hash ++ p1 u.tdm.active.toNat)) t u ∧
      (t.tdm.state ≠ .pairing → Told 1536 (p1 t.tdm.state.code ++ (p1 3 ++ p1 t.tdm.active.toNat)) t u)) ∧
  (∀ (tr : Trigger) (own : Bool), let u := t.trigger tr own; let may := t.tdm.state = .paired ∨ t.tdm.state = .resync ∨ t.tdm.state = .frozen ∨ t.tdm.state = .isolated
    (¬may → u = t) ∧ (may → u.tdm = { t.tdm with state := .resolving, resolution := some { trigger := tr, since := t.nowNs, frozen := decide (t.tdm.state = TdmKind.frozen) }, tx := t.tdm.tx ++ (if own then [⟨1, 5, t.tdm.nextSeq, [1, 0, byte tr.code, 0, 0, 0, 0, 0], false⟩] else []) } ∧
      Raised 1539 (p1 tr.code ++ p4 (t.rd .tdm 0x34).toNat) t u ∧ Raised 1536 (p1 t.tdm.state.code ++ (p1 6 ++ p1 t.tdm.active.toNat)) t u ∧ Counted [(.tdm, 0x468)] t u ∧ Kept [] t u ∧ Only [.regs .tdm, .seq, .evt, .tdm] t u)) ∧
  ((t.tdm.resolution = none ∨ (∃ r, t.tdm.resolution = some r ∧ r.own = none) ∨ t.tdm.state ≠ .resolving) → t.tryVerdict = t) ∧
  (∀ r pass detail, t.tdm.resolution = some r → r.own = some (pass, detail) → t.tdm.state = .resolving → let u := t.tryVerdict; let pinLost := t.tfailEn = true ∧ t.tdm.tfailOk = false; let silent := t.tdm.hbLost = true ∨ t.tdm.partner = none
    let cause := r.trigger.code; let rowA := pinLost ∨ (silent ∧ t.tfailEn = false); let rowB := ¬rowA ∧ silent; let rowC := ¬rowA ∧ ¬silent ∧ r.partner = some false; let rowD := ¬rowA ∧ ¬silent ∧ r.partner = some true
    let rowE := ¬rowA ∧ ¬silent ∧ r.partner = none ∧ r.expired = true; let alone := MemberIn .alone t u ∧ u.tdm.active = true ∧ RoleFollowed t u ∧ u.tdm.resolution = none ∧ Unpaired cause t u ∧
      (t.tdm.active = false → ∃ us : Nat, Told 1541 (p1 cause ++ (p1 t.tdm.synced.toNat ++ p4 us)) t u ∧ u.rd .tdm 0x38 = word us)
    let stays := u.tdm.active = t.tdm.active ∧ u.tdm.partner = t.tdm.partner ∧ u.tdm.resolution = none ∧ RoleFollowed t u
    (¬rowA → ¬silent → r.partner = none → r.expired = false → u = t) ∧ (rowA → alone ∧ (pass = true → u.tdm.degraded = t.tdm.degraded) ∧ (pass = false → u.tdm.degraded = true ∧ Told 1542 (p4 detail ++ p1 2) t u)) ∧
    (rowB → (pass = true → t.tdm.active = true → alone) ∧ (pass = true → t.tdm.active = false → MemberIn .isolated t u ∧ u.tdm.active = false ∧ u.tdm.resolution = none ∧ Unpaired cause t u) ∧ (pass = false → FaultyNow detail cause t u)) ∧
    (rowC → (pass = true → alone) ∧ (pass = false → MemberIn .frozen t u ∧ stays ∧ u.tdm.degraded = true ∧ Told 1542 (p4 detail ++ p1 7) t u)) ∧
    (rowD ∨ rowE → (pass = true → MemberIn .frozen t u ∧ stays ∧ Told 1540 (p1 cause ++ beBytes 8 ((t.tdm.partner.map (fun p => p.hash)).getD 0)) t u) ∧ (pass = false → FaultyNow detail cause t u)))

/-- The tandem's state table (14_tandem_redundancy.md R532, R533, R536, R538, R540, R541, R542, R550, R551, R552, R555, R558): IDENTITY, HEARTBEAT, RESOLVE, RESYNC_REQ and
SWITCH, the fail pins, the timers and the commands of TDM_CMD do what the table says, by the operations whose effects another statement gives (TakeoverPairingAndVerdict). -/
def Obligations.TandemFollowsStateTable : Prop := ∀ s : State, let st := s.tdm.state; let off := s.lmp.held = true ∨ s.tdmEn = false; let runsOn := s.lmp.held = false ∧ s.tdmEn = true
  let plus := fun (r : List TdmRecord) => ({ s with tdm := { s.tdm with tx := s.tdm.tx ++ r } } : State)
  (∀ (pairId seq : Word) (b : List Byte), runsOn → let ok := fun (type : Nat) => RecordPasses type pairId.toNat b s; let onlyCounted := fun (ks : List Nat) (u : State) => Counted (ks.map (fun k => (.tdm, k))) s u ∧ Kept [] s u ∧ Only [.regs .tdm, .seq, .evt] s u
    let held := fun (ks : List Nat) (u : State) => Counted (ks.map (fun k => (.tdm, k))) s u ∧ TdmFlagged 4 s u ∧ Kept [(.tdm, 0x1C)] s u ∧ Only [.regs .tdm, .seq, .evt] s u; let t := s.tdmBump 3; let off := st = .alone ∨ st = .isolated
    (ok 1 → let i : Identity := ⟨pairId.toNat, byteAt b 0, byteAt b 1, decide (byteAt b 2 = 1), beAt b 4 8, beAt b 12 4, beAt b 16 2, slice b 20 48⟩; let pairs := RunsLink (.identityRx pairId seq b) s (fun u => u = t.formPairing i)
      (st = .wait → byteAt b 1 ≠ 9 → pairs) ∧ (off → s.tdm.holdoff = true → RunsLink (.identityRx pairId seq b) s (held [0x418, 0x478])) ∧ (off → s.tdm.holdoff = false → byteAt b 1 ≠ 9 → pairs) ∧
      ((¬off ∧ st ≠ .wait) ∨ (¬(off ∧ s.tdm.holdoff = true) ∧ byteAt b 1 = 9) → RunsLink (.identityRx pairId seq b) s (onlyCounted [0x418]))) ∧
    (ok 2 → let heard := fun (p : Partner) => ({ p with state := byteAt b 0, active := decide (byteAt b 1 = 1), synced := (byteAt b 2).testBit 0, sleepReq := (byteAt b 2).testBit 2, frozen := (byteAt b 2).testBit 3, epoch := beAt b 4 4, overlays := beAt b 8 2, rings := beAt b 10 2, digest := slice b 12 8 } : Partner)
      (s.tdm.partner = none → (¬off → RunsLink (.heartbeatRx pairId seq b) s (onlyCounted [0x418, 0x408])) ∧ (off → s.tdm.holdoff = true → RunsLink (.heartbeatRx pairId seq b) s (held [0x418, 0x408, 0x478])) ∧
        (off → s.tdm.holdoff = false → byteAt b 0 = 9 → RunsLink (.heartbeatRx pairId seq b) s (onlyCounted [0x418, 0x408])) ∧
        (off → s.tdm.holdoff = false → byteAt b 0 ≠ 9 → RunsLink (.heartbeatRx pairId seq b) s (fun u => u.tdm = { s.tdm with tx := s.tdm.tx ++ [⟨1, 1, s.tdm.nextSeq, identityBody s, false⟩] } ∧ Counted [(.tdm, 0x418), (.tdm, 0x408)] s u ∧ Kept [] s u ∧
          Only [.regs .tdm, .seq, .evt, .tdm] s u))) ∧
      (∀ p, s.tdm.partner = some p → let new := { s.tdm with partner := some (heard p), hbOk := true, hbLost := false }; let follows := s.tdm.active = false ∧ (st = .paired ∨ st = .resync ∨ s.resolvingMirror = true); let lost := ∃ a, s.tdm.applied = some a ∧ a ≠ seq.toNat
        (¬follows ∨ (¬lost ∧ beAt b 4 4 = s.epoch) → RunsLink (.heartbeatRx pairId seq b) s (fun u => u.tdm = new ∧ Counted [(.tdm, 0x418), (.tdm, 0x408)] s u ∧ Kept [] s u ∧ Only [.regs .tdm, .seq, .evt, .tdm] s u)) ∧
        (follows → lost → beAt b 4 4 = s.epoch → RunsLink (.heartbeatRx pairId seq b) s (fun u => u = ({ (t.tdmBump 1) with tdm := new } : State).lostSequence)) ∧
        (follows → beAt b 4 4 ≠ s.epoch → RunsLink (.heartbeatRx pairId seq b) s (fun u => u = (if s.tdm.applied.all (fun a => a == seq.toNat) then ({ (t.tdmBump 1) with tdm := new } : State) else ({ (t.tdmBump 1) with tdm := new } : State).lostSequence).follow (beAt b 4 4))))) ∧
    (ok 5 → let asked := fun (u : State) => u = t.trigger (match byteAt b 2 with | 1 => .mismatch | 2 => .heartbeat | _ => .tfail) false
      let told := fun (r : Resolution) (u : State) => u = ({ t with tdm := { s.tdm with resolution := some { r with partner := some (decide (byteAt b 1 = 0)) } } } : State).tryVerdict
      let idle := (byteAt b 0 = 2 ∧ s.tdm.resolution = none) ∨ (byteAt b 0 ≠ 1 ∧ byteAt b 0 ≠ 2)
      (byteAt b 0 = 1 → RunsLink (.resolveRequestRx pairId seq b) s asked ∧ RunsLink (.resolveResultRx pairId seq b) s asked) ∧
      (byteAt b 0 = 2 → ∀ r, s.tdm.resolution = some r → RunsLink (.resolveRequestRx pairId seq b) s (told r) ∧ RunsLink (.resolveResultRx pairId seq b) s (told r)) ∧
      (idle → RunsLink (.resolveRequestRx pairId seq b) s (onlyCounted [0x418]) ∧ RunsLink (.resolveResultRx pairId seq b) s (onlyCounted [0x418]))) ∧
    (ok 6 → (s.tdm.active = true → st = .paired → RunsLink (.resyncReqRx pairId seq b) s (fun u => u = t.sendBulk)) ∧
      (s.tdm.active = true → st = .frozen → RunsLink (.resyncReqRx pairId seq b) s (fun u => u.tdm = { s.tdm with wantBulk := true } ∧ Counted [(.tdm, 0x418)] s u ∧ Kept [] s u ∧ Only [.regs .tdm, .seq, .evt, .tdm] s u)) ∧
      ((s.tdm.active = false ∨ (st ≠ .paired ∧ st ≠ .frozen)) → RunsLink (.resyncReqRx pairId seq b) s (onlyCounted [0x418]))) ∧
    (ok 7 → let takes := s.tdm.active = false ∧ (st = .paired ∨ st = .frozen); (¬takes → RunsLink (.switchRx pairId seq b) s (onlyCounted [0x418])) ∧
      (takes → RunsLink (.switchRx pairId seq b) s (fun u => u = ((t.takeOver 0 s.nowNs).setTdm .paired).sendBulk ∧ u.tdm.active = true ∧ u.tdm.state = .paired)))) ∧
  Runs .tfailToggle s (fun u => u.tdm = { s.tdm with tfailOut := decide (s.tdmEn = true ∧ s.tfailEn = true ∧ s.lmp.held = false ∧ st ≠ .faulty) && !s.tdm.tfailOut } ∧ Counted [] s u ∧ Kept [] s u ∧ Only [.tdm] s u) ∧
  (let live := s.lmp.held = false ∧ s.tfailEn = true; let low : State := { s with tdm := { s.tdm with tfailRun := 0, tfailOk := false } }
   (¬live → Runs .tfailInEdge s (fun u => u = s) ∧ Runs .tfailInLoss s (fun u => u = s)) ∧
   (live → Runs .tfailInEdge s (fun u => u.tdm = { s.tdm with tfailRun := Nat.min 4 (s.tdm.tfailRun + 1), tfailOk := s.tdm.tfailOk || decide (3 ≤ s.tdm.tfailRun) } ∧ Counted [] s u ∧ Kept [] s u ∧ Only [.tdm] s u) ∧
     (s.tdmEn = true → s.tdm.tfailOk = true → Runs .tfailInLoss s (fun u => u = (low.trigger .tfail true).tryVerdict)) ∧ ((s.tdmEn = false ∨ s.tdm.tfailOk = false) → Runs .tfailInLoss s (fun u => u = low)))) ∧
  (off ∨ st = .solo → Runs .heartbeatTx s (fun u => u = s)) ∧ (runsOn → st = .wait → Runs .heartbeatTx s (fun u => u = plus [⟨1, 1, s.tdm.nextSeq, identityBody s, false⟩])) ∧
  (runsOn → st ≠ .solo → st ≠ .wait → Runs .heartbeatTx s (fun u => u = plus [⟨1, 2, s.tdm.nextSeq, heartbeatBody s, false⟩])) ∧
  ((s.tdm.partner = none ∨ s.tdm.hbLost = true) → Runs .heartbeatLoss s (fun u => u = s)) ∧
  (s.tdm.partner ≠ none → s.tdm.hbLost = false → Runs .heartbeatLoss s (fun u => u = (({ s with tdm := { s.tdm with hbLost := true, hbOk := false } } : State).trigger .heartbeat true).tryVerdict)) ∧
  (st ≠ .wait → Runs .pairWaitExpiry s (fun u => u = s)) ∧ (st = .wait → let gone := s.tfailEn = false ∨ s.tdm.tfailOk = false
    (gone → Runs .pairWaitExpiry s (fun u => MemberIn .alone s u ∧ u.tdm.active = true ∧ RoleFollowed s u)) ∧ (¬gone → s.tdm.position = 0 → Runs .pairWaitExpiry s (fun u => MemberIn .alone s u ∧ u.tdm.active = true ∧ RoleFollowed s u ∧ u.flag .tdm 0x1C 5 = true)) ∧
    (¬gone → s.tdm.position ≠ 0 → Runs .pairWaitExpiry s (fun u => MemberIn .isolated s u ∧ u.tdm.active = s.tdm.active ∧ TdmFlagged 5 s u ∧ Kept [(.tdm, 0x1C)] s u ∧ Only [.regs .tdm, .seq, .evt, .tdm] s u))) ∧
  Runs .tdmHoldoffExpiry s (fun u => u.tdm = { s.tdm with holdoff := false } ∧ Counted [] s u ∧ Kept [] s u ∧ Only [.tdm] s u) ∧
  (let late := (∃ p, s.tdm.partner = some p ∧ p.epoch ≠ s.epoch) ∧ s.tdm.active = false ∧ (st = .paired ∨ st = .resync)
   (¬late → Runs .epochFollowTimeout s (fun u => u = s)) ∧ (late → Runs .epochFollowTimeout s (fun u => MemberIn .wait s u ∧ u.tdm.active = false ∧ Unpaired 5 s u))) ∧
  (∀ (pass : Bool) (detail : Word), ((s.tdm.resolution = none ∨ ∃ r, s.tdm.resolution = some r ∧ r.own ≠ none) → Runs (.selfCheckDone pass detail) s (fun u => u = s)) ∧ (∀ r, s.tdm.resolution = some r → r.own = none →
    Runs (.selfCheckDone pass detail) s (fun u => u = ({ s with tdm := { s.tdm with resolution := some { r with own := some (pass, detail.toNat) }, tx := s.tdm.tx ++ [⟨1, 5, s.tdm.nextSeq, [2, byte (!pass).toNat, byte r.trigger.code, 0] ++ beBytes 4 detail.toNat, false⟩] } } : State).tryVerdict))) ∧
  (s.tdm.resolution = none → Runs .resolveTimeout s (fun u => u = s)) ∧ (∀ r, s.tdm.resolution = some r → Runs .resolveTimeout s (fun u => u = ({ s with tdm := { s.tdm with resolution := some { r with expired := true } } } : State).tryVerdict)) ∧
  (s.lmp.held = false → let refused := fun (n : Nat) (u : State) => u.fld .tdm 0x18 31 28 = n ∧ Counted [] s u ∧ Kept [(.tdm, 0x18)] s u ∧ Only [.regs .tdm] s u; let done := fun (u : State) => u.fld .tdm 0x18 31 28 = 0
    let ready := ∃ p, s.tdm.partner = some p ∧ p.synced = true; let roles := s.tdm.active = true ∧ (st = .paired ∨ st = .frozen)
    (st = .solo → ∀ c ∈ [Instr.tdmSwitchover, .tdmResume, .tdmRetire, .tdmRejoin], Runs c s (refused 3)) ∧ (st ≠ .solo →
      (¬roles → Runs .tdmSwitchover s (refused 1)) ∧ (roles → ¬ready → Runs .tdmSwitchover s (refused 2)) ∧
      (roles → ready → Runs .tdmSwitchover s (fun u => done u ∧ u.tdm.state = .resync ∧ u.tdm.active = false ∧ RoleFollowed s u ∧ u.tdm.synced = false ∧ u.tdm.applied = none ∧ MirrorEmpty u ∧ (∃ r ∈ u.tdm.tx, r.type = 7 ∧ r.precedence = 1) ∧
        u.gwy.sig = [] ∧ u.table 0 = (s.table 0).filter (fun e => e.fixed) ∧ (∀ e ∈ s.table 30, u.recovery e.index = {}))) ∧
      (st ≠ .frozen → Runs .tdmResume s (refused 1)) ∧ (st = .frozen → s.tdm.active = true → Runs .tdmResume s (fun u => done u ∧ MemberIn .paired s u ∧ u.tdm.active = true ∧ u.tdm.wantBulk = false ∧
        (s.tdm.wantBulk = true → u.tdm.tx.getLast?.map (fun r => (r.type, r.bulk)) = some (0x16, true)) ∧ (s.tdm.wantBulk = false → u.tdm.tx = s.tdm.tx) ∧ Counted [] s u ∧ Kept [(.tdm, 0x18)] s u ∧ Only [.regs .tdm, .seq, .evt, .tdm] s u)) ∧
      (st = .frozen → s.tdm.active = false → Runs .tdmResume s (fun u => done u ∧ SequenceLost (s.tdmResult 0) u)) ∧
      Runs .tdmRetire s (fun u => done u ∧ FaultyNow 0 4 s u) ∧
      (st ≠ .faulty → Runs .tdmRejoin s (refused 1)) ∧ (st = .faulty → Runs .tdmRejoin s (fun u => done u ∧ MemberIn .wait s u ∧ u.tdm.active = false ∧ RoleFollowed s u ∧ (s.rngOk = false → u.rd .tdm 0x20 = word s.islandCount) ∧
        (s.rngOk = true → u.rd .tdm 0x20 = word (le ((List.range 4).map (fun i => Config.freeByte (s.free + i))))))))) ∧
  (∀ item : MirrorItem, let used := (s.tdm.tx.map (fun r => if r.bulk then 0 else 16 + r.body.length)).sum; let one := fun (e : List Byte) => [0, 1, 0, 0] ++ e
    let due := match item with | .stream k => s.tdm.dirtyCb.contains k.val | .flume f => s.tdm.dirtyFlume.contains f.val | .rule k => s.tdm.dirtyGw.contains k.val | .ring r => decide ((s.ringOf r.val).kind ≠ .off)
    let type := match item with | .stream _ => 0x11 | .flume _ => 0x13 | .rule _ => 0x14 | .ring _ => 0x12; let body := match item with | .stream k => one (s.cbEntry k.val) | .flume f => one (s.flumeEntry f.val) | .rule k => one (s.gwEntry k.val) | .ring r => s.ringEntry r.val
    let settled : TdmState := match item with | .stream k => { s.tdm with dirtyCb := s.tdm.dirtyCb.erase k.val } | .flume f => { s.tdm with dirtyFlume := s.tdm.dirtyFlume.erase f.val } | .rule k => { s.tdm with dirtyGw := s.tdm.dirtyGw.erase k.val } | .ring _ => s.tdm
    let room := used + 16 + body.length ≤ 262144; let sends := s.mirroring = true ∧ due = true
    (¬sends → Runs (.mirrorIntervalExpiry item) s (fun u => u = s)) ∧ (sends → room → Runs (.mirrorIntervalExpiry item) s (fun u => u = ({ s with tdm := { settled with tx := s.tdm.tx ++ [⟨2, type, s.tdm.nextSeq, body, false⟩], nextSeq := (s.tdm.nextSeq + 1) % 2 ^ 32 } } : State))) ∧
    (sends → ¬room → Runs (.mirrorIntervalExpiry item) s (fun u => u.tdm = { settled with nextSeq := (s.tdm.nextSeq + 1) % 2 ^ 32, sentSeq := s.tdm.nextSeq } ∧ Counted [(.tdm, 0x460)] s u ∧ TdmFlagged 3 s u ∧ Kept [(.tdm, 0x1C)] s u ∧
      Only [.regs .tdm, .seq, .evt, .tdm] s u)))
end

