-- ==== Sys2Proof/Laws/Agree.lean ====
section
/-!
SUPPORT. Which parts of the state an operation can change, as a mask of bits (Part.index): `Agree m s t` says that `t` differs from `s` at
most in the parts of `m`. One lemma for each operation of the machine stands in Laws/Agree1.lean to Agree4.lean: it lets simp take the
operation off the right side, so that the mask of a composition is checked by simp alone.
-/
namespace Sys2Proof.Machine

/-- Where a block stands in a mask. -/
def Block.index : Block → Nat
  | .dev => 0
  | .img => 1
  | .tkp => 2
  | .eth => 3
  | .prs => 4
  | .tbl => 5
  | .xbr => 6
  | .cis => 7
  | .egr => 8
  | .can => 9
  | .mvb => 10
  | .gwy => 11
  | .flm => 12
  | .hbr => 13
  | .key => 14
  | .lmp => 15
  | .tdm => 16
  | .evt => 17
  | .mgt => 18
  | .pin => 19
def Block.bit : Block → Nat
  | .dev => 1
  | .img => 2
  | .tkp => 4
  | .eth => 8
  | .prs => 16
  | .tbl => 32
  | .xbr => 64
  | .cis => 128
  | .egr => 256
  | .can => 512
  | .mvb => 1024
  | .gwy => 2048
  | .flm => 4096
  | .hbr => 8192
  | .key => 16384
  | .lmp => 32768
  | .tdm => 65536
  | .evt => 131072
  | .mgt => 262144
  | .pin => 524288
@[simp] theorem Block.bit_dev : Block.dev.bit = 1 := by decide
@[simp] theorem Block.bit_img : Block.img.bit = 2 := by decide
@[simp] theorem Block.bit_tkp : Block.tkp.bit = 4 := by decide
@[simp] theorem Block.bit_eth : Block.eth.bit = 8 := by decide
@[simp] theorem Block.bit_prs : Block.prs.bit = 16 := by decide
@[simp] theorem Block.bit_tbl : Block.tbl.bit = 32 := by decide
@[simp] theorem Block.bit_xbr : Block.xbr.bit = 64 := by decide
@[simp] theorem Block.bit_cis : Block.cis.bit = 128 := by decide
@[simp] theorem Block.bit_egr : Block.egr.bit = 256 := by decide
@[simp] theorem Block.bit_can : Block.can.bit = 512 := by decide
@[simp] theorem Block.bit_mvb : Block.mvb.bit = 1024 := by decide
@[simp] theorem Block.bit_gwy : Block.gwy.bit = 2048 := by decide
@[simp] theorem Block.bit_flm : Block.flm.bit = 4096 := by decide
@[simp] theorem Block.bit_hbr : Block.hbr.bit = 8192 := by decide
@[simp] theorem Block.bit_key : Block.key.bit = 16384 := by decide
@[simp] theorem Block.bit_lmp : Block.lmp.bit = 32768 := by decide
@[simp] theorem Block.bit_tdm : Block.tdm.bit = 65536 := by decide
@[simp] theorem Block.bit_evt : Block.evt.bit = 131072 := by decide
@[simp] theorem Block.bit_mgt : Block.mgt.bit = 262144 := by decide
@[simp] theorem Block.bit_pin : Block.pin.bit = 524288 := by decide
def Part.index : Part → Nat
  | .regs b => b.index
  | .paths => 20
  | .seq => 21
  | .img => 22
  | .tkp => 23
  | .flm => 24
  | .evt => 25
  | .net => 26
  | .prs => 27
  | .tbl => 28
  | .xbr => 29
  | .cis => 30
  | .tdm => 31
  | .key => 32
  | .gwy => 33
  | .can => 34
  | .mvb => 35
  | .hbr => 36
  | .lmp => 37
  | .mf => 38
  | .sense => 39
  | .mgt => 40
  | .fuses => 41
  | .flash => 42
  | .out => 43
  | .free => 44
  | .pending => 45
/-- `t` differs from `s` at most in the parts that `m` names. -/
def Agree (m : Nat) (s t : State) : Prop := ∀ p : Part, m.testBit p.index = false → p.same s t

theorem Agree.refl (m : Nat) (s : State) : Agree m s s := fun p _ => by cases p <;> rfl
@[simp] theorem Agree.self {m : Nat} {s : State} : Agree m s s ↔ True := iff_of_true (Agree.refl m s) trivial
theorem Agree.trans {m : Nat} {s t u : State} (h : Agree m s t) (k : Agree m t u) : Agree m s u := fun p hp => by
  have a := h p hp; have b := k p hp
  cases p <;> exact Eq.trans b a
theorem Agree.symm {m : Nat} {s t : State} (h : Agree m s t) : Agree m t s := fun p hp => by
  have a := h p hp
  cases p <;> exact Eq.symm a
theorem Agree.mono {m n : Nat} {s t : State} (h : Agree m s t) (k : m ||| n = n) : Agree n s t := fun p hp => h p (by
  rw [← k, Nat.testBit_or, Bool.or_eq_false_iff] at hp; exact hp.1)
theorem Agree.stack {m n : Nat} {t u : State} (h : Agree m t u) (k : m ||| n = n) (s : State) : Agree n s u ↔ Agree n s t :=
  ⟨fun a => a.trans (h.mono k).symm, fun a => a.trans (h.mono k)⟩
@[simp] theorem Agree.ite {m : Nat} {s : State} {c : Prop} [Decidable c] {t u : State} :
    Agree m s (if c then t else u) ↔ if c then Agree m s t else Agree m s u := by split <;> rfl
@[simp] theorem Agree.bif {m : Nat} {s : State} {c : Bool} {t u : State} :
    Agree m s (bif c then t else u) ↔ if c then Agree m s t else Agree m s u := by cases c <;> simp
@[simp] theorem Agree.ite_fst {α : Type} {m : Nat} {s : State} {c : Prop} [Decidable c] {t u : State × α} :
    Agree m s (if c then t else u).1 ↔ if c then Agree m s t.1 else Agree m s u.1 := by split <;> rfl
theorem Agree.of_fst {α : Type} {m : Nat} {s t : State} {a : α} {p : State × α} (h : p = (t, a)) (k : Agree m s p.1) : Agree m s t := by
  rw [h] at k; exact k
@[simp] theorem Agree.foldl {α : Type} {m : Nat} {s t : State} {f : State → α → State} (l : List α) (h : ∀ u a, Agree m u (f u a)) :
    Agree m s (l.foldl f t) ↔ Agree m s t := by
  induction l generalizing t with
  | nil => rfl
  | cons a l ih => rw [List.foldl_cons, ih]; exact (h t a).stack (Nat.or_self m) s
@[simp] theorem Agree.put_paths {m : Nat} {s t : State} {v : _} (h : 1048576 ||| m = m) : Agree m s { t with paths := v } ↔ Agree m s t :=
  Agree.stack (m := 1048576) (fun p hp => by cases p <;> first | rfl | exact absurd hp (by decide)) h s
@[simp] theorem Agree.put_seq {m : Nat} {s t : State} {v : _} (h : 2097152 ||| m = m) : Agree m s { t with seq := v } ↔ Agree m s t :=
  Agree.stack (m := 2097152) (fun p hp => by cases p <;> first | rfl | exact absurd hp (by decide)) h s
@[simp] theorem Agree.put_img {m : Nat} {s t : State} {v : _} (h : 4194304 ||| m = m) : Agree m s { t with img := v } ↔ Agree m s t :=
  Agree.stack (m := 4194304) (fun p hp => by cases p <;> first | rfl | exact absurd hp (by decide)) h s
@[simp] theorem Agree.put_tkp {m : Nat} {s t : State} {v : _} (h : 8388608 ||| m = m) : Agree m s { t with tkp := v } ↔ Agree m s t :=
  Agree.stack (m := 8388608) (fun p hp => by cases p <;> first | rfl | exact absurd hp (by decide)) h s
@[simp] theorem Agree.put_flm {m : Nat} {s t : State} {v : _} (h : 16777216 ||| m = m) : Agree m s { t with flm := v } ↔ Agree m s t :=
  Agree.stack (m := 16777216) (fun p hp => by cases p <;> first | rfl | exact absurd hp (by decide)) h s
@[simp] theorem Agree.put_evt {m : Nat} {s t : State} {v : _} (h : 33554432 ||| m = m) : Agree m s { t with evt := v } ↔ Agree m s t :=
  Agree.stack (m := 33554432) (fun p hp => by cases p <;> first | rfl | exact absurd hp (by decide)) h s
@[simp] theorem Agree.put_net {m : Nat} {s t : State} {v : _} (h : 67108864 ||| m = m) : Agree m s { t with net := v } ↔ Agree m s t :=
  Agree.stack (m := 67108864) (fun p hp => by cases p <;> first | rfl | exact absurd hp (by decide)) h s
@[simp] theorem Agree.put_prs {m : Nat} {s t : State} {v : _} (h : 134217728 ||| m = m) : Agree m s { t with prs := v } ↔ Agree m s t :=
  Agree.stack (m := 134217728) (fun p hp => by cases p <;> first | rfl | exact absurd hp (by decide)) h s
@[simp] theorem Agree.put_tbl {m : Nat} {s t : State} {v : _} (h : 268435456 ||| m = m) : Agree m s { t with tbl := v } ↔ Agree m s t :=
  Agree.stack (m := 268435456) (fun p hp => by cases p <;> first | rfl | exact absurd hp (by decide)) h s
@[simp] theorem Agree.put_xbr {m : Nat} {s t : State} {v : _} (h : 536870912 ||| m = m) : Agree m s { t with xbr := v } ↔ Agree m s t :=
  Agree.stack (m := 536870912) (fun p hp => by cases p <;> first | rfl | exact absurd hp (by decide)) h s
@[simp] theorem Agree.put_cis {m : Nat} {s t : State} {v : _} (h : 1073741824 ||| m = m) : Agree m s { t with cis := v } ↔ Agree m s t :=
  Agree.stack (m := 1073741824) (fun p hp => by cases p <;> first | rfl | exact absurd hp (by decide)) h s
@[simp] theorem Agree.put_tdm {m : Nat} {s t : State} {v : _} (h : 2147483648 ||| m = m) : Agree m s { t with tdm := v } ↔ Agree m s t :=
  Agree.stack (m := 2147483648) (fun p hp => by cases p <;> first | rfl | exact absurd hp (by decide)) h s
@[simp] theorem Agree.put_key {m : Nat} {s t : State} {v : _} (h : 4294967296 ||| m = m) : Agree m s { t with key := v } ↔ Agree m s t :=
  Agree.stack (m := 4294967296) (fun p hp => by cases p <;> first | rfl | exact absurd hp (by decide)) h s
@[simp] theorem Agree.put_gwy {m : Nat} {s t : State} {v : _} (h : 8589934592 ||| m = m) : Agree m s { t with gwy := v } ↔ Agree m s t :=
  Agree.stack (m := 8589934592) (fun p hp => by cases p <;> first | rfl | exact absurd hp (by decide)) h s
@[simp] theorem Agree.put_can {m : Nat} {s t : State} {v : _} (h : 17179869184 ||| m = m) : Agree m s { t with can := v } ↔ Agree m s t :=
  Agree.stack (m := 17179869184) (fun p hp => by cases p <;> first | rfl | exact absurd hp (by decide)) h s
@[simp] theorem Agree.put_mvb {m : Nat} {s t : State} {v : _} (h : 34359738368 ||| m = m) : Agree m s { t with mvb := v } ↔ Agree m s t :=
  Agree.stack (m := 34359738368) (fun p hp => by cases p <;> first | rfl | exact absurd hp (by decide)) h s
@[simp] theorem Agree.put_hbr {m : Nat} {s t : State} {v : _} (h : 68719476736 ||| m = m) : Agree m s { t with hbr := v } ↔ Agree m s t :=
  Agree.stack (m := 68719476736) (fun p hp => by cases p <;> first | rfl | exact absurd hp (by decide)) h s
@[simp] theorem Agree.put_lmp {m : Nat} {s t : State} {v : _} (h : 137438953472 ||| m = m) : Agree m s { t with lmp := v } ↔ Agree m s t :=
  Agree.stack (m := 137438953472) (fun p hp => by cases p <;> first | rfl | exact absurd hp (by decide)) h s
@[simp] theorem Agree.put_mf {m : Nat} {s t : State} {v : _} (h : 274877906944 ||| m = m) : Agree m s { t with mf := v } ↔ Agree m s t :=
  Agree.stack (m := 274877906944) (fun p hp => by cases p <;> first | rfl | exact absurd hp (by decide)) h s
@[simp] theorem Agree.put_sense {m : Nat} {s t : State} {v : _} (h : 549755813888 ||| m = m) : Agree m s { t with sense := v } ↔ Agree m s t :=
  Agree.stack (m := 549755813888) (fun p hp => by cases p <;> first | rfl | exact absurd hp (by decide)) h s
@[simp] theorem Agree.put_mgt {m : Nat} {s t : State} {v : _} (h : 1099511627776 ||| m = m) : Agree m s { t with mgt := v } ↔ Agree m s t :=
  Agree.stack (m := 1099511627776) (fun p hp => by cases p <;> first | rfl | exact absurd hp (by decide)) h s
@[simp] theorem Agree.put_fuses {m : Nat} {s t : State} {v : _} (h : 2199023255552 ||| m = m) : Agree m s { t with fuses := v } ↔ Agree m s t :=
  Agree.stack (m := 2199023255552) (fun p hp => by cases p <;> first | rfl | exact absurd hp (by decide)) h s
@[simp] theorem Agree.put_flash {m : Nat} {s t : State} {v : _} (h : 4398046511104 ||| m = m) : Agree m s { t with flash := v } ↔ Agree m s t :=
  Agree.stack (m := 4398046511104) (fun p hp => by cases p <;> first | rfl | exact absurd hp (by decide)) h s
@[simp] theorem Agree.put_out {m : Nat} {s t : State} {v : _} (h : 8796093022208 ||| m = m) : Agree m s { t with out := v } ↔ Agree m s t :=
  Agree.stack (m := 8796093022208) (fun p hp => by cases p <;> first | rfl | exact absurd hp (by decide)) h s
@[simp] theorem Agree.put_free {m : Nat} {s t : State} {v : _} (h : 17592186044416 ||| m = m) : Agree m s { t with free := v } ↔ Agree m s t :=
  Agree.stack (m := 17592186044416) (fun p hp => by cases p <;> first | rfl | exact absurd hp (by decide)) h s
@[simp] theorem Agree.put_pending {m : Nat} {s t : State} {v : _} (h : 35184372088832 ||| m = m) : Agree m s { t with pending := v } ↔ Agree m s t :=
  Agree.stack (m := 35184372088832) (fun p hp => by cases p <;> first | rfl | exact absurd hp (by decide)) h s

@[simp] theorem RegSpace.get_put (r : RegSpace) (b : Block) (f : RegFile) : (r.put b f).get b = f := by cases b <;> rfl
theorem RegSpace.get_put_ne (r : RegSpace) {b c : Block} (f : RegFile) (h : b ≠ c) : (r.put b f).get c = r.get c := by
  cases b <;> cases c <;> first | rfl | exact absurd rfl h
theorem Block.bit_index {b c : Block} (h : b.bit.testBit c.index = false) : b ≠ c := by
  rintro rfl; cases b <;> exact absurd h (by decide)
@[simp] theorem Agree.put_regs {m : Nat} {s t : State} {b : Block} {f : RegFile} (h : b.bit ||| m = m) :
    Agree m s { t with regs := t.regs.put b f } ↔ Agree m s t :=
  Agree.stack (m := b.bit) (fun p hp => by
    cases p <;> first | rfl | exact RegSpace.get_put_ne _ _ (Block.bit_index hp)) h s
@[simp] theorem Agree.elim {α : Type} {m : Nat} {s t : State} {o : Option α} {f : α → State} (h : ∀ x, Agree m t (f x)) :
    Agree m s (o.elim t f) ↔ Agree m s t := by
  cases o with
  | none => rfl
  | some x => exact (h x).stack (Nat.or_self m) s
@[simp] theorem Agree.foldl_fst {α β : Type} {m : Nat} {s : State} {p : State × β} {f : State × β → α → State × β} (l : List α)
    (h : ∀ q a, Agree m q.1 (f q a).1) : Agree m s (l.foldl f p).1 ↔ Agree m s p.1 := by
  induction l generalizing p with
  | nil => rfl
  | cons a l ih => rw [List.foldl_cons, ih]; exact (h p a).stack (Nat.or_self m) s
@[simp] theorem Agree.put_key_free {m : Nat} {s t : State} {v : KeyState} {n : Nat} (h : 17596481011712 ||| m = m) :
    Agree m s { t with key := v, free := n } ↔ Agree m s t :=
  Agree.stack (m := 17596481011712) (fun p hp => by cases p <;> first | rfl | exact absurd hp (by decide)) h s
@[simp] theorem Agree.ite_KeyAnswer {m : Nat} {s : State} {c : Prop} [Decidable c] {t u : KeyAnswer} :
    Agree m s (if c then t else u).state ↔ if c then Agree m s t.state else Agree m s u.state := by split <;> rfl
@[simp] theorem Agree.ite_Verdict {m : Nat} {s : State} {c : Prop} [Decidable c] {t u : Verdict} :
    Agree m s (if c then t else u).state ↔ if c then Agree m s t.state else Agree m s u.state := by split <;> rfl
@[simp] theorem Agree.ite_Loaded {m : Nat} {s : State} {c : Prop} [Decidable c] {t u : Loaded} :
    Agree m s (if c then t else u).state ↔ if c then Agree m s t.state else Agree m s u.state := by split <;> rfl
@[simp] theorem Agree.ite_SecResult {m : Nat} {s : State} {c : Prop} [Decidable c] {t u : SecResult} :
    Agree m s (if c then t else u).state ↔ if c then Agree m s t.state else Agree m s u.state := by split <;> rfl
@[simp] theorem Agree.put_key_mgt {m : Nat} {s t : State} {v : KeyState} {w : MgtState} (h : 1103806595072 ||| m = m) :
    Agree m s { t with key := v, mgt := w } ↔ Agree m s t :=
  Agree.stack (m := 1103806595072) (fun p hp => by cases p <;> first | rfl | exact absurd hp (by decide)) h s
@[simp] theorem Agree.put_xbr_cis {m : Nat} {s t : State} {v : XbrState} {w : CisState} (h : 1610612736 ||| m = m) :
    Agree m s { t with xbr := v, cis := w } ↔ Agree m s t :=
  Agree.stack (m := 1610612736) (fun p hp => by cases p <;> first | rfl | exact absurd hp (by decide)) h s
theorem Nat.or_self_left (a b : Nat) : a ||| (a ||| b) = a ||| b := by rw [← Nat.or_assoc, Nat.or_self]

/-- The mask of a list of parts. -/
def maskOf (ps : List Part) : Nat := ps.foldr (fun p n => 2 ^ p.index ||| n) 0

theorem Part.index_inj {p q : Part} (h : p.index = q.index) : p = q := by
  cases p <;> cases q <;> first
    | rfl
    | (rename_i a b; cases a <;> cases b <;> first | rfl | exact absurd h (by decide))
    | (rename_i a; cases a <;> exact absurd h (by decide))
    | exact absurd h (by decide)

theorem maskOf_testBit (ps : List Part) (p : Part) : (maskOf ps).testBit p.index = true ↔ p ∈ ps := by
  induction ps with
  | nil => simp [maskOf]
  | cons q ps ih =>
    have hq : (2 ^ q.index).testBit p.index = decide (q.index = p.index) := Nat.testBit_two_pow
    rw [maskOf, List.foldr_cons, Nat.testBit_or, hq, Bool.or_eq_true, decide_eq_true_eq, List.mem_cons]
    constructor
    · rintro (h | h)
      · exact .inl (Part.index_inj h).symm
      · exact .inr (ih.1 h)
    · rintro (rfl | h)
      · exact .inl rfl
      · exact .inr (ih.2 h)

/-- A frame by parts is a frame by mask. -/
theorem only_iff_agree (ps : List Part) (s t : State) : Only ps s t ↔ Agree (maskOf ps) s t := by
  constructor
  · intro h p hp
    exact h p (fun hm => by rw [(maskOf_testBit ps p).2 hm] at hp; exact absurd hp (by decide))
  · intro h p hp
    exact h p (Bool.eq_false_iff.2 (fun hm => hp ((maskOf_testBit ps p).1 hm)))

end Sys2Proof.Machine
end

