-- ==== Sys2Proof/Laws/Agree1.lean ====
section
/-!
SUPPORT. What each operation of the machine can change, as Laws/Agree.lean says it: part 1 of 4, in the order in which the operations call
each other.
-/
namespace Sys2Proof.Machine

variable {μ : Nat} {σ : State}

@[simp] theorem State.setPath_agree (s : State) (p : Path) (v : PathState) (hμ : 1048576 ||| μ = μ) :
    Agree μ σ (State.setPath s p v) ↔ Agree μ σ s :=
  Agree.stack (by unfold State.setPath; simp) hμ σ

@[simp] theorem State.readAs_agree (s : State) (path : Path) (v : Word) (hμ : 1048576 ||| μ = μ) :
    Agree μ σ (State.readAs s path v) ↔ Agree μ σ s :=
  Agree.stack (by unfold State.readAs; simp) hμ σ

@[simp] theorem State.wr_agree (s : State) (b : Block) (off : Nat) (v : Word) (hμ : b.bit ||| μ = μ) :
    Agree μ σ (State.wr s b off v) ↔ Agree μ σ s :=
  Agree.stack (by unfold State.wr; simp) hμ σ

@[simp] theorem State.vcoreMinRead_agree (s : State) (path : Path) (hμ : 1572864 ||| μ = μ) :
    Agree μ σ (State.vcoreMinRead s path) ↔ Agree μ σ s :=
  Agree.stack (by unfold State.vcoreMinRead; simp) hμ σ

@[simp] theorem State.readLive_agree (s : State) (path : Path) (addr : Nat) (b : Block) (off : Nat) (hμ : 1572864 ||| μ = μ) :
    Agree μ σ (State.readLive s path addr b off) ↔ Agree μ σ s :=
  Agree.stack (by unfold State.readLive; simp) hμ σ

@[simp] theorem State.accessRead_agree (s : State) (path : Path) (addr : Nat) (hμ : 1572864 ||| μ = μ) :
    Agree μ σ (State.accessRead s path addr) ↔ Agree μ σ s :=
  Agree.stack (by unfold State.accessRead; (repeat' (first | (simp; done) | split))) hμ σ

@[simp] theorem State.store_agree (s : State) (p : Path) (b : Block) (off : Nat) (v : Word) (hμ : b.bit ||| μ = μ) :
    Agree μ σ (State.store s p b off v) ↔ Agree μ σ s :=
  Agree.stack (by unfold State.store; (repeat' (first | (simp; done) | split))) hμ σ

@[simp] theorem State.stageLow_agree (s : State) (p : Path) (addr : Nat) (v : Word) (hμ : 1048576 ||| μ = μ) :
    Agree μ σ (State.stageLow s p addr v) ↔ Agree μ σ s :=
  Agree.stack (by unfold State.stageLow; simp) hμ σ

@[simp] theorem State.unstage_agree (s : State) (p : Path) (addr : Nat) (hμ : 1048576 ||| μ = μ) :
    Agree μ σ (State.unstage s p addr) ↔ Agree μ σ s :=
  Agree.stack (by unfold State.unstage; (repeat' (first | (simp; done) | split))) hμ σ

@[simp] theorem State.storeHigh_agree (s : State) (p : Path) (b : Block) (off : Nat) (v : Word) (hμ : b.bit ||| 1048576 ||| μ = μ) :
    Agree μ σ (State.storeHigh s p b off v) ↔ Agree μ σ s := by
  have h1 : b.bit ||| μ = μ := by rw [← hμ, Nat.or_assoc, Nat.or_self_left]
  have h2 : 1048576 ||| μ = μ := by rw [← hμ, Nat.or_comm b.bit, Nat.or_assoc, Nat.or_self_left]
  unfold State.storeHigh
  simp [h1, h2]

@[simp] theorem State.writePlain_agree (s : State) (path : Path) (b : Block) (off : Nat) (v : Word) (hμ : b.bit ||| 1048576 ||| μ = μ) :
    Agree μ σ (State.writePlain s path b off v) ↔ Agree μ σ s := by
  have h1 : b.bit ||| μ = μ := by rw [← hμ, Nat.or_assoc, Nat.or_self_left]
  have h2 : 1048576 ||| μ = μ := by rw [← hμ, Nat.or_comm b.bit, Nat.or_assoc, Nat.or_self_left]
  unfold State.writePlain
  (repeat' split) <;> simp [h1, h2, hμ]

@[simp] theorem State.deviceReset_agree (s : State) (cause : Nat) (hμ : 2199023222783 ||| μ = μ) :
    Agree μ σ (State.deviceReset s cause) ↔ Agree μ σ s :=
  Agree.stack (by unfold State.deviceReset; intro p hp; cases p <;> (try (rename_i b; cases b)) <;> first | rfl | exact absurd hp (by decide)) hμ σ

@[simp] theorem State.tookSeq_agree (s : State) (id : Nat) (hμ : 2097152 ||| μ = μ) :
    Agree μ σ (State.tookSeq s id) ↔ Agree μ σ s :=
  Agree.stack (by unfold State.tookSeq; simp) hμ σ

@[simp] theorem State.emit_agree (s : State) (e : Nat) (payload : List Byte) (hμ : 35651584 ||| μ = μ) :
    Agree μ σ (State.emit s e payload) ↔ Agree μ σ s :=
  Agree.stack (by unfold State.emit; simp) hμ σ

@[simp] theorem State.setMgt_agree (s : State) (k : MgtKind) (hμ : 1099547279360 ||| μ = μ) :
    Agree μ σ (State.setMgt s k) ↔ Agree μ σ s :=
  Agree.stack (by unfold State.setMgt; simp) hμ σ

@[simp] theorem State.setFld_agree (s : State) (b : Block) (off : Nat) (hi : Nat) (lo : Nat) (v : Nat) (hμ : b.bit ||| μ = μ) :
    Agree μ σ (State.setFld s b off hi lo v) ↔ Agree μ σ s :=
  Agree.stack (by unfold State.setFld; simp) hμ σ

@[simp] theorem State.setCount_agree (s : State) (b : Block) (off : Nat) (n : Nat) (hμ : b.bit ||| μ = μ) :
    Agree μ σ (State.setCount s b off n) ↔ Agree μ σ s :=
  Agree.stack (by unfold State.setCount; simp) hμ σ

@[simp] theorem State.bumpBy_agree (s : State) (b : Block) (off n : Nat) (hμ : b.bit ||| 35651584 ||| μ = μ) :
    Agree μ σ (State.bumpBy s b off n) ↔ Agree μ σ s := by
  have h1 : b.bit ||| μ = μ := by rw [← hμ, Nat.or_assoc, Nat.or_self_left]
  have h2 : 35651584 ||| μ = μ := by rw [← hμ, Nat.or_comm b.bit, Nat.or_assoc, Nat.or_self_left]
  unfold State.bumpBy
  simp [h1, h2]

@[simp] theorem State.bump_agree (s : State) (b : Block) (off : Nat) (hμ : (b.bit ||| 35651584) ||| μ = μ) :
    Agree μ σ (State.bump s b off) ↔ Agree μ σ s :=
  Agree.stack (by unfold State.bump; simp) hμ σ

@[simp] theorem State.clearCoreWindows_agree (s : State) (hμ : 17466130431 ||| μ = μ) :
    Agree μ σ (State.clearCoreWindows s) ↔ Agree μ σ s :=
  Agree.stack (by unfold State.clearCoreWindows; intro p hp; cases p <;> (try (rename_i b; cases b)) <;> first | rfl | exact absurd hp (by decide)) hμ σ

@[simp] theorem State.setLease_agree (s : State) (l : Nat) (v : Option Lease) (hμ : 1099511627776 ||| μ = μ) :
    Agree μ σ (State.setLease s l v) ↔ Agree μ σ s :=
  Agree.stack (by unfold State.setLease; simp) hμ σ

@[simp] theorem State.setBatch_agree (s : State) (w : Nat) (b : List TblWrite) (hμ : 268435456 ||| μ = μ) :
    Agree μ σ (State.setBatch s w b) ↔ Agree μ σ s :=
  Agree.stack (by unfold State.setBatch; simp) hμ σ

@[simp] theorem State.dropBatch_agree (s : State) (w : Nat) (t : Nat) (cause : Nat) (hμ : 304087040 ||| μ = μ) :
    Agree μ σ (State.dropBatch s w t cause) ↔ Agree μ σ s :=
  Agree.stack (by unfold State.dropBatch; simp) hμ σ

@[simp] theorem State.freeLease_agree (s : State) (l : Nat) (cause : Nat) (hμ : 1099815714816 ||| μ = μ) :
    Agree μ σ (State.freeLease s l cause).1 ↔ Agree μ σ s :=
  Agree.stack (by unfold State.freeLease; (repeat' (first | (simp; done) | split))) hμ σ

@[simp] theorem State.freeCoreLeases_agree (s : State) (hμ : 1099815714816 ||| μ = μ) :
    Agree μ σ (State.freeCoreLeases s) ↔ Agree μ σ s :=
  Agree.stack (by
    unfold State.freeCoreLeases
    repeat' (first | (simp; done) | split | (refine Agree.of_fst ‹_› ?_; simp; done) | simp | (refine (Agree.foldl _ (fun _ _ => ?_)).2 ?_) | intro _)) hμ σ

@[simp] theorem State.mgtReset_agree (s : State) (cause : Nat) (hμ : 1121308377087 ||| μ = μ) :
    Agree μ σ (State.mgtReset s cause) ↔ Agree μ σ s :=
  Agree.stack (m := 1121308377087) (by
    unfold State.mgtReset
    simp) hμ σ

@[simp] theorem State.mgtResetCmd_agree (s : State) (hμ : 1121308377087 ||| μ = μ) :
    Agree μ σ (State.mgtResetCmd s) ↔ Agree μ σ s :=
  Agree.stack (by unfold State.mgtResetCmd; simp) hμ σ

@[simp] theorem State.writeDev_agree (s : State) (off : Nat) (v : Word) (hμ : 2199023255551 ||| μ = μ) :
    Agree μ σ (State.writeDev s off v) ↔ Agree μ σ s :=
  Agree.stack (by unfold State.writeDev; (repeat' (first | (simp; done) | split))) hμ σ

@[simp] theorem State.lastErr_agree (s : State) (e : Nat) (hμ : 2 ||| μ = μ) :
    Agree μ σ (State.lastErr s e) ↔ Agree μ σ s :=
  Agree.stack (by unfold State.lastErr; simp) hμ σ

@[simp] theorem State.writeImgCfg_agree (s : State) (path : Path) (v : Word) (hμ : 2 ||| μ = μ) :
    Agree μ σ (State.writeImgCfg s path v) ↔ Agree μ σ s :=
  Agree.stack (by unfold State.writeImgCfg; simp) hμ σ

@[simp] theorem State.imgBusy_agree (s : State) (hμ : 2 ||| μ = μ) :
    Agree μ σ (State.imgBusy s) ↔ Agree μ σ s :=
  Agree.stack (by unfold State.imgBusy; simp) hμ σ

@[simp] theorem State.doConfigWrite_agree (s : State) (path : Path) (reg : StageReg) (v : Word) (hμ : 1048578 ||| μ = μ) :
    Agree μ σ (State.doConfigWrite s path reg v) ↔ Agree μ σ s :=
  Agree.stack (by unfold State.doConfigWrite; (repeat' (first | (simp; done) | split))) hμ σ

@[simp] theorem State.readParcels_agree (s : State) (sl : Slot) (gs : List ReadGlitch) (i : Nat) (l : List Parcel) (hμ : 35651586 ||| μ = μ) :
    Agree μ σ (State.readParcels s sl gs i l).1 ↔ Agree μ σ s := by
  refine Agree.stack (m := 35651586) ?_ hμ σ
  clear hμ
  induction l generalizing s i with
  | nil => exact Agree.refl _ _
  | cons x l ih =>
    unfold State.readParcels
    extract_lets fails s1
    have h : Agree 35651586 s s1 := by simp [s1]
    clear_value fails s1
    split
    · simp [h]
    · exact h.trans (ih _ _)

@[simp] theorem State.loadSlot_agree (s : State) (sl : Slot) (mask : Nat) (gs : List ReadGlitch) (hμ : 35651586 ||| μ = μ) :
    Agree μ σ (State.loadSlot s sl mask gs).state ↔ Agree μ σ s :=
  Agree.stack (by
    unfold State.loadSlot
    repeat' (first | (simp; done) | split | (refine Agree.of_fst ‹_› ?_; simp; done) | simp | (refine (Agree.foldl _ (fun _ _ => ?_)).2 ?_) | intro _)) hμ σ

@[simp] theorem State.admitAt_agree (s : State) (usable : Nat) (rs : List Rec) (hμ : 2 ||| μ = μ) :
    Agree μ σ (State.admitAt s usable rs).1 ↔ Agree μ σ s :=
  Agree.stack (by
    unfold State.admitAt
    repeat' (first | (simp; done) | split | (refine Agree.of_fst ‹_› ?_; simp; done) | simp | (refine (Agree.foldl _ (fun _ _ => ?_)).2 ?_) | intro _)) hμ σ

@[simp] theorem State.admitConf_agree (s : State) (rs : List Rec) (hμ : 2 ||| μ = μ) :
    Agree μ σ (State.admitConf s rs).1 ↔ Agree μ σ s :=
  Agree.stack (by unfold State.admitConf; simp) hμ σ

@[simp] theorem State.stageResult_agree (s : State) (gs : List ReadGlitch) (hμ : 35651586 ||| μ = μ) :
    Agree μ σ (State.stageResult s gs).1 ↔ Agree μ σ s :=
  Agree.stack (by
    unfold State.stageResult
    repeat' (first | (simp; done) | split | (refine Agree.of_fst ‹_› ?_; simp; done) | simp | (refine (Agree.foldl _ (fun _ _ => ?_)).2 ?_) | intro _)) hμ σ

@[simp] theorem State.setLoader_agree (s : State) (k : LoaderState) (hμ : 4194304 ||| μ = μ) :
    Agree μ σ (State.setLoader s k) ↔ Agree μ σ s :=
  Agree.stack (by unfold State.setLoader; simp) hμ σ

@[simp] theorem State.doStage_agree (s : State) (gs : List ReadGlitch) (hμ : 39845890 ||| μ = μ) :
    Agree μ σ (State.doStage s gs) ↔ Agree μ σ s :=
  Agree.stack (by unfold State.doStage; simp) hμ σ

@[simp] theorem State.setErr_agree (s : State) (b : Block) (off i e : Nat) (payload : List Byte) (hμ : b.bit ||| 35651584 ||| μ = μ) :
    Agree μ σ (State.setErr s b off i e payload) ↔ Agree μ σ s := by
  have h1 : b.bit ||| μ = μ := by rw [← hμ, Nat.or_assoc, Nat.or_self_left]
  have h2 : 35651584 ||| μ = μ := by rw [← hμ, Nat.or_comm b.bit, Nat.or_assoc, Nat.or_self_left]
  unfold State.setErr
  simp [h1, h2]

@[simp] theorem State.queueTandem_agree (s : State) (precedence : Nat) (type : Nat) (body : List Byte) (hμ : 2183200768 ||| μ = μ) :
    Agree μ σ (State.queueTandem s precedence type body) ↔ Agree μ σ s :=
  Agree.stack (by unfold State.queueTandem; simp) hμ σ

@[simp] theorem State.armAt_agree (s : State) (c : Conf) (t : Nat) (hμ : 2187395074 ||| μ = μ) :
    Agree μ σ (State.armAt s c t) ↔ Agree μ σ s :=
  Agree.stack (by unfold State.armAt; simp) hμ σ

@[simp] theorem State.doArm_agree (s : State) (hμ : 2187395074 ||| μ = μ) :
    Agree μ σ (State.doArm s) ↔ Agree μ σ s :=
  Agree.stack (by unfold State.doArm; (repeat' (first | (simp; done) | split))) hμ σ

@[simp] theorem State.wrs_agree (s : State) (b : Block) (off : Nat) (l : List Word) (hμ : b.bit ||| μ = μ) :
    Agree μ σ (State.wrs s b off l) ↔ Agree μ σ s := by
  induction l generalizing s off with
  | nil => rfl
  | cons v l ih => rw [State.wrs, ih, State.wr_agree _ _ _ _ hμ]

@[simp] theorem State.showStaged_agree (s : State) (mask : Nat) (digest : List Byte) (hμ : 2 ||| μ = μ) :
    Agree μ σ (State.showStaged s mask digest) ↔ Agree μ σ s :=
  Agree.stack (by unfold State.showStaged; simp) hμ σ

@[simp] theorem State.dropStaging_agree (s : State) (hμ : 4194306 ||| μ = μ) :
    Agree μ σ (State.dropStaging s) ↔ Agree μ σ s :=
  Agree.stack (by unfold State.dropStaging; simp) hμ σ

@[simp] theorem State.doAbort_agree (s : State) (hμ : 2187395074 ||| μ = μ) :
    Agree μ σ (State.doAbort s) ↔ Agree μ σ s :=
  Agree.stack (by unfold State.doAbort; (repeat' (first | (simp; done) | split))) hμ σ

@[simp] theorem State.doCommitNow_agree (s : State) (hμ : 2187395074 ||| μ = μ) :
    Agree μ σ (State.doCommitNow s) ↔ Agree μ σ s :=
  Agree.stack (by unfold State.doCommitNow; (repeat' (first | (simp; done) | split))) hμ σ

@[simp] theorem State.writeImg_agree (s : State) (path : Path) (off : Nat) (v : Word) (hμ : 2188443650 ||| μ = μ) :
    Agree μ σ (State.writeImg s path off v) ↔ Agree μ σ s :=
  Agree.stack (by unfold State.writeImg; (repeat' (first | (simp; done) | split))) hμ σ

@[simp] theorem State.send_agree (s : State) (o : Output) (hμ : 8796093022208 ||| μ = μ) :
    Agree μ σ (State.send s o) ↔ Agree μ σ s :=
  Agree.stack (by unfold State.send; simp) hμ σ

@[simp] theorem State.ppsFall_agree (s : State) (hμ : 8796101410816 ||| μ = μ) :
    Agree μ σ (State.ppsFall s) ↔ Agree μ σ s :=
  Agree.stack (by
    unfold State.ppsFall
    repeat' (first | (simp; done) | split | (refine Agree.of_fst ‹_› ?_; simp; done) | simp | (refine (Agree.foldl _ (fun _ _ => ?_)).2 ?_) | intro _)) hμ σ

@[simp] theorem State.writePpsOut_agree (s : State) (path : Path) (v : Word) (hμ : 8796101410820 ||| μ = μ) :
    Agree μ σ (State.writePpsOut s path v) ↔ Agree μ σ s :=
  Agree.stack (by unfold State.writePpsOut; simp) hμ σ

@[simp] theorem State.setDom_agree (s : State) (d : Nat) (v : Domain) (hμ : 8388608 ||| μ = μ) :
    Agree μ σ (State.setDom s d v) ↔ Agree μ σ s :=
  Agree.stack (by unfold State.setDom; simp) hμ σ

@[simp] theorem State.enterDom_agree (s : State) (d : Nat) (new : DomState) (hμ : 44040192 ||| μ = μ) :
    Agree μ σ (State.enterDom s d new) ↔ Agree μ σ s :=
  Agree.stack (by unfold State.enterDom; simp) hμ σ

@[simp] theorem State.followGm_agree (s : State) (d : Nat) (id : Nat) (steps : Nat) (self : Bool) (hμ : 44040196 ||| μ = μ) :
    Agree μ σ (State.followGm s d id steps self) ↔ Agree μ σ s :=
  Agree.stack (by
    unfold State.followGm
    repeat' (first | (simp; done) | split | (refine Agree.of_fst ‹_› ?_; simp; done) | simp | (refine (Agree.foldl _ (fun _ _ => ?_)).2 ?_) | intro _)) hμ σ

@[simp] theorem State.decideGm_agree (s : State) (d : Nat) (hμ : 44040196 ||| μ = μ) :
    Agree μ σ (State.decideGm s d) ↔ Agree μ σ s :=
  Agree.stack (by unfold State.decideGm; (repeat' (first | (simp; done) | split))) hμ σ

@[simp] theorem State.domCfgStore_agree (s : State) (d : Nat) (w : Word) (hμ : 44040196 ||| μ = μ) :
    Agree μ σ (State.domCfgStore s d w) ↔ Agree μ σ s :=
  Agree.stack (by unfold State.domCfgStore; simp) hμ σ

@[simp] theorem State.domCfg_agree (s : State) (d : Nat) (v : Word) (hμ : 44040196 ||| μ = μ) :
    Agree μ σ (State.domCfg s d v) ↔ Agree μ σ s :=
  Agree.stack (by unfold State.domCfg; simp) hμ σ

@[simp] theorem State.roleWrite_agree (s : State) (d : Nat) (half : Nat) (v : Word) (hμ : 44040196 ||| μ = μ) :
    Agree μ σ (State.roleWrite s d half v) ↔ Agree μ σ s :=
  Agree.stack (by unfold State.roleWrite; simp) hμ σ

@[simp] theorem State.writeDomain_agree (s : State) (path : Path) (off : Nat) (v : Word) (hμ : 45088772 ||| μ = μ) :
    Agree μ σ (State.writeDomain s path off v) ↔ Agree μ σ s :=
  Agree.stack (by unfold State.writeDomain; (repeat' (first | (simp; done) | split))) hμ σ

@[simp] theorem State.tkpRefuse_agree (s : State) (cmd : Nat) (d : Nat) (err : Nat) (hμ : 35651588 ||| μ = μ) :
    Agree μ σ (State.tkpRefuse s cmd d err) ↔ Agree μ σ s :=
  Agree.stack (by unfold State.tkpRefuse; simp) hμ σ

@[simp] theorem State.setEgress_agree (s : State) (p : Nat) (v : EgrPort) (hμ : 67108864 ||| μ = μ) :
    Agree μ σ (State.setEgress s p v) ↔ Agree μ σ s :=
  Agree.stack (by unfold State.setEgress; simp) hμ σ

@[simp] theorem State.holdBy_agree (s : State) (p : Nat) (op : Nat) (hμ : 102760704 ||| μ = μ) :
    Agree μ σ (State.holdBy s p op) ↔ Agree μ σ s :=
  Agree.stack (by unfold State.holdBy; simp) hμ σ

@[simp] theorem State.gatesStepped_agree (s : State) (a : Nat) (b : Nat) (hμ : 102760704 ||| μ = μ) :
    Agree μ σ (State.gatesStepped s a b) ↔ Agree μ σ s :=
  Agree.stack (by
    unfold State.gatesStepped
    repeat' (first | (simp; done) | split | (refine Agree.of_fst ‹_› ?_; simp; done) | simp | (refine (Agree.foldl _ (fun _ _ => ?_)).2 ?_) | intro _)) hμ σ

@[simp] theorem State.shiftDeadlines_agree (s : State) (ns : Nat) (hμ : 1099855560704 ||| μ = μ) :
    Agree μ σ (State.shiftDeadlines s ns) ↔ Agree μ σ s :=
  Agree.stack (by unfold State.shiftDeadlines; intro p hp; cases p <;> (try (rename_i b; cases b)) <;> first | rfl | exact absurd hp (by decide)) hμ σ

@[simp] theorem State.putTime_agree (s : State) (d : Nat) (t : Nat) (hμ : 1117071081728 ||| μ = μ) :
    Agree μ σ (State.putTime s d t) ↔ Agree μ σ s :=
  Agree.stack (by unfold State.putTime; simp) hμ σ

@[simp] theorem State.setTime_agree (s : State) (d : Nat) (hμ : 1117071081732 ||| μ = μ) :
    Agree μ σ (State.setTime s d) ↔ Agree μ σ s :=
  Agree.stack (by unfold State.setTime; simp) hμ σ

@[simp] theorem State.resync_agree (s : State) (d : Nat) (hμ : 44040196 ||| μ = μ) :
    Agree μ σ (State.resync s d) ↔ Agree μ σ s :=
  Agree.stack (by unfold State.resync; simp) hμ σ

@[simp] theorem State.decideGms_agree (s : State) (hμ : 44040196 ||| μ = μ) :
    Agree μ σ (State.decideGms s) ↔ Agree μ σ s :=
  Agree.stack (by unfold State.decideGms; simp) hμ σ

@[simp] theorem State.setPtp_agree (s : State) (p : Nat) (v : PtpPort) (hμ : 8388608 ||| μ = μ) :
    Agree μ σ (State.setPtp s p v) ↔ Agree μ σ s :=
  Agree.stack (by unfold State.setPtp; simp) hμ σ

@[simp] theorem State.setCapable_agree (s : State) (p : Nat) (v : Bool) (hμ : 44040192 ||| μ = μ) :
    Agree μ σ (State.setCapable s p v) ↔ Agree μ σ s :=
  Agree.stack (by unfold State.setCapable; simp) hμ σ

@[simp] theorem State.recapable_agree (s : State) (p : Nat) (hμ : 44040196 ||| μ = μ) :
    Agree μ σ (State.recapable s p) ↔ Agree μ σ s :=
  Agree.stack (by unfold State.recapable; simp) hμ σ

@[simp] theorem State.ppsUnsteer_agree (s : State) (d : Nat) (hμ : 8388608 ||| μ = μ) :
    Agree μ σ (State.ppsUnsteer s d) ↔ Agree μ σ s :=
  Agree.stack (by
    unfold State.ppsUnsteer
    repeat' (first | (simp; done) | split | (refine Agree.of_fst ‹_› ?_; simp; done) | simp | (refine (Agree.foldl _ (fun _ _ => ?_)).2 ?_) | intro _)) hμ σ

@[simp] theorem State.ppsResteer_agree (s : State) (hμ : 8388608 ||| μ = μ) :
    Agree μ σ (State.ppsResteer s) ↔ Agree μ σ s :=
  Agree.stack (by
    unfold State.ppsResteer
    repeat' (first | (simp; done) | split | (refine Agree.of_fst ‹_› ?_; simp; done) | simp | (refine (Agree.foldl _ (fun _ _ => ?_)).2 ?_) | intro _)) hμ σ

@[simp] theorem State.writeTkp_agree (s : State) (path : Path) (off : Nat) (v : Word) (hμ : 9913165152516 ||| μ = μ) :
    Agree μ σ (State.writeTkp s path off v) ↔ Agree μ σ s :=
  Agree.stack (by unfold State.writeTkp; (repeat' (first | (simp; done) | split))) hμ σ

@[simp] theorem State.setPort_agree (s : State) (p : Nat) (v : EthPort) (hμ : 67108864 ||| μ = μ) :
    Agree μ σ (State.setPort s p v) ↔ Agree μ σ s :=
  Agree.stack (by unfold State.setPort; simp) hμ σ

@[simp] theorem State.setLink_agree (s : State) (p : Nat) (new : LinkState) (hμ : 102760448 ||| μ = μ) :
    Agree μ σ (State.setLink s p new) ↔ Agree μ σ s :=
  Agree.stack (by unfold State.setLink; simp) hμ σ

@[simp] theorem State.portOn_agree (s : State) (p : Nat) (hμ : 102760456 ||| μ = μ) :
    Agree μ σ (State.portOn s p) ↔ Agree μ σ s :=
  Agree.stack (by unfold State.portOn; simp) hμ σ

@[simp] theorem State.updateXoff_agree (s : State) (hμ : 1073741824 ||| μ = μ) :
    Agree μ σ (State.updateXoff s) ↔ Agree μ σ s :=
  Agree.stack (by unfold State.updateXoff; simp) hμ σ

@[simp] theorem State.release_agree (s : State) (hμ : 1610612736 ||| μ = μ) :
    Agree μ σ (State.release s) ↔ Agree μ σ s :=
  Agree.stack (by unfold State.release; intro p hp; cases p <;> (try (rename_i b; cases b)) <;> first | rfl | exact absurd hp (by decide)) hμ σ

@[simp] theorem State.dropCopies_agree (s : State) (gone : Copy → Bool) (hμ : 1610612736 ||| μ = μ) :
    Agree μ σ (State.dropCopies s gone) ↔ Agree μ σ s :=
  Agree.stack (by unfold State.dropCopies; simp) hμ σ

@[simp] theorem State.frameFailed_agree (s : State) (id : Nat) (hμ : 1610612736 ||| μ = μ) :
    Agree μ σ (State.frameFailed s id) ↔ Agree μ σ s :=
  Agree.stack (by unfold State.frameFailed; simp) hμ σ

@[simp] theorem State.earlyFailed_agree (s : State) (id : Nat) (hμ : 1744830464 ||| μ = μ) :
    Agree μ σ (State.earlyFailed s id) ↔ Agree μ σ s :=
  Agree.stack (by unfold State.earlyFailed; simp) hμ σ

@[simp] theorem State.dropAssembly_agree (s : State) (p : Nat) (hμ : 67108864 ||| μ = μ) :
    Agree μ σ (State.dropAssembly s p) ↔ Agree μ σ s :=
  Agree.stack (by unfold State.dropAssembly; simp) hμ σ

@[simp] theorem State.cutReception_agree (s : State) (p : Nat) (hμ : 1847590920 ||| μ = μ) :
    Agree μ σ (State.cutReception s p) ↔ Agree μ σ s :=
  Agree.stack (by
    unfold State.cutReception
    repeat' (first | (simp; done) | split | (refine Agree.of_fst ‹_› ?_; simp; done) | simp | (refine (Agree.foldl _ (fun _ _ => ?_)).2 ?_) | intro _)) hμ σ

@[simp] theorem State.discardQueued_agree (s : State) (p : Nat) (keepWire : Bool) (hμ : 1713373192 ||| μ = μ) :
    Agree μ σ (State.discardQueued s p keepWire) ↔ Agree μ σ s :=
  Agree.stack (by unfold State.discardQueued; simp) hμ σ

@[simp] theorem State.freshDelay_agree (s : State) (p : Nat) (hμ : 44040196 ||| μ = μ) :
    Agree μ σ (State.freshDelay s p) ↔ Agree μ σ s :=
  Agree.stack (by unfold State.freshDelay; simp) hμ σ

@[simp] theorem State.setTable_agree (s : State) (t : Nat) (es : List TblEntry) (hμ : 268435456 ||| μ = μ) :
    Agree μ σ (State.setTable s t es) ↔ Agree μ σ s :=
  Agree.stack (by unfold State.setTable; simp) hμ σ

@[simp] theorem State.mirrorLearn_agree (s : State) (op : Nat) (port : Nat) (district : Nat) (vid : Nat) (mac : List Byte) (hμ : 2183200768 ||| μ = μ) :
    Agree μ σ (State.mirrorLearn s op port district vid mac) ↔ Agree μ σ s :=
  Agree.stack (by unfold State.mirrorLearn; simp) hμ σ

@[simp] theorem State.flushPort_agree (s : State) (port : Nat) (hμ : 2451636256 ||| μ = μ) :
    Agree μ σ (State.flushPort s port) ↔ Agree μ σ s :=
  Agree.stack (by unfold State.flushPort; simp) hμ σ

@[simp] theorem State.endLinkEpoch_agree (s : State) (p : Nat) (keepWire : Bool) (hμ : 4271964204 ||| μ = μ) :
    Agree μ σ (State.endLinkEpoch s p keepWire) ↔ Agree μ σ s :=
  Agree.stack (by unfold State.endLinkEpoch; simp) hμ σ

@[simp] theorem State.portOff_agree (s : State) (p : Nat) (hμ : 4271964204 ||| μ = μ) :
    Agree μ σ (State.portOff s p) ↔ Agree μ σ s :=
  Agree.stack (by unfold State.portOff; (repeat' (first | (simp; done) | split))) hμ σ

@[simp] theorem State.watchdogClear_agree (s : State) (p : Nat) (hμ : 67108872 ||| μ = μ) :
    Agree μ σ (State.watchdogClear s p) ↔ Agree μ σ s :=
  Agree.stack (by unfold State.watchdogClear; simp) hμ σ

@[simp] theorem State.startVerify_agree (s : State) (p : Nat) (hμ : 8796160131072 ||| μ = μ) :
    Agree μ σ (State.startVerify s p) ↔ Agree μ σ s :=
  Agree.stack (by unfold State.startVerify; simp) hμ σ

@[simp] theorem State.mmWrite_agree (s : State) (p : Nat) (stored : Word) (hμ : 8796160131080 ||| μ = μ) :
    Agree μ σ (State.mmWrite s p stored) ↔ Agree μ σ s :=
  Agree.stack (by unfold State.mmWrite; simp) hμ σ

@[simp] theorem State.mmCfg_agree (s : State) (p : Nat) (v : Word) (hμ : 8796160131080 ||| μ = μ) :
    Agree μ σ (State.mmCfg s p v) ↔ Agree μ σ s :=
  Agree.stack (by unfold State.mmCfg; (repeat' (first | (simp; done) | split))) hμ σ

@[simp] theorem State.secCfgWrite_agree (s : State) (p : Nat) (stored : Word) (hμ : 8 ||| μ = μ) :
    Agree μ σ (State.secCfgWrite s p stored) ↔ Agree μ σ s :=
  Agree.stack (by unfold State.secCfgWrite; simp) hμ σ

@[simp] theorem State.secCfg_agree (s : State) (p : Nat) (v : Word) (hμ : 8 ||| μ = μ) :
    Agree μ σ (State.secCfg s p v) ↔ Agree μ σ s :=
  Agree.stack (by unfold State.secCfg; (repeat' (first | (simp; done) | split))) hμ σ

@[simp] theorem State.saWritten_agree (s : State) (p : Nat) (sa : SaId) (hμ : 67108864 ||| μ = μ) :
    Agree μ σ (State.saWritten s p sa) ↔ Agree μ σ s :=
  Agree.stack (by unfold State.saWritten; simp) hμ σ

@[simp] theorem State.saWrite_agree (s : State) (path : Path) (p : Nat) (sa : SaId) (reg : SaReg) (v : Word) (hμ : 68157448 ||| μ = μ) :
    Agree μ σ (State.saWrite s path p sa reg v) ↔ Agree μ σ s :=
  Agree.stack (by unfold State.saWrite; (repeat' (first | (simp; done) | split))) hμ σ

@[simp] theorem State.writeEth_agree (s : State) (path : Path) (off : Nat) (v : Word) (hμ : 8800366034988 ||| μ = μ) :
    Agree μ σ (State.writeEth s path off v) ↔ Agree μ σ s :=
  Agree.stack (by unfold State.writeEth; (repeat' (first | (simp; done) | split))) hμ σ

@[simp] theorem State.setWeirStage_agree (s : State) (w : Nat) (v : WeirStage) (hμ : 134217728 ||| μ = μ) :
    Agree μ σ (State.setWeirStage s w v) ↔ Agree μ σ s :=
  Agree.stack (by unfold State.setWeirStage; simp) hμ σ

@[simp] theorem State.prsErr_agree (s : State) (i : Nat) (ingress : Nat) (district : Nat) (what : List Byte) (hμ : 35651600 ||| μ = μ) :
    Agree μ σ (State.prsErr s i ingress district what) ↔ Agree μ σ s :=
  Agree.stack (by unfold State.prsErr; simp) hμ σ

@[simp] theorem State.setWeir_agree (s : State) (w : Nat) (v : WeirLevel) (hμ : 134217728 ||| μ = μ) :
    Agree μ σ (State.setWeir s w v) ↔ Agree μ σ s :=
  Agree.stack (by unfold State.setWeir; simp) hμ σ

@[simp] theorem State.clampWeir_agree (s : State) (w : Nat) (hμ : 134217728 ||| μ = μ) :
    Agree μ σ (State.clampWeir s w) ↔ Agree μ σ s :=
  Agree.stack (by unfold State.clampWeir; simp) hμ σ

@[simp] theorem State.setWeirWords_agree (s : State) (w : Nat) (ws : List Word) (hμ : 134217744 ||| μ = μ) :
    Agree μ σ (State.setWeirWords s w ws) ↔ Agree μ σ s :=
  Agree.stack (by unfold State.setWeirWords; simp) hμ σ

@[simp] theorem State.applyWeir_agree (s : State) (w : Nat) (v : Word) (hμ : 169869328 ||| μ = μ) :
    Agree μ σ (State.applyWeir s w v) ↔ Agree μ σ s :=
  Agree.stack (by unfold State.applyWeir; simp) hμ σ

@[simp] theorem State.putWeirStage_agree (s : State) (w : Nat) (n : Nat) (v : Word) (hμ : 134217728 ||| μ = μ) :
    Agree μ σ (State.putWeirStage s w n v) ↔ Agree μ σ s :=
  Agree.stack (by unfold State.putWeirStage; simp) hμ σ

@[simp] theorem State.writePrs_agree (s : State) (path : Path) (off : Nat) (v : Word) (hμ : 170917904 ||| μ = μ) :
    Agree μ σ (State.writePrs s path off v) ↔ Agree μ σ s :=
  Agree.stack (by unfold State.writePrs; (repeat' (first | (simp; done) | split))) hμ σ

@[simp] theorem State.tblResult_agree (s : State) (w : Nat) (op : Nat) (result : Nat) (hμ : 32 ||| μ = μ) :
    Agree μ σ (State.tblResult s w op result) ↔ Agree μ σ s :=
  Agree.stack (by unfold State.tblResult; simp) hμ σ

@[simp] theorem State.tblStage_agree (s : State) (w : Nat) (t : Nat) (op : Nat) (hμ : 268435488 ||| μ = μ) :
    Agree μ σ (State.tblStage s w t op) ↔ Agree μ σ s :=
  Agree.stack (by
    unfold State.tblStage
    repeat' (first | (simp; done) | split | (refine Agree.of_fst ‹_› ?_; simp; done) | simp | (refine (Agree.foldl _ (fun _ _ => ?_)).2 ?_) | intro _)) hμ σ

@[simp] theorem State.drawNat_agree (s : State) (hμ : 17592186044416 ||| μ = μ) :
    Agree μ σ (State.drawNat s).1 ↔ Agree μ σ s :=
  Agree.stack (by unfold State.drawNat; simp) hμ σ

@[simp] theorem State.mirrorWrite_agree (s : State) (w : TblWrite) (hμ : 2183200768 ||| μ = μ) :
    Agree μ σ (State.mirrorWrite s w) ↔ Agree μ σ s :=
  Agree.stack (by unfold State.mirrorWrite; simp) hμ σ

@[simp] theorem State.tblWrite_agree (s : State) (w : Nat) (t : Nat) (op : Nat) (hμ : 17594637680672 ||| μ = μ) :
    Agree μ σ (State.tblWrite s w t op) ↔ Agree μ σ s :=
  Agree.stack (by
    unfold State.tblWrite
    repeat' (first | (simp; done) | split | (refine Agree.of_fst ‹_› ?_; simp; done) | simp | (refine (Agree.foldl _ (fun _ _ => ?_)).2 ?_) | intro _)) hμ σ

@[simp] theorem State.showEntry_agree (s : State) (w : Nat) (t : Nat) (e : TblEntry) (hμ : 32 ||| μ = μ) :
    Agree μ σ (State.showEntry s w t e) ↔ Agree μ σ s :=
  Agree.stack (by unfold State.showEntry; simp) hμ σ

@[simp] theorem State.tblFetch_agree (s : State) (w : Nat) (t : Nat) (op : Nat) (hμ : 32 ||| μ = μ) :
    Agree μ σ (State.tblFetch s w t op) ↔ Agree μ σ s :=
  Agree.stack (by
    unfold State.tblFetch
    repeat' (first | (simp; done) | split | (refine Agree.of_fst ‹_› ?_; simp; done) | simp | (refine (Agree.foldl _ (fun _ _ => ?_)).2 ?_) | intro _)) hμ σ

@[simp] theorem State.batchApply_agree (s : State) (w : Nat) (t : Nat) (hμ : 17594637680672 ||| μ = μ) :
    Agree μ σ (State.batchApply s w t) ↔ Agree μ σ s :=
  Agree.stack (by
    unfold State.batchApply
    repeat' (first | (simp; done) | split | (refine Agree.of_fst ‹_› ?_; simp; done) | simp | (refine (Agree.foldl _ (fun _ _ => ?_)).2 ?_) | intro _)) hμ σ

@[simp] theorem State.batchDiscard_agree (s : State) (w : Nat) (t : Nat) (hμ : 304087072 ||| μ = μ) :
    Agree μ σ (State.batchDiscard s w t) ↔ Agree μ σ s :=
  Agree.stack (by unfold State.batchDiscard; (repeat' (first | (simp; done) | split))) hμ σ

@[simp] theorem State.tblCmd_agree (s : State) (w : Nat) (v : Word) (hμ : 17594637680672 ||| μ = μ) :
    Agree μ σ (State.tblCmd s w v) ↔ Agree μ σ s :=
  Agree.stack (by
    unfold State.tblCmd
    repeat' (first | (simp; done) | split | (refine Agree.of_fst ‹_› ?_; simp; done) | simp | (refine (Agree.foldl _ (fun _ _ => ?_)).2 ?_) | intro _)) hμ σ

@[simp] theorem State.writeTbl_agree (s : State) (path : Path) (off : Nat) (v : Word) (hμ : 17594638729248 ||| μ = μ) :
    Agree μ σ (State.writeTbl s path off v) ↔ Agree μ σ s :=
  Agree.stack (by unfold State.writeTbl; simp) hμ σ

@[simp] theorem State.setMsgData_agree (s : State) (path : Path) (n : Nat) (b : List Byte) (hμ : 17179869184 ||| μ = μ) :
    Agree μ σ (State.setMsgData s path n b) ↔ Agree μ σ s :=
  Agree.stack (by unfold State.setMsgData; simp) hμ σ

@[simp] theorem State.msgDataWrite_agree (s : State) (path : Path) (n : Nat) (i : Nat) (v : Word) (hμ : 17179869184 ||| μ = μ) :
    Agree μ σ (State.msgDataWrite s path n i v) ↔ Agree μ σ s :=
  Agree.stack (by unfold State.msgDataWrite; simp) hμ σ

@[simp] theorem State.msgResult_agree (s : State) (path : Path) (n : Nat) (result : Nat) (hμ : 512 ||| μ = μ) :
    Agree μ σ (State.msgResult s path n result) ↔ Agree μ σ s :=
  Agree.stack (by unfold State.msgResult; simp) hμ σ

@[simp] theorem State.showRecord_agree (s : State) (path : Path) (n : Nat) (r : CanRecord) (mask : Nat) (hμ : 17179869696 ||| μ = μ) :
    Agree μ σ (State.showRecord s path n r mask) ↔ Agree μ σ s :=
  Agree.stack (by unfold State.showRecord; simp) hμ σ

@[simp] theorem State.setObjBit_agree (s : State) (n : Nat) (reg : Nat) (o : Nat) (v : Bool) (hμ : 512 ||| μ = μ) :
    Agree μ σ (State.setObjBit s n reg o v) ↔ Agree μ σ s :=
  Agree.stack (by unfold State.setObjBit; simp) hμ σ

@[simp] theorem State.msgRead_agree (s : State) (path : Path) (n : Nat) (clear : Bool) (hμ : 17179869696 ||| μ = μ) :
    Agree μ σ (State.msgRead s path n clear) ↔ Agree μ σ s :=
  Agree.stack (by unfold State.msgRead; (repeat' (first | (simp; done) | split))) hμ σ

@[simp] theorem State.setChan_agree (s : State) (n : Nat) (v : CanChan) (hμ : 17179869184 ||| μ = μ) :
    Agree μ σ (State.setChan s n v) ↔ Agree μ σ s :=
  Agree.stack (by unfold State.setChan; simp) hμ σ

@[simp] theorem State.setObj_agree (s : State) (n : Nat) (o : Nat) (v : CanObj) (hμ : 17179869184 ||| μ = μ) :
    Agree μ σ (State.setObj s n o v) ↔ Agree μ σ s :=
  Agree.stack (by unfold State.setObj; simp) hμ σ

@[simp] theorem State.msgWrite_agree (s : State) (path : Path) (n : Nat) (hμ : 17179869696 ||| μ = μ) :
    Agree μ σ (State.msgWrite s path n) ↔ Agree μ σ s :=
  Agree.stack (by unfold State.msgWrite; (repeat' (first | (simp; done) | split))) hμ σ

@[simp] theorem State.msgPop_agree (s : State) (path : Path) (n : Nat) (hμ : 17179869696 ||| μ = μ) :
    Agree μ σ (State.msgPop s path n) ↔ Agree μ σ s :=
  Agree.stack (by unfold State.msgPop; (repeat' (first | (simp; done) | split))) hμ σ

@[simp] theorem State.canErr_agree (s : State) (n : Nat) (i : Nat) (payload : List Byte) (hμ : 35652096 ||| μ = μ) :
    Agree μ σ (State.canErr s n i payload) ↔ Agree μ σ s :=
  Agree.stack (by unfold State.canErr; simp) hμ σ

@[simp] theorem State.canBump_agree (s : State) (n : Nat) (k : Nat) (hμ : 35652096 ||| μ = μ) :
    Agree μ σ (State.canBump s n k) ↔ Agree μ σ s :=
  Agree.stack (by unfold State.canBump; simp) hμ σ

@[simp] theorem State.txDrop_agree (s : State) (n : Nat) (cause : Nat) (hμ : 35652096 ||| μ = μ) :
    Agree μ σ (State.txDrop s n cause) ↔ Agree μ σ s :=
  Agree.stack (by unfold State.txDrop; simp) hμ σ

@[simp] theorem State.sendQueue_agree (s : State) (n : Nat) (f : CanFrame) (hμ : 17215521280 ||| μ = μ) :
    Agree μ σ (State.sendQueue s n f) ↔ Agree μ σ s :=
  Agree.stack (by unfold State.sendQueue; (repeat' (first | (simp; done) | split))) hμ σ

@[simp] theorem State.msgPush_agree (s : State) (path : Path) (n : Nat) (hμ : 17215521280 ||| μ = μ) :
    Agree μ σ (State.msgPush s path n) ↔ Agree μ σ s :=
  Agree.stack (by unfold State.msgPush; (repeat' (first | (simp; done) | split))) hμ σ

@[simp] theorem State.msgCmd_agree (s : State) (path : Path) (n : Nat) (v : Word) (hμ : 17215521280 ||| μ = μ) :
    Agree μ σ (State.msgCmd s path n v) ↔ Agree μ σ s :=
  Agree.stack (by unfold State.msgCmd; (repeat' (first | (simp; done) | split))) hμ σ

@[simp] theorem State.setSpdu_agree (s : State) (k : Nat) (v : Spdu) (hμ : 17179869184 ||| μ = μ) :
    Agree μ σ (State.setSpdu s k v) ↔ Agree μ σ s :=
  Agree.stack (by unfold State.setSpdu; simp) hμ σ

@[simp] theorem State.spduFvWrite_agree (s : State) (path : Path) (n : Nat) (j : Nat) (half : Half) (v : Word) (hμ : 17180917760 ||| μ = μ) :
    Agree μ σ (State.spduFvWrite s path n j half v) ↔ Agree μ σ s :=
  Agree.stack (by unfold State.spduFvWrite; (repeat' (first | (simp; done) | split))) hμ σ

@[simp] theorem State.writeSpdu_agree (s : State) (path : Path) (n : Nat) (off : Nat) (v : Word) (hμ : 17180917760 ||| μ = μ) :
    Agree μ σ (State.writeSpdu s path n off v) ↔ Agree μ σ s :=
  Agree.stack (by unfold State.writeSpdu; (repeat' (first | (simp; done) | split))) hμ σ

@[simp] theorem State.canBumpBy_agree (s : State) (n : Nat) (k : Nat) (by_ : Nat) (hμ : 35652096 ||| μ = μ) :
    Agree μ σ (State.canBumpBy s n k by_) ↔ Agree μ σ s :=
  Agree.stack (by unfold State.canBumpBy; simp) hμ σ

@[simp] theorem State.flushQueue_agree (s : State) (n : Nat) (hμ : 17215521280 ||| μ = μ) :
    Agree μ σ (State.flushQueue s n) ↔ Agree μ σ s :=
  Agree.stack (by unfold State.flushQueue; simp) hμ σ

@[simp] theorem State.setRef_agree (s : State) (n : Nat) (new : RefKind) (hμ : 17215521280 ||| μ = μ) :
    Agree μ σ (State.setRef s n new) ↔ Agree μ σ s :=
  Agree.stack (by unfold State.setRef; simp) hμ σ

@[simp] theorem State.refreshRef_agree (s : State) (n : Nat) (hμ : 17215521280 ||| μ = μ) :
    Agree μ σ (State.refreshRef s n) ↔ Agree μ σ s :=
  Agree.stack (by unfold State.refreshRef; (repeat' (first | (simp; done) | split))) hμ σ

@[simp] theorem State.putRing_agree (s : State) (r : Nat) (v : Ring) (hμ : 137438953472 ||| μ = μ) :
    Agree μ σ (State.putRing s r v) ↔ Agree μ σ s :=
  Agree.stack (by unfold State.putRing; simp) hμ σ

@[simp] theorem State.mirrorRing_agree (s : State) (r : Nat) (hμ : 2183200768 ||| μ = μ) :
    Agree μ σ (State.mirrorRing s r) ↔ Agree μ σ s :=
  Agree.stack (by unfold State.mirrorRing; simp) hμ σ

@[simp] theorem State.lmpEmit_agree (s : State) (e : Nat) (payload : List Byte) (hμ : 35651584 ||| μ = μ) :
    Agree μ σ (State.lmpEmit s e payload) ↔ Agree μ σ s :=
  Agree.stack (by unfold State.lmpEmit; simp) hμ σ

@[simp] theorem State.ringTo_agree (s : State) (r : Nat) (k : RingKind) (ms : Nat) (hμ : 139622154240 ||| μ = μ) :
    Agree μ σ (State.ringTo s r k ms) ↔ Agree μ σ s :=
  Agree.stack (by unfold State.ringTo; simp) hμ σ

@[simp] theorem State.ringLost_agree (s : State) (r : Nat) (hμ : 139622154240 ||| μ = μ) :
    Agree μ σ (State.ringLost s r) ↔ Agree μ σ s :=
  Agree.stack (by unfold State.ringLost; (repeat' (first | (simp; done) | split))) hμ σ

@[simp] theorem State.ringsBusOff_agree (s : State) (n : Nat) (hμ : 139622154240 ||| μ = μ) :
    Agree μ σ (State.ringsBusOff s n) ↔ Agree μ σ s :=
  Agree.stack (by unfold State.ringsBusOff; simp) hμ σ

@[simp] theorem State.setCanKind_agree (s : State) (n : Nat) (new : CanKind) (hμ : 156802023936 ||| μ = μ) :
    Agree μ σ (State.setCanKind s n new) ↔ Agree μ σ s :=
  Agree.stack (by unfold State.setCanKind; simp) hμ σ

@[simp] theorem State.recoverNow_agree (s : State) (n : Nat) (hμ : 156802023936 ||| μ = μ) :
    Agree μ σ (State.recoverNow s n) ↔ Agree μ σ s :=
  Agree.stack (by unfold State.recoverNow; simp) hμ σ

@[simp] theorem State.requestObj_agree (s : State) (n : Nat) (o : Nat) (hμ : 512 ||| μ = μ) :
    Agree μ σ (State.requestObj s n o) ↔ Agree μ σ s :=
  Agree.stack (by unfold State.requestObj; (repeat' (first | (simp; done) | split))) hμ σ

@[simp] theorem State.requestObjs_agree (s : State) (n : Nat) (m : Nat) (v : Word) (hμ : 512 ||| μ = μ) :
    Agree μ σ (State.requestObjs s n m v) ↔ Agree μ σ s :=
  Agree.stack (by unfold State.requestObjs; simp) hμ σ

@[simp] theorem State.sendObj_agree (s : State) (n : Nat) (o : Nat) (f : CanFrame) (hμ : 17215521280 ||| μ = μ) :
    Agree μ σ (State.sendObj s n o f) ↔ Agree μ σ s :=
  Agree.stack (by unfold State.sendObj; (repeat' (first | (simp; done) | split))) hμ σ

@[simp] theorem State.writeTarget_agree (s : State) (k : Nat) (b : List Byte) (request : Bool) (hμ : 17215521280 ||| μ = μ) :
    Agree μ σ (State.writeTarget s k b request) ↔ Agree μ σ s :=
  Agree.stack (by unfold State.writeTarget; simp) hμ σ

@[simp] theorem State.setTarget_agree (s : State) (k : Nat) (v : TargetState) (hμ : 8589934592 ||| μ = μ) :
    Agree μ σ (State.setTarget s k v) ↔ Agree μ σ s :=
  Agree.stack (by unfold State.setTarget; simp) hμ σ

@[simp] theorem State.targetSent_agree (s : State) (n : Nat) (o : Nat) (hμ : 25805455872 ||| μ = μ) :
    Agree μ σ (State.targetSent s n o) ↔ Agree μ σ s :=
  Agree.stack (by unfold State.targetSent; (repeat' (first | (simp; done) | split))) hμ σ

@[simp] theorem State.clearRequest_agree (s : State) (n : Nat) (o : Nat) (hμ : 17179869696 ||| μ = μ) :
    Agree μ σ (State.clearRequest s n o) ↔ Agree μ σ s :=
  Agree.stack (by unfold State.clearRequest; simp) hμ σ

@[simp] theorem State.cancelObj_agree (s : State) (n : Nat) (o : Nat) (hμ : 25805455872 ||| μ = μ) :
    Agree μ σ (State.cancelObj s n o) ↔ Agree μ σ s :=
  Agree.stack (by unfold State.cancelObj; simp) hμ σ

@[simp] theorem State.cancelObjs_agree (s : State) (n : Nat) (m : Nat) (v : Word) (hμ : 25805455872 ||| μ = μ) :
    Agree μ σ (State.cancelObjs s n m v) ↔ Agree μ σ s :=
  Agree.stack (by unfold State.cancelObjs; simp) hμ σ

@[simp] theorem State.wr64_agree (s : State) (b : Block) (off : Nat) (v : Nat) (hμ : b.bit ||| μ = μ) :
    Agree μ σ (State.wr64 s b off v) ↔ Agree μ σ s :=
  Agree.stack (by unfold State.wr64; simp) hμ σ

@[simp] theorem State.sofcLatch_agree (s : State) (path : Path) (n : Nat) (hμ : 512 ||| μ = μ) :
    Agree μ σ (State.sofcLatch s path n) ↔ Agree μ σ s :=
  Agree.stack (by unfold State.sofcLatch; simp) hμ σ

@[simp] theorem State.writeCan_agree (s : State) (path : Path) (off : Nat) (v : Word) (hμ : 165393007104 ||| μ = μ) :
    Agree μ σ (State.writeCan s path off v) ↔ Agree μ σ s :=
  Agree.stack (by unfold State.writeCan; simp) hμ σ

@[simp] theorem State.portResult_agree (s : State) (path : Path) (n : Nat) (result : Nat) (hμ : 1024 ||| μ = μ) :
    Agree μ σ (State.portResult s path n result) ↔ Agree μ σ s :=
  Agree.stack (by unfold State.portResult; simp) hμ σ

@[simp] theorem State.showPort_agree (s : State) (path : Path) (n : Nat) (cfg : Word) (d : MvbData) (size : Nat) (hμ : 1024 ||| μ = μ) :
    Agree μ σ (State.showPort s path n cfg d size) ↔ Agree μ σ s :=
  Agree.stack (by unfold State.showPort; simp) hμ σ

@[simp] theorem State.portRead_agree (s : State) (path : Path) (n : Nat) (hμ : 1024 ||| μ = μ) :
    Agree μ σ (State.portRead s path n) ↔ Agree μ σ s :=
  Agree.stack (by
    unfold State.portRead
    repeat' (first | (simp; done) | split | (refine Agree.of_fst ‹_› ?_; simp; done) | simp | (refine (Agree.foldl _ (fun _ _ => ?_)).2 ?_) | intro _)) hμ σ

@[simp] theorem State.setMvb_agree (s : State) (n : Nat) (v : MvbChan) (hμ : 34359738368 ||| μ = μ) :
    Agree μ σ (State.setMvb s n v) ↔ Agree μ σ s :=
  Agree.stack (by unfold State.setMvb; simp) hμ σ

@[simp] theorem State.setMvbPort_agree (s : State) (n : Nat) (a : Nat) (v : MvbData) (hμ : 34359738368 ||| μ = μ) :
    Agree μ σ (State.setMvbPort s n a v) ↔ Agree μ σ s :=
  Agree.stack (by unfold State.setMvbPort; simp) hμ σ

@[simp] theorem State.writeMvbPort_agree (s : State) (n : Nat) (a : Nat) (bs : List Byte) (hμ : 34359738368 ||| μ = μ) :
    Agree μ σ (State.writeMvbPort s n a bs) ↔ Agree μ σ s :=
  Agree.stack (by unfold State.writeMvbPort; simp) hμ σ

@[simp] theorem State.portWrite_agree (s : State) (path : Path) (n : Nat) (hμ : 34359739392 ||| μ = μ) :
    Agree μ σ (State.portWrite s path n) ↔ Agree μ σ s :=
  Agree.stack (by unfold State.portWrite; (repeat' (first | (simp; done) | split))) hμ σ

@[simp] theorem State.portPop_agree (s : State) (path : Path) (n : Nat) (hμ : 34359739392 ||| μ = μ) :
    Agree μ σ (State.portPop s path n) ↔ Agree μ σ s :=
  Agree.stack (by
    unfold State.portPop
    repeat' (first | (simp; done) | split | (refine Agree.of_fst ‹_› ?_; simp; done) | simp | (refine (Agree.foldl _ (fun _ _ => ?_)).2 ?_) | intro _)) hμ σ

@[simp] theorem State.pushMessage_agree (s : State) (n : Nat) (bs : List Byte) (hμ : 34359738368 ||| μ = μ) :
    Agree μ σ (State.pushMessage s n bs).1 ↔ Agree μ σ s :=
  Agree.stack (by unfold State.pushMessage; simp) hμ σ

@[simp] theorem State.portPush_agree (s : State) (path : Path) (n : Nat) (hμ : 34359739392 ||| μ = μ) :
    Agree μ σ (State.portPush s path n) ↔ Agree μ σ s :=
  Agree.stack (by
    unfold State.portPush
    repeat' (first | (simp; done) | split | (refine Agree.of_fst ‹_› ?_; simp; done) | simp | (refine (Agree.foldl _ (fun _ _ => ?_)).2 ?_) | intro _)) hμ σ

@[simp] theorem State.portCmd_agree (s : State) (path : Path) (n : Nat) (v : Word) (hμ : 34359739392 ||| μ = μ) :
    Agree μ σ (State.portCmd s path n v) ↔ Agree μ σ s :=
  Agree.stack (by unfold State.portCmd; (repeat' (first | (simp; done) | split))) hμ σ

@[simp] theorem State.offerMaster_agree (s : State) (n : Nat) (hμ : 8830452760576 ||| μ = μ) :
    Agree μ σ (State.offerMaster s n) ↔ Agree μ σ s :=
  Agree.stack (by
    unfold State.offerMaster
    repeat' (first | (simp; done) | split | (refine Agree.of_fst ‹_› ?_; simp; done) | simp | (refine (Agree.foldl _ (fun _ _ => ?_)).2 ?_) | intro _)) hμ σ

@[simp] theorem State.mvbErr_agree (s : State) (n : Nat) (i : Nat) (addr : Nat) (hμ : 35652608 ||| μ = μ) :
    Agree μ σ (State.mvbErr s n i addr) ↔ Agree μ σ s :=
  Agree.stack (by unfold State.mvbErr; simp) hμ σ

@[simp] theorem State.mdLost_agree (s : State) (n : Nat) (count : Nat) (hμ : 35652608 ||| μ = μ) :
    Agree μ σ (State.mdLost s n count) ↔ Agree μ σ s :=
  Agree.stack (by unfold State.mdLost; simp) hμ σ

@[simp] theorem State.mdFlush_agree (s : State) (n : Nat) (hμ : 34395390976 ||| μ = μ) :
    Agree μ σ (State.mdFlush s n) ↔ Agree μ σ s :=
  Agree.stack (by unfold State.mdFlush; simp) hμ σ

@[simp] theorem State.writeMvb_agree (s : State) (path : Path) (off : Nat) (v : Word) (hμ : 8830489461760 ||| μ = μ) :
    Agree μ σ (State.writeMvb s path off v) ↔ Agree μ σ s :=
  Agree.stack (by unfold State.writeMvb; (repeat' (first | (simp; done) | split))) hμ σ

@[simp] theorem State.sigSelWrite_agree (s : State) (path : Path) (v : Word) (hμ : 2048 ||| μ = μ) :
    Agree μ σ (State.sigSelWrite s path v) ↔ Agree μ σ s :=
  Agree.stack (by unfold State.sigSelWrite; simp) hμ σ

@[simp] theorem State.culSelWrite_agree (s : State) (path : Path) (v : Word) (hμ : 2048 ||| μ = μ) :
    Agree μ σ (State.culSelWrite s path v) ↔ Agree μ σ s :=
  Agree.stack (by unfold State.culSelWrite; simp) hμ σ

@[simp] theorem State.writeGwy_agree (s : State) (path : Path) (off : Nat) (v : Word) (hμ : 1050624 ||| μ = μ) :
    Agree μ σ (State.writeGwy s path off v) ↔ Agree μ σ s :=
  Agree.stack (by unfold State.writeGwy; (repeat' (first | (simp; done) | split))) hμ σ

@[simp] theorem State.flumeResult_agree (s : State) (f : Nat) (r : Nat) (hμ : 4096 ||| μ = μ) :
    Agree μ σ (State.flumeResult s f r) ↔ Agree μ σ s :=
  Agree.stack (by unfold State.flumeResult; simp) hμ σ

@[simp] theorem State.flumeCommand_agree (s : State) (path : Path) (f : Nat) (run : State → State) (h : ∀ u, Agree μ u (run u)) (hμ : 35655680 ||| μ = μ) :
    Agree μ σ (State.flumeCommand s path f run) ↔ Agree μ σ s := by
  have key : ∀ a, a ||| 35655680 = 35655680 → a ||| μ = μ := fun a ha => by rw [← hμ, ← Nat.or_assoc, ha]
  have hr : ∀ u, Agree μ σ (run u) ↔ Agree μ σ u := fun u => (h u).stack (Nat.or_self μ) σ
  unfold State.flumeCommand
  repeat' split
  all_goals simp (disch := (refine key _ ?_; decide)) [hr]

@[simp] theorem State.clearFlumeWin_agree (s : State) (path : Nat) (hμ : 16777216 ||| μ = μ) :
    Agree μ σ (State.clearFlumeWin s path) ↔ Agree μ σ s :=
  Agree.stack (by unfold State.clearFlumeWin; simp) hμ σ

@[simp] theorem State.setFlume_agree (s : State) (f : Nat) (v : Flume) (hμ : 2164260864 ||| μ = μ) :
    Agree μ σ (State.setFlume s f v) ↔ Agree μ σ s :=
  Agree.stack (by unfold State.setFlume; intro p hp; cases p <;> (try (rename_i b; cases b)) <;> first | rfl | exact absurd hp (by decide)) hμ σ

@[simp] theorem State.flumeReset_agree (s : State) (f : Nat) (cause : Nat) (code : Nat) (a : Nat) (b : Nat) (hμ : 2199916544 ||| μ = μ) :
    Agree μ σ (State.flumeReset s f cause code a b) ↔ Agree μ σ s :=
  Agree.stack (by unfold State.flumeReset; simp) hμ σ

@[simp] theorem State.flumeFetch_agree (s : State) (path : Path) (f : Nat) (advance : Bool) (ue : Option Nat) (hμ : 2199916544 ||| μ = μ) :
    Agree μ σ (State.flumeFetch s path f advance ue) ↔ Agree μ σ s :=
  Agree.stack (by
    unfold State.flumeFetch
    repeat' (first | (simp; done) | split | (refine Agree.of_fst ‹_› ?_; simp; done) | simp | (refine (Agree.foldl _ (fun _ _ => ?_)).2 ?_) | intro _)) hμ σ

@[simp] theorem State.moveFlume_agree (s : State) (f : Nat) (move : Flume → Flume) (hμ : 2164264960 ||| μ = μ) :
    Agree μ σ (State.moveFlume s f move) ↔ Agree μ σ s :=
  Agree.stack (by unfold State.moveFlume; simp) hμ σ

@[simp] theorem State.flmCmd_agree (s : State) (path : Path) (f : Nat) (v : Word) (hμ : 2199916544 ||| μ = μ) :
    Agree μ σ (State.flmCmd s path f v) ↔ Agree μ σ s :=
  Agree.stack (by unfold State.flmCmd; (repeat' (first | (simp; done) | split))) hμ σ

@[simp] theorem State.writeFlm_agree (s : State) (path : Path) (off : Nat) (v : Word) (hμ : 2200965120 ||| μ = μ) :
    Agree μ σ (State.writeFlm s path off v) ↔ Agree μ σ s :=
  Agree.stack (by unfold State.writeFlm; simp) hμ σ

@[simp] theorem State.hbrErr_agree (s : State) (i : Nat) (hμ : 35659776 ||| μ = μ) :
    Agree μ σ (State.hbrErr s i) ↔ Agree μ σ s :=
  Agree.stack (by unfold State.hbrErr; simp) hμ σ

@[simp] theorem State.doorbellIgnored_agree (s : State) (hμ : 35659776 ||| μ = μ) :
    Agree μ σ (State.doorbellIgnored s) ↔ Agree μ σ s :=
  Agree.stack (by unfold State.doorbellIgnored; simp) hμ σ

@[simp] theorem State.setQp_agree (s : State) (q : Nat) (v : QueuePair) (hμ : 68719476736 ||| μ = μ) :
    Agree μ σ (State.setQp s q v) ↔ Agree μ σ s :=
  Agree.stack (by unfold State.setQp; simp) hμ σ

@[simp] theorem State.qpEnable_agree (s : State) (q : Nat) (v : Word) (hμ : 68755136512 ||| μ = μ) :
    Agree μ σ (State.qpEnable s q v) ↔ Agree μ σ s :=
  Agree.stack (by
    unfold State.qpEnable
    repeat' (first | (simp; done) | split | (refine Agree.of_fst ‹_› ?_; simp; done) | simp | (refine (Agree.foldl _ (fun _ _ => ?_)).2 ?_) | intro _)) hμ σ

@[simp] theorem State.dropHostCopies_agree (s : State) (mine : Copy → Bool) (hμ : 1646272512 ||| μ = μ) :
    Agree μ σ (State.dropHostCopies s mine) ↔ Agree μ σ s :=
  Agree.stack (by unfold State.dropHostCopies; simp) hμ σ

@[simp] theorem State.qpDisable_agree (s : State) (q : Nat) (v : Word) (hμ : 70365749248 ||| μ = μ) :
    Agree μ σ (State.qpDisable s q v) ↔ Agree μ σ s :=
  Agree.stack (by unfold State.qpDisable; simp) hμ σ

@[simp] theorem State.qpTailWrite_agree (s : State) (q : Nat) (tx : Bool) (v : Word) (hμ : 68755136512 ||| μ = μ) :
    Agree μ σ (State.qpTailWrite s q tx v) ↔ Agree μ σ s :=
  Agree.stack (by unfold State.qpTailWrite; simp) hμ σ

@[simp] theorem State.writeQp_agree (s : State) (path : Path) (off : Nat) (v : Word) (hμ : 70366797824 ||| μ = μ) :
    Agree μ σ (State.writeQp s path off v) ↔ Agree μ σ s :=
  Agree.stack (by unfold State.writeQp; (repeat' (first | (simp; done) | split))) hμ σ

@[simp] theorem State.flumeOffer_agree (s : State) (f : Nat) (p : Nat) (bytes : List Byte) (hμ : 2199916544 ||| μ = μ) :
    Agree μ σ (State.flumeOffer s f p bytes).1 ↔ Agree μ σ s :=
  Agree.stack (by unfold State.flumeOffer; simp) hμ σ

@[simp] theorem State.mbxSend_agree (s : State) (v : Word) (hμ : 2199924736 ||| μ = μ) :
    Agree μ σ (State.mbxSend s v) ↔ Agree μ σ s :=
  Agree.stack (m := 2199924736) (by
    unfold State.mbxSend
    split
    · simp
    extract_lets len result
    have hr : ∀ t r, Agree 2199924736 s t → Agree 2199924736 s (result t r) := fun t r h => by simp [result, h]
    clear_value result
    split
    · exact hr _ _ (Agree.refl _ _)
    split
    · exact hr _ _ (Agree.refl _ _)
    split <;> rename_i e
    · exact hr _ _ (by rw [State.bump_agree _ _ _ (by decide)]; exact Agree.of_fst e (by simp))
    · exact hr _ _ (by rw [State.hbrErr_agree _ _ (by decide), State.bump_agree _ _ _ (by decide)]; exact Agree.of_fst e (by simp))) hμ σ

@[simp] theorem State.writeHbr_agree (s : State) (path : Path) (off : Nat) (v : Word) (hμ : 72531062784 ||| μ = μ) :
    Agree μ σ (State.writeHbr s path off v) ↔ Agree μ σ s :=
  Agree.stack (by unfold State.writeHbr; simp) hμ σ

@[simp] theorem State.keyErr_agree (s : State) (i : Nat) (path : Nat) (op : Nat) (result : Nat) (hμ : 35667968 ||| μ = μ) :
    Agree μ σ (State.keyErr s i path op result) ↔ Agree μ σ s :=
  Agree.stack (by unfold State.keyErr; simp) hμ σ

@[simp] theorem State.keyCommand_agree (s : State) (path : Path) (op : Nat) (run : KeyReq → State → KeyAnswer) (h : ∀ q u, Agree μ u (run q u).state) (hμ : 35667968 ||| μ = μ) :
    Agree μ σ (State.keyCommand s path op run) ↔ Agree μ σ s := by
  have key : ∀ a, a ||| 35667968 = 35667968 → a ||| μ = μ := fun a ha => by rw [← hμ, ← Nat.or_assoc, ha]
  have hr : ∀ q u, Agree μ σ (run q u).state ↔ Agree μ σ u := fun q u => (h q u).stack (Nat.or_self μ) σ
  unfold State.keyCommand
  dsimp only
  repeat' split
  all_goals simp (disch := (refine key _ ?_; decide)) [hr]

@[simp] theorem State.keyChecked_agree (s : State) (checks : List (Bool × Nat)) (run : State → KeyAnswer) (h : ∀ u, Agree μ u (run u).state) (hμ : 0 ||| μ = μ) :
    Agree μ σ (State.keyChecked s checks run).state ↔ Agree μ σ s := by
  have key : ∀ a, a ||| 0 = 0 → a ||| μ = μ := fun a ha => by rw [← hμ, ← Nat.or_assoc, ha]
  have hr : ∀ u, Agree μ σ (run u).state ↔ Agree μ σ u := fun u => (h u).stack (Nat.or_self μ) σ
  unfold State.keyChecked
  repeat' split
  all_goals simp (disch := (refine key _ ?_; decide)) [hr]

@[simp] theorem State.drawBytes_agree (s : State) (n : Nat) (hμ : 17592186044416 ||| μ = μ) :
    Agree μ σ (State.drawBytes s n).1 ↔ Agree μ σ s :=
  Agree.stack (by unfold State.drawBytes; simp) hμ σ

@[simp] theorem State.drbg_agree (s : State) (n : Nat) (hμ : 17596481011712 ||| μ = μ) :
    Agree μ σ (State.drbg s n).1 ↔ Agree μ σ s :=
  Agree.stack (by unfold State.drbg; simp) hμ σ

@[simp] theorem State.freshKey_agree (s : State) (alg : Nat) (hμ : 17596481011712 ||| μ = μ) :
    Agree μ σ (State.freshKey s alg).1 ↔ Agree μ σ s :=
  Agree.stack (by unfold State.freshKey; simp) hμ σ

@[simp] theorem State.putSlot_agree (s : State) (h : Nat) (v : KeySlot) (hμ : 4294983680 ||| μ = μ) :
    Agree μ σ (State.putSlot s h v) ↔ Agree μ σ s :=
  Agree.stack (by unfold State.putSlot; simp) hμ σ

@[simp] theorem State.fillSlot_agree (s : State) (h : Nat) (w : Word) (value : List Byte) (hμ : 4294983680 ||| μ = μ) :
    Agree μ σ (State.fillSlot s h w value) ↔ Agree μ σ s :=
  Agree.stack (by unfold State.fillSlot; simp) hμ σ

@[simp] theorem State.keyFilled_agree (s : State) (r : KeyReq) (w : Word) (value : List Byte) (hμ : 4294983680 ||| μ = μ) :
    Agree μ σ (State.keyFilled s r w value).state ↔ Agree μ σ s :=
  Agree.stack (by unfold State.keyFilled; simp) hμ σ

@[simp] theorem State.doGenerate_agree (s : State) (path : Path) (hμ : 17596516679680 ||| μ = μ) :
    Agree μ σ (State.doGenerate s path) ↔ Agree μ σ s :=
  Agree.stack (by
    unfold State.doGenerate
    refine (State.keyCommand_agree _ _ _ _ (fun q u => ?_) (by decide)).2 (Agree.refl _ _)
    (try dsimp only); (repeat' (first | (simp; done) | split))) hμ σ

@[simp] theorem State.keyUnwrapped_agree (s : State) (r : KeyReq) (w : Word) (x3 : Option (List Byte)) (hμ : 4294983680 ||| μ = μ) :
    Agree μ σ (State.keyUnwrapped s r w x3).state ↔ Agree μ σ s :=
  Agree.stack (by unfold State.keyUnwrapped; (repeat' (first | (simp; done) | split))) hμ σ

@[simp] theorem State.importKey_agree (s : State) (r : KeyReq) (w : Word) (w5649 : Bool) (hμ : 4294983680 ||| μ = μ) :
    Agree μ σ (State.importKey s r w w5649).state ↔ Agree μ σ s :=
  Agree.stack (by unfold State.importKey; simp) hμ σ

@[simp] theorem importRun_agree (w5649 : Bool) (r : KeyReq) (t : State) (hμ : 4294983680 ||| μ = μ) :
    Agree μ σ (importRun w5649 r t).state ↔ Agree μ σ t :=
  Agree.stack (by unfold importRun; simp) hμ σ

@[simp] theorem State.doImport_agree (s : State) (path : Path) (w5649 : Bool) (hμ : 4330635264 ||| μ = μ) :
    Agree μ σ (State.doImport s path w5649) ↔ Agree μ σ s :=
  Agree.stack (m := 4330635264) (by
    unfold State.doImport
    exact (State.keyCommand_agree _ _ _ _ (fun q u => (importRun_agree w5649 q u (by decide)).2 (Agree.refl _ _)) (by decide)).2 (Agree.refl _ _)) hμ σ

@[simp] theorem State.doExport_agree (s : State) (path : Path) (w5649 : Bool) (hμ : 35667968 ||| μ = μ) :
    Agree μ σ (State.doExport s path w5649) ↔ Agree μ σ s :=
  Agree.stack (by
    unfold State.doExport
    refine (State.keyCommand_agree _ _ _ _ (fun q u => ?_) (by decide)).2 (Agree.refl _ _)
    (try dsimp only); (repeat' (first | (simp; done) | split))) hμ σ

@[simp] theorem State.doDerive_agree (s : State) (path : Path) (hμ : 4330635264 ||| μ = μ) :
    Agree μ σ (State.doDerive s path) ↔ Agree μ σ s :=
  Agree.stack (by
    unfold State.doDerive
    refine (State.keyCommand_agree _ _ _ _ (fun q u => ?_) (by decide)).2 (Agree.refl _ _)
    (try dsimp only); (repeat' (first | (simp; done) | split))) hμ σ

@[simp] theorem State.doEcdh_agree (s : State) (path : Path) (hμ : 4330635264 ||| μ = μ) :
    Agree μ σ (State.doEcdh s path) ↔ Agree μ σ s :=
  Agree.stack (by
    unfold State.doEcdh
    refine (State.keyCommand_agree _ _ _ _ (fun q u => ?_) (by decide)).2 (Agree.refl _ _)
    refine (State.keyChecked_agree _ _ _ (fun v => ?_) (by decide)).2 (Agree.refl _ _)
    (try dsimp only); (repeat' (first | (simp; done) | (refine Agree.of_fst ‹_› ?_; simp; done) | split | intro _))) hμ σ

@[simp] theorem State.doPubkey_agree (s : State) (path : Path) (hμ : 35667968 ||| μ = μ) :
    Agree μ σ (State.doPubkey s path) ↔ Agree μ σ s :=
  Agree.stack (by
    unfold State.doPubkey
    refine (State.keyCommand_agree _ _ _ _ (fun q u => ?_) (by decide)).2 (Agree.refl _ _)
    (try dsimp only); (repeat' (first | (simp; done) | split))) hμ σ

@[simp] theorem State.emptySlot_agree (s : State) (h : Nat) (hμ : 4294983680 ||| μ = μ) :
    Agree μ σ (State.emptySlot s h).1 ↔ Agree μ σ s :=
  Agree.stack (by unfold State.emptySlot; simp) hμ σ

@[simp] theorem State.doErase_agree (s : State) (path : Path) (hμ : 4330635264 ||| μ = μ) :
    Agree μ σ (State.doErase s path) ↔ Agree μ σ s :=
  Agree.stack (by
    unfold State.doErase
    refine (State.keyCommand_agree _ _ _ _ (fun q u => ?_) (by decide)).2 (Agree.refl _ _)
    (try dsimp only); (repeat' (first | (simp; done) | split))) hμ σ

@[simp] theorem State.doSign_agree (s : State) (path : Path) (hμ : 17596516679680 ||| μ = μ) :
    Agree μ σ (State.doSign s path) ↔ Agree μ σ s :=
  Agree.stack (by
    unfold State.doSign
    refine (State.keyCommand_agree _ _ _ _ (fun q u => ?_) (by decide)).2 (Agree.refl _ _)
    (try dsimp only); (repeat' (first | (simp; done) | split))) hμ σ

@[simp] theorem State.nextAnswer_agree (s : State) (hμ : 16384 ||| μ = μ) :
    Agree μ σ (State.nextAnswer s) ↔ Agree μ σ s :=
  Agree.stack (by unfold State.nextAnswer; simp) hμ σ

@[simp] theorem State.doAttest_agree (s : State) (path : Path) (hμ : 35667968 ||| μ = μ) :
    Agree μ σ (State.doAttest s path) ↔ Agree μ σ s :=
  Agree.stack (by
    unfold State.doAttest
    refine (State.keyCommand_agree _ _ _ _ (fun q u => ?_) (by decide)).2 (Agree.refl _ _)
    (try dsimp only); (repeat' (first | (simp; done) | split))) hμ σ

end Sys2Proof.Machine
end

