-- ==== Sys2Proof/Laws/Agree2.lean ====
section
/-!
SUPPORT. What each operation of the machine can change, as Laws/Agree.lean says it: part 2 of 4, in the order in which the operations call
each other.
-/
namespace Sys2Proof.Machine

variable {μ : Nat} {σ : State}

@[simp] theorem State.doProvenance_agree (s : State) (path : Path) (hμ : 17596516679680 ||| μ = μ) :
    Agree μ σ (State.doProvenance s path) ↔ Agree μ σ s :=
  Agree.stack (by
    unfold State.doProvenance
    refine (State.keyCommand_agree _ _ _ _ (fun q u => ?_) (by decide)).2 (Agree.refl _ _)
    (try dsimp only); (repeat' (first | (simp; done) | split))) hμ σ

@[simp] theorem State.doRandom_agree (s : State) (path : Path) (hμ : 17596516679680 ||| μ = μ) :
    Agree μ σ (State.doRandom s path) ↔ Agree μ σ s :=
  Agree.stack (by
    unfold State.doRandom
    refine (State.keyCommand_agree _ _ _ _ (fun q u => ?_) (by decide)).2 (Agree.refl _ _)
    (try dsimp only); (repeat' (first | (simp; done) | split))) hμ σ

@[simp] theorem State.fuseError_agree (s : State) (path : Path) (op : Nat) (hμ : 35667968 ||| μ = μ) :
    Agree μ σ (State.fuseError s path op).state ↔ Agree μ σ s :=
  Agree.stack (by unfold State.fuseError; simp) hμ σ

@[simp] theorem State.doRollback_agree (s : State) (path : Path) (fuseFails : Option (Fin 65)) (hμ : 2199058923520 ||| μ = μ) :
    Agree μ σ (State.doRollback s path fuseFails) ↔ Agree μ σ s :=
  Agree.stack (by
    unfold State.doRollback
    refine (State.keyCommand_agree _ _ _ _ (fun q u => ?_) (by decide)).2 (Agree.refl _ _)
    (try dsimp only); (repeat' (first | (simp; done) | split))) hμ σ

@[simp] theorem State.flashErase_agree (s : State) (off : Nat) (n : Nat) (hμ : 4398046511104 ||| μ = μ) :
    Agree μ σ (State.flashErase s off n) ↔ Agree μ σ s :=
  Agree.stack (by unfold State.flashErase; simp) hμ σ

@[simp] theorem State.flashPut_agree (s : State) (off : Nat) (bs : List Byte) (hμ : 4398046511104 ||| μ = μ) :
    Agree μ σ (State.flashPut s off bs) ↔ Agree μ σ s :=
  Agree.stack (by unfold State.flashPut; simp) hμ σ

@[simp] theorem State.keyFlash_agree (s : State) (fault : Option FlashFault) (step : Nat) (off : Nat) (n : Nat) (bs : List Byte) (hμ : 4398046511104 ||| μ = μ) :
    Agree μ σ (State.keyFlash s fault step off n bs).1 ↔ Agree μ σ s :=
  Agree.stack (by unfold State.keyFlash; (repeat' (first | (simp; done) | split))) hμ σ

@[simp] theorem State.writeBoot_agree (s : State) (fault : Option FlashFault) (first : Nat) (active : Nat) (count : Nat) (table : List Byte) (hμ : 4398046511104 ||| μ = μ) :
    Agree μ σ (State.writeBoot s fault first active count table).1 ↔ Agree μ σ s :=
  Agree.stack (by unfold State.writeBoot; simp) hμ σ

@[simp] theorem State.doFwInstall_agree (s : State) (path : Path) (fault : Option FlashFault) (hμ : 4398082179072 ||| μ = μ) :
    Agree μ σ (State.doFwInstall s path fault) ↔ Agree μ σ s :=
  Agree.stack (by
    unfold State.doFwInstall
    refine (State.keyCommand_agree _ _ _ _ (fun q u => ?_) (by decide)).2 (Agree.refl _ _)
    (try dsimp only); (repeat' (first | (simp; done) | split))) hμ σ

@[simp] theorem State.doProvision_agree (s : State) (path : Path) (fault : Option FlashFault) (fuseFails : Bool) (hμ : 6597105434624 ||| μ = μ) :
    Agree μ σ (State.doProvision s path fault fuseFails) ↔ Agree μ σ s :=
  Agree.stack (by
    unfold State.doProvision
    refine (State.keyCommand_agree _ _ _ _ (fun q u => ?_) (by decide)).2 (Agree.refl _ _)
    (try dsimp only); (repeat' (first | (simp; done) | split))) hμ σ

@[simp] theorem State.doRevoke_agree (s : State) (path : Path) (fuseFails : Bool) (hμ : 2199058923520 ||| μ = μ) :
    Agree μ σ (State.doRevoke s path fuseFails) ↔ Agree μ σ s :=
  Agree.stack (by
    unfold State.doRevoke
    refine (State.keyCommand_agree _ _ _ _ (fun q u => ?_) (by decide)).2 (Agree.refl _ _)
    (try dsimp only); (repeat' (first | (simp; done) | split))) hμ σ

@[simp] theorem State.keyCmd_agree (s : State) (path : Path) (v : Word) (hμ : 24193586446336 ||| μ = μ) :
    Agree μ σ (State.keyCmd s path v) ↔ Agree μ σ s :=
  Agree.stack (by unfold State.keyCmd; (repeat' (first | (simp; done) | split))) hμ σ

@[simp] theorem State.writeKey_agree (s : State) (path : Path) (off : Nat) (v : Word) (hμ : 24193586446336 ||| μ = μ) :
    Agree μ σ (State.writeKey s path off v) ↔ Agree μ σ s :=
  Agree.stack (by unfold State.writeKey; simp) hμ σ

@[simp] theorem State.ringSend_agree (s : State) (r : Nat) (op : RingOp) (hμ : 17729624997888 ||| μ = μ) :
    Agree μ σ (State.ringSend s r op) ↔ Agree μ σ s :=
  Agree.stack (by unfold State.ringSend; (repeat' (first | (simp; done) | split))) hμ σ

@[simp] theorem State.ringAlive_agree (s : State) (r : Nat) (hμ : 17731808198656 ||| μ = μ) :
    Agree μ σ (State.ringAlive s r) ↔ Agree μ σ s :=
  Agree.stack (by unfold State.ringAlive; simp) hμ σ

@[simp] theorem State.ringRequest_agree (s : State) (r : Nat) (hμ : 17731808198656 ||| μ = μ) :
    Agree μ σ (State.ringRequest s r) ↔ Agree μ σ s :=
  Agree.stack (by unfold State.ringRequest; (repeat' (first | (simp; done) | split))) hμ σ

@[simp] theorem State.setSleepReq_agree (s : State) (v : Bool) (hμ : 17731808198656 ||| μ = μ) :
    Agree μ σ (State.setSleepReq s v) ↔ Agree μ σ s :=
  Agree.stack (by unfold State.setSleepReq; simp) hμ σ

@[simp] theorem State.sleepCmd_agree (s : State) (hμ : 17731808198656 ||| μ = μ) :
    Agree μ σ (State.sleepCmd s) ↔ Agree μ σ s :=
  Agree.stack (by unfold State.sleepCmd; simp) hμ σ

@[simp] theorem State.setIsland_agree (s : State) (k : IslKind) (hμ : 137474605056 ||| μ = μ) :
    Agree μ σ (State.setIsland s k) ↔ Agree μ σ s :=
  Agree.stack (by unfold State.setIsland; simp) hμ σ

@[simp] theorem State.ringStart_agree (s : State) (r : Nat) (hμ : 17731808198656 ||| μ = μ) :
    Agree μ σ (State.ringStart s r) ↔ Agree μ σ s :=
  Agree.stack (by unfold State.ringStart; simp) hμ σ

@[simp] theorem State.putFeed_agree (s : State) (f : Nat) (v : Feed) (hμ : 137438953472 ||| μ = μ) :
    Agree μ σ (State.putFeed s f v) ↔ Agree μ σ s :=
  Agree.stack (by unfold State.putFeed; simp) hμ σ

@[simp] theorem State.feedTo_agree (s : State) (f : Nat) (k : FeedKind) (hμ : 137475129344 ||| μ = μ) :
    Agree μ σ (State.feedTo s f k) ↔ Agree μ σ s :=
  Agree.stack (by unfold State.feedTo; (repeat' (first | (simp; done) | split))) hμ σ

@[simp] theorem State.enterRun_agree (s : State) (hμ : 17731808722944 ||| μ = μ) :
    Agree μ σ (State.enterRun s) ↔ Agree μ σ s :=
  Agree.stack (by unfold State.enterRun; simp) hμ σ

@[simp] theorem State.lmpBump_agree (s : State) (k : Nat) (hμ : 35684352 ||| μ = μ) :
    Agree μ σ (State.lmpBump s k) ↔ Agree μ σ s :=
  Agree.stack (by unfold State.lmpBump; simp) hμ σ

@[simp] theorem State.cancelCmd_agree (s : State) (hμ : 17731808755712 ||| μ = μ) :
    Agree μ σ (State.cancelCmd s) ↔ Agree μ σ s :=
  Agree.stack (by unfold State.cancelCmd; simp) hμ σ

@[simp] theorem State.setFalseWakes_agree (s : State) (x : WakeSource) (n : Nat) (hμ : 32768 ||| μ = μ) :
    Agree μ σ (State.setFalseWakes s x n) ↔ Agree μ σ s :=
  Agree.stack (by unfold State.setFalseWakes; simp) hμ σ

@[simp] theorem State.closeWindow_agree (s : State) (x : WakeSource) (hμ : 137438953472 ||| μ = μ) :
    Agree μ σ (State.closeWindow s x) ↔ Agree μ σ s :=
  Agree.stack (by unfold State.closeWindow; simp) hμ σ

@[simp] theorem State.confirmWake_agree (s : State) (x : WakeSource) (hμ : 137438986240 ||| μ = μ) :
    Agree μ σ (State.confirmWake s x) ↔ Agree μ σ s :=
  Agree.stack (by unfold State.confirmWake; simp) hμ σ

@[simp] theorem State.confirmPins_agree (s : State) (hμ : 137438986240 ||| μ = μ) :
    Agree μ σ (State.confirmPins s) ↔ Agree μ σ s :=
  Agree.stack (by unfold State.confirmPins; simp) hμ σ

@[simp] theorem State.setDisarmed_agree (s : State) (x : WakeSource) (v : Bool) (hμ : 32768 ||| μ = μ) :
    Agree μ σ (State.setDisarmed s x v) ↔ Agree μ σ s :=
  Agree.stack (by unfold State.setDisarmed; simp) hμ σ

@[simp] theorem State.rearmAll_agree (s : State) (cause : Nat) (hμ : 35684352 ||| μ = μ) :
    Agree μ σ (State.rearmAll s cause) ↔ Agree μ σ s :=
  Agree.stack (by unfold State.rearmAll; simp) hμ σ

@[simp] theorem State.rearmCmd_agree (s : State) (hμ : 35684352 ||| μ = μ) :
    Agree μ σ (State.rearmCmd s) ↔ Agree μ σ s :=
  Agree.stack (by unfold State.rearmCmd; simp) hμ σ

@[simp] theorem State.latchCmd_agree (s : State) (path : Path) (hμ : 32768 ||| μ = μ) :
    Agree μ σ (State.latchCmd s path) ↔ Agree μ σ s :=
  Agree.stack (by unfold State.latchCmd; simp) hμ σ

@[simp] theorem State.writeLmp_agree (s : State) (path : Path) (off : Nat) (v : Word) (hμ : 17731809804288 ||| μ = μ) :
    Agree μ σ (State.writeLmp s path off v) ↔ Agree μ σ s :=
  Agree.stack (by unfold State.writeLmp; (repeat' (first | (simp; done) | split))) hμ σ

@[simp] theorem State.tdmResult_agree (s : State) (r : Nat) (hμ : 65536 ||| μ = μ) :
    Agree μ σ (State.tdmResult s r) ↔ Agree μ σ s :=
  Agree.stack (by unfold State.tdmResult; simp) hμ σ

@[simp] theorem State.tdmCommand_agree (s : State) (allowed : Bool) (f : State → State) (h : ∀ u, Agree μ u (f u)) (hμ : 65536 ||| μ = μ) :
    Agree μ σ (State.tdmCommand s allowed f) ↔ Agree μ σ s := by
  have key : ∀ a, a ||| 65536 = 65536 → a ||| μ = μ := fun a ha => by rw [← hμ, ← Nat.or_assoc, ha]
  have hr : ∀ u, Agree μ σ (f u) ↔ Agree μ σ u := fun u => (h u).stack (Nat.or_self μ) σ
  unfold State.tdmCommand
  repeat' split
  all_goals simp (disch := (refine key _ ?_; decide)) [hr]

@[simp] theorem State.setGenSeq_agree (s : State) (k : Nat) (v : Nat) (hμ : 2415919104 ||| μ = μ) :
    Agree μ σ (State.setGenSeq s k v) ↔ Agree μ σ s :=
  Agree.stack (by unfold State.setGenSeq; intro p hp; cases p <;> (try (rename_i b; cases b)) <;> first | rfl | exact absurd hp (by decide)) hμ σ

@[simp] theorem State.setRecovery_agree (s : State) (k : Nat) (r : Recovery) (hμ : 2281701376 ||| μ = μ) :
    Agree μ σ (State.setRecovery s k r) ↔ Agree μ σ s :=
  Agree.stack (by unfold State.setRecovery; intro p hp; cases p <;> (try (rename_i b; cases b)) <;> first | rfl | exact absurd hp (by decide)) hμ σ

@[simp] theorem State.dropMirror_agree (s : State) (hμ : 2415919104 ||| μ = μ) :
    Agree μ σ (State.dropMirror s) ↔ Agree μ σ s :=
  Agree.stack (by unfold State.dropMirror; simp) hμ σ

@[simp] theorem State.dropOwnMirrored_agree (s : State) (hμ : 11140071424 ||| μ = μ) :
    Agree μ σ (State.dropOwnMirrored s) ↔ Agree μ σ s :=
  Agree.stack (by unfold State.dropOwnMirrored; simp) hμ σ

@[simp] theorem State.toStandby_agree (s : State) (p : Nat) (hμ : 1713373192 ||| μ = μ) :
    Agree μ σ (State.toStandby s p) ↔ Agree μ σ s :=
  Agree.stack (by unfold State.toStandby; simp) hμ σ

@[simp] theorem State.dropPending_agree (s : State) (n : Nat) (cause : Nat) (hμ : 154654474752 ||| μ = μ) :
    Agree μ σ (State.dropPending s n cause) ↔ Agree μ σ s :=
  Agree.stack (by unfold State.dropPending; simp) hμ σ

@[simp] theorem State.canToStandby_agree (s : State) (n : Nat) (hμ : 156802023936 ||| μ = μ) :
    Agree μ σ (State.canToStandby s n) ↔ Agree μ σ s :=
  Agree.stack (by unfold State.canToStandby; (repeat' (first | (simp; done) | split))) hμ σ

@[simp] theorem State.setMvbKind_agree (s : State) (n : Nat) (new : MvbKind) (hμ : 34395389952 ||| μ = μ) :
    Agree μ σ (State.setMvbKind s n new) ↔ Agree μ σ s :=
  Agree.stack (by unfold State.setMvbKind; simp) hμ σ

@[simp] theorem State.mvbToStandby_agree (s : State) (n : Nat) (hμ : 34395389952 ||| μ = μ) :
    Agree μ σ (State.mvbToStandby s n) ↔ Agree μ σ s :=
  Agree.stack (by unfold State.mvbToStandby; (repeat' (first | (simp; done) | split))) hμ σ

@[simp] theorem State.ringToStandby_agree (s : State) (r : Nat) (hμ : 139622154240 ||| μ = μ) :
    Agree μ σ (State.ringToStandby s r) ↔ Agree μ σ s :=
  Agree.stack (by unfold State.ringToStandby; simp) hμ σ

@[simp] theorem State.becomeStandby_agree (s : State) (hμ : 192847872524 ||| μ = μ) :
    Agree μ σ (State.becomeStandby s) ↔ Agree μ σ s :=
  Agree.stack (by unfold State.becomeStandby; simp) hμ σ

@[simp] theorem State.setTdm_agree (s : State) (k : TdmKind) (hμ : 2183135232 ||| μ = μ) :
    Agree μ σ (State.setTdm s k) ↔ Agree μ σ s :=
  Agree.stack (by unfold State.setTdm; simp) hμ σ

@[simp] theorem State.switchOver_agree (s : State) (hμ : 201840460300 ||| μ = μ) :
    Agree μ σ (State.switchOver s) ↔ Agree μ σ s :=
  Agree.stack (by unfold State.switchOver; simp) hμ σ

@[simp] theorem State.queueBulk_agree (s : State) (type : Nat) (body : List Byte) (hμ : 2147483648 ||| μ = μ) :
    Agree μ σ (State.queueBulk s type body) ↔ Agree μ σ s :=
  Agree.stack (by unfold State.queueBulk; simp) hμ σ

@[simp] theorem State.sendBulk_agree (s : State) (hμ : 2147483648 ||| μ = μ) :
    Agree μ σ (State.sendBulk s) ↔ Agree μ σ s :=
  Agree.stack (by unfold State.sendBulk; simp) hμ σ

@[simp] theorem State.sendResyncReq_agree (s : State) (hμ : 2183200768 ||| μ = μ) :
    Agree μ σ (State.sendResyncReq s) ↔ Agree μ σ s :=
  Agree.stack (by unfold State.sendResyncReq; simp) hμ σ

@[simp] theorem State.lostSequence_agree (s : State) (hμ : 2451636224 ||| μ = μ) :
    Agree μ σ (State.lostSequence s) ↔ Agree μ σ s :=
  Agree.stack (by unfold State.lostSequence; simp) hμ σ

@[simp] theorem State.resumeMirror_agree (s : State) (hμ : 2451636224 ||| μ = μ) :
    Agree μ σ (State.resumeMirror s) ↔ Agree μ σ s :=
  Agree.stack (by unfold State.resumeMirror; simp) hμ σ

@[simp] theorem State.drawPairId_agree (s : State) (hμ : 17596481077248 ||| μ = μ) :
    Agree μ σ (State.drawPairId s) ↔ Agree μ σ s :=
  Agree.stack (by unfold State.drawPairId; simp) hμ σ

@[simp] theorem State.endPairing_agree (s : State) (cause : Nat) (hμ : 17598664212480 ||| μ = μ) :
    Agree μ σ (State.endPairing s cause) ↔ Agree μ σ s :=
  Agree.stack (by unfold State.endPairing; simp) hμ σ

@[simp] theorem State.enterFaulty_agree (s : State) (detail : Nat) (cause : Nat) (hμ : 17789328884236 ||| μ = μ) :
    Agree μ σ (State.enterFaulty s detail cause) ↔ Agree μ σ s :=
  Agree.stack (by unfold State.enterFaulty; simp) hμ σ

@[simp] theorem State.retire_agree (s : State) (hμ : 17789328884236 ||| μ = μ) :
    Agree μ σ (State.retire s) ↔ Agree μ σ s :=
  Agree.stack (by unfold State.retire; simp) hμ σ

@[simp] theorem State.enterWait_agree (s : State) (hμ : 192847872524 ||| μ = μ) :
    Agree μ σ (State.enterWait s) ↔ Agree μ σ s :=
  Agree.stack (by unfold State.enterWait; simp) hμ σ

@[simp] theorem State.rejoin_agree (s : State) (hμ : 17789328884236 ||| μ = μ) :
    Agree μ σ (State.rejoin s) ↔ Agree μ σ s :=
  Agree.stack (by unfold State.rejoin; simp) hμ σ

@[simp] theorem State.writeTdm_agree (s : State) (path : Path) (off : Nat) (v : Word) (hμ : 17798321472012 ||| μ = μ) :
    Agree μ σ (State.writeTdm s path off v) ↔ Agree μ σ s :=
  Agree.stack (by unfold State.writeTdm; (repeat' (first | (simp; done) | split))) hμ σ

@[simp] theorem State.beginPortWorks_agree (s : State) (p : Nat) (hμ : 4271964204 ||| μ = μ) :
    Agree μ σ (State.beginPortWorks s p) ↔ Agree μ σ s :=
  Agree.stack (by unfold State.beginPortWorks; simp) hμ σ

@[simp] theorem State.beginCanWorks_agree (s : State) (n : Nat) (hμ : 156802023936 ||| μ = μ) :
    Agree μ σ (State.beginCanWorks s n) ↔ Agree μ σ s :=
  Agree.stack (by unfold State.beginCanWorks; simp) hμ σ

@[simp] theorem State.setLane_agree (s : State) (l : Nat) (v : Lane) (hμ : 536870912 ||| μ = μ) :
    Agree μ σ (State.setLane s l v) ↔ Agree μ σ s :=
  Agree.stack (by unfold State.setLane; simp) hμ σ

@[simp] theorem State.cisErr_agree (s : State) (i : Nat) (hμ : 128 ||| μ = μ) :
    Agree μ σ (State.cisErr s i) ↔ Agree μ σ s :=
  Agree.stack (by unfold State.cisErr; simp) hμ σ

@[simp] theorem State.setBank_agree (s : State) (b : Nat) (v : Bank) (hμ : 1073741824 ||| μ = μ) :
    Agree μ σ (State.setBank s b v) ↔ Agree μ σ s :=
  Agree.stack (by unfold State.setBank; simp) hμ σ

@[simp] theorem State.replaceCells_agree (s : State) (hμ : 1073741824 ||| μ = μ) :
    Agree μ σ (State.replaceCells s) ↔ Agree μ σ s :=
  Agree.stack (by
    unfold State.replaceCells
    repeat' (first | (simp; done) | split | (refine Agree.of_fst ‹_› ?_; simp; done) | simp | (refine (Agree.foldl _ (fun _ _ => ?_)).2 ?_) | intro _)) hμ σ

@[simp] theorem State.beginRetire_agree (s : State) (b : Nat) (trigger : Nat) (hμ : 1109393536 ||| μ = μ) :
    Agree μ σ (State.beginRetire s b trigger) ↔ Agree μ σ s :=
  Agree.stack (by unfold State.beginRetire; simp) hμ σ

@[simp] theorem State.takeOut_agree (s : State) (kind : Nat) (index : Nat) (hμ : 158890787500 ||| μ = μ) :
    Agree μ σ (State.takeOut s kind index) ↔ Agree μ σ s :=
  Agree.stack (by unfold State.takeOut; (repeat' (first | (simp; done) | split))) hμ σ

@[simp] theorem State.rwBegin_agree (s : State) (hμ : 1258402677420 ||| μ = μ) :
    Agree μ σ (State.rwBegin s) ↔ Agree μ σ s :=
  Agree.stack (by unfold State.rwBegin; simp) hμ σ

@[simp] theorem State.setRw_agree (s : State) (k : RwKind) (hμ : 1099511627776 ||| μ = μ) :
    Agree μ σ (State.setRw s k) ↔ Agree μ σ s :=
  Agree.stack (by unfold State.setRw; simp) hμ σ

@[simp] theorem State.rwLetGo_agree (s : State) (hμ : 1099511627776 ||| μ = μ) :
    Agree μ σ (State.rwLetGo s) ↔ Agree μ σ s :=
  Agree.stack (by unfold State.rwLetGo; simp) hμ σ

@[simp] theorem State.rwCmd_agree (s : State) (v : Word) (hμ : 1258402677420 ||| μ = μ) :
    Agree μ σ (State.rwCmd s v) ↔ Agree μ σ s :=
  Agree.stack (by unfold State.rwCmd; (repeat' (first | (simp; done) | split))) hμ σ

@[simp] theorem State.startWdt_agree (s : State) (hμ : 1099511627776 ||| μ = μ) :
    Agree μ σ (State.startWdt s) ↔ Agree μ σ s :=
  Agree.stack (by unfold State.startWdt; simp) hμ σ

@[simp] theorem State.mgtErr_agree (s : State) (i : Nat) (hμ : 35913728 ||| μ = μ) :
    Agree μ σ (State.mgtErr s i) ↔ Agree μ σ s :=
  Agree.stack (by unfold State.mgtErr; simp) hμ σ

@[simp] theorem State.wdtKicked_agree (s : State) (path : Path) (v : Word) (hμ : 1099547541504 ||| μ = μ) :
    Agree μ σ (State.wdtKicked s path v) ↔ Agree μ σ s :=
  Agree.stack (by unfold State.wdtKicked; simp) hμ σ

@[simp] theorem State.holdTimers_agree (s : State) (hμ : 1099511627776 ||| μ = μ) :
    Agree μ σ (State.holdTimers s) ↔ Agree μ σ s := by
  unfold State.holdTimers
  have h : ∀ l : List Nat, Agree μ σ (l.foldl (fun (t : State) l =>
    match t.lease l with
    | none => t
    | some a => t.setLease l (some { a with timer := a.timer.still t.nowNs (t.leaseFrozen a.holder) })) s) ↔ Agree μ σ s := fun l => by
    refine Agree.foldl l (fun u a => ?_)
    split <;> simp [hμ]
  dsimp only
  split
  · rw [Agree.put_mgt hμ]; exact h _
  · exact h _

@[simp] theorem State.dbgCtlWrite_agree (s : State) (path : Path) (v : Word) (hμ : 1099511889920 ||| μ = μ) :
    Agree μ σ (State.dbgCtlWrite s path v) ↔ Agree μ σ s :=
  Agree.stack (by unfold State.dbgCtlWrite; simp) hμ σ

@[simp] theorem State.snapBuffer_agree (s : State) (b : Nat) (hμ : 262144 ||| μ = μ) :
    Agree μ σ (State.snapBuffer s b) ↔ Agree μ σ s :=
  Agree.stack (by unfold State.snapBuffer; (repeat' (first | (simp; done) | split))) hμ σ

@[simp] theorem State.snapTake_agree (s : State) (mask : Nat) (hμ : 35913728 ||| μ = μ) :
    Agree μ σ (State.snapTake s mask) ↔ Agree μ σ s :=
  Agree.stack (by unfold State.snapTake; simp) hμ σ

@[simp] theorem State.leaseResult_agree (s : State) (path : Path) (r : Nat) (hμ : 262144 ||| μ = μ) :
    Agree μ σ (State.leaseResult s path r) ↔ Agree μ σ s :=
  Agree.stack (by unfold State.leaseResult; simp) hμ σ

@[simp] theorem State.holdLease_agree (s : State) (path : Path) (l : Nat) (ms : Nat) (hμ : 1099511889920 ||| μ = μ) :
    Agree μ σ (State.holdLease s path l ms) ↔ Agree μ σ s :=
  Agree.stack (by unfold State.holdLease; simp) hμ σ

@[simp] theorem State.leaseCommand_agree (s : State) (path : Path) (l : Nat) (op : Nat) (ms : Nat) (hμ : 1099815976960 ||| μ = μ) :
    Agree μ σ (State.leaseCommand s path l op ms) ↔ Agree μ σ s :=
  Agree.stack (by unfold State.leaseCommand; (repeat' (first | (simp; done) | split))) hμ σ

@[simp] theorem State.writeMgt_agree (s : State) (path : Path) (off : Nat) (v : Word) (hμ : 1258402677420 ||| μ = μ) :
    Agree μ σ (State.writeMgt s path off v) ↔ Agree μ σ s :=
  Agree.stack (by unfold State.writeMgt; (repeat' (first | (simp; done) | split))) hμ σ

@[simp] theorem State.feedOn_agree (s : State) (f : Nat) (hμ : 137475129344 ||| μ = μ) :
    Agree μ σ (State.feedOn s f) ↔ Agree μ σ s :=
  Agree.stack (by unfold State.feedOn; simp) hμ σ

@[simp] theorem State.feedDown_agree (s : State) (f : Nat) (hμ : 137475129344 ||| μ = μ) :
    Agree μ σ (State.feedDown s f) ↔ Agree μ σ s :=
  Agree.stack (by unfold State.feedDown; (repeat' (first | (simp; done) | split))) hμ σ

@[simp] theorem State.feedOff_agree (s : State) (f : Nat) (hμ : 137475129344 ||| μ = μ) :
    Agree μ σ (State.feedOff s f) ↔ Agree μ σ s :=
  Agree.stack (by unfold State.feedOff; simp) hμ σ

@[simp] theorem State.feedClear_agree (s : State) (f : Nat) (hμ : 137475129344 ||| μ = μ) :
    Agree μ σ (State.feedClear s f) ↔ Agree μ σ s :=
  Agree.stack (by unfold State.feedClear; simp) hμ σ

@[simp] theorem State.feedCmd_agree (s : State) (f : Nat) (v : Word) (hμ : 137475129344 ||| μ = μ) :
    Agree μ σ (State.feedCmd s f v) ↔ Agree μ σ s :=
  Agree.stack (by unfold State.feedCmd; (repeat' (first | (simp; done) | split))) hμ σ

@[simp] theorem State.gpioWrite_agree (s : State) (high : Bool) (v : Word) (hμ : 524288 ||| μ = μ) :
    Agree μ σ (State.gpioWrite s high v) ↔ Agree μ σ s :=
  Agree.stack (by unfold State.gpioWrite; simp) hμ σ

@[simp] theorem State.gpioSet_agree (s : State) (high : Bool) (v : Word) (hμ : 524288 ||| μ = μ) :
    Agree μ σ (State.gpioSet s high v) ↔ Agree μ σ s :=
  Agree.stack (by unfold State.gpioSet; simp) hμ σ

@[simp] theorem State.gpioClr_agree (s : State) (high : Bool) (v : Word) (hμ : 524288 ||| μ = μ) :
    Agree μ σ (State.gpioClr s high v) ↔ Agree μ σ s :=
  Agree.stack (by unfold State.gpioClr; simp) hμ σ

@[simp] theorem State.writePin_agree (s : State) (path : Path) (off : Nat) (v : Word) (hμ : 137475129344 ||| μ = μ) :
    Agree μ σ (State.writePin s path off v) ↔ Agree μ σ s :=
  Agree.stack (by unfold State.writePin; (repeat' (first | (simp; done) | split))) hμ σ

@[simp] theorem State.selectAcct_agree (s : State) (p : Path) (v : Word) (hμ : 128 ||| μ = μ) :
    Agree μ σ (State.selectAcct s p v) ↔ Agree μ σ s :=
  Agree.stack (by unfold State.selectAcct; simp) hμ σ

@[simp] theorem State.blockWrite_agree (s : State) (path : Path) (b : Block) (off : Nat) (v : Word) (hμ : 35184372088831 ||| μ = μ) :
    Agree μ σ (State.blockWrite s path b off v) ↔ Agree μ σ s :=
  Agree.stack (by unfold State.blockWrite; (repeat' (first | (simp; done) | split))) hμ σ

@[simp] theorem State.aliasWritten_agree (s : State) (path : Path) (addr : Nat) (hμ : 35913728 ||| μ = μ) :
    Agree μ σ (State.aliasWritten s path addr) ↔ Agree μ σ s :=
  Agree.stack (by unfold State.aliasWritten; simp) hμ σ

@[simp] theorem State.accessWrite_agree (s : State) (path : Path) (addr : Nat) (v : Word) (hμ : 35184372088831 ||| μ = μ) :
    Agree μ σ (State.accessWrite s path addr v) ↔ Agree μ σ s :=
  Agree.stack (by unfold State.accessWrite; (repeat' (first | (simp; done) | split))) hμ σ

@[simp] theorem State.badAccess_agree (s : State) (path : Path) (addr : Nat) (write : Bool) (hμ : 36962304 ||| μ = μ) :
    Agree μ σ (State.badAccess s path addr write) ↔ Agree μ σ s :=
  Agree.stack (by unfold State.badAccess; simp) hμ σ

@[simp] theorem State.windowWrite_agree (s : State) (w : Nat) (off : Nat) (run : State → Nat → State) (h : ∀ u n, Agree μ u (run u n)) (hμ : 35659776 ||| μ = μ) :
    Agree μ σ (State.windowWrite s w off run) ↔ Agree μ σ s := by
  have key : ∀ a, a ||| 35659776 = 35659776 → a ||| μ = μ := fun a ha => by rw [← hμ, ← Nat.or_assoc, ha]
  have hr : ∀ u n, Agree μ σ (run u n) ↔ Agree μ σ u := fun u n => (h u n).stack (Nat.or_self μ) σ
  unfold State.windowWrite
  repeat' split
  all_goals simp (disch := (refine key _ ?_; decide)) [hr]

@[simp] theorem State.postWrite_agree (s : State) (via : HostVia) (v : Word) (hμ : 35184372088831 ||| μ = μ) :
    Agree μ σ (State.postWrite s via v) ↔ Agree μ σ s :=
  Agree.stack (by unfold State.postWrite; (repeat' (first | (simp; done) | split))) hμ σ

@[simp] theorem State.forwardAck_agree (s : State) (x : AckWrite) (hμ : 68755136512 ||| μ = μ) :
    Agree μ σ (State.forwardAck s x) ↔ Agree μ σ s :=
  Agree.stack (by unfold State.forwardAck; simp) hμ σ

@[simp] theorem State.ackWrite_agree (s : State) (w : Nat) (off : Nat) (v : Word) (hμ : 68755136512 ||| μ = μ) :
    Agree μ σ (State.ackWrite s w off v) ↔ Agree μ σ s :=
  Agree.stack (by unfold State.ackWrite; simp) hμ σ

@[simp] theorem State.windowRead_agree (s : State) (w off : Nat) (hμ : 68756709376 ||| μ = μ) :
    Agree μ σ (State.windowRead s w off) ↔ Agree μ σ s :=
  Agree.stack (by unfold State.windowRead; (repeat' (first | (simp; done) | split))) hμ σ

@[simp] theorem State.releaseHeld_agree (s : State) (hμ : 68756709376 ||| μ = μ) :
    Agree μ σ (State.releaseHeld s) ↔ Agree μ σ s :=
  Agree.stack (by
    unfold State.releaseHeld
    dsimp only
    split
    · exact (Agree.foldl _ (fun _ _ => by simp)).2 (by simp)
    · simp only [State.forwardAck_agree, Nat.reduceOr]
      simp) hμ σ

@[simp] theorem State.ackLast_agree (s : State) (addr : Nat) (hμ : 8192 ||| μ = μ) :
    Agree μ σ (State.ackLast s addr) ↔ Agree μ σ s :=
  Agree.stack (by unfold State.ackLast; simp) hμ σ

@[simp] theorem State.ackDone_agree (s : State) (hμ : 35184372088831 ||| μ = μ) :
    Agree μ σ (State.ackDone s) ↔ Agree μ σ s :=
  Agree.stack (by unfold State.ackDone; (repeat' (first | (simp; done) | split))) hμ σ

@[simp] theorem State.ackTimedOut_agree (s : State) (hμ : 68756709376 ||| μ = μ) :
    Agree μ σ (State.ackTimedOut s) ↔ Agree μ σ s :=
  Agree.stack (by unfold State.ackTimedOut; (repeat' (first | (simp; done) | split))) hμ σ

@[simp] theorem State.ackTooLong_agree (s : State) (hμ : 35184372088831 ||| μ = μ) :
    Agree μ σ (State.ackTooLong s) ↔ Agree μ σ s :=
  Agree.stack (by unfold State.ackTooLong; (repeat' (first | (simp; done) | split))) hμ σ

@[simp] theorem State.debugAccess_agree (s : State) (write : Bool) (addr : Nat) (v : Word) (hμ : 35184372088831 ||| μ = μ) :
    Agree μ σ (State.debugAccess s write addr v) ↔ Agree μ σ s :=
  Agree.stack (by unfold State.debugAccess; simp) hμ σ

@[simp] theorem State.setHold_agree (s : State) (f : Nat) (e : Nat) (r : Option EventRec) (hμ : 33554432 ||| μ = μ) :
    Agree μ σ (State.setHold s f e r) ↔ Agree μ σ s :=
  Agree.stack (by unfold State.setHold; simp) hμ σ

@[simp] theorem State.offerRecord_agree (s : State) (f : Nat) (r : EventRec) (hμ : 2200047616 ||| μ = μ) :
    Agree μ σ (State.offerRecord s f r) ↔ Agree μ σ s :=
  Agree.stack (by unfold State.offerRecord; simp) hμ σ

@[simp] theorem State.gwyErr_agree (s : State) (i : Nat) (hμ : 35653632 ||| μ = μ) :
    Agree μ σ (State.gwyErr s i) ↔ Agree μ σ s :=
  Agree.stack (by unfold State.gwyErr; simp) hμ σ

@[simp] theorem State.gwyDrop_agree (s : State) (off : Nat) (hμ : 35653632 ||| μ = μ) :
    Agree μ σ (State.gwyDrop s off) ↔ Agree μ σ s :=
  Agree.stack (by unfold State.gwyDrop; simp) hμ σ

@[simp] theorem State.setCulSeq_agree (s : State) (rule : Nat) (v : CulSeq) (hμ : 8589934592 ||| μ = μ) :
    Agree μ σ (State.setCulSeq s rule v) ↔ Agree μ σ s :=
  Agree.stack (by unfold State.setCulSeq; simp) hμ σ

@[simp] theorem State.gwyFrame_agree (s : State) (source : Nat) (epoch : Nat) (district : Nat) (cls : Nat) (bytes : List Byte) (hμ : 1075838976 ||| μ = μ) :
    Agree μ σ (State.gwyFrame s source epoch district cls bytes).1 ↔ Agree μ σ s :=
  Agree.stack (by unfold State.gwyFrame; simp) hμ σ

@[simp] theorem State.roadworksDrop_agree (s : State) (f : Frame) (hμ : 35651608 ||| μ = μ) :
    Agree μ σ (State.roadworksDrop s f) ↔ Agree μ σ s :=
  Agree.stack (by
    unfold State.roadworksDrop
    repeat' (first | (simp; done) | split | (refine Agree.of_fst ‹_› ?_; simp; done) | simp | (refine (Agree.foldl _ (fun _ _ => ?_)).2 ?_) | intro _)) hμ σ

@[simp] theorem State.toClassify_agree (s : State) (f : Frame) (hμ : 169869336 ||| μ = μ) :
    Agree μ σ (State.toClassify s f) ↔ Agree μ σ s :=
  Agree.stack (by unfold State.toClassify; simp) hμ σ

@[simp] theorem State.enter_agree (s : State) (f : Frame) (hμ : 169869400 ||| μ = μ) :
    Agree μ σ (State.enter s f) ↔ Agree μ σ s :=
  Agree.stack (by
    unfold State.enter
    repeat' (first | (simp; done) | split | (refine Agree.of_fst ‹_› ?_; simp; done) | simp | (refine (Agree.foldl _ (fun _ _ => ?_)).2 ?_) | intro _)) hμ σ

@[simp] theorem State.culvertWrap_agree (s : State) (epoch : Nat) (rule : Nat) (kind : Nat) (verified : Bool) (disc : Bool) (source : Nat) (stamp : Nat) (foreign : List Byte) (hμ : 9833547864 ||| μ = μ) :
    Agree μ σ (State.culvertWrap s epoch rule kind verified disc source stamp foreign) ↔ Agree μ σ s :=
  Agree.stack (by
    unfold State.culvertWrap
    repeat' (first | (simp; done) | split | (refine Agree.of_fst ‹_› ?_; simp; done) | simp | (refine (Agree.foldl _ (fun _ _ => ?_)).2 ?_) | intro _)) hμ σ

@[simp] theorem State.wrapRecord_agree (s : State) (rule : Nat) (r : EventRec) (hμ : 9833678936 ||| μ = μ) :
    Agree μ σ (State.wrapRecord s rule r) ↔ Agree μ σ s :=
  Agree.stack (by unfold State.wrapRecord; simp) hμ σ

@[simp] theorem State.deliver_agree (s : State) (r : EventRec) (hμ : 11997943896 ||| μ = μ) :
    Agree μ σ (State.deliver s r) ↔ Agree μ σ s :=
  Agree.stack (by
    unfold State.deliver
    repeat' (first | (simp; done) | split | (refine Agree.of_fst ‹_› ?_; simp; done) | simp | (refine (Agree.foldl _ (fun _ _ => ?_)).2 ?_) | intro _)) hμ σ

@[simp] theorem State.deliverAll_agree (s : State) (n : Nat) (hμ : 11997943896 ||| μ = μ) :
    Agree μ σ (State.deliverAll s n) ↔ Agree μ σ s := by
  refine Agree.stack (m := 11997943896) ?_ hμ σ
  clear hμ
  induction n generalizing s with
  | zero => exact Agree.refl _ _
  | succ n ih =>
    unfold State.deliverAll
    split
    · simp
    · exact Agree.trans (by simp) (ih _)

@[simp] theorem State.chargeTandem_agree (s : State) (n : Nat) (hμ : 2147483648 ||| μ = μ) :
    Agree μ σ (State.chargeTandem s n) ↔ Agree μ σ s :=
  Agree.stack (by unfold State.chargeTandem; simp) hμ σ

@[simp] theorem State.sentMirror_agree (s : State) (r : TdmRecord) (hμ : 2147483648 ||| μ = μ) :
    Agree μ σ (State.sentMirror s r) ↔ Agree μ σ s :=
  Agree.stack (by unfold State.sentMirror; simp) hμ σ

@[simp] theorem State.takeTandem_agree (s : State) (r : TdmRecord) (hμ : 2147483648 ||| μ = μ) :
    Agree μ σ (State.takeTandem s r) ↔ Agree μ σ s :=
  Agree.stack (by unfold State.takeTandem; simp) hμ σ

@[simp] theorem State.keyFault_agree (s : State) (p : Nat) (dir : Nat) (sc : Nat) (an : Nat) (sa : Nat) (hμ : 102760448 ||| μ = μ) :
    Agree μ σ (State.keyFault s p dir sc an sa) ↔ Agree μ σ s :=
  Agree.stack (by unfold State.keyFault; simp) hμ σ

@[simp] theorem State.protect_agree (s : State) (p : Nat) (bs : List Byte) (hμ : 102760456 ||| μ = μ) :
    Agree μ σ (State.protect s p bs).1 ↔ Agree μ σ s :=
  Agree.stack (by
    unfold State.protect
    repeat' (first | (simp; done) | split | (refine Agree.of_fst ‹_› ?_; simp; done) | simp | (refine (Agree.foldl _ (fun _ _ => ?_)).2 ?_) | intro _)) hμ σ

@[simp] theorem State.setPin_agree (s : State) (m : Nat) (v : MfPin) (hμ : 274877906944 ||| μ = μ) :
    Agree μ σ (State.setPin s m v) ↔ Agree μ σ s :=
  Agree.stack (by unfold State.setPin; simp) hμ σ

@[simp] theorem State.ledActivity_agree (s : State) (p : Nat) (hμ : 274877906944 ||| μ = μ) :
    Agree μ σ (State.ledActivity s p) ↔ Agree μ σ s :=
  Agree.stack (by unfold State.ledActivity; simp) hμ σ

@[simp] theorem State.countTx_agree (s : State) (p : Nat) (bs : List Byte) (stomped : Bool) (hμ : 274913558536 ||| μ = μ) :
    Agree μ σ (State.countTx s p bs stomped) ↔ Agree μ σ s :=
  Agree.stack (by unfold State.countTx; simp) hμ σ

@[simp] theorem State.sendWire_agree (s : State) (p : Nat) (express : Bool) (stomped : Bool) (bs : List Byte) (hμ : 9071006580744 ||| μ = μ) :
    Agree μ σ (State.sendWire s p express stomped bs) ↔ Agree μ σ s :=
  Agree.stack (by unfold State.sendWire; simp) hμ σ

@[simp] theorem State.suspend_agree (s : State) (p : Nat) (hμ : 67108864 ||| μ = μ) :
    Agree μ σ (State.suspend s p) ↔ Agree μ σ s :=
  Agree.stack (by unfold State.suspend; simp) hμ σ

@[simp] theorem State.sendTandem_agree (s : State) (r : TdmRecord) (hμ : 9073221238792 ||| μ = μ) :
    Agree μ σ (State.sendTandem s r) ↔ Agree μ σ s :=
  Agree.stack (by
    unfold State.sendTandem
    repeat' (first | (simp; done) | split | (refine Agree.of_fst ‹_› ?_; simp; done) | simp | (refine (Agree.foldl _ (fun _ _ => ?_)).2 ?_) | intro _)) hμ σ

@[simp] theorem State.flushTandem_agree (s : State) (n : Nat) (hμ : 9073221238792 ||| μ = μ) :
    Agree μ σ (State.flushTandem s n) ↔ Agree μ σ s := by
  refine Agree.stack (m := 9073221238792) ?_ hμ σ
  clear hμ
  induction n generalizing s with
  | zero => exact Agree.refl _ _
  | succ n ih =>
    unfold State.flushTandem
    split
    · simp
    · split
      · exact Agree.trans (by simp) (ih _)
      · simp

@[simp] theorem State.transmitPtp_agree (s : State) (p : Nat) (m : PtpMsg) (hμ : 9071073689612 ||| μ = μ) :
    Agree μ σ (State.transmitPtp s p m) ↔ Agree μ σ s :=
  Agree.stack (by
    unfold State.transmitPtp
    repeat' (first | (simp; done) | split | (refine Agree.of_fst ‹_› ?_; simp; done) | simp | (refine (Agree.foldl _ (fun _ _ => ?_)).2 ?_) | intro _)) hμ σ

@[simp] theorem State.sendLate_agree (s : State) (p : Nat) (m : PtpMsg) (since : Nat) (hμ : 9071082078220 ||| μ = μ) :
    Agree μ σ (State.sendLate s p m since) ↔ Agree μ σ s :=
  Agree.stack (by
    unfold State.sendLate
    repeat' (first | (simp; done) | split | (refine Agree.of_fst ‹_› ?_; simp; done) | simp | (refine (Agree.foldl _ (fun _ _ => ?_)).2 ?_) | intro _)) hμ σ

@[simp] theorem State.releasePtp_agree (s : State) (p : Nat) (hμ : 9071082078220 ||| μ = μ) :
    Agree μ σ (State.releasePtp s p) ↔ Agree μ σ s :=
  Agree.stack (by
    unfold State.releasePtp
    repeat' (first | (simp; done) | split | (refine Agree.of_fst ‹_› ?_; simp; done) | simp | (refine (Agree.foldl _ (fun _ _ => ?_)).2 ?_) | intro _)) hμ σ

@[simp] theorem State.releaseAllPtp_agree (s : State) (hμ : 9071082078220 ||| μ = μ) :
    Agree μ σ (State.releaseAllPtp s) ↔ Agree μ σ s :=
  Agree.stack (by
    unfold State.releaseAllPtp
    repeat' (first | (simp; done) | split | (refine Agree.of_fst ‹_› ?_; simp; done) | simp | (refine (Agree.foldl _ (fun _ _ => ?_)).2 ?_) | intro _)) hμ σ

@[simp] theorem State.settle_agree (s : State) (hμ : 9083044436060 ||| μ = μ) :
    Agree μ σ (State.settle s) ↔ Agree μ σ s :=
  Agree.stack (by unfold State.settle; simp) hμ σ

@[simp] theorem State.awake_agree (s : State) (f : State → State) (h : ∀ u, Agree μ u (f u)) :
    Agree μ σ (State.awake s f) ↔ Agree μ σ s := by
  unfold State.awake
  split
  · rfl
  · exact (h s).stack (Nat.or_self μ) σ

@[simp] theorem State.resolved_agree (s : State) (hμ : 2147483648 ||| μ = μ) :
    Agree μ σ (State.resolved s) ↔ Agree μ σ s :=
  Agree.stack (by unfold State.resolved; simp) hμ σ

@[simp] theorem State.tdmBump_agree (s : State) (k : Nat) (hμ : 35717120 ||| μ = μ) :
    Agree μ σ (State.tdmBump s k) ↔ Agree μ σ s :=
  Agree.stack (by unfold State.tdmBump; simp) hμ σ

@[simp] theorem State.takeCb_agree (s : State) (k : Nat) (m : CbMirror) (hμ : 2550136832 ||| μ = μ) :
    Agree μ σ (State.takeCb s k m) ↔ Agree μ σ s :=
  Agree.stack (by unfold State.takeCb; simp) hμ σ

@[simp] theorem State.takeFlume_agree (s : State) (f : Nat) (m : FlumeMirror) (hμ : 2199977984 ||| μ = μ) :
    Agree μ σ (State.takeFlume s f m) ↔ Agree μ σ s :=
  Agree.stack (by unfold State.takeFlume; simp) hμ σ

@[simp] theorem State.placeSignal_agree (s : State) (r : List Byte) (v : Int) (hμ : 8589934592 ||| μ = μ) :
    Agree μ σ (State.placeSignal s r v) ↔ Agree μ σ s :=
  Agree.stack (by
    unfold State.placeSignal
    repeat' (first | (simp; done) | split | (refine Agree.of_fst ‹_› ?_; simp; done) | simp | (refine (Agree.foldl _ (fun _ _ => ?_)).2 ?_) | intro _)) hμ σ

@[simp] theorem State.setSig_agree (s : State) (k : Nat) (v : SigState) (hμ : 8589934592 ||| μ = μ) :
    Agree μ σ (State.setSig s k v) ↔ Agree μ σ s :=
  Agree.stack (by unfold State.setSig; simp) hμ σ

@[simp] theorem State.takeGw_agree (s : State) (k : Nat) (m : GwMirror) (hμ : 8589934592 ||| μ = μ) :
    Agree μ σ (State.takeGw s k m) ↔ Agree μ σ s :=
  Agree.stack (by unfold State.takeGw; (repeat' (first | (simp; done) | split))) hμ σ

@[simp] theorem State.applyMirror_agree (s : State) (hμ : 11192565760 ||| μ = μ) :
    Agree μ σ (State.applyMirror s) ↔ Agree μ σ s :=
  Agree.stack (by
    unfold State.applyMirror
    repeat' (first | (simp; done) | split | (refine Agree.of_fst ‹_› ?_; simp; done) | simp | (refine (Agree.foldl _ (fun _ _ => ?_)).2 ?_) | intro _)) hμ σ

@[simp] theorem State.fromStandby_agree (s : State) (p : Nat) (hμ : 8796195782656 ||| μ = μ) :
    Agree μ σ (State.fromStandby s p) ↔ Agree μ σ s :=
  Agree.stack (by unfold State.fromStandby; simp) hμ σ

@[simp] theorem State.canFromStandby_agree (s : State) (n : Nat) (hμ : 156802023936 ||| μ = μ) :
    Agree μ σ (State.canFromStandby s n) ↔ Agree μ σ s :=
  Agree.stack (by unfold State.canFromStandby; simp) hμ σ

@[simp] theorem State.mvbFromStandby_agree (s : State) (n : Nat) (hμ : 34395389952 ||| μ = μ) :
    Agree μ σ (State.mvbFromStandby s n) ↔ Agree μ σ s :=
  Agree.stack (by unfold State.mvbFromStandby; simp) hμ σ

@[simp] theorem State.ringFromStandby_agree (s : State) (r : Nat) (hμ : 17731808198656 ||| μ = μ) :
    Agree μ σ (State.ringFromStandby s r) ↔ Agree μ σ s :=
  Agree.stack (by unfold State.ringFromStandby; (repeat' (first | (simp; done) | split))) hμ σ

@[simp] theorem State.becomeActive_agree (s : State) (hμ : 26579516326404 ||| μ = μ) :
    Agree μ σ (State.becomeActive s) ↔ Agree μ σ s :=
  Agree.stack (by unfold State.becomeActive; simp) hμ σ

@[simp] theorem State.tdmErr_agree (s : State) (i : Nat) (hμ : 35717120 ||| μ = μ) :
    Agree μ σ (State.tdmErr s i) ↔ Agree μ σ s :=
  Agree.stack (by unfold State.tdmErr; simp) hμ σ

@[simp] theorem State.takeOver_agree (s : State) (cause : Nat) (since : Nat) (hμ : 26588525691396 ||| μ = μ) :
    Agree μ σ (State.takeOver s cause since) ↔ Agree μ σ s :=
  Agree.stack (by unfold State.takeOver; simp) hμ σ

@[simp] theorem State.sendResolve_agree (s : State) (phase : Nat) (fail : Bool) (t : Trigger) (detail : Nat) (hμ : 2183200768 ||| μ = μ) :
    Agree μ σ (State.sendResolve s phase fail t detail) ↔ Agree μ σ s :=
  Agree.stack (by unfold State.sendResolve; simp) hμ σ

@[simp] theorem State.trigger_agree (s : State) (t : Trigger) (own : Bool) (hμ : 2183200768 ||| μ = μ) :
    Agree μ σ (State.trigger s t own) ↔ Agree μ σ s :=
  Agree.stack (by unfold State.trigger; simp) hμ σ

@[simp] theorem State.standAlone_agree (s : State) (r : Resolution) (hμ : 26592820658692 ||| μ = μ) :
    Agree μ σ (State.standAlone s r) ↔ Agree μ σ s :=
  Agree.stack (by unfold State.standAlone; simp) hμ σ

@[simp] theorem State.freeze_agree (s : State) (r : Resolution) (hμ : 2183135232 ||| μ = μ) :
    Agree μ σ (State.freeze s r) ↔ Agree μ σ s :=
  Agree.stack (by unfold State.freeze; simp) hμ σ

@[simp] theorem State.tryVerdict_agree (s : State) (hμ : 26594431271436 ||| μ = μ) :
    Agree μ σ (State.tryVerdict s) ↔ Agree μ σ s :=
  Agree.stack (by unfold State.tryVerdict; (repeat' (first | (simp; done) | split))) hμ σ

@[simp] theorem State.heartbeatGone_agree (s : State) (hμ : 26594431271436 ||| μ = μ) :
    Agree μ σ (State.heartbeatGone s) ↔ Agree μ σ s :=
  Agree.stack (by unfold State.heartbeatGone; simp) hμ σ

@[simp] theorem State.tlWatched_agree (s : State) (was : State) (hμ : 26594431271436 ||| μ = μ) :
    Agree μ σ (State.tlWatched s was) ↔ Agree μ σ s :=
  Agree.stack (by unfold State.tlWatched; simp) hμ σ

@[simp] theorem State.busFree_agree (s : State) (n : Nat) (hμ : 17179869184 ||| μ = μ) :
    Agree μ σ (State.busFree s n) ↔ Agree μ σ s :=
  Agree.stack (by unfold State.busFree; simp) hμ σ

@[simp] theorem State.storeInObj_agree (s : State) (n : Nat) (o : Nat) (r : CanRecord) (hμ : 17215521280 ||| μ = μ) :
    Agree μ σ (State.storeInObj s n o r) ↔ Agree μ σ s :=
  Agree.stack (by unfold State.storeInObj; simp) hμ σ

@[simp] theorem State.storeFrame_agree (s : State) (n : Nat) (r : CanRecord) (hμ : 17215521280 ||| μ = μ) :
    Agree μ σ (State.storeFrame s n r) ↔ Agree μ σ s :=
  Agree.stack (by
    unfold State.storeFrame
    repeat' (first | (simp; done) | split | (refine Agree.of_fst ‹_› ?_; simp; done) | simp | (refine (Agree.foldl _ (fun _ _ => ?_)).2 ?_) | intro _)) hμ σ

@[simp] theorem State.signalUpdate_agree (s : State) (k : Nat) (r : List Byte) (data : List Byte) (hμ : 10773071872 ||| μ = μ) :
    Agree μ σ (State.signalUpdate s k r data).1 ↔ Agree μ σ s :=
  Agree.stack (by unfold State.signalUpdate; simp) hμ σ

@[simp] theorem State.refreshTarget_agree (s : State) (k : Nat) (touched : Bool) (request : Bool) (hμ : 60165196288 ||| μ = μ) :
    Agree μ σ (State.refreshTarget s k touched request) ↔ Agree μ σ s :=
  Agree.stack (by unfold State.refreshTarget; (repeat' (first | (simp; done) | split))) hμ σ

@[simp] theorem State.signalRules_agree (s : State) (o : Offer) (hμ : 62312679936 ||| μ = μ) :
    Agree μ σ (State.signalRules s o) ↔ Agree μ σ s :=
  Agree.stack (by
    unfold State.signalRules
    repeat' (first | (simp; done) | split | (refine Agree.of_fst ‹_› ?_; simp; done) | simp | (refine (Agree.foldl _ (fun _ _ => ?_)).2 ?_) | intro _)) hμ σ

@[simp] theorem State.deliverCan_agree (s : State) (ch : Nat) (index : Nat) (newId : Nat) (i : Item) (hμ : 17215523328 ||| μ = μ) :
    Agree μ σ (State.deliverCan s ch index newId i) ↔ Agree μ σ s :=
  Agree.stack (by unfold State.deliverCan; (repeat' (first | (simp; done) | split))) hμ σ

@[simp] theorem State.deliverPort_agree (s : State) (ch : Nat) (addr : Nat) (i : Item) (hμ : 34395392000 ||| μ = μ) :
    Agree μ σ (State.deliverPort s ch addr i) ↔ Agree μ σ s :=
  Agree.stack (by unfold State.deliverPort; (repeat' (first | (simp; done) | split))) hμ σ

@[simp] theorem State.setAcf_agree (s : State) (k : Nat) (v : AcfState) (hμ : 8589934592 ||| μ = μ) :
    Agree μ σ (State.setAcf s k v) ↔ Agree μ σ s :=
  Agree.stack (by unfold State.setAcf; simp) hμ σ

@[simp] theorem State.sendAcf_agree (s : State) (k : Nat) (hμ : 9833547864 ||| μ = μ) :
    Agree μ σ (State.sendAcf s k) ↔ Agree μ σ s :=
  Agree.stack (by
    unfold State.sendAcf
    repeat' (first | (simp; done) | split | (refine Agree.of_fst ‹_› ?_; simp; done) | simp | (refine (Agree.foldl _ (fun _ _ => ?_)).2 ?_) | intro _)) hμ σ

@[simp] theorem State.deliverAcf_agree (s : State) (k : Nat) (epoch : Nat) (o : Offer) (hμ : 9833547864 ||| μ = μ) :
    Agree μ σ (State.deliverAcf s k epoch o) ↔ Agree μ σ s :=
  Agree.stack (by unfold State.deliverAcf; (repeat' (first | (simp; done) | split))) hμ σ

@[simp] theorem State.deliverCulvert_agree (s : State) (rule : Nat) (epoch : Nat) (o : Offer) (hμ : 9833547864 ||| μ = μ) :
    Agree μ σ (State.deliverCulvert s rule epoch o) ↔ Agree μ σ s :=
  Agree.stack (by unfold State.deliverCulvert; (repeat' (first | (simp; done) | split))) hμ σ

@[simp] theorem State.deliverMessage_agree (s : State) (ch : Nat) (bs : List Byte) (hμ : 34395392000 ||| μ = μ) :
    Agree μ σ (State.deliverMessage s ch bs) ↔ Agree μ σ s :=
  Agree.stack (by
    unfold State.deliverMessage
    repeat' (first | (simp; done) | split | (refine Agree.of_fst ‹_› ?_; simp; done) | simp | (refine (Agree.foldl _ (fun _ _ => ?_)).2 ?_) | intro _)) hμ σ

@[simp] theorem State.deliverTarget_agree (s : State) (epoch : Nat) (t : List Byte) (o : Offer) (hμ : 61373155928 ||| μ = μ) :
    Agree μ σ (State.deliverTarget s epoch t o) ↔ Agree μ σ s :=
  Agree.stack (by unfold State.deliverTarget; (repeat' (first | (simp; done) | split))) hμ σ

@[simp] theorem State.offer_agree (s : State) (o : Offer) (hμ : 63520639576 ||| μ = μ) :
    Agree μ σ (State.offer s o) ↔ Agree μ σ s :=
  Agree.stack (m := 63520639576) (by
    unfold State.offer
    dsimp only
    split
    · simp
    · refine (Agree.foldl _ (fun u i => ?_)).2 ?_
      · simp
      · simp) hμ σ

@[simp] theorem State.refReceived_agree (s : State) (n : Nat) (f : CanFrame) (own : Nat) (hμ : 17215521280 ||| μ = μ) :
    Agree μ σ (State.refReceived s n f own) ↔ Agree μ σ s :=
  Agree.stack (by
    unfold State.refReceived
    repeat' (first | (simp; done) | split | (refine Agree.of_fst ‹_› ?_; simp; done) | simp | (refine (Agree.foldl _ (fun _ _ => ?_)).2 ?_) | intro _)) hμ σ

@[simp] theorem State.frameAccepted_agree (s : State) (n : Nat) (f : CanFrame) (sof : Stamp × Nat) (verified : Bool) (hμ : 63520639576 ||| μ = μ) :
    Agree μ σ (State.frameAccepted s n f sof verified) ↔ Agree μ σ s :=
  Agree.stack (by unfold State.frameAccepted; simp) hμ σ

@[simp] theorem State.lmpErr_agree (s : State) (i : Nat) (hμ : 35684352 ||| μ = μ) :
    Agree μ σ (State.lmpErr s i) ↔ Agree μ σ s :=
  Agree.stack (by unfold State.lmpErr; simp) hμ σ

@[simp] theorem State.ringConsent_agree (s : State) (r : Nat) (a : Nat) (yes : Bool) (hμ : 137438953472 ||| μ = μ) :
    Agree μ σ (State.ringConsent s r a yes) ↔ Agree μ σ s :=
  Agree.stack (by unfold State.ringConsent; simp) hμ σ

@[simp] theorem State.ringJoin_agree (s : State) (r : Nat) (a : Nat) (hμ : 139622154240 ||| μ = μ) :
    Agree μ σ (State.ringJoin s r a) ↔ Agree μ σ s :=
  Agree.stack (by unfold State.ringJoin; simp) hμ σ

@[simp] theorem State.ringHeard_agree (s : State) (r src dst op : Nat) (hμ : 17731808231424 ||| μ = μ) :
    Agree μ σ (State.ringHeard s r src dst op) ↔ Agree μ σ s :=
  Agree.stack (m := 17731808231424) (by
    unfold State.ringHeard
    extract_lets own isRing ind ack s1 g
    have h : Agree 17731808231424 s s1 := by simp [s1]
    clear_value s1
    split <;> simp [h]) hμ σ

@[simp] theorem State.ringFrame_agree (s : State) (n : Nat) (f : CanFrame) (r : Nat) (hμ : 17731808231424 ||| μ = μ) :
    Agree μ σ (State.ringFrame s n f r) ↔ Agree μ σ s :=
  Agree.stack (by unfold State.ringFrame; simp) hμ σ

@[simp] theorem State.canHeard_agree (s : State) (n : Nat) (f : CanFrame) (hμ : 17731808231424 ||| μ = μ) :
    Agree μ σ (State.canHeard s n f) ↔ Agree μ σ s :=
  Agree.stack (by unfold State.canHeard; simp) hμ σ

@[simp] theorem State.secFail_agree (s : State) (n : Nat) (k : Nat) (check : Nat) (hμ : 35652096 ||| μ = μ) :
    Agree μ σ (State.secFail s n k check) ↔ Agree μ σ s :=
  Agree.stack (by unfold State.secFail; simp) hμ σ

@[simp] theorem State.frameIn_agree (s : State) (n : Nat) (f : CanFrame) (sof : Stamp × Nat) (hμ : 17793145735768 ||| μ = μ) :
    Agree μ σ (State.frameIn s n f sof) ↔ Agree μ σ s :=
  Agree.stack (by
    unfold State.frameIn
    repeat' (first | (simp; done) | split | (refine Agree.of_fst ‹_› ?_; simp; done) | simp | (refine (Agree.foldl _ (fun _ _ => ?_)).2 ?_) | intro _)) hμ σ

@[simp] theorem State.confine_agree (s : State) (n : Nat) (hμ : 156802023936 ||| μ = μ) :
    Agree μ σ (State.confine s n) ↔ Agree μ σ s :=
  Agree.stack (by unfold State.confine; simp) hμ σ

@[simp] theorem State.recDown_agree (s : State) (n : Nat) (hμ : 17748988068352 ||| μ = μ) :
    Agree μ σ (State.recDown s n) ↔ Agree μ σ s :=
  Agree.stack (by unfold State.recDown; simp) hμ σ

@[simp] theorem State.canFrameRx_agree (s : State) (n : Nat) (f : CanFrame) (hμ : 17793145735768 ||| μ = μ) :
    Agree μ σ (State.canFrameRx s n f) ↔ Agree μ σ s :=
  Agree.stack (by unfold State.canFrameRx; simp) hμ σ

@[simp] theorem State.keepSealed_agree (s : State) (n : Nat) (what : Contender) (p : List Byte) (hμ : 17179869184 ||| μ = μ) :
    Agree μ σ (State.keepSealed s n what p) ↔ Agree μ σ s :=
  Agree.stack (by unfold State.keepSealed; (repeat' (first | (simp; done) | split))) hμ σ

@[simp] theorem State.unrequest_agree (s : State) (n : Nat) (x2 : Contender) (hμ : 154618823168 ||| μ = μ) :
    Agree μ σ (State.unrequest s n x2) ↔ Agree μ σ s :=
  Agree.stack (by unfold State.unrequest; (repeat' (first | (simp; done) | split))) hμ σ

@[simp] theorem State.afterRequest_agree (s : State) (n : Nat) (x2 : Contender) (hμ : 25805455872 ||| μ = μ) :
    Agree μ σ (State.afterRequest s n x2) ↔ Agree μ σ s :=
  Agree.stack (by unfold State.afterRequest; (repeat' (first | (simp; done) | split))) hμ σ

@[simp] theorem State.sealPdu_agree (s : State) (n : Nat) (k : Nat) (b : List Byte) (data : List Byte) (hμ : 17215521280 ||| μ = μ) :
    Agree μ σ (State.sealPdu s n k b data).1 ↔ Agree μ σ s :=
  Agree.stack (by unfold State.sealPdu; (repeat' (first | (simp; done) | split))) hμ σ

@[simp] theorem State.contend_agree (s : State) (n : Nat) (l : List (Contender × CanFrame)) (hμ : 163244409344 ||| μ = μ) :
    Agree μ σ (State.contend s n l).1 ↔ Agree μ σ s := by
  refine Agree.stack (m := 163244409344) ?_ hμ σ
  clear hμ
  induction l generalizing s with
  | nil => exact Agree.refl _ _
  | cons x l ih =>
    unfold State.contend
    split
    · simp
    · split
      · simp
      · split
        · rename_i e
          dsimp only
          rw [State.keepSealed_agree _ _ _ _ (by decide)]
          exact Agree.of_fst e (by simp)
        · rename_i e
          refine Agree.trans ?_ (ih _)
          rw [State.afterRequest_agree _ _ _ (by decide), State.unrequest_agree _ _ _ (by decide)]
          exact Agree.of_fst e (by simp)

@[simp] theorem State.attemptFailed_agree (s : State) (n : Nat) (what : Contender) (hμ : 163244409344 ||| μ = μ) :
    Agree μ σ (State.attemptFailed s n what) ↔ Agree μ σ s :=
  Agree.stack (by unfold State.attemptFailed; (repeat' (first | (simp; done) | split))) hμ σ

@[simp] theorem State.canArbitration_agree (s : State) (n : Nat) (won : Bool) (hμ : 8959337431552 ||| μ = μ) :
    Agree μ σ (State.canArbitration s n won) ↔ Agree μ σ s :=
  Agree.stack (m := 8959337431552) (by
    unfold State.canArbitration
    dsimp only
    split
    · simp
    · split
      all_goals
        rename_i e
        have h := congrArg Prod.fst e
        dsimp only at h
        subst h
        (repeat' (first | (simp; done) | split))) hμ σ

@[simp] theorem State.tdcMeasured_agree (s : State) (n : Nat) (tdcv : Nat) (hμ : 512 ||| μ = μ) :
    Agree μ σ (State.tdcMeasured s n tdcv) ↔ Agree μ σ s :=
  Agree.stack (by unfold State.tdcMeasured; simp) hμ σ

@[simp] theorem State.ringSent_agree (s : State) (r : Nat) (f : CanFrame) (hμ : 17731808231424 ||| μ = μ) :
    Agree μ σ (State.ringSent s r f) ↔ Agree μ σ s :=
  Agree.stack (by unfold State.ringSent; simp) hμ σ

@[simp] theorem State.sentBy_agree (s : State) (n : Nat) (what : Contender) (r : CanRecord) (hμ : 17748988101120 ||| μ = μ) :
    Agree μ σ (State.sentBy s n what r) ↔ Agree μ σ s :=
  Agree.stack (by unfold State.sentBy; (repeat' (first | (simp; done) | split))) hμ σ

@[simp] theorem State.countError_agree (s : State) (n : Nat) (sender : Bool) (e : CanError) (hμ : 17179869184 ||| μ = μ) :
    Agree μ σ (State.countError s n sender e) ↔ Agree μ σ s :=
  Agree.stack (by unfold State.countError; simp) hμ σ

@[simp] theorem State.ringUnacked_agree (s : State) (r : Nat) (hμ : 139622154240 ||| μ = μ) :
    Agree μ σ (State.ringUnacked s r) ↔ Agree μ σ s :=
  Agree.stack (by unfold State.ringUnacked; simp) hμ σ

@[simp] theorem State.canError_agree (s : State) (n : Nat) (e0 : CanError) (hμ : 165391958528 ||| μ = μ) :
    Agree μ σ (State.canError s n e0) ↔ Agree μ σ s :=
  Agree.stack (by
    unfold State.canError
    repeat' (first | (simp; done) | split | (refine Agree.of_fst ‹_› ?_; simp; done) | simp | (refine (Agree.foldl _ (fun _ _ => ?_)).2 ?_) | intro _)) hμ σ

@[simp] theorem State.canSent_agree (s : State) (n : Nat) (tdcv : Fin 128) (hμ : 17793145735768 ||| μ = μ) :
    Agree μ σ (State.canSent s n tdcv) ↔ Agree μ σ s :=
  Agree.stack (by
    unfold State.canSent
    repeat' (first | (simp; done) | split | (refine Agree.of_fst ‹_› ?_; simp; done) | simp | (refine (Agree.foldl _ (fun _ _ => ?_)).2 ?_) | intro _)) hμ σ

@[simp] theorem State.integrated_agree (s : State) (n : Nat) (hμ : 156802023936 ||| μ = μ) :
    Agree μ σ (State.integrated s n) ↔ Agree μ σ s :=
  Agree.stack (by unfold State.integrated; simp) hμ σ

@[simp] theorem State.busOffOver_agree (s : State) (n : Nat) (hμ : 156802023936 ||| μ = μ) :
    Agree μ σ (State.busOffOver s n) ↔ Agree μ σ s :=
  Agree.stack (by unfold State.busOffOver; simp) hμ σ

@[simp] theorem State.recovered_agree (s : State) (n : Nat) (hμ : 156802023936 ||| μ = μ) :
    Agree μ σ (State.recovered s n) ↔ Agree μ σ s :=
  Agree.stack (by unfold State.recovered; simp) hμ σ

@[simp] theorem State.refDue_agree (s : State) (n : Nat) (hμ : 17215521280 ||| μ = μ) :
    Agree μ σ (State.refDue s n) ↔ Agree μ σ s :=
  Agree.stack (by unfold State.refDue; simp) hμ σ

@[simp] theorem State.refTimeout_agree (s : State) (n : Nat) (hμ : 17215521280 ||| μ = μ) :
    Agree μ σ (State.refTimeout s n) ↔ Agree μ σ s :=
  Agree.stack (by unfold State.refTimeout; (repeat' (first | (simp; done) | split))) hμ σ

@[simp] theorem State.loadCanRegs_agree (s : State) (n : Nat) (rs : List Rec) (hμ : 512 ||| μ = μ) :
    Agree μ σ (State.loadCanRegs s n rs) ↔ Agree μ σ s :=
  Agree.stack (by unfold State.loadCanRegs; (repeat' (first | (simp; done) | split))) hμ σ

@[simp] theorem State.loadCanMatch_agree (s : State) (n : Nat) (rs : List Rec) (keep : Bool) (hμ : 17179869184 ||| μ = μ) :
    Agree μ σ (State.loadCanMatch s n rs keep) ↔ Agree μ σ s :=
  Agree.stack (by unfold State.loadCanMatch; simp) hμ σ

@[simp] theorem State.loadPdus_agree (s : State) (old : List Rec) (rs : List Rec) (hμ : 17179869696 ||| μ = μ) :
    Agree μ σ (State.loadPdus s old rs) ↔ Agree μ σ s :=
  Agree.stack (by unfold State.loadPdus; simp) hμ σ

@[simp] theorem State.joinBus_agree (s : State) (n : Nat) (hμ : 156802023936 ||| μ = μ) :
    Agree μ σ (State.joinBus s n) ↔ Agree μ σ s :=
  Agree.stack (by unfold State.joinBus; simp) hμ σ

@[simp] theorem State.loadCan_agree (s : State) (n : Nat) (hμ : 17215521280 ||| μ = μ) :
    Agree μ σ (State.loadCan s n) ↔ Agree μ σ s :=
  Agree.stack (by unfold State.loadCan; simp) hμ σ

@[simp] theorem State.buildCan_agree (s : State) (n : Nat) (hμ : 156802023936 ||| μ = μ) :
    Agree μ σ (State.buildCan s n) ↔ Agree μ σ s :=
  Agree.stack (by unfold State.buildCan; simp) hμ σ

@[simp] theorem State.restartCounters_agree (s : State) (b : Block) (lo hi : Nat) (hμ : b.bit ||| 33554432 ||| μ = μ) :
    Agree μ σ (State.restartCounters s b lo hi) ↔ Agree μ σ s :=
  Agree.stack (m := b.bit ||| 33554432) (fun p hp => by
    rw [Nat.testBit_or, Bool.or_eq_false_iff] at hp
    cases p <;> first | rfl | exact RegSpace.get_put_ne _ _ (Block.bit_index hp.1) | exact absurd hp.2 (by decide)) hμ σ

@[simp] theorem State.endCanWorks_agree (s : State) (n : Nat) (hμ : 156802023936 ||| μ = μ) :
    Agree μ σ (State.endCanWorks s n) ↔ Agree μ σ s :=
  Agree.stack (by unfold State.endCanWorks; simp) hμ σ

@[simp] theorem State.dropFrames_agree (s : State) (gone : Held → Bool) (hμ : 1610612736 ||| μ = μ) :
    Agree μ σ (State.dropFrames s gone) ↔ Agree μ σ s :=
  Agree.stack (by unfold State.dropFrames; simp) hμ σ

@[simp] theorem State.freshId_agree (s : State) (hμ : 1073741824 ||| μ = μ) :
    Agree μ σ (State.freshId s) ↔ Agree μ σ s :=
  Agree.stack (by unfold State.freshId; simp) hμ σ

@[simp] theorem State.admitDrop_agree (s : State) (f : Frame) (off : Nat) (hμ : 35651720 ||| μ = μ) :
    Agree μ σ (State.admitDrop s f off) ↔ Agree μ σ s :=
  Agree.stack (by unfold State.admitDrop; simp) hμ σ

@[simp] theorem State.addCopies_agree (s : State) (f : Frame) (l : List (CopyReq × Option Acct)) (hμ : 1073741824 ||| μ = μ) :
    Agree μ σ (State.addCopies s f l) ↔ Agree μ σ s := by
  refine Agree.stack (m := 1073741824) ?_ hμ σ
  clear hμ
  induction l generalizing s with
  | nil => exact Agree.refl _ _
  | cons x l ih => exact Agree.trans (by simp) (ih _)

@[simp] theorem State.frameWhole_agree (s : State) (id : Nat) (hμ : 1073741824 ||| μ = μ) :
    Agree μ σ (State.frameWhole s id) ↔ Agree μ σ s :=
  Agree.stack (by unfold State.frameWhole; simp) hμ σ

@[simp] theorem State.admitFrame_agree (s : State) (f : Frame) (district : Nat) (cls : Nat) (de : Bool) (reqs : List CopyReq) (hμ : 1109393544 ||| μ = μ) :
    Agree μ σ (State.admitFrame s f district cls de reqs) ↔ Agree μ σ s :=
  Agree.stack (by unfold State.admitFrame; (repeat' (first | (simp; done) | split))) hμ σ

@[simp] theorem State.setBucket_agree (s : State) (dir l c : Nat) (level : Int) (hμ : 536870912 ||| μ = μ) :
    Agree μ σ (State.setBucket s dir l c level) ↔ Agree μ σ s :=
  Agree.stack (by
    unfold State.setBucket
    repeat' (first | (simp; done) | split | (refine Agree.of_fst ‹_› ?_; simp; done) | simp | (refine (Agree.foldl _ (fun _ _ => ?_)).2 ?_) | intro _)) hμ σ

@[simp] theorem State.settleBuckets_agree (s : State) (hμ : 536870912 ||| μ = μ) :
    Agree μ σ (State.settleBuckets s) ↔ Agree μ σ s :=
  Agree.stack (by
    unfold State.settleBuckets
    repeat' (first | (simp; done) | split | (refine Agree.of_fst ‹_› ?_; simp; done) | simp | (refine (Agree.foldl _ (fun _ _ => ?_)).2 ?_) | intro _)) hμ σ

end Sys2Proof.Machine
end

