-- ==== Sys2Proof/Laws/Agree3.lean ====
section
/-!
SUPPORT. What each operation of the machine can change, as Laws/Agree.lean says it: part 3 of 4, in the order in which the operations call
each other.
-/
namespace Sys2Proof.Machine

variable {μ : Nat} {σ : State}

@[simp] theorem State.startBuckets_agree (s : State) (ls : List (Acct × Limits)) (hμ : 536870912 ||| μ = μ) :
    Agree μ σ (State.startBuckets s ls) ↔ Agree μ σ s :=
  Agree.stack (by
    unfold State.startBuckets
    repeat' (first | (simp; done) | split | (refine Agree.of_fst ‹_› ?_; simp; done) | simp | (refine (Agree.foldl _ (fun _ _ => ?_)).2 ?_) | intro _)) hμ σ

@[simp] theorem State.setLimits_agree (s : State) (ls : List (Acct × Limits)) (hμ : 1610612736 ||| μ = μ) :
    Agree μ σ (State.setLimits s ls) ↔ Agree μ σ s :=
  Agree.stack (by unfold State.setLimits; simp) hμ σ

@[simp] theorem State.shrink_agree (s : State) (hμ : 1610612738 ||| μ = μ) :
    Agree μ σ (State.shrink s).1 ↔ Agree μ σ s :=
  Agree.stack (by unfold State.shrink; simp) hμ σ

@[simp] theorem Verdict.ended_agree (s : State) (c : Ctx) (copies : List (Dest × Nat)) (dropped : Bool) (hμ : 0 ||| μ = μ) :
    Agree μ σ (Verdict.ended s c copies dropped).state ↔ Agree μ σ s :=
  Agree.stack (by unfold Verdict.ended; simp) hμ σ

@[simp] theorem State.recoverFrame_agree (s : State) (e : Edited) (k : Nat) (strip : Bool) (hμ : 2317418512 ||| μ = μ) :
    Agree μ σ (State.recoverFrame s e k strip).1 ↔ Agree μ σ s :=
  Agree.stack (by unfold State.recoverFrame; (repeat' (first | (simp; done) | split))) hμ σ

@[simp] theorem State.generate_agree (s : State) (e : Edited) (k : Nat) (hμ : 2451570704 ||| μ = μ) :
    Agree μ σ (State.generate s e k).1 ↔ Agree μ σ s :=
  Agree.stack (by unfold State.generate; simp) hμ σ

@[simp] theorem State.applyEdits_agree (s : State) (c : Ctx) (hμ : 2585853968 ||| μ = μ) :
    Agree μ σ (State.applyEdits s c).1 ↔ Agree μ σ s :=
  Agree.stack (by unfold State.applyEdits; (repeat' (first | (simp; done) | split))) hμ σ

@[simp] theorem State.endDrop_agree (s : State) (c : Ctx) (hμ : 35651600 ||| μ = μ) :
    Agree μ σ (State.endDrop s c).1 ↔ Agree μ σ s :=
  Agree.stack (by unfold State.endDrop; simp) hμ σ

@[simp] theorem State.endPass_agree (s : State) (c : Ctx) (hμ : 35651600 ||| μ = μ) :
    Agree μ σ (State.endPass s c).1 ↔ Agree μ σ s :=
  Agree.stack (by unfold State.endPass; simp) hμ σ

@[simp] theorem State.endUnsent_agree (s : State) (c : Ctx) (again : Bool) (wanted : List Dest) (hμ : 35651600 ||| μ = μ) :
    Agree μ σ (State.endUnsent s c again wanted).1 ↔ Agree μ σ s :=
  Agree.stack (by unfold State.endUnsent; simp) hμ σ

@[simp] theorem State.isolationLost_agree (s : State) (c : Ctx) (lost : Bool) (hμ : 35651600 ||| μ = μ) :
    Agree μ σ (State.isolationLost s c lost) ↔ Agree μ σ s :=
  Agree.stack (by unfold State.isolationLost; simp) hμ σ

@[simp] theorem State.editLost_agree (s : State) (c : Ctx) (failed : Option Nat) (hμ : 35651600 ||| μ = μ) :
    Agree μ σ (State.editLost s c failed) ↔ Agree μ σ s :=
  Agree.stack (by unfold State.editLost; (repeat' (first | (simp; done) | split))) hμ σ

@[simp] theorem State.conclude_agree (s : State) (c0 : Ctx) (d : District) (hμ : 2585853968 ||| μ = μ) :
    Agree μ σ (State.conclude s c0 d).state ↔ Agree μ σ s :=
  Agree.stack (by unfold State.conclude; simp) hμ σ

@[simp] theorem State.passCounted_agree (s : State) (f : Frame) (unparsed : Bool) (hμ : 35651600 ||| μ = μ) :
    Agree μ σ (State.passCounted s f unparsed) ↔ Agree μ σ s :=
  Agree.stack (by unfold State.passCounted; simp) hμ σ

@[simp] theorem State.conflictCounted_agree (s : State) (f : Frame) (district : Nat) (code : Nat) (hμ : 35651600 ||| μ = μ) :
    Agree μ σ (State.conflictCounted s f district code) ↔ Agree μ σ s :=
  Agree.stack (by unfold State.conflictCounted; simp) hμ σ

@[simp] theorem State.truncCounted_agree (s : State) (f : Frame) (district : Nat) (node : Nat) (truncated : Bool) (hμ : 35651600 ||| μ = μ) :
    Agree μ σ (State.truncCounted s f district node truncated) ↔ Agree μ σ s :=
  Agree.stack (by unfold State.truncCounted; simp) hμ σ

@[simp] theorem State.districtMissing_agree (s : State) (c : Ctx) (hμ : 35651600 ||| μ = μ) :
    Agree μ σ (State.districtMissing s c).1 ↔ Agree μ σ s :=
  Agree.stack (by unfold State.districtMissing; simp) hμ σ

@[simp] theorem State.meter_agree (s : State) (w : Nat) (t : Nat) (len : Nat) (colour : Nat) (hμ : 169869328 ||| μ = μ) :
    Agree μ σ (State.meter s w t len colour).1 ↔ Agree μ σ s :=
  Agree.stack (by unfold State.meter; simp) hμ σ

@[simp] theorem State.stageWeir_agree (s : State) (c : Ctx) (d : District) (w : Nat) (hμ : 169869328 ||| μ = μ) :
    Agree μ σ (State.stageWeir s c d w).1 ↔ Agree μ σ s :=
  Agree.stack (by
    unfold State.stageWeir
    repeat' (first | (simp; done) | split | (refine Agree.of_fst ‹_› ?_; simp; done) | simp | (refine (Agree.foldl _ (fun _ _ => ?_)).2 ?_) | intro _)) hμ σ

@[simp] theorem State.runStage_agree (s : State) (c : Ctx) (i : Nat) (hμ : 169869328 ||| μ = μ) :
    Agree μ σ (State.runStage s c i).1 ↔ Agree μ σ s :=
  Agree.stack (by
    unfold State.runStage
    repeat' (first | (simp; done) | split | (refine Agree.of_fst ‹_› ?_; simp; done) | simp | (refine (Agree.foldl _ (fun _ _ => ?_)).2 ?_) | intro _)) hμ σ

@[simp] theorem State.runStages_agree (s : State) (c : Ctx) (hμ : 169869328 ||| μ = μ) :
    Agree μ σ (State.runStages s c).1 ↔ Agree μ σ s := by
  unfold State.runStages
  rw [Agree.foldl_fst]
  intro q a
  simp [hμ]

@[simp] theorem State.decideStages_agree (s : State) (f : Frame) (c : Ctx) (hμ : 2585853968 ||| μ = μ) :
    Agree μ σ (State.decideStages s f c).state ↔ Agree μ σ s :=
  Agree.stack (by
    unfold State.decideStages
    repeat' (first | (simp; done) | split | (refine Agree.of_fst ‹_› ?_; simp; done) | simp | (refine (Agree.foldl _ (fun _ _ => ?_)).2 ?_) | intro _)) hμ σ

@[simp] theorem State.decideFrame_agree (s : State) (f : Frame) (hμ : 2585853968 ||| μ = μ) :
    Agree μ σ (State.decideFrame s f).state ↔ Agree μ σ s :=
  Agree.stack (by unfold State.decideFrame; simp) hμ σ

@[simp] theorem State.meterExc_agree (s : State) (t : Nat) (len : Nat) (hμ : 134217728 ||| μ = μ) :
    Agree μ σ (State.meterExc s t len).1 ↔ Agree μ σ s :=
  Agree.stack (by unfold State.meterExc; simp) hμ σ

@[simp] theorem State.throughExcWeir_agree (s : State) (f : Frame) (district : Nat) (l : List (Dest × Nat)) (hμ : 169869328 ||| μ = μ) :
    Agree μ σ (State.throughExcWeir s f district l).1 ↔ Agree μ σ s := by
  refine Agree.stack (m := 169869328) ?_ hμ σ
  clear hμ
  induction l generalizing s with
  | nil => exact Agree.refl _ _
  | cons x l ih =>
    unfold State.throughExcWeir
    dsimp only
    split
    · split
      · exact Agree.trans (by simp) (ih _)
      · exact Agree.trans (by simp) (ih _)
    · exact ih _

@[simp] theorem State.digestFrame_agree (s : State) (f : Frame) (v : Verdict) (hμ : 2183200768 ||| μ = μ) :
    Agree μ σ (State.digestFrame s f v) ↔ Agree μ σ s :=
  Agree.stack (by unfold State.digestFrame; simp) hμ σ

@[simp] theorem State.learnRefused_agree (s : State) (port : Nat) (district : Nat) (mac : List Byte) (hμ : 35651632 ||| μ = μ) :
    Agree μ σ (State.learnRefused s port district mac) ↔ Agree μ σ s :=
  Agree.stack (by unfold State.learnRefused; simp) hμ σ

@[simp] theorem State.learn_agree (s : State) (district : Nat) (vid : Nat) (mac : List Byte) (port : Nat) (limit : Nat) (hμ : 2451636272 ||| μ = μ) :
    Agree μ σ (State.learn s district vid mac port limit) ↔ Agree μ σ s :=
  Agree.stack (by unfold State.learn; (repeat' (first | (simp; done) | split))) hμ σ

@[simp] theorem State.learnFrom_agree (s : State) (f : Frame) (v : Verdict) (hμ : 2451636272 ||| μ = μ) :
    Agree μ σ (State.learnFrom s f v) ↔ Agree μ σ s :=
  Agree.stack (by unfold State.learnFrom; (repeat' (first | (simp; done) | split))) hμ σ

@[simp] theorem State.classify_agree (s : State) (f : Frame) (hμ : 3659595960 ||| μ = μ) :
    Agree μ σ (State.classify s f) ↔ Agree μ σ s :=
  Agree.stack (by
    unfold State.classify
    repeat' (first | (simp; done) | split | (refine Agree.of_fst ‹_› ?_; simp; done) | simp | (refine (Agree.foldl _ (fun _ _ => ?_)).2 ?_) | intro _)) hμ σ

@[simp] theorem State.laneLoses_agree (s : State) (l : Nat) (gone : Copy → Bool) (hμ : 1646264384 ||| μ = μ) :
    Agree μ σ (State.laneLoses s l gone) ↔ Agree μ σ s :=
  Agree.stack (by unfold State.laneLoses; simp) hμ σ

@[simp] theorem State.dropReceiving_agree (s : State) (l : Nat) (hμ : 1847590976 ||| μ = μ) :
    Agree μ σ (State.dropReceiving s l) ↔ Agree μ σ s :=
  Agree.stack (by
    unfold State.dropReceiving
    repeat' (first | (simp; done) | split | (refine Agree.of_fst ‹_› ?_; simp; done) | simp | (refine (Agree.foldl _ (fun _ _ => ?_)).2 ?_) | intro _)) hμ σ

@[simp] theorem State.xbrErr_agree (s : State) (i : Nat) (hμ : 64 ||| μ = μ) :
    Agree μ σ (State.xbrErr s i) ↔ Agree μ σ s :=
  Agree.stack (by unfold State.xbrErr; simp) hμ σ

@[simp] theorem State.outLoses_agree (s : State) (l : Nat) (hμ : 1646264384 ||| μ = μ) :
    Agree μ σ (State.outLoses s l) ↔ Agree μ σ s :=
  Agree.stack (by
    unfold State.outLoses
    repeat' (first | (simp; done) | split | (refine Agree.of_fst ‹_› ?_; simp; done) | simp | (refine (Agree.foldl _ (fun _ _ => ?_)).2 ?_) | intro _)) hμ σ

@[simp] theorem State.laneOut_agree (s : State) (l : Nat) (hμ : 1646264384 ||| μ = μ) :
    Agree μ σ (State.laneOut s l) ↔ Agree μ σ s :=
  Agree.stack (by unfold State.laneOut; simp) hμ σ

@[simp] theorem State.rwAbandoned_agree (s : State) (kind : Nat) (index : Nat) (hμ : 1099547541504 ||| μ = μ) :
    Agree μ σ (State.rwAbandoned s kind index) ↔ Agree μ σ s :=
  Agree.stack (by unfold State.rwAbandoned; simp) hμ σ

@[simp] theorem State.failLane_agree (s : State) (l : Nat) (cause : Nat) (hμ : 1101359480896 ||| μ = μ) :
    Agree μ σ (State.failLane s l cause) ↔ Agree μ σ s :=
  Agree.stack (by unfold State.failLane; (repeat' (first | (simp; done) | split))) hμ σ

@[simp] theorem State.laneOnSpare_agree (s : State) (l : Nat) (hμ : 572522496 ||| μ = μ) :
    Agree μ σ (State.laneOnSpare s l) ↔ Agree μ σ s :=
  Agree.stack (by unfold State.laneOnSpare; simp) hμ σ

@[simp] theorem State.releaseSpare_agree (s : State) (hμ : 572522496 ||| μ = μ) :
    Agree μ σ (State.releaseSpare s) ↔ Agree μ σ s :=
  Agree.stack (by
    unfold State.releaseSpare
    repeat' (first | (simp; done) | split | (refine Agree.of_fst ‹_› ?_; simp; done) | simp | (refine (Agree.foldl _ (fun _ _ => ?_)).2 ?_) | intro _)) hμ σ

@[simp] theorem State.laneTested_agree (s : State) (l : Nat) (pass : Bool) (hμ : 572522560 ||| μ = μ) :
    Agree μ σ (State.laneTested s l pass) ↔ Agree μ σ s :=
  Agree.stack (by unfold State.laneTested; simp) hμ σ

@[simp] theorem State.laneCrc_agree (s : State) (l : Nat) (hμ : 1101359480896 ||| μ = μ) :
    Agree μ σ (State.laneCrc s l) ↔ Agree μ σ s :=
  Agree.stack (by unfold State.laneCrc; simp) hμ σ

@[simp] theorem State.ceCounted_agree (s : State) (b : Nat) (hμ : 1109393536 ||| μ = μ) :
    Agree μ σ (State.ceCounted s b) ↔ Agree μ σ s :=
  Agree.stack (by
    unfold State.ceCounted
    repeat' (first | (simp; done) | split | (refine Agree.of_fst ‹_› ?_; simp; done) | simp | (refine (Agree.foldl _ (fun _ _ => ?_)).2 ?_) | intro _)) hμ σ

@[simp] theorem State.ceReported_agree (s : State) (b : Nat) (hμ : 1109393536 ||| μ = μ) :
    Agree μ σ (State.ceReported s b) ↔ Agree μ σ s :=
  Agree.stack (by
    unfold State.ceReported
    repeat' (first | (simp; done) | split | (refine Agree.of_fst ‹_› ?_; simp; done) | simp | (refine (Agree.foldl _ (fun _ _ => ?_)).2 ?_) | intro _)) hμ σ

@[simp] theorem State.bankCeSeen_agree (s : State) (b : Nat) (hμ : 1109393536 ||| μ = μ) :
    Agree μ σ (State.bankCeSeen s b).1 ↔ Agree μ σ s :=
  Agree.stack (by
    unfold State.bankCeSeen
    repeat' (first | (simp; done) | split | (refine Agree.of_fst ‹_› ?_; simp; done) | simp | (refine (Agree.foldl _ (fun _ _ => ?_)).2 ?_) | intro _)) hμ σ

@[simp] theorem State.beginRetires_agree (s : State) (bs : List (Nat × Nat)) (hμ : 1109393536 ||| μ = μ) :
    Agree μ σ (State.beginRetires s bs) ↔ Agree μ σ s :=
  Agree.stack (by
    unfold State.beginRetires
    repeat' (first | (simp; done) | split | (refine Agree.of_fst ‹_› ?_; simp; done) | simp | (refine (Agree.foldl _ (fun _ _ => ?_)).2 ?_) | intro _)) hμ σ

@[simp] theorem State.bankCe_agree (s : State) (b : Nat) (hμ : 1109393536 ||| μ = μ) :
    Agree μ σ (State.bankCe s b) ↔ Agree μ σ s :=
  Agree.stack (by unfold State.bankCe; simp) hμ σ

@[simp] theorem State.dropUe_agree (s : State) (gone : Held → Bool) (counter : Nat) (hμ : 1646264448 ||| μ = μ) :
    Agree μ σ (State.dropUe s gone counter) ↔ Agree μ σ s :=
  Agree.stack (by unfold State.dropUe; simp) hμ σ

@[simp] theorem State.bankUeSeen_agree (s : State) (b wordAddr source : Nat) (gone : Held → Bool) (hμ : 1646264448 ||| μ = μ) :
    Agree μ σ (State.bankUeSeen s b wordAddr source gone) ↔ Agree μ σ s :=
  Agree.stack (by
    unfold State.bankUeSeen
    repeat' (first | (simp; done) | split | (refine Agree.of_fst ‹_› ?_; simp; done) | simp | (refine (Agree.foldl _ (fun _ _ => ?_)).2 ?_) | intro _)) hμ σ

@[simp] theorem State.bankUe_agree (s : State) (b : Nat) (wordAddr : Nat) (source : Nat) (gone : Held → Bool) (hμ : 1646264448 ||| μ = μ) :
    Agree μ σ (State.bankUe s b wordAddr source gone) ↔ Agree μ σ s :=
  Agree.stack (by unfold State.bankUe; simp) hμ σ

@[simp] theorem State.stopAlloc_agree (s : State) (b : Nat) (hμ : 1646264322 ||| μ = μ) :
    Agree μ σ (State.stopAlloc s b) ↔ Agree μ σ s :=
  Agree.stack (by
    unfold State.stopAlloc
    repeat' (first | (simp; done) | split | (refine Agree.of_fst ‹_› ?_; simp; done) | simp | (refine (Agree.foldl _ (fun _ _ => ?_)).2 ?_) | intro _)) hμ σ

@[simp] theorem State.allocStopped_agree (s : State) (b : Nat) (hμ : 1646264322 ||| μ = μ) :
    Agree μ σ (State.allocStopped s b) ↔ Agree μ σ s :=
  Agree.stack (by unfold State.allocStopped; (repeat' (first | (simp; done) | split))) hμ σ

@[simp] theorem State.drainDone_agree (s : State) (b : Nat) (hμ : 1646264448 ||| μ = μ) :
    Agree μ σ (State.drainDone s b) ↔ Agree μ σ s :=
  Agree.stack (by unfold State.drainDone; (repeat' (first | (simp; done) | split))) hμ σ

@[simp] theorem State.bistDone_agree (s : State) (b : Nat) (pass : Bool) (hμ : 1109393536 ||| μ = μ) :
    Agree μ σ (State.bistDone s b pass) ↔ Agree μ σ s :=
  Agree.stack (by unfold State.bistDone; simp) hμ σ

@[simp] theorem State.takeBucket_agree (s : State) (dir : Nat) (l : Nat) (c : Nat) (hμ : 536870912 ||| μ = μ) :
    Agree μ σ (State.takeBucket s dir l c) ↔ Agree μ σ s :=
  Agree.stack (by unfold State.takeBucket; simp) hμ σ

@[simp] theorem State.takeCopy_agree (s : State) (k : Nat) (hμ : 1610612736 ||| μ = μ) :
    Agree μ σ (State.takeCopy s k) ↔ Agree μ σ s :=
  Agree.stack (by unfold State.takeCopy; simp) hμ σ

@[simp] theorem State.arrive_agree (s : State) (c : Copy) (hμ : 12601792600 ||| μ = μ) :
    Agree μ σ (State.arrive s c) ↔ Agree μ σ s :=
  Agree.stack (by
    unfold State.arrive
    repeat' (first | (simp; done) | split | (refine Agree.of_fst ‹_› ?_; simp; done) | simp | (refine (Agree.foldl _ (fun _ _ => ?_)).2 ?_) | intro _)) hμ σ

@[simp] theorem State.bumps_agree (s : State) (b : Block) (l : List Nat) (hμ : b.bit ||| 35651584 ||| μ = μ) :
    Agree μ σ (State.bumps s b l) ↔ Agree μ σ s := by
  induction l generalizing s with
  | nil => rfl
  | cons v l ih => rw [State.bumps, ih, State.bump_agree _ _ _ hμ]

@[simp] theorem State.moveCell_agree (s : State) (c : Copy) (hμ : 12601792600 ||| μ = μ) :
    Agree μ σ (State.moveCell s c) ↔ Agree μ σ s := by
  refine Agree.stack (m := 12601792600) ?_ hμ σ
  clear hμ
  unfold State.moveCell
  extract_lets n s1 c1 s2 n2 s3 done others x4 s4
  have h1 : Agree 12601792600 s s1 := by simp [s1]
  have h2 : Agree 12601792600 s s2 := by simp [s2, h1]
  have h3 : Agree 12601792600 s s3 := by
    clear_value s2
    simp only [s3]
    split
    · split <;> simp [h2]
    · split
      · exact h2
      · split <;> simp [h2]
  have h4 : Agree 12601792600 s s4 := by simp [s4, h3]
  clear_value s4
  simp [h4]

@[simp] theorem State.dropAbsent_agree (s : State) (hμ : 1646264384 ||| μ = μ) :
    Agree μ σ (State.dropAbsent s) ↔ Agree μ σ s :=
  Agree.stack (by
    unfold State.dropAbsent
    repeat' (first | (simp; done) | split | (refine Agree.of_fst ‹_› ?_; simp; done) | simp | (refine (Agree.foldl _ (fun _ _ => ?_)).2 ?_) | intro _)) hμ σ

@[simp] theorem State.dropOut_agree (s : State) (hμ : 1646264384 ||| μ = μ) :
    Agree μ σ (State.dropOut s) ↔ Agree μ σ s :=
  Agree.stack (by
    unfold State.dropOut
    repeat' (first | (simp; done) | split | (refine Agree.of_fst ‹_› ?_; simp; done) | simp | (refine (Agree.foldl _ (fun _ _ => ?_)).2 ?_) | intro _)) hμ σ

@[simp] theorem State.strike_agree (s : State) (c : Copy) (a1 : SlotFault) (hμ : 1101359481024 ||| μ = μ) :
    Agree μ σ (State.strike s c a1).1 ↔ Agree μ σ s :=
  Agree.stack (by
    unfold State.strike
    repeat' (first | (simp; done) | split | (refine Agree.of_fst ‹_› ?_; simp; done) | simp | (refine (Agree.foldl _ (fun _ _ => ?_)).2 ?_) | intro _)) hμ σ

@[simp] theorem SlotRun.move_agree (r : SlotRun) (c : Copy) (hμ : 1112113682648 ||| μ = μ) :
    Agree μ σ (SlotRun.move r c).state ↔ Agree μ σ r.state :=
  Agree.stack (m := 1112113682648) (by
    unfold SlotRun.move
    extract_lets x y safe
    have h : Agree 1112113682648 r.state y.1 := (Agree.foldl_fst _ (fun q f => by simp)).2 (Agree.refl _ _)
    clear_value y
    split <;> simp [h]) hμ σ

theorem Agree.foldl_run {α : Type} {m : Nat} {s : State} {r : SlotRun} {f : SlotRun → α → SlotRun} (l : List α)
    (h : ∀ q a, Agree m q.state (f q a).state) : Agree m s (l.foldl f r).state ↔ Agree m s r.state := by
  induction l generalizing r with
  | nil => rfl
  | cons a l ih => rw [List.foldl_cons, ih]; exact (h r a).stack (Nat.or_self m) s

@[simp] theorem State.slot_agree (s : State) (faults : List SlotFault) (hμ : 1112113682648 ||| μ = μ) :
    Agree μ σ (State.slot s faults) ↔ Agree μ σ s :=
  Agree.stack (m := 1112113682648) (by
    unfold State.slot
    dsimp only
    rw [State.beginRetires_agree _ _ (by decide), Agree.foldl_run]
    · simp
    · intro q a
      split <;> simp) hμ σ

@[simp] theorem State.dbgChallenged_agree (s : State) (hμ : 27492085661696 ||| μ = μ) :
    Agree μ σ (State.dbgChallenged s) ↔ Agree μ σ s :=
  Agree.stack (by unfold State.dbgChallenged; simp) hμ σ

@[simp] theorem State.formRoot_agree (s : State) (cause : Nat) (hμ : 4330635264 ||| μ = μ) :
    Agree μ σ (State.formRoot s cause) ↔ Agree μ σ s :=
  Agree.stack (by unfold State.formRoot; simp) hμ σ

@[simp] theorem State.dbgAnswered_agree (s : State) (response : List Byte) (hμ : 1103842525184 ||| μ = μ) :
    Agree μ σ (State.dbgAnswered s response) ↔ Agree μ σ s :=
  Agree.stack (by unfold State.dbgAnswered; simp) hμ σ

@[simp] theorem State.dbgLocked_agree (s : State) (hμ : 1099547279360 ||| μ = μ) :
    Agree μ σ (State.dbgLocked s) ↔ Agree μ σ s :=
  Agree.stack (by unfold State.dbgLocked; simp) hμ σ

@[simp] theorem State.sampled_agree (s : State) (n : Nat) (hμ : 17592186044416 ||| μ = μ) :
    Agree μ σ (State.sampled s n).1 ↔ Agree μ σ s :=
  Agree.stack (by unfold State.sampled; simp) hμ σ

@[simp] theorem State.scanSample_agree (s : State) (tdi : List Bool) (hμ : 27487790694400 ||| μ = μ) :
    Agree μ σ (State.scanSample s tdi) ↔ Agree μ σ s :=
  Agree.stack (by unfold State.scanSample; simp) hμ σ

@[simp] theorem State.scanExtest_agree (s : State) (tdi : List Bool) (hμ : 27487790694400 ||| μ = μ) :
    Agree μ σ (State.scanExtest s tdi) ↔ Agree μ σ s :=
  Agree.stack (by unfold State.scanExtest; simp) hμ σ

@[simp] theorem State.islandReset_agree (s : State) (hμ : 2199023255551 ||| μ = μ) :
    Agree μ σ (State.islandReset s) ↔ Agree μ σ s :=
  Agree.stack (by unfold State.islandReset; intro p hp; cases p <;> (try (rename_i b; cases b)) <;> first | rfl | exact absurd hp (by decide)) hμ σ

@[simp] theorem State.wakeUp_agree (s : State) (code count : Nat) (hμ : 137474637824 ||| μ = μ) :
    Agree μ σ (State.wakeUp s code count) ↔ Agree μ σ s :=
  Agree.stack (by unfold State.wakeUp; simp) hμ σ

@[simp] theorem State.latchCause_agree (s : State) (code : Nat) (hμ : 35684352 ||| μ = μ) :
    Agree μ σ (State.latchCause s code) ↔ Agree μ σ s :=
  Agree.stack (by unfold State.latchCause; (repeat' (first | (simp; done) | split))) hμ σ

@[simp] theorem State.islandOn_agree (s : State) (hμ : 137474637824 ||| μ = μ) :
    Agree μ σ (State.islandOn s) ↔ Agree μ σ s :=
  Agree.stack (by unfold State.islandOn; simp) hμ σ

@[simp] theorem State.enableStep_agree (s : State) (hμ : 137438953472 ||| μ = μ) :
    Agree μ σ (State.enableStep s) ↔ Agree μ σ s :=
  Agree.stack (by unfold State.enableStep; (repeat' (first | (simp; done) | split))) hμ σ

@[simp] theorem State.vcoreGood_agree (s : State) (hμ : 17731808722944 ||| μ = μ) :
    Agree μ σ (State.vcoreGood s) ↔ Agree μ σ s :=
  Agree.stack (by unfold State.vcoreGood; simp) hμ σ

@[simp] theorem State.armAll_agree (s : State) (hμ : 137474637824 ||| μ = μ) :
    Agree μ σ (State.armAll s) ↔ Agree μ σ s :=
  Agree.stack (by unfold State.armAll; simp) hμ σ

@[simp] theorem State.railTimeout_agree (s : State) (hμ : 137474637824 ||| μ = μ) :
    Agree μ σ (State.railTimeout s) ↔ Agree μ σ s :=
  Agree.stack (by unfold State.railTimeout; simp) hμ σ

@[simp] theorem State.startFrame_agree (s : State) (p : Nat) (c : Copy) (express : Bool) (hμ : 1713438728 ||| μ = μ) :
    Agree μ σ (State.startFrame s p c express) ↔ Agree μ σ s :=
  Agree.stack (m := 1713438728) (by
    unfold State.startFrame
    dsimp only
    split
    · simp
    · split
      all_goals
        rename_i e
        have h := congrArg Prod.fst e
        dsimp only at h
        subst h
        simp) hμ σ

@[simp] theorem State.startBuffered_agree (s : State) (p : Nat) (c : Copy) (hμ : 1713438728 ||| μ = μ) :
    Agree μ σ (State.startBuffered s p c) ↔ Agree μ σ s :=
  Agree.stack (by unfold State.startBuffered; simp) hμ σ

@[simp] theorem State.retry_agree (s : State) (p : Nat) (hμ : 1713438728 ||| μ = μ) :
    Agree μ σ (State.retry s p) ↔ Agree μ σ s :=
  Agree.stack (by
    unfold State.retry
    repeat' (first | (simp; done) | split | (refine Agree.of_fst ‹_› ?_; simp; done) | simp | (refine (Agree.foldl _ (fun _ _ => ?_)).2 ?_) | intro _)) hμ σ

@[simp] theorem State.railRetry_agree (s : State) (hμ : 137474637824 ||| μ = μ) :
    Agree μ σ (State.railRetry s) ↔ Agree μ σ s :=
  Agree.stack (by unfold State.railRetry; simp) hμ σ

@[simp] theorem State.resetReleased_agree (s : State) (hμ : 137474605057 ||| μ = μ) :
    Agree μ σ (State.resetReleased s) ↔ Agree μ σ s :=
  Agree.stack (by unfold State.resetReleased; simp) hμ σ

@[simp] theorem State.setRail_agree (s : State) (r : Rail) (mv : Nat) (hμ : 549755813888 ||| μ = μ) :
    Agree μ σ (State.setRail s r mv) ↔ Agree μ σ s :=
  Agree.stack (by
    unfold State.setRail
    repeat' (first | (simp; done) | split | (refine Agree.of_fst ‹_› ?_; simp; done) | simp | (refine (Agree.foldl _ (fun _ _ => ?_)).2 ?_) | intro _)) hμ σ

@[simp] theorem State.brownOut_agree (s : State) (r : Rail) (mv : Nat) (hμ : 2199023222783 ||| μ = μ) :
    Agree μ σ (State.brownOut s r mv) ↔ Agree μ σ s :=
  Agree.stack (by
    unfold State.brownOut
    repeat' (first | (simp; done) | split | (refine Agree.of_fst ‹_› ?_; simp; done) | simp | (refine (Agree.foldl _ (fun _ _ => ?_)).2 ?_) | intro _)) hμ σ

@[simp] theorem State.resetPin_agree (s : State) (hμ : 2199023222783 ||| μ = μ) :
    Agree μ σ (State.resetPin s) ↔ Agree μ σ s :=
  Agree.stack (by unfold State.resetPin; simp) hμ σ

@[simp] theorem State.vcoreSample_agree (s : State) (mv : Nat) (hμ : 549791989760 ||| μ = μ) :
    Agree μ σ (State.vcoreSample s mv) ↔ Agree μ σ s :=
  Agree.stack (by unfold State.vcoreSample; simp) hμ σ

@[simp] theorem State.tempSample_agree (s : State) (quarters : Nat) (hμ : 549791989760 ||| μ = μ) :
    Agree μ σ (State.tempSample s quarters) ↔ Agree μ σ s :=
  Agree.stack (by unfold State.tempSample; simp) hμ σ

@[simp] theorem State.measureVin_agree (s : State) (mv : Nat) (hμ : 32768 ||| μ = μ) :
    Agree μ σ (State.measureVin s mv) ↔ Agree μ σ s :=
  Agree.stack (by unfold State.measureVin; simp) hμ σ

@[simp] theorem State.vinLow_agree (s : State) (mv : Nat) (hμ : 35684352 ||| μ = μ) :
    Agree μ σ (State.vinLow s mv) ↔ Agree μ σ s :=
  Agree.stack (by unfold State.vinLow; simp) hμ σ

@[simp] theorem State.readBootRecord_agree (s : State) (hμ : 4330635264 ||| μ = μ) :
    Agree μ σ (State.readBootRecord s) ↔ Agree μ σ s :=
  Agree.stack (by unfold State.readBootRecord; simp) hμ σ

@[simp] theorem State.tryBanks_agree (s : State) (l : List Nat) (hμ : 35667968 ||| μ = μ) :
    Agree μ σ (State.tryBanks s l).1 ↔ Agree μ σ s := by
  refine Agree.stack (m := 35667968) ?_ hμ σ
  clear hμ
  induction l generalizing s with
  | nil => exact Agree.refl _ _
  | cons x l ih =>
    unfold State.tryBanks
    split
    · simp
    · exact Agree.trans (by simp) (ih _)

@[simp] theorem State.bootFirmware_agree (s : State) (hμ : 1103842263040 ||| μ = μ) :
    Agree μ σ (State.bootFirmware s) ↔ Agree μ σ s :=
  Agree.stack (by
    unfold State.bootFirmware
    repeat' (first | (simp; done) | split | (refine Agree.of_fst ‹_› ?_; simp; done) | simp | (refine (Agree.foldl _ (fun _ _ => ?_)).2 ?_) | intro _)) hμ σ

@[simp] theorem State.slotVersions_agree (s : State) (hμ : 2 ||| μ = μ) :
    Agree μ σ (State.slotVersions s) ↔ Agree μ σ s :=
  Agree.stack (by unfold State.slotVersions; simp) hμ σ

@[simp] theorem State.slotFails_agree (s : State) (sl : Slot) (reason : Nat) (hμ : 35651586 ||| μ = μ) :
    Agree μ σ (State.slotFails s sl reason) ↔ Agree μ σ s :=
  Agree.stack (by unfold State.slotFails; simp) hμ σ

@[simp] theorem State.bootSlot_agree (s : State) (gs : List ReadGlitch) (sl : Slot) (hμ : 35651586 ||| μ = μ) :
    Agree μ σ (State.bootSlot s gs sl).1 ↔ Agree μ σ s :=
  Agree.stack (by
    unfold State.bootSlot
    repeat' (first | (simp; done) | split | (refine Agree.of_fst ‹_› ?_; simp; done) | simp | (refine (Agree.foldl _ (fun _ _ => ?_)).2 ?_) | intro _)) hμ σ

@[simp] theorem State.bootFirst_agree (s : State) (gs : List ReadGlitch) (l : List Slot) (hμ : 35651586 ||| μ = μ) :
    Agree μ σ (State.bootFirst s gs l).1 ↔ Agree μ σ s := by
  refine Agree.stack (m := 35651586) ?_ hμ σ
  clear hμ
  induction l generalizing s with
  | nil => exact Agree.refl _ _
  | cons x l ih =>
    unfold State.bootFirst
    extract_lets reason
    clear_value reason
    split
    · refine Agree.trans ?_ (ih _)
      simp
    · split
      · rename_i e
        exact Agree.of_fst e (by simp)
      · rename_i e
        exact Agree.trans (Agree.of_fst e (by simp)) (ih _)

@[simp] theorem State.doBootSelect_agree (s : State) (gs : List ReadGlitch) (hμ : 39845890 ||| μ = μ) :
    Agree μ σ (State.doBootSelect s gs) ↔ Agree μ σ s :=
  Agree.stack (by
    unfold State.doBootSelect
    repeat' (first | (simp; done) | split | (refine Agree.of_fst ‹_› ?_; simp; done) | simp | (refine (Agree.foldl _ (fun _ _ => ?_)).2 ?_) | intro _)) hμ σ

@[simp] theorem State.keepPast_agree (s : State) (hμ : 4194304 ||| μ = μ) :
    Agree μ σ (State.keepPast s) ↔ Agree μ σ s :=
  Agree.stack (by unfold State.keepPast; simp) hμ σ

@[simp] theorem State.showConf_agree (s : State) (c : Conf) (epoch : Nat) (hμ : 2 ||| μ = μ) :
    Agree μ σ (State.showConf s c epoch) ↔ Agree μ σ s :=
  Agree.stack (by unfold State.showConf; simp) hμ σ

@[simp] theorem State.rwAbandon_agree (s : State) (w : Works) (hμ : 1099547541504 ||| μ = μ) :
    Agree μ σ (State.rwAbandon s w) ↔ Agree μ σ s := by
  unfold State.rwAbandon
  refine Agree.elim (fun r => ?_)
  simp [hμ]

@[simp] theorem State.beginMvbWorks_agree (s : State) (n : Nat) (hμ : 34395390976 ||| μ = μ) :
    Agree μ σ (State.beginMvbWorks s n) ↔ Agree μ σ s :=
  Agree.stack (by unfold State.beginMvbWorks; simp) hμ σ

@[simp] theorem State.beginParserWorks_agree (s : State) (hμ : 169869336 ||| μ = μ) :
    Agree μ σ (State.beginParserWorks s) ↔ Agree μ σ s :=
  Agree.stack (by
    unfold State.beginParserWorks
    repeat' (first | (simp; done) | split | (refine Agree.of_fst ‹_› ?_; simp; done) | simp | (refine (Agree.foldl _ (fun _ _ => ?_)).2 ?_) | intro _)) hμ σ

@[simp] theorem State.mvbWorksDue_agree (s : State) (n : Nat) (hμ : 34395390976 ||| μ = μ) :
    Agree μ σ (State.mvbWorksDue s n) ↔ Agree μ σ s :=
  Agree.stack (by
    unfold State.mvbWorksDue
    repeat' (first | (simp; done) | split | (refine Agree.of_fst ‹_› ?_; simp; done) | simp | (refine (Agree.foldl _ (fun _ _ => ?_)).2 ?_) | intro _)) hμ σ

@[simp] theorem State.beginWorks_agree (s : State) (w : Works) (hμ : 1138143593532 ||| μ = μ) :
    Agree μ σ (State.beginWorks s w) ↔ Agree μ σ s :=
  Agree.stack (by unfold State.beginWorks; (repeat' (first | (simp; done) | split))) hμ σ

@[simp] theorem State.loadWords_agree (s : State) (b : Block) (offs : List Nat) (body : Option (List Byte)) (hμ : b.bit ||| μ = μ) :
    Agree μ σ (State.loadWords s b offs body) ↔ Agree μ σ s :=
  Agree.stack (by unfold State.loadWords; simp) hμ σ

@[simp] theorem State.tfailMuted_agree (s : State) (hμ : 2147483648 ||| μ = μ) :
    Agree μ σ (State.tfailMuted s) ↔ Agree μ σ s :=
  Agree.stack (by unfold State.tfailMuted; split <;> simp) hμ σ

@[simp] theorem State.loadTandem_agree (s : State) (l : Load) (hμ : 17789328884236 ||| μ = μ) :
    Agree μ σ (State.loadTandem s l) ↔ Agree μ σ s :=
  Agree.stack (by unfold State.loadTandem; simp) hμ σ

@[simp] theorem State.loadFlumes_agree (s : State) (l : Load) (hμ : 2164264960 ||| μ = μ) :
    Agree μ σ (State.loadFlumes s l) ↔ Agree μ σ s :=
  Agree.stack (by unfold State.loadFlumes; simp) hμ σ

@[simp] theorem State.loadDomain_agree (s : State) (l : Load) (d : Nat) (hμ : 44040196 ||| μ = μ) :
    Agree μ σ (State.loadDomain s l d) ↔ Agree μ σ s :=
  Agree.stack (by
    unfold State.loadDomain
    repeat' (first | (simp; done) | split | (refine Agree.of_fst ‹_› ?_; simp; done) | simp | (refine (Agree.foldl _ (fun _ _ => ?_)).2 ?_) | intro _)) hμ σ

@[simp] theorem State.setPrimary_agree (s : State) (prim : Nat) (hμ : 44040196 ||| μ = μ) :
    Agree μ σ (State.setPrimary s prim) ↔ Agree μ σ s :=
  Agree.stack (by
    unfold State.setPrimary
    repeat' (first | (simp; done) | split | (refine Agree.of_fst ‹_› ?_; simp; done) | simp | (refine (Agree.foldl _ (fun _ _ => ?_)).2 ?_) | intro _)) hμ σ

@[simp] theorem State.loadTime_agree (s : State) (l : Load) (hμ : 44040196 ||| μ = μ) :
    Agree μ σ (State.loadTime s l) ↔ Agree μ σ s :=
  Agree.stack (by unfold State.loadTime; simp) hμ σ

@[simp] theorem State.loadClass_agree (s : State) (rs : List Rec) (p : Nat) (c : Nat) (hμ : 67109120 ||| μ = μ) :
    Agree μ σ (State.loadClass s rs p c) ↔ Agree μ σ s :=
  Agree.stack (by unfold State.loadClass; simp) hμ σ

@[simp] theorem State.egrErr_agree (s : State) (p : Nat) (i : Nat) (c : Nat) (hμ : 35651840 ||| μ = μ) :
    Agree μ σ (State.egrErr s p i c) ↔ Agree μ σ s :=
  Agree.stack (by unfold State.egrErr; simp) hμ σ

@[simp] theorem State.checkSlopes_agree (s : State) (p : Nat) (hμ : 35651840 ||| μ = μ) :
    Agree μ σ (State.checkSlopes s p) ↔ Agree μ σ s :=
  Agree.stack (by unfold State.checkSlopes; simp) hμ σ

@[simp] theorem State.loadShapers_agree (s : State) (l : Load) (p : Nat) (hμ : 102760704 ||| μ = μ) :
    Agree μ σ (State.loadShapers s l p) ↔ Agree μ σ s :=
  Agree.stack (by unfold State.loadShapers; simp) hμ σ

@[simp] theorem State.countOverrun_agree (s : State) (p : Nat) (hμ : 35651840 ||| μ = μ) :
    Agree μ σ (State.countOverrun s p) ↔ Agree μ σ s :=
  Agree.stack (by unfold State.countOverrun; (repeat' (first | (simp; done) | split))) hμ σ

@[simp] theorem State.loadSchedule_agree (s : State) (l : Load) (p : Nat) (hμ : 102760704 ||| μ = μ) :
    Agree μ σ (State.loadSchedule s l p) ↔ Agree μ σ s :=
  Agree.stack (by unfold State.loadSchedule; simp) hμ σ

@[simp] theorem State.writeBuild_agree (s : State) (p : Nat) (w : Nat) (hμ : 8796160131080 ||| μ = μ) :
    Agree μ σ (State.writeBuild s p w) ↔ Agree μ σ s :=
  Agree.stack (by unfold State.writeBuild; simp) hμ σ

@[simp] theorem State.loadSetting_agree (s : State) (p : Nat) (i : Nat) (off : Nat) (body : Option (List Byte)) (hμ : 8796160131080 ||| μ = μ) :
    Agree μ σ (State.loadSetting s p i off body) ↔ Agree μ σ s :=
  Agree.stack (by unfold State.loadSetting; simp) hμ σ

@[simp] theorem State.loadPort_agree (s : State) (l : Load) (p : Nat) (hμ : 8800364986412 ||| μ = μ) :
    Agree μ σ (State.loadPort s l p) ↔ Agree μ σ s :=
  Agree.stack (by unfold State.loadPort; simp) hμ σ

@[simp] theorem State.endLease_agree (s : State) (t : Nat) (hμ : 1099815714816 ||| μ = μ) :
    Agree μ σ (State.endLease s t) ↔ Agree μ σ s :=
  Agree.stack (by unfold State.endLease; simp) hμ σ

@[simp] theorem State.loadTable_agree (s : State) (l : Load) (t : Nat) (hμ : 1099815714848 ||| μ = μ) :
    Agree μ σ (State.loadTable s l t) ↔ Agree μ σ s :=
  Agree.stack (by unfold State.loadTable; simp) hμ σ

@[simp] theorem State.loadLimits_agree (s : State) (l : Load) (hμ : 1610612866 ||| μ = μ) :
    Agree μ σ (State.loadLimits s l) ↔ Agree μ σ s :=
  Agree.stack (by unfold State.loadLimits; simp) hμ σ

@[simp] theorem State.loadIngress_agree (s : State) (l : Load) (hμ : 16 ||| μ = μ) :
    Agree μ σ (State.loadIngress s l) ↔ Agree μ σ s :=
  Agree.stack (by unfold State.loadIngress; simp) hμ σ

@[simp] theorem State.loadWeirs_agree (s : State) (l : Load) (hμ : 134217744 ||| μ = μ) :
    Agree μ σ (State.loadWeirs s l) ↔ Agree μ σ s :=
  Agree.stack (m := 134217744) (by
    unfold State.loadWeirs
    refine (Agree.foldl _ (fun u a => ?_)).2 ?_
    · simp
    · split
      · intro p hp
        cases p <;> (try (rename_i b; cases b)) <;> first | rfl | exact absurd hp (by decide)
      · exact Agree.refl _ _) hμ σ

@[simp] theorem State.refreshTargets_agree (s : State) (which : Nat → List Byte → Bool) (hμ : 60165196288 ||| μ = μ) :
    Agree μ σ (State.refreshTargets s which) ↔ Agree μ σ s :=
  Agree.stack (by
    unfold State.refreshTargets
    repeat' (first | (simp; done) | split | (refine Agree.of_fst ‹_› ?_; simp; done) | simp | (refine (Agree.foldl _ (fun _ _ => ?_)).2 ?_) | intro _)) hμ σ

@[simp] theorem State.putTargets_agree (s : State) (n : Nat) (hμ : 60165196288 ||| μ = μ) :
    Agree μ σ (State.putTargets s n) ↔ Agree μ σ s :=
  Agree.stack (by
    unfold State.putTargets
    repeat' (first | (simp; done) | split | (refine Agree.of_fst ‹_› ?_; simp; done) | simp | (refine (Agree.foldl _ (fun _ _ => ?_)).2 ?_) | intro _)) hμ σ

@[simp] theorem State.loadChannel_agree (s : State) (l : Load) (works : List Works) (n : Nat) (hμ : 199751698944 ||| μ = μ) :
    Agree μ σ (State.loadChannel s l works n) ↔ Agree μ σ s :=
  Agree.stack (by unfold State.loadChannel; simp) hμ σ

@[simp] theorem State.loadMvb_agree (s : State) (n : Nat) (hμ : 1024 ||| μ = μ) :
    Agree μ σ (State.loadMvb s n) ↔ Agree μ σ s :=
  Agree.stack (by unfold State.loadMvb; (repeat' (first | (simp; done) | split))) hμ σ

@[simp] theorem State.startMvb_agree (s : State) (n : Nat) (hμ : 34395389952 ||| μ = μ) :
    Agree μ σ (State.startMvb s n) ↔ Agree μ σ s :=
  Agree.stack (by unfold State.startMvb; simp) hμ σ

@[simp] theorem State.buildMvb_agree (s : State) (n : Nat) (hμ : 34395390976 ||| μ = μ) :
    Agree μ σ (State.buildMvb s n) ↔ Agree μ σ s :=
  Agree.stack (by unfold State.buildMvb; simp) hμ σ

@[simp] theorem State.ringStop_agree (s : State) (r : Nat) (hμ : 139622154240 ||| μ = μ) :
    Agree μ σ (State.ringStop s r) ↔ Agree μ σ s :=
  Agree.stack (by unfold State.ringStop; simp) hμ σ

@[simp] theorem State.loadRing_agree (s : State) (l : Load) (r : Nat) (hμ : 17731808231424 ||| μ = μ) :
    Agree μ σ (State.loadRing s l r) ↔ Agree μ σ s :=
  Agree.stack (by unfold State.loadRing; simp) hμ σ

@[simp] theorem State.loadStray_agree (s : State) (l : Load) (hμ : 32768 ||| μ = μ) :
    Agree μ σ (State.loadStray s l) ↔ Agree μ σ s :=
  Agree.stack (by unfold State.loadStray; simp) hμ σ

@[simp] theorem State.loadIsland_agree (s : State) (l : Load) (hμ : 17731808755712 ||| μ = μ) :
    Agree μ σ (State.loadIsland s l) ↔ Agree μ σ s :=
  Agree.stack (by unfold State.loadIsland; simp) hμ σ

@[simp] theorem State.loadPolicies_agree (s : State) (l : Load) (hμ : 4330635264 ||| μ = μ) :
    Agree μ σ (State.loadPolicies s l) ↔ Agree μ σ s :=
  Agree.stack (m := 4330635264) (by
    unfold State.loadPolicies
    dsimp only
    rw [Agree.put_key (by decide)]
    split
    · refine (Agree.foldl_fst _ (fun q a => ?_)).2 (Agree.refl _ _)
      simp
    · rw [State.emit_agree _ _ _ (by decide), State.bumpBy_agree _ _ _ _ (by decide)]
      refine (Agree.foldl_fst _ (fun q a => ?_)).2 (Agree.refl _ _)
      simp) hμ σ

@[simp] theorem State.gwyCommit_agree (s : State) (old : List Rec) (new : List Rec) (hμ : 60165196288 ||| μ = μ) :
    Agree μ σ (State.gwyCommit s old new) ↔ Agree μ σ s :=
  Agree.stack (by unfold State.gwyCommit; simp) hμ σ

@[simp] theorem State.loadPin_agree (s : State) (m : Nat) (cfg : Word) (hμ : 274878431232 ||| μ = μ) :
    Agree μ σ (State.loadPin s m cfg) ↔ Agree μ σ s :=
  Agree.stack (by unfold State.loadPin; simp) hμ σ

@[simp] theorem State.loadPins_agree (s : State) (l : Load) (hμ : 274878431232 ||| μ = μ) :
    Agree μ σ (State.loadPins s l) ↔ Agree μ σ s :=
  Agree.stack (by unfold State.loadPins; simp) hμ σ

@[simp] theorem State.loadRoute_agree (s : State) (rs : List Rec) (e : Nat) (hμ : 35782656 ||| μ = μ) :
    Agree μ σ (State.loadRoute s rs e) ↔ Agree μ σ s :=
  Agree.stack (by unfold State.loadRoute; (repeat' (first | (simp; done) | split))) hμ σ

@[simp] theorem State.loadWatch_agree (s : State) (rs : List Rec) (k : Nat) (hμ : 33685504 ||| μ = μ) :
    Agree μ σ (State.loadWatch s rs k) ↔ Agree μ σ s :=
  Agree.stack (by unfold State.loadWatch; simp) hμ σ

@[simp] theorem State.loadEvents_agree (s : State) (l : Load) (hμ : 35782656 ||| μ = μ) :
    Agree μ σ (State.loadEvents s l) ↔ Agree μ σ s :=
  Agree.stack (by unfold State.loadEvents; simp) hμ σ

@[simp] theorem State.loadAll_agree (s : State) (l : Load) (works : List Works) (hμ : 27968821780414 ||| μ = μ) :
    Agree μ σ (State.loadAll s l works) ↔ Agree μ σ s :=
  Agree.stack (by unfold State.loadAll; simp) hμ σ

@[simp] theorem State.install_agree (s : State) (c : Conf) (epoch : Nat) (boot : Bool) (hμ : 27968825974718 ||| μ = μ) :
    Agree μ σ (State.install s c epoch boot).1 ↔ Agree μ σ s :=
  Agree.stack (by unfold State.install; simp) hμ σ

@[simp] theorem State.doBootLoad_agree (s : State) (hμ : 27968825974718 ||| μ = μ) :
    Agree μ σ (State.doBootLoad s) ↔ Agree μ σ s :=
  Agree.stack (by unfold State.doBootLoad; (repeat' (first | (simp; done) | split))) hμ σ

@[simp] theorem State.doStaged_agree (s : State) (hμ : 39845890 ||| μ = μ) :
    Agree μ σ (State.doStaged s) ↔ Agree μ σ s :=
  Agree.stack (by unfold State.doStaged; (repeat' (first | (simp; done) | split))) hμ σ

@[simp] theorem State.doDeadline_agree (s : State) (hμ : 4194304 ||| μ = μ) :
    Agree μ σ (State.doDeadline s) ↔ Agree μ σ s :=
  Agree.stack (by unfold State.doDeadline; simp) hμ σ

@[simp] theorem State.refuseCommit_agree (s : State) (a : ArmRecord) (c : Conf) (e : Nat) (hμ : 39845890 ||| μ = μ) :
    Agree μ σ (State.refuseCommit s a c e) ↔ Agree μ σ s :=
  Agree.stack (by unfold State.refuseCommit; simp) hμ σ

@[simp] theorem State.afterInstall_agree (s : State) (works : Nat) (hμ : 4194304 ||| μ = μ) :
    Agree μ σ (State.afterInstall s works) ↔ Agree μ σ s :=
  Agree.stack (by unfold State.afterInstall; simp) hμ σ

@[simp] theorem State.switchTo_agree (s : State) (a : ArmRecord) (c : Conf) (hμ : 27968825974718 ||| μ = μ) :
    Agree μ σ (State.switchTo s a c) ↔ Agree μ σ s :=
  Agree.stack (by unfold State.switchTo; simp) hμ σ

@[simp] theorem State.doCommit_agree (s : State) (hμ : 27968825974718 ||| μ = μ) :
    Agree μ σ (State.doCommit s) ↔ Agree μ σ s :=
  Agree.stack (by unfold State.doCommit; (repeat' (first | (simp; done) | split))) hμ σ

@[simp] theorem State.doRefusedOver_agree (s : State) (hμ : 4194306 ||| μ = μ) :
    Agree μ σ (State.doRefusedOver s) ↔ Agree μ σ s :=
  Agree.stack (by unfold State.doRefusedOver; simp) hμ σ

@[simp] theorem State.doWorksDone_agree (s : State) (hμ : 39845888 ||| μ = μ) :
    Agree μ σ (State.doWorksDone s) ↔ Agree μ σ s :=
  Agree.stack (by unfold State.doWorksDone; simp) hμ σ

@[simp] theorem State.doKeptRelease_agree (s : State) (hμ : 4194304 ||| μ = μ) :
    Agree μ σ (State.doKeptRelease s) ↔ Agree μ σ s :=
  Agree.stack (by unfold State.doKeptRelease; simp) hμ σ

@[simp] theorem State.ifPtpUp_agree (s : State) (p : Nat) (run : State → State) (h : ∀ u, Agree μ u (run u)) (hμ : 0 ||| μ = μ) :
    Agree μ σ (State.ifPtpUp s p run) ↔ Agree μ σ s := by
  have key : ∀ a, a ||| 0 = 0 → a ||| μ = μ := fun a ha => by rw [← hμ, ← Nat.or_assoc, ha]
  have hr : ∀ u, Agree μ σ (run u) ↔ Agree μ σ u := fun u => (h u).stack (Nat.or_self μ) σ
  unfold State.ifPtpUp
  repeat' split
  all_goals simp (disch := (refine key _ ?_; decide)) [hr]

@[simp] theorem State.rejectPtp_agree (s : State) (p : Nat) (code : Nat) (hμ : 35651588 ||| μ = μ) :
    Agree μ σ (State.rejectPtp s p code) ↔ Agree μ σ s :=
  Agree.stack (by unfold State.rejectPtp; simp) hμ σ

@[simp] theorem State.followSync_agree (s : State) (d : Nat) (p : Nat) (clock : Nat) (hμ : 44040196 ||| μ = μ) :
    Agree μ σ (State.followSync s d p clock) ↔ Agree μ σ s :=
  Agree.stack (by unfold State.followSync; (repeat' (first | (simp; done) | split))) hμ σ

@[simp] theorem State.sendPtp_agree (s : State) (p : Nat) (m : PtpMsg) (hμ : 9071073689612 ||| μ = μ) :
    Agree μ σ (State.sendPtp s p m) ↔ Agree μ σ s :=
  Agree.stack (by unfold State.sendPtp; simp) hμ σ

@[simp] theorem State.sendSyncs_agree (s : State) (d : Nat) (hμ : 9071082078220 ||| μ = μ) :
    Agree μ σ (State.sendSyncs s d) ↔ Agree μ σ s :=
  Agree.stack (by unfold State.sendSyncs; simp) hμ σ

@[simp] theorem State.acceptPtp_agree (s : State) (p : Nat) (hμ : 35651588 ||| μ = μ) :
    Agree μ σ (State.acceptPtp s p) ↔ Agree μ σ s :=
  Agree.stack (by unfold State.acceptPtp; simp) hμ σ

@[simp] theorem State.outlier_agree (s : State) (d : Nat) (p : Nat) (hμ : 44040196 ||| μ = μ) :
    Agree μ σ (State.outlier s d p) ↔ Agree μ σ s :=
  Agree.stack (by unfold State.outlier; simp) hμ σ

@[simp] theorem State.countLock_agree (s : State) (d : Nat) (o : Int) (hμ : 44040192 ||| μ = μ) :
    Agree μ σ (State.countLock s d o) ↔ Agree μ σ s :=
  Agree.stack (by unfold State.countLock; simp) hμ σ

@[simp] theorem State.setOffset_agree (s : State) (d : Nat) (o : Int) (hμ : 4 ||| μ = μ) :
    Agree μ σ (State.setOffset s d o) ↔ Agree μ σ s :=
  Agree.stack (by unfold State.setOffset; simp) hμ σ

@[simp] theorem State.servo_agree (s : State) (d : Nat) (o : Int) (e : Int) (interval : Int) (hμ : 44040196 ||| μ = μ) :
    Agree μ σ (State.servo s d o e interval) ↔ Agree μ σ s :=
  Agree.stack (by unfold State.servo; simp) hμ σ

@[simp] theorem State.stepOrSlew_agree (s : State) (d : Nat) (o : Int) (hμ : 1117071081728 ||| μ = μ) :
    Agree μ σ (State.stepOrSlew s d o) ↔ Agree μ σ s :=
  Agree.stack (by unfold State.stepOrSlew; simp) hμ σ

@[simp] theorem State.takeSample_agree (s : State) (d : Nat) (p : Nat) (o : Int) (e : Int) (interval : Int) (hμ : 1117071081732 ||| μ = μ) :
    Agree μ σ (State.takeSample s d p o e interval) ↔ Agree μ σ s :=
  Agree.stack (by
    unfold State.takeSample
    repeat' (first | (simp; done) | split | (refine Agree.of_fst ‹_› ?_; simp; done) | simp | (refine (Agree.foldl _ (fun _ _ => ?_)).2 ?_) | intro _)) hμ σ

@[simp] theorem State.sendFollowUp_agree (s : State) (d p : Nat) (origin : PtpTime) (correction rateOffset : Int) (hμ : 9071073689612 ||| μ = μ) :
    Agree μ σ (State.sendFollowUp s d p origin correction rateOffset) ↔ Agree μ σ s :=
  Agree.stack (by
    unfold State.sendFollowUp
    repeat' (first | (simp; done) | split | (refine Agree.of_fst ‹_› ?_; simp; done) | simp | (refine (Agree.foldl _ (fun _ _ => ?_)).2 ?_) | intro _)) hμ σ

@[simp] theorem State.relayFollowUps_agree (s : State) (d rx : Nat) (origin : PtpTime) (correction delay cumulative : Int) (hμ : 26663259734028 ||| μ = μ) :
    Agree μ σ (State.relayFollowUps s d rx origin correction delay cumulative) ↔ Agree μ σ s :=
  Agree.stack (by
    unfold State.relayFollowUps
    repeat' (first | (simp; done) | split | (refine Agree.of_fst ‹_› ?_; simp; done) | simp | (refine (Agree.foldl _ (fun _ _ => ?_)).2 ?_) | intro _)) hμ σ

@[simp] theorem State.completeSync_agree (s : State) (d : Nat) (p : Nat) (y : PendingSync) (origin : PtpTime) (correction : Int) (rateOffset : Int) (log : Int) (hμ : 27780228055308 ||| μ = μ) :
    Agree μ σ (State.completeSync s d p y origin correction rateOffset log) ↔ Agree μ σ s :=
  Agree.stack (by unfold State.completeSync; simp) hμ σ

@[simp] theorem State.syncIn_agree (s : State) (p : Nat) (m : SyncMsg) (hμ : 27780228055308 ||| μ = μ) :
    Agree μ σ (State.syncIn s p m) ↔ Agree μ σ s :=
  Agree.stack (by
    unfold State.syncIn
    repeat' (first | (simp; done) | split | (refine Agree.of_fst ‹_› ?_; simp; done) | simp | (refine (Agree.foldl _ (fun _ _ => ?_)).2 ?_) | intro _)) hμ σ

@[simp] theorem State.followUpIn_agree (s : State) (p : Nat) (m : FollowUpMsg) (hμ : 27780228055308 ||| μ = μ) :
    Agree μ σ (State.followUpIn s p m) ↔ Agree μ σ s :=
  Agree.stack (by
    unfold State.followUpIn
    repeat' (first | (simp; done) | split | (refine Agree.of_fst ‹_› ?_; simp; done) | simp | (refine (Agree.foldl _ (fun _ _ => ?_)).2 ?_) | intro _)) hμ σ

@[simp] theorem State.sendAnnounces_agree (s : State) (d : Nat) (rank : ClockRank) (steps : Nat) (trace : List Nat) (hμ : 9071082078220 ||| μ = μ) :
    Agree μ σ (State.sendAnnounces s d rank steps trace) ↔ Agree μ σ s :=
  Agree.stack (by unfold State.sendAnnounces; simp) hμ σ

@[simp] theorem State.announceIn_agree (s : State) (p : Nat) (m : AnnounceMsg) (hμ : 9071082078220 ||| μ = μ) :
    Agree μ σ (State.announceIn s p m) ↔ Agree μ σ s :=
  Agree.stack (by unfold State.announceIn; (repeat' (first | (simp; done) | split))) hμ σ

@[simp] theorem State.ownFollowUp_agree (s : State) (d p : Nat) (hμ : 9071073689612 ||| μ = μ) :
    Agree μ σ (State.ownFollowUp s d p) ↔ Agree μ σ s :=
  Agree.stack (by
    unfold State.ownFollowUp
    repeat' (first | (simp; done) | split | (refine Agree.of_fst ‹_› ?_; simp; done) | simp | (refine (Agree.foldl _ (fun _ _ => ?_)).2 ?_) | intro _)) hμ σ

@[simp] theorem State.gmSync_agree (s : State) (d : Nat) (hμ : 9071082078220 ||| μ = μ) :
    Agree μ σ (State.gmSync s d) ↔ Agree μ σ s :=
  Agree.stack (by unfold State.gmSync; simp) hμ σ

@[simp] theorem State.gmAnnounce_agree (s : State) (d : Nat) (hμ : 9071082078220 ||| μ = μ) :
    Agree μ σ (State.gmAnnounce s d) ↔ Agree μ σ s :=
  Agree.stack (by unfold State.gmAnnounce; simp) hμ σ

@[simp] theorem State.announceLost_agree (s : State) (d : Nat) (p : Nat) (hμ : 44040196 ||| μ = μ) :
    Agree μ σ (State.announceLost s d p) ↔ Agree μ σ s :=
  Agree.stack (by unfold State.announceLost; simp) hμ σ

@[simp] theorem State.signalingIn_agree (s : State) (p : Nat) (m : SignalingMsg) (hμ : 44040196 ||| μ = μ) :
    Agree μ σ (State.signalingIn s p m) ↔ Agree μ σ s :=
  Agree.stack (by unfold State.signalingIn; (repeat' (first | (simp; done) | split))) hμ σ

@[simp] theorem State.lostExchange_agree (s : State) (p : Nat) (hμ : 44040196 ||| μ = μ) :
    Agree μ σ (State.lostExchange s p) ↔ Agree μ σ s :=
  Agree.stack (by unfold State.lostExchange; simp) hμ σ

@[simp] theorem State.pdelayStart_agree (s : State) (p : Nat) (hμ : 9071082078220 ||| μ = μ) :
    Agree μ σ (State.pdelayStart s p) ↔ Agree μ σ s :=
  Agree.stack (by unfold State.pdelayStart; simp) hμ σ

@[simp] theorem State.pdelayAnswer_agree (s : State) (p : Nat) (h : PtpHeader) (hμ : 9071073689612 ||| μ = μ) :
    Agree μ σ (State.pdelayAnswer s p h) ↔ Agree μ σ s :=
  Agree.stack (by unfold State.pdelayAnswer; (repeat' (first | (simp; done) | split))) hμ σ

@[simp] theorem State.pdelayBad_agree (s : State) (p : Nat) (hμ : 44040196 ||| μ = μ) :
    Agree μ σ (State.pdelayBad s p) ↔ Agree μ σ s :=
  Agree.stack (by
    unfold State.pdelayBad
    repeat' (first | (simp; done) | split | (refine Agree.of_fst ‹_› ?_; simp; done) | simp | (refine (Agree.foldl _ (fun _ _ => ?_)).2 ?_) | intro _)) hμ σ

@[simp] theorem State.pdelayFollow_agree (s : State) (p : Nat) (r : Option PdelayResp) (f : PdelayRespFollowUp) (hμ : 44040196 ||| μ = μ) :
    Agree μ σ (State.pdelayFollow s p r f) ↔ Agree μ σ s :=
  Agree.stack (by
    unfold State.pdelayFollow
    repeat' (first | (simp; done) | split | (refine Agree.of_fst ‹_› ?_; simp; done) | simp | (refine (Agree.foldl _ (fun _ _ => ?_)).2 ?_) | intro _)) hμ σ

@[simp] theorem State.pdelayDone_agree (s : State) (p : Nat) (r : PdelayResp) (f : PdelayRespFollowUp) (hμ : 44040196 ||| μ = μ) :
    Agree μ σ (State.pdelayDone s p r f) ↔ Agree μ σ s :=
  Agree.stack (by
    unfold State.pdelayDone
    repeat' (first | (simp; done) | split | (refine Agree.of_fst ‹_› ?_; simp; done) | simp | (refine (Agree.foldl _ (fun _ _ => ?_)).2 ?_) | intro _)) hμ σ

@[simp] theorem State.toFreeRun_agree (s : State) (d : Nat) (hμ : 44040196 ||| μ = μ) :
    Agree μ σ (State.toFreeRun s d) ↔ Agree μ σ s :=
  Agree.stack (by unfold State.toFreeRun; simp) hμ σ

@[simp] theorem State.syncTimeout_agree (s : State) (d : Nat) (hμ : 44040196 ||| μ = μ) :
    Agree μ σ (State.syncTimeout s d) ↔ Agree μ σ s :=
  Agree.stack (by unfold State.syncTimeout; (repeat' (first | (simp; done) | split))) hμ σ

@[simp] theorem State.holdoverMax_agree (s : State) (d : Nat) (hμ : 44040196 ||| μ = μ) :
    Agree μ σ (State.holdoverMax s d) ↔ Agree μ σ s :=
  Agree.stack (by unfold State.holdoverMax; simp) hμ σ

@[simp] theorem State.storePps_agree (s : State) (t : Stamp) (hμ : 4 ||| μ = μ) :
    Agree μ σ (State.storePps s t) ↔ Agree μ σ s :=
  Agree.stack (by unfold State.storePps; simp) hμ σ

@[simp] theorem State.ppsAccept_agree (s : State) (t : Stamp) (hμ : 44040196 ||| μ = μ) :
    Agree μ σ (State.ppsAccept s t) ↔ Agree μ σ s :=
  Agree.stack (by unfold State.ppsAccept; simp) hμ σ

@[simp] theorem State.ppsSample_agree (s : State) (d : Nat) (t : Int) (o : Int) (hμ : 44040196 ||| μ = μ) :
    Agree μ σ (State.ppsSample s d t o) ↔ Agree μ σ s :=
  Agree.stack (by unfold State.ppsSample; simp) hμ σ

@[simp] theorem State.ppsEdge_agree (s : State) (falling : Bool) (hμ : 44040196 ||| μ = μ) :
    Agree μ σ (State.ppsEdge s falling) ↔ Agree μ σ s :=
  Agree.stack (by unfold State.ppsEdge; simp) hμ σ

@[simp] theorem State.ppsLoss_agree (s : State) (hμ : 44040192 ||| μ = μ) :
    Agree μ σ (State.ppsLoss s) ↔ Agree μ σ s :=
  Agree.stack (by unfold State.ppsLoss; simp) hμ σ

@[simp] theorem State.ppsRise_agree (s : State) (hμ : 8796101410816 ||| μ = μ) :
    Agree μ σ (State.ppsRise s) ↔ Agree μ σ s :=
  Agree.stack (by unfold State.ppsRise; simp) hμ σ

@[simp] theorem State.linkUp_agree (s : State) (p code : Nat) (remote : Bool) (hμ : 8796195782912 ||| μ = μ) :
    Agree μ σ (State.linkUp s p code remote) ↔ Agree μ σ s :=
  Agree.stack (by
    unfold State.linkUp
    repeat' (first | (simp; done) | split | (refine Agree.of_fst ‹_› ?_; simp; done) | simp | (refine (Agree.foldl _ (fun _ _ => ?_)).2 ?_) | intro _)) hμ σ

@[simp] theorem State.trainFailed_agree (s : State) (p : Nat) (hμ : 35651592 ||| μ = μ) :
    Agree μ σ (State.trainFailed s p) ↔ Agree μ σ s :=
  Agree.stack (by unfold State.trainFailed; simp) hμ σ

@[simp] theorem State.linkLost_agree (s : State) (p : Nat) (why : LinkLoss) (hμ : 4271964204 ||| μ = μ) :
    Agree μ σ (State.linkLost s p why) ↔ Agree μ σ s :=
  Agree.stack (by unfold State.linkLost; (repeat' (first | (simp; done) | split))) hμ σ

@[simp] theorem State.holdoffOver_agree (s : State) (p : Nat) (hμ : 102760448 ||| μ = μ) :
    Agree μ σ (State.holdoffOver s p) ↔ Agree μ σ s :=
  Agree.stack (by unfold State.holdoffOver; simp) hμ σ

@[simp] theorem State.endPortWorks_agree (s : State) (p : Nat) (hμ : 102760456 ||| μ = μ) :
    Agree μ σ (State.endPortWorks s p) ↔ Agree μ σ s :=
  Agree.stack (by unfold State.endPortWorks; simp) hμ σ

@[simp] theorem State.tableBack_agree (s : State) (t : Nat) (hμ : 268435456 ||| μ = μ) :
    Agree μ σ (State.tableBack s t) ↔ Agree μ σ s :=
  Agree.stack (by unfold State.tableBack; simp) hμ σ

@[simp] theorem State.canBack_agree (s : State) (n : Nat) (hμ : 199751698944 ||| μ = μ) :
    Agree μ σ (State.canBack s n) ↔ Agree μ σ s :=
  Agree.stack (by
    unfold State.canBack
    repeat' (first | (simp; done) | split | (refine Agree.of_fst ‹_› ?_; simp; done) | simp | (refine (Agree.foldl _ (fun _ _ => ?_)).2 ?_) | intro _)) hμ σ

@[simp] theorem State.unitTested_agree (s : State) (kind : Nat) (index : Nat) (pass : Bool) (hμ : 201697856200 ||| μ = μ) :
    Agree μ σ (State.unitTested s kind index pass) ↔ Agree μ σ s :=
  Agree.stack (by unfold State.unitTested; (repeat' (first | (simp; done) | split))) hμ σ

@[simp] theorem State.rwFinish_agree (s : State) (pass : Bool) (hμ : 1301209746120 ||| μ = μ) :
    Agree μ σ (State.rwFinish s pass) ↔ Agree μ σ s :=
  Agree.stack (by unfold State.rwFinish; simp) hμ σ

@[simp] theorem State.unitBack_agree (s : State) (w : Works) (hμ : 4194304 ||| μ = μ) :
    Agree μ σ (State.unitBack s w) ↔ Agree μ σ s :=
  Agree.stack (by unfold State.unitBack; simp) hμ σ

@[simp] theorem State.worksEnd_agree (s : State) (w : Works) (finish : State → State) (h : ∀ u, Agree μ u (finish u)) (hμ : 1301213940424 ||| μ = μ) :
    Agree μ σ (State.worksEnd s w finish) ↔ Agree μ σ s := by
  have key : ∀ a, a ||| 1301213940424 = 1301213940424 → a ||| μ = μ := fun a ha => by rw [← hμ, ← Nat.or_assoc, ha]
  have hr : ∀ u, Agree μ σ (finish u) ↔ Agree μ σ u := fun u => (h u).stack (Nat.or_self μ) σ
  unfold State.worksEnd
  repeat' split
  all_goals simp (disch := (refine key _ ?_; decide)) [hr]

@[simp] theorem State.portWorksEnd_agree (s : State) (p : Nat) (hμ : 1301213940424 ||| μ = μ) :
    Agree μ σ (State.portWorksEnd s p) ↔ Agree μ σ s :=
  Agree.stack (by unfold State.portWorksEnd; simp) hμ σ

@[simp] theorem State.rejectRecord_agree (s : State) (hμ : 35717120 ||| μ = μ) :
    Agree μ σ (State.rejectRecord s) ↔ Agree μ σ s :=
  Agree.stack (by unfold State.rejectRecord; simp) hμ σ

@[simp] theorem State.received_agree (s : State) (n : Nat) (hμ : 2147483648 ||| μ = μ) :
    Agree μ σ (State.received s n) ↔ Agree μ σ s :=
  Agree.stack (by unfold State.received; simp) hμ σ

@[simp] theorem State.mirrorStation_agree (s : State) (e : List Byte) (hμ : 268435456 ||| μ = μ) :
    Agree μ σ (State.mirrorStation s e) ↔ Agree μ σ s :=
  Agree.stack (by
    unfold State.mirrorStation
    repeat' (first | (simp; done) | split | (refine Agree.of_fst ‹_› ?_; simp; done) | simp | (refine (Agree.foldl _ (fun _ _ => ?_)).2 ?_) | intro _)) hμ σ

@[simp] theorem State.mirrorCb_agree (s : State) (e : List Byte) (hμ : 2147483648 ||| μ = μ) :
    Agree μ σ (State.mirrorCb s e) ↔ Agree μ σ s :=
  Agree.stack (by unfold State.mirrorCb; simp) hμ σ

@[simp] theorem State.mirrorRingIn_agree (s : State) (b : List Byte) (hμ : 2147483648 ||| μ = μ) :
    Agree μ σ (State.mirrorRingIn s b) ↔ Agree μ σ s :=
  Agree.stack (by unfold State.mirrorRingIn; simp) hμ σ

@[simp] theorem State.mirrorFlume_agree (s : State) (e : List Byte) (hμ : 2147483648 ||| μ = μ) :
    Agree μ σ (State.mirrorFlume s e) ↔ Agree μ σ s :=
  Agree.stack (by unfold State.mirrorFlume; simp) hμ σ

@[simp] theorem State.mirrorSignal_agree (s : State) (e : List Byte) (hμ : 2147483648 ||| μ = μ) :
    Agree μ σ (State.mirrorSignal s e) ↔ Agree μ σ s :=
  Agree.stack (by unfold State.mirrorSignal; simp) hμ σ

@[simp] theorem State.bulkDone_agree (s : State) (hμ : 2183135232 ||| μ = μ) :
    Agree μ σ (State.bulkDone s) ↔ Agree μ σ s :=
  Agree.stack (by unfold State.bulkDone; simp) hμ σ

@[simp] theorem State.applyRecord_agree (s : State) (type : Nat) (body : List Byte) (hμ : 2451570688 ||| μ = μ) :
    Agree μ σ (State.applyRecord s type body) ↔ Agree μ σ s :=
  Agree.stack (by unfold State.applyRecord; (repeat' (first | (simp; done) | split))) hμ σ

@[simp] theorem State.mirrorIn_agree (s : State) (type : Nat) (seq : Nat) (body : List Byte) (hμ : 2451636224 ||| μ = μ) :
    Agree μ σ (State.mirrorIn s type seq body) ↔ Agree μ σ s :=
  Agree.stack (by unfold State.mirrorIn; (repeat' (first | (simp; done) | split))) hμ σ

@[simp] theorem State.sendIdentity_agree (s : State) (hμ : 2183200768 ||| μ = μ) :
    Agree μ σ (State.sendIdentity s) ↔ Agree μ σ s :=
  Agree.stack (by unfold State.sendIdentity; simp) hμ σ

@[simp] theorem State.formPairing_agree (s : State) (i : Identity) (hμ : 26581395374604 ||| μ = μ) :
    Agree μ σ (State.formPairing s i) ↔ Agree μ σ s :=
  Agree.stack (by unfold State.formPairing; simp) hμ σ

@[simp] theorem State.identityIn_agree (s : State) (pairId : Nat) (b : List Byte) (hμ : 26581395374604 ||| μ = μ) :
    Agree μ σ (State.identityIn s pairId b) ↔ Agree μ σ s :=
  Agree.stack (by unfold State.identityIn; (repeat' (first | (simp; done) | split))) hμ σ

@[simp] theorem State.follow_agree (s : State) (epoch : Nat) (hμ : 27968825974718 ||| μ = μ) :
    Agree μ σ (State.follow s epoch) ↔ Agree μ σ s :=
  Agree.stack (by
    unfold State.follow
    repeat' (first | (simp; done) | split | (refine Agree.of_fst ‹_› ?_; simp; done) | simp | (refine (Agree.foldl _ (fun _ _ => ?_)).2 ?_) | intro _)) hμ σ

@[simp] theorem State.heartbeatIn_agree (s : State) (seq : Nat) (b : List Byte) (hμ : 27968825974718 ||| μ = μ) :
    Agree μ σ (State.heartbeatIn s seq b) ↔ Agree μ σ s :=
  Agree.stack (by unfold State.heartbeatIn; (repeat' (first | (simp; done) | split))) hμ σ

@[simp] theorem State.armIn_agree (s : State) (b : List Byte) (hμ : 4194304 ||| μ = μ) :
    Agree μ σ (State.armIn s b) ↔ Agree μ σ s :=
  Agree.stack (by unfold State.armIn; simp) hμ σ

@[simp] theorem State.abortIn_agree (s : State) (b : List Byte) (hμ : 4194304 ||| μ = μ) :
    Agree μ σ (State.abortIn s b) ↔ Agree μ σ s :=
  Agree.stack (by unfold State.abortIn; simp) hμ σ

@[simp] theorem State.resolveIn_agree (s : State) (b : List Byte) (hμ : 26594431271436 ||| μ = μ) :
    Agree μ σ (State.resolveIn s b) ↔ Agree μ σ s :=
  Agree.stack (by unfold State.resolveIn; (repeat' (first | (simp; done) | split))) hμ σ

@[simp] theorem State.resyncIn_agree (s : State) (hμ : 2147483648 ||| μ = μ) :
    Agree μ σ (State.resyncIn s) ↔ Agree μ σ s :=
  Agree.stack (by unfold State.resyncIn; (repeat' (first | (simp; done) | split))) hμ σ

end Sys2Proof.Machine
end

