-- ==== Sys2Proof/Laws/Agree4.lean ====
section
/-!
SUPPORT. What each operation of the machine can change, as Laws/Agree.lean says it: part 4 of 4, in the order in which the operations call
each other.
-/
namespace Sys2Proof.Machine

variable {μ : Nat} {σ : State}

@[simp] theorem State.switchIn_agree (s : State) (hμ : 26588525691396 ||| μ = μ) :
    Agree μ σ (State.switchIn s) ↔ Agree μ σ s :=
  Agree.stack (by unfold State.switchIn; simp) hμ σ

@[simp] theorem State.digestIn_agree (s : State) (b : List Byte) (hμ : 2183200768 ||| μ = μ) :
    Agree μ σ (State.digestIn s b) ↔ Agree μ σ s :=
  Agree.stack (by unfold State.digestIn; simp) hμ σ

@[simp] theorem State.recordIn_agree (s : State) (r : TandemIn) (hμ : 27968825974718 ||| μ = μ) :
    Agree μ σ (State.recordIn s r) ↔ Agree μ σ s :=
  Agree.stack (by unfold State.recordIn; (repeat' (first | (simp; done) | split))) hμ σ

@[simp] theorem State.tandemRecordIn_agree (s : State) (r : TandemIn) (hμ : 27968825974718 ||| μ = μ) :
    Agree μ σ (State.tandemRecordIn s r) ↔ Agree μ σ s :=
  Agree.stack (by unfold State.tandemRecordIn; simp) hμ σ

@[simp] theorem State.tandemFrameIn_agree (s : State) (bs : List Byte) (hμ : 27968825974718 ||| μ = μ) :
    Agree μ σ (State.tandemFrameIn s bs) ↔ Agree μ σ s :=
  Agree.stack (by unfold State.tandemFrameIn; simp) hμ σ

@[simp] theorem State.rxBegin_agree (s : State) (p : Nat) (hμ : 2097152 ||| μ = μ) :
    Agree μ σ (State.rxBegin s p).1 ↔ Agree μ σ s :=
  Agree.stack (by unfold State.rxBegin; simp) hμ σ

@[simp] theorem State.countRxBin_agree (s : State) (p : Nat) (n : Nat) (maxLen : Nat) (hμ : 35651592 ||| μ = μ) :
    Agree μ σ (State.countRxBin s p n maxLen) ↔ Agree μ σ s :=
  Agree.stack (by unfold State.countRxBin; simp) hμ σ

@[simp] theorem State.countRx_agree (s : State) (p : Nat) (bytes : List Byte) (hμ : 274913558536 ||| μ = μ) :
    Agree μ σ (State.countRx s p bytes) ↔ Agree μ σ s :=
  Agree.stack (by unfold State.countRx; simp) hμ σ

@[simp] theorem State.bypassCounted_agree (s : State) (p off : Nat) (hμ : 35651592 ||| μ = μ) :
    Agree μ σ (State.bypassCounted s p off) ↔ Agree μ σ s :=
  Agree.stack (by
    unfold State.bypassCounted
    repeat' (first | (simp; done) | split | (refine Agree.of_fst ‹_› ?_; simp; done) | simp | (refine (Agree.foldl _ (fun _ _ => ?_)).2 ?_) | intro _)) hμ σ

@[simp] theorem State.pauseIn_agree (s : State) (p q : Nat) (hμ : 67108864 ||| μ = μ) :
    Agree μ σ (State.pauseIn s p q) ↔ Agree μ σ s :=
  Agree.stack (by
    unfold State.pauseIn
    repeat' (first | (simp; done) | split | (refine Agree.of_fst ‹_› ?_; simp; done) | simp | (refine (Agree.foldl _ (fun _ _ => ?_)).2 ?_) | intro _)) hμ σ

@[simp] theorem State.pfcIn_agree (s : State) (p vector : Nat) (times : List Nat) (hμ : 67108864 ||| μ = μ) :
    Agree μ σ (State.pfcIn s p vector times) ↔ Agree μ σ s :=
  Agree.stack (by
    unfold State.pfcIn
    repeat' (first | (simp; done) | split | (refine Agree.of_fst ‹_› ?_; simp; done) | simp | (refine (Agree.foldl _ (fun _ _ => ?_)).2 ?_) | intro _)) hμ σ

@[simp] theorem State.macControl_agree (s : State) (p : Nat) (bs : List Byte) (whole : List Byte) (hμ : 274980667400 ||| μ = μ) :
    Agree μ σ (State.macControl s p bs whole) ↔ Agree μ σ s :=
  Agree.stack (by unfold State.macControl; simp) hμ σ

@[simp] theorem State.secCount_agree (s : State) (p : Nat) (off : Nat) (hμ : 35651592 ||| μ = μ) :
    Agree μ σ (State.secCount s p off) ↔ Agree μ σ s :=
  Agree.stack (by unfold State.secCount; simp) hμ σ

@[simp] theorem State.badCheck_agree (s : State) (p : Nat) (mode : Nat) (encrypted : Bool) (bs : List Byte) (body : List Byte) (hμ : 35651592 ||| μ = μ) :
    Agree μ σ (State.badCheck s p mode encrypted bs body).state ↔ Agree μ σ s :=
  Agree.stack (by unfold State.badCheck; simp) hμ σ

@[simp] theorem State.goodCheck_agree (s : State) (p : Nat) (mode : Nat) (sa : Nat) (pn : Nat) (bs : List Byte) (open_ : List Byte) (hμ : 35651592 ||| μ = μ) :
    Agree μ σ (State.goodCheck s p mode sa pn bs open_).state ↔ Agree μ σ s :=
  Agree.stack (by unfold State.goodCheck; simp) hμ σ

@[simp] theorem State.openSec_agree (s : State) (p : Nat) (mode : Nat) (c : Nat) (sa : Nat) (t : SecTag) (key : List Byte) (bs : List Byte) (hμ : 35651592 ||| μ = μ) :
    Agree μ σ (State.openSec s p mode c sa t key bs).state ↔ Agree μ σ s :=
  Agree.stack (by
    unfold State.openSec
    repeat' (first | (simp; done) | split | (refine Agree.of_fst ‹_› ?_; simp; done) | simp | (refine (Agree.foldl _ (fun _ _ => ?_)).2 ?_) | intro _)) hμ σ

@[simp] theorem State.validate_agree (s : State) (p : Nat) (bs : List Byte) (hμ : 102760456 ||| μ = μ) :
    Agree μ σ (State.validate s p bs).state ↔ Agree μ σ s :=
  Agree.stack (by
    unfold State.validate
    repeat' (first | (simp; done) | split | (refine Agree.of_fst ‹_› ?_; simp; done) | simp | (refine (Agree.foldl _ (fun _ _ => ?_)).2 ?_) | intro _)) hμ σ

@[simp] theorem State.gptpFrameIn_agree (s : State) (p : Nat) (bs : List Byte) (hμ : 35651588 ||| μ = μ) :
    Agree μ σ (State.gptpFrameIn s p bs) ↔ Agree μ σ s :=
  Agree.stack (by
    unfold State.gptpFrameIn
    repeat' (first | (simp; done) | split | (refine Agree.of_fst ‹_› ?_; simp; done) | simp | (refine (Agree.foldl _ (fun _ _ => ?_)).2 ?_) | intro _)) hμ σ

@[simp] theorem State.rxGood_agree (s : State) (tandem : State → List Byte → State) (p : Nat) (maxLen : Nat) (seq : Nat) (t : Stamp) (whole : List Byte) (h : ∀ u b, Agree μ u (tandem u b)) (hμ : 276188627036 ||| μ = μ) :
    Agree μ σ (State.rxGood s tandem p maxLen seq t whole) ↔ Agree μ σ s := by
  have key : ∀ a, a ||| 276188627036 = 276188627036 → a ||| μ = μ := fun a ha => by rw [← hμ, ← Nat.or_assoc, ha]
  have hr : ∀ u b, Agree μ σ (tandem u b) ↔ Agree μ σ u := fun u b => (h u b).stack (Nat.or_self μ) σ
  unfold State.rxGood
  dsimp only
  (repeat' split)
  all_goals simp (disch := first | exact h | (refine key _ ?_; decide)) [hr]

@[simp] theorem State.rxWhole_agree (s : State) (tandem : State → List Byte → State) (p : Nat) (maxLen : Nat) (seq : Nat) (t : Stamp) (f : WireFrame) (h : ∀ u b, Agree μ u (tandem u b)) (hμ : 276188627036 ||| μ = μ) :
    Agree μ σ (State.rxWhole s tandem p maxLen seq t f) ↔ Agree μ σ s := by
  have key : ∀ a, a ||| 276188627036 = 276188627036 → a ||| μ = μ := fun a ha => by rw [← hμ, ← Nat.or_assoc, ha]

  unfold State.rxWhole
  dsimp only
  (repeat' split)
  all_goals simp (disch := first | exact h | (refine key _ ?_; decide))

@[simp] theorem State.rxFirst_agree (s : State) (p : Nat) (n : Nat) (f : WireFrame) (hμ : 1310720024 ||| μ = μ) :
    Agree μ σ (State.rxFirst s p n f) ↔ Agree μ σ s :=
  Agree.stack (by unfold State.rxFirst; simp) hμ σ

@[simp] theorem State.rxMore_agree (s : State) (p : Nat) (n : Nat) (hμ : 67108864 ||| μ = μ) :
    Agree μ σ (State.rxMore s p n) ↔ Agree μ σ s :=
  Agree.stack (by unfold State.rxMore; (repeat' (first | (simp; done) | split))) hμ σ

@[simp] theorem State.earlyWhole_agree (s : State) (id : Nat) (hμ : 1207959552 ||| μ = μ) :
    Agree μ σ (State.earlyWhole s id) ↔ Agree μ σ s :=
  Agree.stack (by unfold State.earlyWhole; simp) hμ σ

@[simp] theorem State.rxLast_agree (s : State) (tandem : State → List Byte → State) (p : Nat) (h : ∀ u b, Agree μ u (tandem u b)) (hμ : 276725497948 ||| μ = μ) :
    Agree μ σ (State.rxLast s tandem p) ↔ Agree μ σ s := by
  have key : ∀ a, a ||| 276725497948 = 276725497948 → a ||| μ = μ := fun a ha => by rw [← hμ, ← Nat.or_assoc, ha]

  unfold State.rxLast
  dsimp only
  (repeat' split)
  all_goals simp (disch := first | exact h | (refine key _ ?_; decide))

@[simp] theorem State.mmCount_agree (s : State) (p off : Nat) (hμ : 35651592 ||| μ = μ) :
    Agree μ σ (State.mmCount s p off) ↔ Agree μ σ s :=
  Agree.stack (by
    unfold State.mmCount
    repeat' (first | (simp; done) | split | (refine Agree.of_fst ‹_› ?_; simp; done) | simp | (refine (Agree.foldl _ (fun _ _ => ?_)).2 ?_) | intro _)) hμ σ

@[simp] theorem State.joinFragment_agree (s : State) (tandem : State → List Byte → State) (p : Nat) (a : Assembly) (g : Fragment) (h : ∀ u b, Agree μ u (tandem u b)) (hμ : 276188627036 ||| μ = μ) :
    Agree μ σ (State.joinFragment s tandem p a g) ↔ Agree μ σ s := by
  have key : ∀ a, a ||| 276188627036 = 276188627036 → a ||| μ = μ := fun a ha => by rw [← hμ, ← Nat.or_assoc, ha]

  unfold State.joinFragment
  dsimp only
  (repeat' split)
  all_goals simp (disch := first | exact h | (refine key _ ?_; decide))

@[simp] theorem State.rxFragment_agree (s : State) (tandem : State → List Byte → State) (p : Nat) (g : Fragment) (h : ∀ u b, Agree μ u (tandem u b)) (hμ : 276188627036 ||| μ = μ) :
    Agree μ σ (State.rxFragment s tandem p g) ↔ Agree μ σ s := by
  have key : ∀ a, a ||| 276188627036 = 276188627036 → a ||| μ = μ := fun a ha => by rw [← hμ, ← Nat.or_assoc, ha]

  unfold State.rxFragment
  dsimp only
  (repeat' split)
  all_goals simp (disch := first | exact h | (refine key _ ?_; decide))

@[simp] theorem State.frameEvent_agree (s : State) (p : Nat) (ev : RxEvent) (hμ : 27968825974782 ||| μ = μ) :
    Agree μ σ (State.frameEvent s p ev) ↔ Agree μ σ s :=
  Agree.stack (by unfold State.frameEvent; (repeat' (first | (simp; done) | split))) hμ σ

@[simp] theorem State.rxControl_agree (s : State) (p : Nat) (body : List Byte) (hμ : 274980667400 ||| μ = μ) :
    Agree μ σ (State.rxControl s p body) ↔ Agree μ σ s :=
  Agree.stack (by unfold State.rxControl; (repeat' (first | (simp; done) | split))) hμ σ

@[simp] theorem State.pauseOver_agree (s : State) (p : Nat) (c : Option (Fin 8)) (hμ : 67108864 ||| μ = μ) :
    Agree μ σ (State.pauseOver s p c) ↔ Agree μ σ s :=
  Agree.stack (by unfold State.pauseOver; (repeat' (first | (simp; done) | split))) hμ σ

@[simp] theorem State.watchdogTrip_agree (s : State) (p : Nat) (hμ : 102760456 ||| μ = μ) :
    Agree μ σ (State.watchdogTrip s p) ↔ Agree μ σ s :=
  Agree.stack (by unfold State.watchdogTrip; simp) hμ σ

@[simp] theorem State.sendControl_agree (s : State) (p : Nat) (bs : List Byte) (hμ : 9071073689608 ||| μ = μ) :
    Agree μ σ (State.sendControl s p bs) ↔ Agree μ σ s :=
  Agree.stack (by unfold State.sendControl; simp) hμ σ

@[simp] theorem State.sendPause_agree (s : State) (p : Nat) (quanta : Nat) (hμ : 9071073689608 ||| μ = μ) :
    Agree μ σ (State.sendPause s p quanta) ↔ Agree μ σ s :=
  Agree.stack (by unfold State.sendPause; simp) hμ σ

@[simp] theorem State.sendPfc_agree (s : State) (p : Nat) (off : Nat) (on : Nat) (hμ : 9071073689608 ||| μ = μ) :
    Agree μ σ (State.sendPfc s p off on) ↔ Agree μ σ s :=
  Agree.stack (by unfold State.sendPfc; simp) hμ σ

@[simp] theorem State.signalXoff_agree (s : State) (p : Nat) (hμ : 9071073689608 ||| μ = μ) :
    Agree μ σ (State.signalXoff s p) ↔ Agree μ σ s :=
  Agree.stack (by unfold State.signalXoff; simp) hμ σ

@[simp] theorem State.repeatXoff_agree (s : State) (p : Nat) (hμ : 9071073689608 ||| μ = μ) :
    Agree μ σ (State.repeatXoff s p) ↔ Agree μ σ s :=
  Agree.stack (by unfold State.repeatXoff; simp) hμ σ

@[simp] theorem State.verifyLate_agree (s : State) (p : Nat) (hμ : 8796195782664 ||| μ = μ) :
    Agree μ σ (State.verifyLate s p) ↔ Agree μ σ s :=
  Agree.stack (by unfold State.verifyLate; simp) hμ σ

@[simp] theorem State.verifyIn_agree (s : State) (p : Nat) (hμ : 8796093022208 ||| μ = μ) :
    Agree μ σ (State.verifyIn s p) ↔ Agree μ σ s :=
  Agree.stack (by unfold State.verifyIn; simp) hμ σ

@[simp] theorem State.respondIn_agree (s : State) (p : Nat) (hμ : 102760448 ||| μ = μ) :
    Agree μ σ (State.respondIn s p) ↔ Agree μ σ s :=
  Agree.stack (by unfold State.respondIn; simp) hμ σ

@[simp] theorem State.setPlca_agree (s : State) (p : Nat) (up : Bool) (hμ : 102760448 ||| μ = μ) :
    Agree μ σ (State.setPlca s p up) ↔ Agree μ σ s :=
  Agree.stack (by unfold State.setPlca; simp) hμ σ

@[simp] theorem State.cycleBegins_agree (s : State) (p : Nat) (hμ : 67108864 ||| μ = μ) :
    Agree μ σ (State.cycleBegins s p) ↔ Agree μ σ s :=
  Agree.stack (by
    unfold State.cycleBegins
    repeat' (first | (simp; done) | split | (refine Agree.of_fst ‹_› ?_; simp; done) | simp | (refine (Agree.foldl _ (fun _ _ => ?_)).2 ?_) | intro _)) hμ σ

@[simp] theorem State.sendBeacon_agree (s : State) (p : Nat) (hμ : 8796195782664 ||| μ = μ) :
    Agree μ σ (State.sendBeacon s p) ↔ Agree μ σ s :=
  Agree.stack (by unfold State.sendBeacon; simp) hμ σ

@[simp] theorem State.beaconIn_agree (s : State) (p : Nat) (hμ : 102760456 ||| μ = μ) :
    Agree μ σ (State.beaconIn s p) ↔ Agree μ σ s :=
  Agree.stack (by unfold State.beaconIn; simp) hμ σ

@[simp] theorem State.plcaLost_agree (s : State) (p : Nat) (hμ : 102760456 ||| μ = μ) :
    Agree μ σ (State.plcaLost s p) ↔ Agree μ σ s :=
  Agree.stack (by unfold State.plcaLost; simp) hμ σ

@[simp] theorem State.dropUnfit_agree (s : State) (p c : Nat) (n : Nat) (hμ : 1713373440 ||| μ = μ) :
    Agree μ σ (State.dropUnfit s p c n) ↔ Agree μ σ s := by
  refine Agree.stack (m := 1713373440) ?_ hμ σ
  clear hμ
  induction n generalizing s with
  | zero => exact Agree.refl _ _
  | succ n ih =>
    unfold State.dropUnfit
    dsimp only
    split
    · exact Agree.refl _ _
    · split
      · exact Agree.refl _ _
      · exact Agree.trans (by simp) (ih _)

@[simp] theorem State.selectInGroup_agree (s : State) (p g : Nat) (classes : List Nat) (can : Nat → Bool) (n : Nat) (hμ : 67108864 ||| μ = μ) :
    Agree μ σ (State.selectInGroup s p g classes can n).1 ↔ Agree μ σ s := by
  refine Agree.stack (m := 67108864) ?_ hμ σ
  clear hμ
  induction n generalizing s with
  | zero => exact Agree.refl _ _
  | succ n ih =>
    unfold State.selectInGroup
    dsimp only
    split
    · simp
    · exact Agree.trans (by simp) (ih _)

@[simp] theorem State.selectClass_agree (s : State) (p t : Nat) (among : Nat → Bool) (hμ : 67108864 ||| μ = μ) :
    Agree μ σ (State.selectClass s p t among).1 ↔ Agree μ σ s :=
  Agree.stack (by
    unfold State.selectClass
    repeat' (first | (simp; done) | split | (refine Agree.of_fst ‹_› ?_; simp; done) | simp | (refine (Agree.foldl _ (fun _ _ => ?_)).2 ?_) | intro _)) hμ σ

@[simp] theorem State.sendFitting_agree (s : State) (p : Nat) (hμ : 1713438984 ||| μ = μ) :
    Agree μ σ (State.sendFitting s p) ↔ Agree μ σ s :=
  Agree.stack (by
    unfold State.sendFitting
    repeat' (first | (simp; done) | split | (refine Agree.of_fst ‹_› ?_; simp; done) | simp | (refine (Agree.foldl _ (fun _ _ => ?_)).2 ?_) | intro _)) hμ σ

@[simp] theorem State.plcaOpportunity_agree (s : State) (p : Nat) (hμ : 1713438984 ||| μ = μ) :
    Agree μ σ (State.plcaOpportunity s p) ↔ Agree μ σ s :=
  Agree.stack (by
    unfold State.plcaOpportunity
    repeat' (first | (simp; done) | split | (refine Agree.of_fst ‹_› ?_; simp; done) | simp | (refine (Agree.foldl _ (fun _ _ => ?_)).2 ?_) | intro _)) hμ σ

@[simp] theorem State.collide_agree (s : State) (p : Nat) (hμ : 1713373192 ||| μ = μ) :
    Agree μ σ (State.collide s p) ↔ Agree μ σ s :=
  Agree.stack (by
    unfold State.collide
    repeat' (first | (simp; done) | split | (refine Agree.of_fst ‹_› ?_; simp; done) | simp | (refine (Agree.foldl _ (fun _ _ => ?_)).2 ?_) | intro _)) hμ σ

@[simp] theorem State.fecReport_agree (s : State) (p : Nat) (blocks : Nat) (corrected : Nat) (uncorrected : Nat) (hμ : 102760456 ||| μ = μ) :
    Agree μ σ (State.fecReport s p blocks corrected uncorrected) ↔ Agree μ σ s :=
  Agree.stack (by unfold State.fecReport; simp) hμ σ

@[simp] theorem State.classifyNext_agree (s : State) (f : Frame) (hμ : 3659595960 ||| μ = μ) :
    Agree μ σ (State.classifyNext s f) ↔ Agree μ σ s :=
  Agree.stack (by
    unfold State.classifyNext
    repeat' (first | (simp; done) | split | (refine Agree.of_fst ‹_› ?_; simp; done) | simp | (refine (Agree.foldl _ (fun _ _ => ?_)).2 ?_) | intro _)) hμ σ

@[simp] theorem State.classifyLane_agree (s : State) (l : Nat) (hμ : 3659595960 ||| μ = μ) :
    Agree μ σ (State.classifyLane s l) ↔ Agree μ σ s :=
  Agree.stack (by unfold State.classifyLane; (repeat' (first | (simp; done) | split))) hμ σ

@[simp] theorem State.ageOut_agree (s : State) (hμ : 2451636256 ||| μ = μ) :
    Agree μ σ (State.ageOut s) ↔ Agree μ σ s :=
  Agree.stack (by unfold State.ageOut; simp) hμ σ

@[simp] theorem State.resetStream_agree (s : State) (k : Nat) (hμ : 2317352976 ||| μ = μ) :
    Agree μ σ (State.resetStream s k) ↔ Agree μ σ s :=
  Agree.stack (by unfold State.resetStream; simp) hμ σ

@[simp] theorem State.laneUnacked_agree (s : State) (l : Nat) (hμ : 1101359480896 ||| μ = μ) :
    Agree μ σ (State.laneUnacked s l) ↔ Agree μ σ s :=
  Agree.stack (by unfold State.laneUnacked; (repeat' (first | (simp; done) | split))) hμ σ

@[simp] theorem State.remapDone_agree (s : State) (hμ : 572522496 ||| μ = μ) :
    Agree μ σ (State.remapDone s) ↔ Agree μ σ s :=
  Agree.stack (by unfold State.remapDone; (repeat' (first | (simp; done) | split))) hμ σ

@[simp] theorem State.laneTestEnd_agree (s : State) (l : Nat) (pass : Bool) (hμ : 1301209746120 ||| μ = μ) :
    Agree μ σ (State.laneTestEnd s l pass) ↔ Agree μ σ s :=
  Agree.stack (by unfold State.laneTestEnd; simp) hμ σ

@[simp] theorem State.bankTestEnd_agree (s : State) (b : Nat) (pass : Bool) (hμ : 1301209746120 ||| μ = μ) :
    Agree μ σ (State.bankTestEnd s b pass) ↔ Agree μ σ s :=
  Agree.stack (by unfold State.bankTestEnd; simp) hμ σ

@[simp] theorem State.stageFrom_agree (s : State) (p : Nat) (express : Bool) (among : Nat → Bool) (hμ : 67108864 ||| μ = μ) :
    Agree μ σ (State.stageFrom s p express among) ↔ Agree μ σ s :=
  Agree.stack (by
    unfold State.stageFrom
    repeat' (first | (simp; done) | split | (refine Agree.of_fst ‹_› ?_; simp; done) | simp | (refine (Agree.foldl _ (fun _ _ => ?_)).2 ?_) | intro _)) hμ σ

@[simp] theorem State.egressSelectPort_agree (s : State) (p : Nat) (hμ : 1713373504 ||| μ = μ) :
    Agree μ σ (State.egressSelectPort s p) ↔ Agree μ σ s :=
  Agree.stack (by unfold State.egressSelectPort; simp) hμ σ

@[simp] theorem State.startStaged_agree (s : State) (p : Nat) (x : Staged) (c : Copy) (hμ : 1713438984 ||| μ = μ) :
    Agree μ σ (State.startStaged s p x c) ↔ Agree μ σ s :=
  Agree.stack (by unfold State.startStaged; simp) hμ σ

@[simp] theorem State.resume_agree (s : State) (p : Nat) (hμ : 102760456 ||| μ = μ) :
    Agree μ σ (State.resume s p) ↔ Agree μ σ s :=
  Agree.stack (by unfold State.resume; simp) hμ σ

@[simp] theorem State.holdStaged_agree (s : State) (p : Nat) (hμ : 102760704 ||| μ = μ) :
    Agree μ σ (State.holdStaged s p) ↔ Agree μ σ s :=
  Agree.stack (by
    unfold State.holdStaged
    repeat' (first | (simp; done) | split | (refine Agree.of_fst ‹_› ?_; simp; done) | simp | (refine (Agree.foldl _ (fun _ _ => ?_)).2 ?_) | intro _)) hμ σ

@[simp] theorem State.preemptNow_agree (s : State) (p : Nat) (w : OnWire) (hμ : 1713438984 ||| μ = μ) :
    Agree μ σ (State.preemptNow s p w) ↔ Agree μ σ s :=
  Agree.stack (by
    unfold State.preemptNow
    repeat' (first | (simp; done) | split | (refine Agree.of_fst ‹_› ?_; simp; done) | simp | (refine (Agree.foldl _ (fun _ _ => ?_)).2 ?_) | intro _)) hμ σ

@[simp] theorem State.startNext_agree (s : State) (p : Nat) (hμ : 1713438984 ||| μ = μ) :
    Agree μ σ (State.startNext s p) ↔ Agree μ σ s :=
  Agree.stack (by
    unfold State.startNext
    repeat' (first | (simp; done) | split | (refine Agree.of_fst ‹_› ?_; simp; done) | simp | (refine (Agree.foldl _ (fun _ _ => ?_)).2 ?_) | intro _)) hμ σ

@[simp] theorem State.txStart_agree (s : State) (p : Nat) (hμ : 1713438984 ||| μ = μ) :
    Agree μ σ (State.txStart s p) ↔ Agree μ σ s :=
  Agree.stack (by
    unfold State.txStart
    repeat' (first | (simp; done) | split | (refine Agree.of_fst ‹_› ?_; simp; done) | simp | (refine (Agree.foldl _ (fun _ _ => ?_)).2 ?_) | intro _)) hμ σ

@[simp] theorem State.burstOn_agree (s : State) (p : Nat) (hμ : 1713438984 ||| μ = μ) :
    Agree μ σ (State.burstOn s p) ↔ Agree μ σ s :=
  Agree.stack (by
    unfold State.burstOn
    repeat' (first | (simp; done) | split | (refine Agree.of_fst ‹_› ?_; simp; done) | simp | (refine (Agree.foldl _ (fun _ _ => ?_)).2 ?_) | intro _)) hμ σ

@[simp] theorem State.frameOut_agree (s : State) (p : Nat) (w : OnWire) (c : Copy) (hμ : 9072684302600 ||| μ = μ) :
    Agree μ σ (State.frameOut s p w c) ↔ Agree μ σ s :=
  Agree.stack (by
    unfold State.frameOut
    repeat' (first | (simp; done) | split | (refine Agree.of_fst ‹_› ?_; simp; done) | simp | (refine (Agree.foldl _ (fun _ _ => ?_)).2 ?_) | intro _)) hμ σ

@[simp] theorem State.txEnd_agree (s : State) (p : Nat) (hμ : 9072684368136 ||| μ = μ) :
    Agree μ σ (State.txEnd s p) ↔ Agree μ σ s :=
  Agree.stack (by
    unfold State.txEnd
    repeat' (first | (simp; done) | split | (refine Agree.of_fst ‹_› ?_; simp; done) | simp | (refine (Agree.foldl _ (fun _ _ => ?_)).2 ?_) | intro _)) hμ σ

@[simp] theorem State.preemptClosing_agree (s : State) (p : Nat) (hμ : 67108864 ||| μ = μ) :
    Agree μ σ (State.preemptClosing s p) ↔ Agree μ σ s :=
  Agree.stack (by
    unfold State.preemptClosing
    repeat' (first | (simp; done) | split | (refine Agree.of_fst ‹_› ?_; simp; done) | simp | (refine (Agree.foldl _ (fun _ _ => ?_)).2 ?_) | intro _)) hμ σ

@[simp] theorem State.resumeOpen_agree (s : State) (p : Nat) (hμ : 102760456 ||| μ = μ) :
    Agree μ σ (State.resumeOpen s p) ↔ Agree μ σ s :=
  Agree.stack (by
    unfold State.resumeOpen
    repeat' (first | (simp; done) | split | (refine Agree.of_fst ‹_› ?_; simp; done) | simp | (refine (Agree.foldl _ (fun _ _ => ?_)).2 ?_) | intro _)) hμ σ

@[simp] theorem State.gateChange_agree (s : State) (p : Nat) (hμ : 102760712 ||| μ = μ) :
    Agree μ σ (State.gateChange s p) ↔ Agree μ σ s :=
  Agree.stack (by unfold State.gateChange; (repeat' (first | (simp; done) | split))) hμ σ

@[simp] theorem State.dropStale_agree (s : State) (hμ : 1713373440 ||| μ = μ) :
    Agree μ σ (State.dropStale s) ↔ Agree μ σ s :=
  Agree.stack (by
    unfold State.dropStale
    repeat' (first | (simp; done) | split | (refine Agree.of_fst ‹_› ?_; simp; done) | simp | (refine (Agree.foldl _ (fun _ _ => ?_)).2 ?_) | intro _)) hμ σ

@[simp] theorem State.canWorksEnd_agree (s : State) (n : Nat) (hμ : 1301213940424 ||| μ = μ) :
    Agree μ σ (State.canWorksEnd s n) ↔ Agree μ σ s :=
  Agree.stack (by unfold State.canWorksEnd; simp) hμ σ

@[simp] theorem State.signalTimeout_agree (s : State) (k : Nat) (hμ : 60165196288 ||| μ = μ) :
    Agree μ σ (State.signalTimeout s k) ↔ Agree μ σ s :=
  Agree.stack (by
    unfold State.signalTimeout
    repeat' (first | (simp; done) | split | (refine Agree.of_fst ‹_› ?_; simp; done) | simp | (refine (Agree.foldl _ (fun _ _ => ?_)).2 ?_) | intro _)) hμ σ

@[simp] theorem State.targetPeriod_agree (s : State) (k : Nat) (hμ : 60165196288 ||| μ = μ) :
    Agree μ σ (State.targetPeriod s k) ↔ Agree μ σ s :=
  Agree.stack (by unfold State.targetPeriod; (repeat' (first | (simp; done) | split))) hμ σ

@[simp] theorem State.setIng_agree (s : State) (rule : Nat) (st : Nat) (v : IngState) (hμ : 8589934592 ||| μ = μ) :
    Agree μ σ (State.setIng s rule st v) ↔ Agree μ σ s :=
  Agree.stack (by unfold State.setIng; simp) hμ σ

@[simp] theorem State.deliverFromLane_agree (s : State) (epoch : Nat) (t : List Byte) (o : Offer) (hμ : 61373155928 ||| μ = μ) :
    Agree μ σ (State.deliverFromLane s epoch t o) ↔ Agree μ σ s :=
  Agree.stack (by
    unfold State.deliverFromLane
    repeat' (first | (simp; done) | split | (refine Agree.of_fst ‹_› ?_; simp; done) | simp | (refine (Agree.foldl _ (fun _ _ => ?_)).2 ?_) | intro _)) hμ σ

@[simp] theorem State.culvertAccept_agree (s : State) (rule : Nat) (epoch : Nat) (b : List Byte) (h : List Byte) (foreign : List Byte) (hμ : 61373155928 ||| μ = μ) :
    Agree μ σ (State.culvertAccept s rule epoch b h foreign) ↔ Agree μ σ s :=
  Agree.stack (by unfold State.culvertAccept; simp) hμ σ

@[simp] theorem State.cryptoDone_agree (s : State) (hμ : 61373155928 ||| μ = μ) :
    Agree μ σ (State.cryptoDone s) ↔ Agree μ σ s :=
  Agree.stack (by
    unfold State.cryptoDone
    repeat' (first | (simp; done) | split | (refine Agree.of_fst ‹_› ?_; simp; done) | simp | (refine (Agree.foldl _ (fun _ _ => ?_)).2 ?_) | intro _)) hμ σ

@[simp] theorem State.takeArrived_agree (s : State) (mine : Bool × Nat × Frame → Bool) (run : State → Bool × Nat × Frame → State) (h : ∀ u a, Agree μ u (run u a)) (hμ : 8589934592 ||| μ = μ) :
    Agree μ σ (State.takeArrived s mine run) ↔ Agree μ σ s := by
  have key : ∀ a, a ||| 8589934592 = 8589934592 → a ||| μ = μ := fun a ha => by rw [← hμ, ← Nat.or_assoc, ha]
  have hr : ∀ u a, Agree μ σ (run u a) ↔ Agree μ σ u := fun u a => (h u a).stack (Nat.or_self μ) σ
  unfold State.takeArrived
  repeat' split
  all_goals simp (disch := (refine key _ ?_; decide)) [hr]

@[simp] theorem State.culvertIn_agree (s : State) (rule : Nat) (f : Frame) (hμ : 61373155928 ||| μ = μ) :
    Agree μ σ (State.culvertIn s rule f) ↔ Agree μ σ s :=
  Agree.stack (by unfold State.culvertIn; (repeat' (first | (simp; done) | split))) hμ σ

@[simp] theorem State.culvertRx_agree (s : State) (hμ : 61373155928 ||| μ = μ) :
    Agree μ σ (State.culvertRx s) ↔ Agree μ σ s :=
  Agree.stack (by unfold State.culvertRx; simp) hμ σ

@[simp] theorem State.culvertAgain_agree (s : State) (rule : Nat) (f : Frame) (hμ : 9833547864 ||| μ = μ) :
    Agree μ σ (State.culvertAgain s rule f) ↔ Agree μ σ s :=
  Agree.stack (by unfold State.culvertAgain; simp) hμ σ

@[simp] theorem State.culvertRewrap_agree (s : State) (hμ : 9833547864 ||| μ = μ) :
    Agree μ σ (State.culvertRewrap s) ↔ Agree μ σ s :=
  Agree.stack (by unfold State.culvertRewrap; simp) hμ σ

@[simp] theorem State.holdExpiry_agree (s : State) (rule : Nat) (st : Nat) (hμ : 8589934592 ||| μ = μ) :
    Agree μ σ (State.holdExpiry s rule st) ↔ Agree μ σ s :=
  Agree.stack (by unfold State.holdExpiry; (repeat' (first | (simp; done) | split))) hμ σ

@[simp] theorem State.acfMessages_agree (s : State) (epoch : Nat) (target : List Byte) (n : Nat) (bs : List Byte) (hμ : 61373155928 ||| μ = μ) :
    Agree μ σ (State.acfMessages s epoch target n bs) ↔ Agree μ σ s := by
  refine Agree.stack (m := 61373155928) ?_ hμ σ
  clear hμ
  induction n generalizing s bs with
  | zero => exact Agree.refl _ _
  | succ n ih =>
    unfold State.acfMessages
    dsimp only
    split
    · exact Agree.refl _ _
    · refine Agree.trans ?_ (ih _ _)
      (repeat' split) <;> simp

@[simp] theorem State.acfIn_agree (s : State) (rule : Nat) (b : List Byte) (f : Frame) (hμ : 61373155928 ||| μ = μ) :
    Agree μ σ (State.acfIn s rule b f) ↔ Agree μ σ s :=
  Agree.stack (by unfold State.acfIn; simp) hμ σ

@[simp] theorem State.acfRx_agree (s : State) (hμ : 61373155928 ||| μ = μ) :
    Agree μ σ (State.acfRx s) ↔ Agree μ σ s :=
  Agree.stack (by unfold State.acfRx; simp) hμ σ

@[simp] theorem State.mvbIdle_agree (s : State) (n : Nat) (hμ : 34395389952 ||| μ = μ) :
    Agree μ σ (State.mvbIdle s n) ↔ Agree μ σ s :=
  Agree.stack (by unfold State.mvbIdle; (repeat' (first | (simp; done) | split))) hμ σ

@[simp] theorem State.mvbBump_agree (s : State) (n : Nat) (k : Nat) (hμ : 35652608 ||| μ = μ) :
    Agree μ σ (State.mvbBump s n k) ↔ Agree μ σ s :=
  Agree.stack (by unfold State.mvbBump; simp) hμ σ

@[simp] theorem State.mvbStamped_agree (s : State) (n : Nat) (bs : List Byte) (hμ : 2097152 ||| μ = μ) :
    Agree μ σ (State.mvbStamped s n bs).1 ↔ Agree μ σ s :=
  Agree.stack (by unfold State.mvbStamped; simp) hμ σ

@[simp] theorem State.sendMvbMessage_agree (s : State) (n : Nat) (hμ : 8830488413184 ||| μ = μ) :
    Agree μ σ (State.sendMvbMessage s n) ↔ Agree μ σ s :=
  Agree.stack (by
    unfold State.sendMvbMessage
    repeat' (first | (simp; done) | split | (refine Agree.of_fst ‹_› ?_; simp; done) | simp | (refine (Agree.foldl _ (fun _ _ => ?_)).2 ?_) | intro _)) hμ σ

@[simp] theorem State.sendMvbPort_agree (s : State) (n : Nat) (a : Nat) (hμ : 8830488413184 ||| μ = μ) :
    Agree μ σ (State.sendMvbPort s n a) ↔ Agree μ σ s :=
  Agree.stack (by unfold State.sendMvbPort; simp) hμ σ

@[simp] theorem State.mvbPoll_agree (s : State) (n : Nat) (w : Word) (hμ : 8830488413184 ||| μ = μ) :
    Agree μ σ (State.mvbPoll s n w) ↔ Agree μ σ s :=
  Agree.stack (by unfold State.mvbPoll; simp) hμ σ

@[simp] theorem State.eventRound_agree (s : State) (n fcode : Nat) (hμ : 26388279066624 ||| μ = μ) :
    Agree μ σ (State.eventRound s n fcode) ↔ Agree μ σ s :=
  Agree.stack (by unfold State.eventRound; simp) hμ σ

@[simp] theorem State.eventAnswer_agree (s : State) (n fcode addr : Nat) (fine : Bool) (hμ : 26422638804992 ||| μ = μ) :
    Agree μ σ (State.eventAnswer s n fcode addr fine) ↔ Agree μ σ s :=
  Agree.stack (by
    unfold State.eventAnswer
    (repeat' (first | (simp; done) | split))) hμ σ

@[simp] theorem State.mvbPeriod_agree (s : State) (n : Nat) (hμ : 26422674457600 ||| μ = μ) :
    Agree μ σ (State.mvbPeriod s n) ↔ Agree μ σ s :=
  Agree.stack (by unfold State.mvbPeriod; simp) hμ σ

@[simp] theorem State.mvbLines_agree (s : State) (n : Nat) (addr : Nat) (l : MvbLines) (hμ : 34395390976 ||| μ = μ) :
    Agree μ σ (State.mvbLines s n addr l) ↔ Agree μ σ s :=
  Agree.stack (by unfold State.mvbLines; simp) hμ σ

@[simp] theorem State.mvbAnswer_agree (s : State) (n : Nat) (fcode : Nat) (hμ : 26388281163776 ||| μ = μ) :
    Agree μ σ (State.mvbAnswer s n fcode) ↔ Agree μ σ s :=
  Agree.stack (by unfold State.mvbAnswer; simp) hμ σ

@[simp] theorem State.mvbMasterFrame_agree (s : State) (n : Nat) (fcode : Nat) (addr : Nat) (l : MvbLines) (hμ : 26422674457600 ||| μ = μ) :
    Agree μ σ (State.mvbMasterFrame s n fcode addr l) ↔ Agree μ σ s :=
  Agree.stack (by
    unfold State.mvbMasterFrame
    repeat' (first | (simp; done) | split | (refine Agree.of_fst ‹_› ?_; simp; done) | simp | (refine (Agree.foldl _ (fun _ _ => ?_)).2 ?_) | intro _)) hμ σ

@[simp] theorem State.mvbAccepted_agree (s : State) (n fcode addr : Nat) (data : List Byte) (hμ : 63520640600 ||| μ = μ) :
    Agree μ σ (State.mvbAccepted s n fcode addr data) ↔ Agree μ σ s :=
  Agree.stack (m := 63520640600) (by
    unfold State.mvbAccepted
    dsimp only
    (repeat' (first | (simp; done) | split))) hμ σ

@[simp] theorem State.mvbTelegram_agree (s : State) (n : Nat) (fcode : Nat) (addr : Nat) (data : List Byte) (good : Bool) (l : MvbLines) (hμ : 26451799707224 ||| μ = μ) :
    Agree μ σ (State.mvbTelegram s n fcode addr data good l) ↔ Agree μ σ s :=
  Agree.stack (by
    unfold State.mvbTelegram
    repeat' (first | (simp; done) | split | (refine Agree.of_fst ‹_› ?_; simp; done) | simp | (refine (Agree.foldl _ (fun _ _ => ?_)).2 ?_) | intro _)) hμ σ

@[simp] theorem State.mvbReplyLate_agree (s : State) (n : Nat) (hμ : 34395390976 ||| μ = μ) :
    Agree μ σ (State.mvbReplyLate s n) ↔ Agree μ σ s :=
  Agree.stack (by
    unfold State.mvbReplyLate
    repeat' (first | (simp; done) | split | (refine Agree.of_fst ‹_› ?_; simp; done) | simp | (refine (Agree.foldl _ (fun _ _ => ?_)).2 ?_) | intro _)) hμ σ

@[simp] theorem State.mvbTakes_agree (s : State) (n : Nat) (hμ : 34395389952 ||| μ = μ) :
    Agree μ σ (State.mvbTakes s n) ↔ Agree μ σ s :=
  Agree.stack (by unfold State.mvbTakes; simp) hμ σ

@[simp] theorem State.mvbAccepts_agree (s : State) (n : Nat) (hμ : 34395390976 ||| μ = μ) :
    Agree μ σ (State.mvbAccepts s n) ↔ Agree μ σ s :=
  Agree.stack (by unfold State.mvbAccepts; simp) hμ σ

@[simp] theorem State.endMvbWorks_agree (s : State) (n : Nat) (hμ : 34395390976 ||| μ = μ) :
    Agree μ σ (State.endMvbWorks s n) ↔ Agree μ σ s :=
  Agree.stack (by unfold State.endMvbWorks; simp) hμ σ

@[simp] theorem State.mvbWorksEnd_agree (s : State) (n : Nat) (hμ : 1301213941448 ||| μ = μ) :
    Agree μ σ (State.mvbWorksEnd s n) ↔ Agree μ σ s :=
  Agree.stack (by unfold State.mvbWorksEnd; simp) hμ σ

@[simp] theorem State.handoff_agree (s : State) (f : Nat) (p : Nat) (bytes : List Byte) (hμ : 2199916544 ||| μ = μ) :
    Agree μ σ (State.handoff s f p bytes) ↔ Agree μ σ s :=
  Agree.stack (by unfold State.handoff; simp) hμ σ

@[simp] theorem State.flumeGrant_agree (s : State) (f : Nat) (p : Nat) (hμ : 2199916544 ||| μ = μ) :
    Agree μ σ (State.flumeGrant s f p).1 ↔ Agree μ σ s :=
  Agree.stack (by unfold State.flumeGrant; simp) hμ σ

@[simp] theorem State.offerHeld_agree (s : State) (f : Nat) (p : Nat) (hμ : 2200047616 ||| μ = μ) :
    Agree μ σ (State.offerHeld s f p) ↔ Agree μ σ s :=
  Agree.stack (by unfold State.offerHeld; simp) hμ σ

@[simp] theorem State.grantAndOffer_agree (s : State) (f : Nat) (p : Nat) (hμ : 2200047616 ||| μ = μ) :
    Agree μ σ (State.grantAndOffer s f p) ↔ Agree μ σ s :=
  Agree.stack (by unfold State.grantAndOffer; simp) hμ σ

@[simp] theorem State.flumeStale_agree (s : State) (f : Nat) (hμ : 2199912448 ||| μ = μ) :
    Agree μ σ (State.flumeStale s f) ↔ Agree μ σ s :=
  Agree.stack (by unfold State.flumeStale; simp) hμ σ

@[simp] theorem State.positionMismatch_agree (s : State) (f : Nat) (pos : Nat) (copy : Word) (hμ : 2199916544 ||| μ = μ) :
    Agree μ σ (State.positionMismatch s f pos copy) ↔ Agree μ σ s :=
  Agree.stack (by unfold State.positionMismatch; simp) hμ σ

@[simp] theorem State.useEntries_agree (s : State) (q : Nat) (tx : Bool) (n : Nat) (hμ : 8192 ||| μ = μ) :
    Agree μ σ (State.useEntries s q tx n) ↔ Agree μ σ s :=
  Agree.stack (by unfold State.useEntries; simp) hμ σ

@[simp] theorem State.writeBackAll_agree (s : State) (q : Nat) (n : Nat) (status : Nat) (hμ : 8796093030400 ||| μ = μ) :
    Agree μ σ (State.writeBackAll s q n status) ↔ Agree μ σ s :=
  Agree.stack (by unfold State.writeBackAll; simp) hμ σ

@[simp] theorem State.headWriteback_agree (s : State) (q : Nat) (hμ : 8796093022208 ||| μ = μ) :
    Agree μ σ (State.headWriteback s q) ↔ Agree μ σ s :=
  Agree.stack (by unfold State.headWriteback; simp) hμ σ

@[simp] theorem State.sendVector_agree (s : State) (v : Nat) (hμ : 8864812498944 ||| μ = μ) :
    Agree μ σ (State.sendVector s v) ↔ Agree μ σ s :=
  Agree.stack (by unfold State.sendVector; simp) hμ σ

@[simp] theorem State.announceNow_agree (s : State) (q : Nat) (hμ : 8864812498944 ||| μ = μ) :
    Agree μ σ (State.announceNow s q) ↔ Agree μ σ s :=
  Agree.stack (by unfold State.announceNow; simp) hμ σ

@[simp] theorem State.completed_agree (s : State) (q : Nat) (n : Nat) (atOnce : Bool) (hμ : 8864812498944 ||| μ = μ) :
    Agree μ σ (State.completed s q n atOnce) ↔ Agree μ σ s :=
  Agree.stack (by unfold State.completed; simp) hμ σ

@[simp] theorem State.stopTx_agree (s : State) (q : Nat) (n : Nat) (status : Nat) (err : Nat) (hμ : 8864848158720 ||| μ = μ) :
    Agree μ σ (State.stopTx s q n status err) ↔ Agree μ σ s :=
  Agree.stack (by unfold State.stopTx; simp) hμ σ

@[simp] theorem State.hostFrame_agree (s : State) (q : Nat) (cls : Nat) (bytes : List Byte) (hμ : 1243611224 ||| μ = μ) :
    Agree μ σ (State.hostFrame s q cls bytes) ↔ Agree μ σ s :=
  Agree.stack (by unfold State.hostFrame; simp) hμ σ

@[simp] theorem State.txFetch_agree (s : State) (q : Nat) (descs : List TxDesc) (hμ : 8866056118360 ||| μ = μ) :
    Agree μ σ (State.txFetch s q descs) ↔ Agree μ σ s :=
  Agree.stack (by unfold State.txFetch; simp) hμ σ

@[simp] theorem State.txTimeout_agree (s : State) (q : Nat) (n : Nat) (hμ : 8864848158720 ||| μ = μ) :
    Agree μ σ (State.txTimeout s q n) ↔ Agree μ σ s :=
  Agree.stack (by unfold State.txTimeout; simp) hμ σ

@[simp] theorem State.writeRx_agree (s : State) (q : Nat) (f : Frame) (cls : Nat) (l : List RxDesc) (i : Nat) (bs : List Byte) (hμ : 8796093022208 ||| μ = μ) :
    Agree μ σ (State.writeRx s q f cls l i bs) ↔ Agree μ σ s := by
  refine Agree.stack (m := 8796093022208) ?_ hμ σ
  clear hμ
  induction l generalizing s i bs with
  | nil => exact Agree.refl _ _
  | cons d l ih => exact Agree.trans (by simp) (ih _ _ _)

@[simp] theorem State.hostRx_agree (s : State) (descs : List RxDesc) (hμ : 8866458771456 ||| μ = μ) :
    Agree μ σ (State.hostRx s descs) ↔ Agree μ σ s :=
  Agree.stack (by
    unfold State.hostRx
    repeat' (first | (simp; done) | split | (refine Agree.of_fst ‹_› ?_; simp; done) | simp | (refine (Agree.foldl _ (fun _ _ => ?_)).2 ?_) | intro _)) hμ σ

@[simp] theorem State.takeItem_agree (s : State) (f : Nat) (hμ : 2199916544 ||| μ = μ) :
    Agree μ σ (State.takeItem s f).1 ↔ Agree μ σ s :=
  Agree.stack (by
    unfold State.takeItem
    repeat' (first | (simp; done) | split | (refine Agree.of_fst ‹_› ?_; simp; done) | simp | (refine (Agree.foldl _ (fun _ _ => ?_)).2 ?_) | intro _)) hμ σ

@[simp] theorem State.engineItem_agree (s : State) (q : Nat) (hμ : 8867012423680 ||| μ = μ) :
    Agree μ σ (State.engineItem s q) ↔ Agree μ σ s :=
  Agree.stack (m := 8867012423680) (by
    unfold State.engineItem
    dsimp only
    split
    · exact Agree.refl _ _
    · split
      · exact Agree.refl _ _
      · rename_i e
        have h := congrArg Prod.fst e
        dsimp only at h
        subst h
        simp) hμ σ

@[simp] theorem State.moderationOver_agree (s : State) (q : Nat) (hμ : 8864812498944 ||| μ = μ) :
    Agree μ σ (State.moderationOver s q) ↔ Agree μ σ s :=
  Agree.stack (by unfold State.moderationOver; simp) hμ σ

@[simp] theorem State.unmask_agree (s : State) (v : Nat) (hμ : 8864812498944 ||| μ = μ) :
    Agree μ σ (State.unmask s v) ↔ Agree μ σ s :=
  Agree.stack (by unfold State.unmask; simp) hμ σ

@[simp] theorem State.endHostEpoch_agree (s : State) (hμ : 70365749248 ||| μ = μ) :
    Agree μ σ (State.endHostEpoch s) ↔ Agree μ σ s :=
  Agree.stack (by unfold State.endHostEpoch; simp) hμ σ

@[simp] theorem State.setHostLink_agree (s : State) (new : HostLink) (hμ : 68755128320 ||| μ = μ) :
    Agree μ σ (State.setHostLink s new) ↔ Agree μ σ s :=
  Agree.stack (by unfold State.setHostLink; simp) hμ σ

@[simp] theorem State.functionReset_agree (s : State) (hμ : 68720525311 ||| μ = μ) :
    Agree μ σ (State.functionReset s) ↔ Agree μ σ s :=
  Agree.stack (by unfold State.functionReset; intro p hp; cases p <;> (try (rename_i b; cases b)) <;> first | rfl | exact absurd hp (by decide)) hμ σ

@[simp] theorem State.pcieDown_agree (s : State) (why : PcieDown) (hμ : 70366789631 ||| μ = μ) :
    Agree μ σ (State.pcieDown s why) ↔ Agree μ σ s :=
  Agree.stack (by unfold State.pcieDown; (repeat' (first | (simp; done) | split))) hμ σ

@[simp] theorem State.pcieUp_agree (s : State) (speed : Nat) (width : Nat) (hμ : 68755128320 ||| μ = μ) :
    Agree μ σ (State.pcieUp s speed width) ↔ Agree μ σ s :=
  Agree.stack (by unfold State.pcieUp; simp) hμ σ

@[simp] theorem State.hostHoldoff_agree (s : State) (hμ : 68755128320 ||| μ = μ) :
    Agree μ σ (State.hostHoldoff s) ↔ Agree μ σ s :=
  Agree.stack (by unfold State.hostHoldoff; simp) hμ σ

@[simp] theorem State.mbxReply_agree (s : State) (req : List Byte) (status : Nat) (body : List Byte) (hμ : 2199916544 ||| μ = μ) :
    Agree μ σ (State.mbxReply s req status body) ↔ Agree μ σ s :=
  Agree.stack (by unfold State.mbxReply; (repeat' (first | (simp; done) | split))) hμ σ

@[simp] theorem State.mbxServe_agree (s : State) (mine : Nat → Bool) (serve : State → List Byte → State × Nat × List Byte) (h : ∀ u b, Agree μ u (serve u b).1) (hμ : 2199916544 ||| μ = μ) :
    Agree μ σ (State.mbxServe s mine serve) ↔ Agree μ σ s := by
  have key : ∀ a, a ||| 2199916544 = 2199916544 → a ||| μ = μ := fun a ha => by rw [← hμ, ← Nat.or_assoc, ha]
  have hr : ∀ u b, Agree μ σ (serve u b).1 ↔ Agree μ σ u := fun u b => (h u b).stack (Nat.or_self μ) σ
  unfold State.mbxServe
  split
  · rfl
  · split
    · rfl
    · rename_i e
      have e1 := congrArg Prod.fst e
      dsimp only at e1
      subst e1
      split <;> simp (disch := (refine key _ ?_; decide)) [hr]

@[simp] theorem State.servePing_agree (s : State) (req : List Byte) (hμ : 0 ||| μ = μ) :
    Agree μ σ (State.servePing s req).1 ↔ Agree μ σ s :=
  Agree.stack (by unfold State.servePing; simp) hμ σ

@[simp] theorem State.serveErase_agree (s : State) (fault : Option (List Byte)) (req : List Byte) (hμ : 4398046511104 ||| μ = μ) :
    Agree μ σ (State.serveErase s fault req).1 ↔ Agree μ σ s :=
  Agree.stack (by
    unfold State.serveErase
    repeat' (first | (simp; done) | split | (refine Agree.of_fst ‹_› ?_; simp; done) | simp | (refine (Agree.foldl _ (fun _ _ => ?_)).2 ?_) | intro _)) hμ σ

@[simp] theorem State.serveWrite_agree (s : State) (fault : Option (List Byte)) (req : List Byte) (hμ : 4398046511104 ||| μ = μ) :
    Agree μ σ (State.serveWrite s fault req).1 ↔ Agree μ σ s :=
  Agree.stack (by
    unfold State.serveWrite
    repeat' (first | (simp; done) | split | (refine Agree.of_fst ‹_› ?_; simp; done) | simp | (refine (Agree.foldl _ (fun _ _ => ?_)).2 ?_) | intro _)) hμ σ

@[simp] theorem State.serveRead_agree (s : State) (fails : Bool) (req : List Byte) (hμ : 0 ||| μ = μ) :
    Agree μ σ (State.serveRead s fails req).1 ↔ Agree μ σ s :=
  Agree.stack (by
    unfold State.serveRead
    repeat' (first | (simp; done) | split | (refine Agree.of_fst ‹_› ?_; simp; done) | simp | (refine (Agree.foldl _ (fun _ _ => ?_)).2 ?_) | intro _)) hμ σ

@[simp] theorem State.doGenAtLoad_agree (s : State) (h : Nat) (hμ : 17596516679680 ||| μ = μ) :
    Agree μ σ (State.doGenAtLoad s h) ↔ Agree μ σ s :=
  Agree.stack (by
    unfold State.doGenAtLoad
    repeat' (first | (simp; done) | split | (refine Agree.of_fst ‹_› ?_; simp; done) | simp | (refine (Agree.foldl _ (fun _ _ => ?_)).2 ?_) | intro _)) hμ σ

@[simp] theorem State.doHealthFail_agree (s : State) (test : Nat) (hμ : 4330635264 ||| μ = μ) :
    Agree μ σ (State.doHealthFail s test) ↔ Agree μ σ s :=
  Agree.stack (by unfold State.doHealthFail; simp) hμ σ

@[simp] theorem State.doStartupDone_agree (s : State) (hμ : 4330618880 ||| μ = μ) :
    Agree μ σ (State.doStartupDone s) ↔ Agree μ σ s :=
  Agree.stack (by unfold State.doStartupDone; simp) hμ σ

@[simp] theorem State.doReseed_agree (s : State) (hμ : 4330635264 ||| μ = μ) :
    Agree μ σ (State.doReseed s) ↔ Agree μ σ s :=
  Agree.stack (by unfold State.doReseed; simp) hμ σ

@[simp] theorem State.sleepEntry_agree (s : State) (hμ : 137474605056 ||| μ = μ) :
    Agree μ σ (State.sleepEntry s) ↔ Agree μ σ s :=
  Agree.stack (by unfold State.sleepEntry; simp) hμ σ

@[simp] theorem State.graceOver_agree (s : State) (hμ : 2199023222783 ||| μ = μ) :
    Agree μ σ (State.graceOver s) ↔ Agree μ σ s :=
  Agree.stack (by unfold State.graceOver; simp) hμ σ

@[simp] theorem State.minOffOver_agree (s : State) (hμ : 137474637824 ||| μ = μ) :
    Agree μ σ (State.minOffOver s) ↔ Agree μ σ s :=
  Agree.stack (by unfold State.minOffOver; (repeat' (first | (simp; done) | split))) hμ σ

@[simp] theorem State.setErrs_agree (s : State) (n : Nat) (v : Nat) (hμ : 137438953472 ||| μ = μ) :
    Agree μ σ (State.setErrs s n v) ↔ Agree μ σ s :=
  Agree.stack (by unfold State.setErrs; simp) hμ σ

@[simp] theorem State.wakeCause_agree (s : State) (code : Nat) (hμ : 17731808755712 ||| μ = μ) :
    Agree μ σ (State.wakeCause s code) ↔ Agree μ σ s :=
  Agree.stack (by unfold State.wakeCause; (repeat' (first | (simp; done) | split))) hμ σ

@[simp] theorem State.wakeFrame_agree (s : State) (n : Nat) (frame : Option CanFrame) (hμ : 17731808755712 ||| μ = μ) :
    Agree μ σ (State.wakeFrame s n frame) ↔ Agree μ σ s :=
  Agree.stack (by unfold State.wakeFrame; (repeat' (first | (simp; done) | split))) hμ σ

@[simp] theorem State.wakePin_agree (s : State) (p : Nat) (level : Bool) (hμ : 17731808755712 ||| μ = μ) :
    Agree μ σ (State.wakePin s p level) ↔ Agree μ σ s :=
  Agree.stack (by unfold State.wakePin; simp) hμ σ

@[simp] theorem State.alarmMatch_agree (s : State) (hμ : 17731808755712 ||| μ = μ) :
    Agree μ σ (State.alarmMatch s) ↔ Agree μ σ s :=
  Agree.stack (by unfold State.alarmMatch; simp) hμ σ

@[simp] theorem State.windowOver_agree (s : State) (x : WakeSource) (hμ : 137474637824 ||| μ = μ) :
    Agree μ σ (State.windowOver s x) ↔ Agree μ σ s :=
  Agree.stack (by unfold State.windowOver; simp) hμ σ

@[simp] theorem State.ringTtypOver_agree (s : State) (r : Nat) (hμ : 17731808198656 ||| μ = μ) :
    Agree μ σ (State.ringTtypOver s r) ↔ Agree μ σ s :=
  Agree.stack (by
    unfold State.ringTtypOver
    repeat' (first | (simp; done) | split | (refine Agree.of_fst ‹_› ?_; simp; done) | simp | (refine (Agree.foldl _ (fun _ _ => ?_)).2 ?_) | intro _)) hμ σ

@[simp] theorem State.ringTmaxOver_agree (s : State) (r : Nat) (hμ : 17731808198656 ||| μ = μ) :
    Agree μ σ (State.ringTmaxOver s r) ↔ Agree μ σ s :=
  Agree.stack (by unfold State.ringTmaxOver; (repeat' (first | (simp; done) | split))) hμ σ

@[simp] theorem State.ringLeave_agree (s : State) (r : Nat) (a : Nat) (hμ : 139622154240 ||| μ = μ) :
    Agree μ σ (State.ringLeave s r a) ↔ Agree μ σ s :=
  Agree.stack (by unfold State.ringLeave; simp) hμ σ

@[simp] theorem State.ringTwbsOver_agree (s : State) (r : Nat) (hμ : 139622154240 ||| μ = μ) :
    Agree μ σ (State.ringTwbsOver s r) ↔ Agree μ σ s :=
  Agree.stack (by unfold State.ringTwbsOver; simp) hμ σ

@[simp] theorem State.limphomeOver_agree (s : State) (r : Nat) (hμ : 17731808198656 ||| μ = μ) :
    Agree μ σ (State.limphomeOver s r) ↔ Agree μ σ s :=
  Agree.stack (by unfold State.limphomeOver; simp) hμ σ

@[simp] theorem State.rampEnergy_agree (s : State) (f : Nat) (energy : Nat) (hμ : 524288 ||| μ = μ) :
    Agree μ σ (State.rampEnergy s f energy) ↔ Agree μ σ s :=
  Agree.stack (by unfold State.rampEnergy; simp) hμ σ

@[simp] theorem State.feedRampDone_agree (s : State) (f : Nat) (energy : Nat) (hμ : 137475129344 ||| μ = μ) :
    Agree μ σ (State.feedRampDone s f energy) ↔ Agree μ σ s :=
  Agree.stack (by unfold State.feedRampDone; simp) hμ σ

@[simp] theorem State.feedTrip_agree (s : State) (f : Nat) (cause : Nat) (hμ : 137475129344 ||| μ = μ) :
    Agree μ σ (State.feedTrip s f cause) ↔ Agree μ σ s :=
  Agree.stack (by unfold State.feedTrip; simp) hμ σ

@[simp] theorem State.feedTrips_agree (s : State) (f : Nat) (cause : TripCause) (energy : Nat) (hμ : 137475129344 ||| μ = μ) :
    Agree μ σ (State.feedTrips s f cause energy) ↔ Agree μ σ s :=
  Agree.stack (by
    unfold State.feedTrips
    repeat' (first | (simp; done) | split | (refine Agree.of_fst ‹_› ?_; simp; done) | simp | (refine (Agree.foldl _ (fun _ _ => ?_)).2 ?_) | intro _)) hμ σ

@[simp] theorem State.feedBlankOver_agree (s : State) (f : Nat) (hμ : 137475129344 ||| μ = μ) :
    Agree μ σ (State.feedBlankOver s f) ↔ Agree μ σ s :=
  Agree.stack (by unfold State.feedBlankOver; simp) hμ σ

@[simp] theorem State.feedCoolOver_agree (s : State) (f : Nat) (hμ : 137475129344 ||| μ = μ) :
    Agree μ σ (State.feedCoolOver s f) ↔ Agree μ σ s :=
  Agree.stack (by unfold State.feedCoolOver; simp) hμ σ

@[simp] theorem State.feedQuiet_agree (s : State) (f : Nat) (hμ : 137438953472 ||| μ = μ) :
    Agree μ σ (State.feedQuiet s f) ↔ Agree μ σ s :=
  Agree.stack (by unfold State.feedQuiet; simp) hμ σ

@[simp] theorem State.overvoltage_agree (s : State) (mv : Nat) (hμ : 137475162112 ||| μ = μ) :
    Agree μ σ (State.overvoltage s mv) ↔ Agree μ σ s :=
  Agree.stack (by unfold State.overvoltage; simp) hμ σ

@[simp] theorem State.ovRecover_agree (s : State) (mv : Nat) (hμ : 137475162112 ||| μ = μ) :
    Agree μ σ (State.ovRecover s mv) ↔ Agree μ σ s :=
  Agree.stack (by unfold State.ovRecover; simp) hμ σ

@[simp] theorem State.tfailToggled_agree (s : State) (hμ : 2147483648 ||| μ = μ) :
    Agree μ σ (State.tfailToggled s) ↔ Agree μ σ s :=
  Agree.stack (by unfold State.tfailToggled; simp) hμ σ

@[simp] theorem State.tfailEdge_agree (s : State) (hμ : 2147483648 ||| μ = μ) :
    Agree μ σ (State.tfailEdge s) ↔ Agree μ σ s :=
  Agree.stack (by unfold State.tfailEdge; simp) hμ σ

@[simp] theorem State.tfailLost_agree (s : State) (hμ : 26594431271436 ||| μ = μ) :
    Agree μ σ (State.tfailLost s) ↔ Agree μ σ s :=
  Agree.stack (by unfold State.tfailLost; simp) hμ σ

@[simp] theorem State.sendHeartbeat_agree (s : State) (hμ : 2183200768 ||| μ = μ) :
    Agree μ σ (State.sendHeartbeat s) ↔ Agree μ σ s :=
  Agree.stack (by unfold State.sendHeartbeat; simp) hμ σ

@[simp] theorem State.heartbeatDue_agree (s : State) (hμ : 2183200768 ||| μ = μ) :
    Agree μ σ (State.heartbeatDue s) ↔ Agree μ σ s :=
  Agree.stack (by unfold State.heartbeatDue; (repeat' (first | (simp; done) | split))) hμ σ

@[simp] theorem State.pairWaitOver_agree (s : State) (hμ : 26579516326404 ||| μ = μ) :
    Agree μ σ (State.pairWaitOver s) ↔ Agree μ σ s :=
  Agree.stack (by unfold State.pairWaitOver; simp) hμ σ

@[simp] theorem State.holdoffDone_agree (s : State) (hμ : 2147483648 ||| μ = μ) :
    Agree μ σ (State.holdoffDone s) ↔ Agree μ σ s :=
  Agree.stack (by unfold State.holdoffDone; simp) hμ σ

@[simp] theorem State.followLate_agree (s : State) (hμ : 17789328884236 ||| μ = μ) :
    Agree μ σ (State.followLate s) ↔ Agree μ σ s :=
  Agree.stack (by unfold State.followLate; (repeat' (first | (simp; done) | split))) hμ σ

@[simp] theorem State.checkDone_agree (s : State) (pass : Bool) (detail : Nat) (hμ : 26594431271436 ||| μ = μ) :
    Agree μ σ (State.checkDone s pass detail) ↔ Agree μ σ s :=
  Agree.stack (by unfold State.checkDone; (repeat' (first | (simp; done) | split))) hμ σ

@[simp] theorem State.resolveLate_agree (s : State) (hμ : 26594431271436 ||| μ = μ) :
    Agree μ σ (State.resolveLate s) ↔ Agree μ σ s :=
  Agree.stack (by unfold State.resolveLate; (repeat' (first | (simp; done) | split))) hμ σ

@[simp] theorem State.wdtExpired_agree (s : State) (hμ : 1121308377087 ||| μ = μ) :
    Agree μ σ (State.wdtExpired s) ↔ Agree μ σ s :=
  Agree.stack (by unfold State.wdtExpired; simp) hμ σ

@[simp] theorem State.sramBad_agree (s : State) (hμ : 1121308377087 ||| μ = μ) :
    Agree μ σ (State.sramBad s) ↔ Agree μ σ s :=
  Agree.stack (by unfold State.sramBad; simp) hμ σ

@[simp] theorem State.watchCheck_agree (s : State) (k : Nat) (hμ : 35782656 ||| μ = μ) :
    Agree μ σ (State.watchCheck s k) ↔ Agree μ σ s :=
  Agree.stack (by unfold State.watchCheck; (repeat' (first | (simp; done) | split))) hμ σ

@[simp] theorem State.patrolCe_agree (s : State) (spot : PatrolSpot) (hμ : 1109655680 ||| μ = μ) :
    Agree μ σ (State.patrolCe s spot) ↔ Agree μ σ s :=
  Agree.stack (by unfold State.patrolCe; (repeat' (first | (simp; done) | split))) hμ σ

@[simp] theorem State.flumeBad_agree (s : State) (f : Nat) (pos : Nat) (hμ : 2199916544 ||| μ = μ) :
    Agree μ σ (State.flumeBad s f pos) ↔ Agree μ σ s :=
  Agree.stack (by unfold State.flumeBad; simp) hμ σ

@[simp] theorem State.entryBad_agree (s : State) (t : Nat) (i : Nat) (hμ : 304349184 ||| μ = μ) :
    Agree μ σ (State.entryBad s t i) ↔ Agree μ σ s :=
  Agree.stack (by unfold State.entryBad; simp) hμ σ

@[simp] theorem State.txLost_agree (s : State) (n : Nat) (hμ : 17592221696512 ||| μ = μ) :
    Agree μ σ (State.txLost s n) ↔ Agree μ σ s :=
  Agree.stack (by
    unfold State.txLost
    repeat' (first | (simp; done) | split | (refine Agree.of_fst ‹_› ?_; simp; done) | simp | (refine (Agree.foldl _ (fun _ _ => ?_)).2 ?_) | intro _)) hμ σ

@[simp] theorem State.objectBad_agree (s : State) (n : Nat) (o : Nat) (hμ : 17609401565696 ||| μ = μ) :
    Agree μ σ (State.objectBad s n o) ↔ Agree μ σ s :=
  Agree.stack (by unfold State.objectBad; simp) hμ σ

@[simp] theorem State.queueBad_agree (s : State) (n : Nat) (tx : Bool) (i : Nat) (hμ : 17609401565696 ||| μ = μ) :
    Agree μ σ (State.queueBad s n tx i) ↔ Agree μ σ s :=
  Agree.stack (by unfold State.queueBad; simp) hμ σ

@[simp] theorem State.slotBad_agree (s : State) (h : Nat) (hμ : 4330897408 ||| μ = μ) :
    Agree μ σ (State.slotBad s h) ↔ Agree μ σ s :=
  Agree.stack (by unfold State.slotBad; simp) hμ σ

@[simp] theorem State.patrolUe_agree (s : State) (x1 : PatrolSpot) (hμ : 18717252517887 ||| μ = μ) :
    Agree μ σ (State.patrolUe s x1) ↔ Agree μ σ s :=
  Agree.stack (by unfold State.patrolUe; (repeat' (first | (simp; done) | split))) hμ σ

@[simp] theorem State.sumChecked_agree (s : State) (t : Nat) (found : Option Word) (hμ : 304349184 ||| μ = μ) :
    Agree μ σ (State.sumChecked s t found) ↔ Agree μ σ s :=
  Agree.stack (by unfold State.sumChecked; (repeat' (first | (simp; done) | split))) hμ σ

@[simp] theorem State.patrolRead_agree (s : State) (spot : PatrolSpot) (found : WordFound) (passEnd : Option (List (Fin 31 × Word))) (hμ : 18717252517887 ||| μ = μ) :
    Agree μ σ (State.patrolRead s spot found passEnd) ↔ Agree μ σ s :=
  Agree.stack (by unfold State.patrolRead; (repeat' (first | (simp; done) | split))) hμ σ

@[simp] theorem State.rwEntered_agree (s : State) (hμ : 1099511627776 ||| μ = μ) :
    Agree μ σ (State.rwEntered s) ↔ Agree μ σ s :=
  Agree.stack (by unfold State.rwEntered; simp) hμ σ

@[simp] theorem State.tableWorksEnd_agree (s : State) (t : Nat) (hμ : 1301213940424 ||| μ = μ) :
    Agree μ σ (State.tableWorksEnd s t) ↔ Agree μ σ s :=
  Agree.stack (by unfold State.tableWorksEnd; simp) hμ σ

@[simp] theorem State.parserWorksEnd_agree (s : State) (hμ : 1301348158168 ||| μ = μ) :
    Agree μ σ (State.parserWorksEnd s) ↔ Agree μ σ s :=
  Agree.stack (by unfold State.parserWorksEnd; simp) hμ σ

@[simp] theorem State.leaseExpired_agree (s : State) (l : Nat) (hμ : 1099815976960 ||| μ = μ) :
    Agree μ σ (State.leaseExpired s l) ↔ Agree μ σ s :=
  Agree.stack (by unfold State.leaseExpired; (repeat' (first | (simp; done) | split))) hμ σ

@[simp] theorem State.setHalt_agree (s : State) (path : Path) (n : Nat) (v : Bool) (hμ : 1099511889920 ||| μ = μ) :
    Agree μ σ (State.setHalt s path n v) ↔ Agree μ σ s :=
  Agree.stack (by unfold State.setHalt; simp) hμ σ

@[simp] theorem State.gpioEdge_agree (s : State) (m : Nat) (level : Bool) (hμ : 274914082816 ||| μ = μ) :
    Agree μ σ (State.gpioEdge s m level) ↔ Agree μ σ s :=
  Agree.stack (by unfold State.gpioEdge; simp) hμ σ

@[simp] theorem State.captureEdge_agree (s : State) (k : Nat) (level : Bool) (hμ : 274914082816 ||| μ = μ) :
    Agree μ σ (State.captureEdge s k level) ↔ Agree μ σ s :=
  Agree.stack (by unfold State.captureEdge; simp) hμ σ

@[simp] theorem State.takePosition_agree (s : State) (m : Nat) (level : Bool) (hμ : 2147483648 ||| μ = μ) :
    Agree μ σ (State.takePosition s m level) ↔ Agree μ σ s :=
  Agree.stack (by unfold State.takePosition; simp) hμ σ

@[simp] theorem State.pinSwitched_agree (s : State) (m : Nat) (level : Bool) (hμ : 277061566464 ||| μ = μ) :
    Agree μ σ (State.pinSwitched s m level) ↔ Agree μ σ s :=
  Agree.stack (by unfold State.pinSwitched; simp) hμ σ

@[simp] theorem State.ledOver_agree (s : State) (m : Nat) (hμ : 274877906944 ||| μ = μ) :
    Agree μ σ (State.ledOver s m) ↔ Agree μ σ s :=
  Agree.stack (by unfold State.ledOver; simp) hμ σ

@[simp] theorem State.mirrorItem_agree (s : State) (item : MirrorItem) (hμ : 2183200768 ||| μ = μ) :
    Agree μ σ (State.mirrorItem s item) ↔ Agree μ σ s :=
  Agree.stack (by unfold State.mirrorItem; (repeat' (first | (simp; done) | split))) hμ σ

@[simp] theorem State.aer_agree (s : State) (uncorrectable : Bool) (hμ : 35659776 ||| μ = μ) :
    Agree μ σ (State.aer s uncorrectable) ↔ Agree μ σ s :=
  Agree.stack (by unfold State.aer; simp) hμ σ

@[simp] theorem State.busIdle_agree (s : State) (n : Nat) (hμ : 156802023936 ||| μ = μ) :
    Agree μ σ (State.busIdle s n) ↔ Agree μ σ s :=
  Agree.stack (by unfold State.busIdle; simp) hμ σ

@[simp] theorem State.accrueCredits_agree (s : State) (t dt : Nat) (hμ : 67108864 ||| μ = μ) :
    Agree μ σ (State.accrueCredits s t dt) ↔ Agree μ σ s :=
  Agree.stack (by
    unfold State.accrueCredits
    repeat' (first | (simp; done) | split | (refine Agree.of_fst ‹_› ?_; simp; done) | simp | (refine (Agree.foldl _ (fun _ _ => ?_)).2 ?_) | intro _)) hμ σ

@[simp] theorem State.islandTicked_agree (s : State) (hμ : 137438953472 ||| μ = μ) :
    Agree μ σ (State.islandTicked s) ↔ Agree μ σ s :=
  Agree.stack (by unfold State.islandTicked; simp) hμ σ

@[simp] theorem State.tickDomain_agree (s : State) (d : Nat) (hμ : 44040196 ||| μ = μ) :
    Agree μ σ (State.tickDomain s d) ↔ Agree μ σ s :=
  Agree.stack (by unfold State.tickDomain; simp) hμ σ

@[simp] theorem State.preemptClosings_agree (s : State) (hμ : 67108864 ||| μ = μ) :
    Agree μ σ (State.preemptClosings s) ↔ Agree μ σ s :=
  Agree.stack (by
    unfold State.preemptClosings
    repeat' (first | (simp; done) | split | (refine Agree.of_fst ‹_› ?_; simp; done) | simp | (refine (Agree.foldl _ (fun _ _ => ?_)).2 ?_) | intro _)) hμ σ

@[simp] theorem State.networkTicked_agree (s : State) (hμ : 17291018244 ||| μ = μ) :
    Agree μ σ (State.networkTicked s) ↔ Agree μ σ s :=
  Agree.stack (by unfold State.networkTicked; simp) hμ σ

@[simp] theorem State.tick_agree (s : State) (hμ : 154729971716 ||| μ = μ) :
    Agree μ σ (State.tick s) ↔ Agree μ σ s :=
  Agree.stack (by unfold State.tick; simp) hμ σ

@[simp] theorem State.withFetchWord_agree (s : State) (nbits : Nat) (w : Nat) (hμ : 35184372088832 ||| μ = μ) :
    Agree μ σ (State.withFetchWord s nbits w) ↔ Agree μ σ s :=
  Agree.stack (by unfold State.withFetchWord; (repeat' (first | (simp; done) | split))) hμ σ

end Sys2Proof.Machine
end

