-- ==== Sys2Proof/Laws/Sparse.lean ====
section
/-!
SUPPORT. Sparse tables and bit fields: reading after a write, canonical form.
-/
namespace Sys2Proof.Machine

theorem Sparse.get_ins {α : Type} (d : Nat → α) (m : Sparse α) (k a : Nat) (v : α) :
    Sparse.get d (Sparse.ins m k v) a = if k = a then v else Sparse.get d m a := by
  induction m with
  | nil => rfl
  | cons x m ih =>
    obtain ⟨b, w⟩ := x
    unfold Sparse.ins
    split
    · rfl
    · split
      · rename_i h; subst h; simp only [Sparse.get]; split <;> rfl
      · rename_i h1 h2
        simp only [Sparse.get, ih]
        by_cases h3 : b = a <;> by_cases h4 : k = a <;> simp_all

theorem Sparse.get_del {α : Type} (d : Nat → α) (m : Sparse α) (k a : Nat) :
    Sparse.get d (Sparse.del m k) a = if k = a then d a else Sparse.get d m a := by
  induction m with
  | nil => simp [Sparse.del, Sparse.get]
  | cons x m ih =>
    obtain ⟨b, w⟩ := x
    by_cases h : b = k
    · subst h; simp only [Sparse.del, if_true, ih, Sparse.get]; split <;> rfl
    · simp only [Sparse.del, h, if_false, Sparse.get, ih]
      by_cases h3 : b = a <;> by_cases h4 : k = a <;> simp_all

/-- A read after a write: the value written at its key, the old value at every other. -/
theorem Sparse.get_put {α : Type} [DecidableEq α] (d : Nat → α) (m : Sparse α) (k a : Nat) (v : α) :
    Sparse.get d (Sparse.put d m k v) a = if k = a then v else Sparse.get d m a := by
  unfold Sparse.put
  split
  · rename_i h; rw [Sparse.get_del]; split
    · rename_i e; rw [h, e]
    · rfl
  · exact Sparse.get_ins d m k a v

@[simp] theorem Sparse.get_put_same {α : Type} [DecidableEq α] (d : Nat → α) (m : Sparse α) (k : Nat) (v : α) :
    Sparse.get d (Sparse.put d m k v) k = v := by rw [Sparse.get_put, if_pos rfl]
theorem Sparse.get_put_ne {α : Type} [DecidableEq α] (d : Nat → α) (m : Sparse α) {k a : Nat} (v : α) (h : k ≠ a) :
    Sparse.get d (Sparse.put d m k v) a = Sparse.get d m a := by rw [Sparse.get_put, if_neg h]

theorem Sparse.get_clear {α : Type} (d : Nat → α) (p : Nat → Bool) (m : Sparse α) (a : Nat) :
    Sparse.get d (Sparse.clear p m) a = if p a then d a else Sparse.get d m a := by
  induction m with
  | nil => simp [Sparse.clear, Sparse.get]
  | cons x m ih =>
    obtain ⟨b, w⟩ := x
    cases h : p b
    · have e : Sparse.clear p ((b, w) :: m) = (b, w) :: Sparse.clear p m := by simp [Sparse.clear, h]
      rw [e]; simp only [Sparse.get, ih]
      by_cases h3 : b = a
      · subst h3; simp [h]
      · simp [h3]
    · have e : Sparse.clear p ((b, w) :: m) = Sparse.clear p m := by simp [Sparse.clear, h]
      rw [e, ih]; simp only [Sparse.get]
      by_cases h3 : b = a
      · subst h3; simp [h]
      · simp [h3]

/-! ### Canonical form -/

theorem Sparse.above_mono {α : Type} {j k : Nat} (h : j ≤ k) {m : Sparse α} (a : Sparse.above k m = true) : Sparse.above j m = true := by
  induction m with
  | nil => rfl
  | cons x m ih =>
    obtain ⟨b, w⟩ := x
    simp only [Sparse.above, Bool.and_eq_true, decide_eq_true_eq] at a ⊢
    exact ⟨by omega, ih a.2⟩

theorem Sparse.above_ins {α : Type} {j k : Nat} {v : α} {m : Sparse α} (h : j < k) (a : Sparse.above j m = true) :
    Sparse.above j (Sparse.ins m k v) = true := by
  induction m with
  | nil => simp [Sparse.ins, Sparse.above, h]
  | cons x m ih =>
    obtain ⟨b, w⟩ := x
    simp only [Sparse.above, Bool.and_eq_true, decide_eq_true_eq] at a
    unfold Sparse.ins
    split
    · simp [Sparse.above, h, a]
    · split <;> simp [Sparse.above, h, a, ih]

theorem Sparse.above_del {α : Type} {j k : Nat} {m : Sparse α} (a : Sparse.above j m = true) : Sparse.above j (Sparse.del m k) = true := by
  induction m with
  | nil => rfl
  | cons x m ih =>
    obtain ⟨b, w⟩ := x
    simp only [Sparse.above, Bool.and_eq_true, decide_eq_true_eq] at a
    unfold Sparse.del
    split
    · exact ih a.2
    · simp [Sparse.above, a, ih]

theorem Sparse.above_clear {α : Type} {j : Nat} {p : Nat → Bool} {m : Sparse α} (a : Sparse.above j m = true) :
    Sparse.above j (Sparse.clear p m) = true := by
  induction m with
  | nil => rfl
  | cons x m ih =>
    obtain ⟨b, w⟩ := x
    simp only [Sparse.above, Bool.and_eq_true, decide_eq_true_eq] at a
    unfold Sparse.clear
    split
    · exact ih a.2
    · simp [Sparse.above, a, ih]

/-- A write keeps the canonical form. -/
theorem Sparse.canon_put {α : Type} [DecidableEq α] {d : Nat → α} {m : Sparse α} (k : Nat) (v : α) (h : Sparse.canon d m = true) :
    Sparse.canon d (Sparse.put d m k v) = true := by
  unfold Sparse.put
  split
  · induction m with
    | nil => rfl
    | cons x m ih =>
      obtain ⟨b, w⟩ := x
      simp only [Sparse.canon, Bool.and_eq_true, decide_eq_true_eq] at h
      unfold Sparse.del
      split
      · exact ih h.2.2
      · simp only [Sparse.canon, Bool.and_eq_true, decide_eq_true_eq]; exact ⟨h.1, Sparse.above_del h.2.1, ih h.2.2⟩
  · rename_i hv
    induction m with
    | nil => simp [Sparse.ins, Sparse.canon, Sparse.above, hv]
    | cons x m ih =>
      obtain ⟨b, w⟩ := x
      have h0 := h
      simp only [Sparse.canon, Bool.and_eq_true, decide_eq_true_eq] at h
      unfold Sparse.ins
      split
      · rename_i lt
        simp only [Sparse.canon, Sparse.above, Bool.and_eq_true, decide_eq_true_eq]
        exact ⟨hv, ⟨lt, Sparse.above_mono (Nat.le_of_lt lt) h.2.1⟩, h⟩
      · split
        · rename_i e; subst e
          simp only [Sparse.canon, Bool.and_eq_true, decide_eq_true_eq]; exact ⟨hv, h.2⟩
        · simp only [Sparse.canon, Bool.and_eq_true, decide_eq_true_eq]
          exact ⟨h.1, Sparse.above_ins (by omega) h.2.1, ih h.2.2⟩

/-- Consecutive writes keep the canonical form. -/
theorem Sparse.canon_puts {α : Type} [DecidableEq α] {d : Nat → α} (vs : List α) {m : Sparse α} (k : Nat) (h : Sparse.canon d m = true) :
    Sparse.canon d (Sparse.puts d m k vs) = true := by
  induction vs generalizing m k with
  | nil => exact h
  | cons v vs ih => exact ih (k + 1) (Sparse.canon_put k v h)

/-- Taking entries out keeps the canonical form. -/
theorem Sparse.canon_clear {α : Type} [DecidableEq α] {d : Nat → α} (p : Nat → Bool) {m : Sparse α} (h : Sparse.canon d m = true) :
    Sparse.canon d (Sparse.clear p m) = true := by
  induction m with
  | nil => rfl
  | cons x m ih =>
    obtain ⟨b, w⟩ := x
    simp only [Sparse.canon, Bool.and_eq_true, decide_eq_true_eq] at h
    unfold Sparse.clear
    split
    · exact ih h.2.2
    · simp only [Sparse.canon, Bool.and_eq_true, decide_eq_true_eq]; exact ⟨h.1, Sparse.above_clear h.2.1, ih h.2.2⟩

/-! ### Fields of a register -/

theorem toNat_setField (w : Word) {hi lo v : Nat} (h : hi < 32) (hl : lo ≤ hi) :
    (setField w hi lo v).toNat = w.toNat % 2 ^ lo + (v % 2 ^ (hi + 1 - lo)) * 2 ^ lo + w.toNat / 2 ^ (hi + 1) * 2 ^ (hi + 1) := by
  have hw : 2 ^ (hi + 1) = 2 ^ lo * 2 ^ (hi + 1 - lo) := by rw [← Nat.pow_add]; congr 1; omega
  have d1 := Nat.div_add_mod w.toNat (2 ^ lo)
  have d2 := Nat.div_add_mod (w.toNat / 2 ^ lo) (2 ^ (hi + 1 - lo))
  have d3 : w.toNat / 2 ^ lo / 2 ^ (hi + 1 - lo) = w.toNat / 2 ^ (hi + 1) := by rw [Nat.div_div_eq_div_mul, hw]
  have hv : v % 2 ^ (hi + 1 - lo) < 2 ^ (hi + 1 - lo) := Nat.mod_lt _ (by positivity)
  have hr : w.toNat % 2 ^ lo < 2 ^ lo := Nat.mod_lt _ (by positivity)
  have hq : w.toNat / 2 ^ (hi + 1) < 2 ^ (32 - (hi + 1)) := by
    rw [Nat.div_lt_iff_lt_mul (by positivity), ← Nat.pow_add]
    have : 32 - (hi + 1) + (hi + 1) = 32 := by omega
    rw [this]; exact w.isLt
  have e32 : 2 ^ 32 = 2 ^ (32 - (hi + 1)) * 2 ^ (hi + 1) := by rw [← Nat.pow_add]; congr 1; omega
  unfold setField field
  rw [BitVec.toNat_ofNat]
  set a := w.toNat / 2 ^ lo % 2 ^ (hi + 1 - lo) with ha
  set q := w.toNat / 2 ^ (hi + 1) with hq'
  set r := w.toNat % 2 ^ lo with hr'
  set x := v % 2 ^ (hi + 1 - lo) with hx
  have ew : w.toNat = r + a * 2 ^ lo + q * 2 ^ (hi + 1) := by
    rw [d3] at d2
    rw [← d1, ← d2, hw]; ring
  have es : w.toNat - a * 2 ^ lo + x * 2 ^ lo = r + x * 2 ^ lo + q * 2 ^ (hi + 1) := by omega
  rw [es]
  apply Nat.mod_eq_of_lt
  have l1 : x * 2 ^ lo + 2 ^ lo ≤ 2 ^ (hi + 1) := by
    rw [hw, ← Nat.succ_mul, Nat.mul_comm (2 ^ lo)]; exact Nat.mul_le_mul_right _ hv
  have l2 : q * 2 ^ (hi + 1) + 2 ^ (hi + 1) ≤ 2 ^ 32 := by
    rw [e32, ← Nat.succ_mul]; exact Nat.mul_le_mul_right _ hq
  omega

/-- A field written reads back. -/
theorem field_setField (w : Word) {hi lo v : Nat} (h : hi < 32) (hl : lo ≤ hi) : field (setField w hi lo v) hi lo = v % 2 ^ (hi + 1 - lo) := by
  have hw : 2 ^ (hi + 1) = 2 ^ lo * 2 ^ (hi + 1 - lo) := by rw [← Nat.pow_add]; congr 1; omega
  unfold field
  rw [toNat_setField w h hl, hw]
  have hr : w.toNat % 2 ^ lo < 2 ^ lo := Nat.mod_lt _ (by positivity)
  have e : w.toNat % 2 ^ lo + v % 2 ^ (hi + 1 - lo) * 2 ^ lo + w.toNat / (2 ^ lo * 2 ^ (hi + 1 - lo)) * (2 ^ lo * 2 ^ (hi + 1 - lo)) =
      w.toNat % 2 ^ lo + (v % 2 ^ (hi + 1 - lo) + w.toNat / (2 ^ lo * 2 ^ (hi + 1 - lo)) * 2 ^ (hi + 1 - lo)) * 2 ^ lo := by ring
  rw [e, Nat.add_mul_div_right _ _ (by positivity), Nat.div_eq_of_lt hr, Nat.zero_add, Nat.add_mul_mod_self_right, Nat.mod_mod]

theorem testBit_setField (w : Word) {hi lo v i : Nat} (h : hi < 32) (hl : lo ≤ hi) :
    (setField w hi lo v).toNat.testBit i = if lo ≤ i ∧ i ≤ hi then v.testBit (i - lo) else w.toNat.testBit i := by
  have hw : 2 ^ (hi + 1) = 2 ^ lo * 2 ^ (hi + 1 - lo) := by rw [← Nat.pow_add]; congr 1; omega
  have hr : w.toNat % 2 ^ lo < 2 ^ lo := Nat.mod_lt _ (by positivity)
  have hv : v % 2 ^ (hi + 1 - lo) < 2 ^ (hi + 1 - lo) := Nat.mod_lt _ (by positivity)
  have l1 : v % 2 ^ (hi + 1 - lo) * 2 ^ lo + w.toNat % 2 ^ lo < 2 ^ (hi + 1) := by
    rw [hw, Nat.mul_comm (2 ^ lo)]
    have := Nat.mul_le_mul_right (2 ^ lo) hv
    rw [Nat.succ_mul] at this; omega
  have e : (setField w hi lo v).toNat = 2 ^ (hi + 1) * (w.toNat / 2 ^ (hi + 1)) + (2 ^ lo * (v % 2 ^ (hi + 1 - lo)) + w.toNat % 2 ^ lo) := by
    rw [toNat_setField w h hl]; ring
  rw [e, Nat.testBit_two_pow_mul_add _ (by rw [Nat.mul_comm]; exact l1), Nat.testBit_two_pow_mul_add _ hr,
    Nat.testBit_mod_two_pow, Nat.testBit_mod_two_pow, Nat.testBit_div_two_pow]
  by_cases h1 : i < hi + 1
  · by_cases h2 : i < lo
    · simp only [h1, h2, if_true, decide_true, Bool.true_and]
      rw [if_neg (by omega)]
    · have h3 : i - lo < hi + 1 - lo := by omega
      simp only [h1, h2, h3, if_true, if_false, decide_true, Bool.true_and]
      rw [if_pos (by omega)]
  · have : i - (hi + 1) + (hi + 1) = i := by omega
    simp only [h1, if_false, this]
    rw [if_neg (by omega)]

@[simp] theorem bit_setBit_same (w : Word) {i : Nat} (b : Bool) (h : i < 32) : bit (setBit w i b) i = b := by
  unfold bit setBit
  rw [testBit_setField w h (Nat.le_refl i)]
  cases b <;> simp
theorem bit_setBit_ne (w : Word) {i j : Nat} (b : Bool) (h : i < 32) (hn : i ≠ j) : bit (setBit w i b) j = bit w j := by
  unfold bit setBit
  rw [testBit_setField w h (Nat.le_refl i), if_neg (by omega)]
/-- A field apart from the one written stands. -/
theorem field_setField_ne (w : Word) {hi lo v h2 l2 : Nat} (h : hi < 32) (hl : lo ≤ hi) (hn : h2 < lo ∨ hi < l2) :
    field (setField w hi lo v) h2 l2 = field w h2 l2 := by
  unfold field
  apply Nat.eq_of_testBit_eq
  intro i
  rw [Nat.testBit_mod_two_pow, Nat.testBit_mod_two_pow, Nat.testBit_div_two_pow, Nat.testBit_div_two_pow, testBit_setField w h hl]
  by_cases hi' : i < h2 + 1 - l2
  · rw [if_neg (by omega)]
  · simp [hi']
theorem bit_setField_ne (w : Word) {hi lo v i : Nat} (h : hi < 32) (hl : lo ≤ hi) (hn : i < lo ∨ hi < i) :
    bit (setField w hi lo v) i = bit w i := by
  unfold bit; rw [testBit_setField w h hl, if_neg (by omega)]

end Sys2Proof.Machine
end

