-- ==== Sys2Proof/Laws/State.lean ====
section
/-!
SUPPORT. One lemma for each field of the state and each basic update: what the update leaves and what it writes.
-/
namespace Sys2Proof.Machine

@[simp] theorem State.wr_paths (s : State) (b : Block) (o : Nat) (v : Word) : (s.wr b o v).paths = s.paths := rfl
@[simp] theorem State.wr_seq (s : State) (b : Block) (o : Nat) (v : Word) : (s.wr b o v).seq = s.seq := rfl
@[simp] theorem State.wr_img (s : State) (b : Block) (o : Nat) (v : Word) : (s.wr b o v).img = s.img := rfl
@[simp] theorem State.wr_tkp (s : State) (b : Block) (o : Nat) (v : Word) : (s.wr b o v).tkp = s.tkp := rfl
@[simp] theorem State.wr_flm (s : State) (b : Block) (o : Nat) (v : Word) : (s.wr b o v).flm = s.flm := rfl
@[simp] theorem State.wr_evt (s : State) (b : Block) (o : Nat) (v : Word) : (s.wr b o v).evt = s.evt := rfl
@[simp] theorem State.wr_net (s : State) (b : Block) (o : Nat) (v : Word) : (s.wr b o v).net = s.net := rfl
@[simp] theorem State.wr_prs (s : State) (b : Block) (o : Nat) (v : Word) : (s.wr b o v).prs = s.prs := rfl
@[simp] theorem State.wr_tbl (s : State) (b : Block) (o : Nat) (v : Word) : (s.wr b o v).tbl = s.tbl := rfl
@[simp] theorem State.wr_xbr (s : State) (b : Block) (o : Nat) (v : Word) : (s.wr b o v).xbr = s.xbr := rfl
@[simp] theorem State.wr_cis (s : State) (b : Block) (o : Nat) (v : Word) : (s.wr b o v).cis = s.cis := rfl
@[simp] theorem State.wr_tdm (s : State) (b : Block) (o : Nat) (v : Word) : (s.wr b o v).tdm = s.tdm := rfl
@[simp] theorem State.wr_key (s : State) (b : Block) (o : Nat) (v : Word) : (s.wr b o v).key = s.key := rfl
@[simp] theorem State.wr_gwy (s : State) (b : Block) (o : Nat) (v : Word) : (s.wr b o v).gwy = s.gwy := rfl
@[simp] theorem State.wr_can (s : State) (b : Block) (o : Nat) (v : Word) : (s.wr b o v).can = s.can := rfl
@[simp] theorem State.wr_mvb (s : State) (b : Block) (o : Nat) (v : Word) : (s.wr b o v).mvb = s.mvb := rfl
@[simp] theorem State.wr_hbr (s : State) (b : Block) (o : Nat) (v : Word) : (s.wr b o v).hbr = s.hbr := rfl
@[simp] theorem State.wr_lmp (s : State) (b : Block) (o : Nat) (v : Word) : (s.wr b o v).lmp = s.lmp := rfl
@[simp] theorem State.wr_mf (s : State) (b : Block) (o : Nat) (v : Word) : (s.wr b o v).mf = s.mf := rfl
@[simp] theorem State.wr_sense (s : State) (b : Block) (o : Nat) (v : Word) : (s.wr b o v).sense = s.sense := rfl
@[simp] theorem State.wr_mgt (s : State) (b : Block) (o : Nat) (v : Word) : (s.wr b o v).mgt = s.mgt := rfl
@[simp] theorem State.wr_fuses (s : State) (b : Block) (o : Nat) (v : Word) : (s.wr b o v).fuses = s.fuses := rfl
@[simp] theorem State.wr_flash (s : State) (b : Block) (o : Nat) (v : Word) : (s.wr b o v).flash = s.flash := rfl
@[simp] theorem State.wr_out (s : State) (b : Block) (o : Nat) (v : Word) : (s.wr b o v).out = s.out := rfl
@[simp] theorem State.wr_free (s : State) (b : Block) (o : Nat) (v : Word) : (s.wr b o v).free = s.free := rfl
@[simp] theorem State.wr_pending (s : State) (b : Block) (o : Nat) (v : Word) : (s.wr b o v).pending = s.pending := rfl

@[simp] theorem State.setFld_paths (s : State) (b : Block) (o hi lo v : Nat) : (s.setFld b o hi lo v).paths = s.paths := rfl
@[simp] theorem State.setFld_seq (s : State) (b : Block) (o hi lo v : Nat) : (s.setFld b o hi lo v).seq = s.seq := rfl
@[simp] theorem State.setFld_img (s : State) (b : Block) (o hi lo v : Nat) : (s.setFld b o hi lo v).img = s.img := rfl
@[simp] theorem State.setFld_tkp (s : State) (b : Block) (o hi lo v : Nat) : (s.setFld b o hi lo v).tkp = s.tkp := rfl
@[simp] theorem State.setFld_flm (s : State) (b : Block) (o hi lo v : Nat) : (s.setFld b o hi lo v).flm = s.flm := rfl
@[simp] theorem State.setFld_evt (s : State) (b : Block) (o hi lo v : Nat) : (s.setFld b o hi lo v).evt = s.evt := rfl
@[simp] theorem State.setFld_net (s : State) (b : Block) (o hi lo v : Nat) : (s.setFld b o hi lo v).net = s.net := rfl
@[simp] theorem State.setFld_prs (s : State) (b : Block) (o hi lo v : Nat) : (s.setFld b o hi lo v).prs = s.prs := rfl
@[simp] theorem State.setFld_tbl (s : State) (b : Block) (o hi lo v : Nat) : (s.setFld b o hi lo v).tbl = s.tbl := rfl
@[simp] theorem State.setFld_xbr (s : State) (b : Block) (o hi lo v : Nat) : (s.setFld b o hi lo v).xbr = s.xbr := rfl
@[simp] theorem State.setFld_cis (s : State) (b : Block) (o hi lo v : Nat) : (s.setFld b o hi lo v).cis = s.cis := rfl
@[simp] theorem State.setFld_tdm (s : State) (b : Block) (o hi lo v : Nat) : (s.setFld b o hi lo v).tdm = s.tdm := rfl
@[simp] theorem State.setFld_key (s : State) (b : Block) (o hi lo v : Nat) : (s.setFld b o hi lo v).key = s.key := rfl
@[simp] theorem State.setFld_gwy (s : State) (b : Block) (o hi lo v : Nat) : (s.setFld b o hi lo v).gwy = s.gwy := rfl
@[simp] theorem State.setFld_can (s : State) (b : Block) (o hi lo v : Nat) : (s.setFld b o hi lo v).can = s.can := rfl
@[simp] theorem State.setFld_mvb (s : State) (b : Block) (o hi lo v : Nat) : (s.setFld b o hi lo v).mvb = s.mvb := rfl
@[simp] theorem State.setFld_hbr (s : State) (b : Block) (o hi lo v : Nat) : (s.setFld b o hi lo v).hbr = s.hbr := rfl
@[simp] theorem State.setFld_lmp (s : State) (b : Block) (o hi lo v : Nat) : (s.setFld b o hi lo v).lmp = s.lmp := rfl
@[simp] theorem State.setFld_mf (s : State) (b : Block) (o hi lo v : Nat) : (s.setFld b o hi lo v).mf = s.mf := rfl
@[simp] theorem State.setFld_sense (s : State) (b : Block) (o hi lo v : Nat) : (s.setFld b o hi lo v).sense = s.sense := rfl
@[simp] theorem State.setFld_mgt (s : State) (b : Block) (o hi lo v : Nat) : (s.setFld b o hi lo v).mgt = s.mgt := rfl
@[simp] theorem State.setFld_fuses (s : State) (b : Block) (o hi lo v : Nat) : (s.setFld b o hi lo v).fuses = s.fuses := rfl
@[simp] theorem State.setFld_flash (s : State) (b : Block) (o hi lo v : Nat) : (s.setFld b o hi lo v).flash = s.flash := rfl
@[simp] theorem State.setFld_out (s : State) (b : Block) (o hi lo v : Nat) : (s.setFld b o hi lo v).out = s.out := rfl
@[simp] theorem State.setFld_free (s : State) (b : Block) (o hi lo v : Nat) : (s.setFld b o hi lo v).free = s.free := rfl
@[simp] theorem State.setFld_pending (s : State) (b : Block) (o hi lo v : Nat) : (s.setFld b o hi lo v).pending = s.pending := rfl

@[simp] theorem State.wr64_paths (s : State) (b : Block) (o v : Nat) : (s.wr64 b o v).paths = s.paths := rfl
@[simp] theorem State.wr64_seq (s : State) (b : Block) (o v : Nat) : (s.wr64 b o v).seq = s.seq := rfl
@[simp] theorem State.wr64_img (s : State) (b : Block) (o v : Nat) : (s.wr64 b o v).img = s.img := rfl
@[simp] theorem State.wr64_tkp (s : State) (b : Block) (o v : Nat) : (s.wr64 b o v).tkp = s.tkp := rfl
@[simp] theorem State.wr64_flm (s : State) (b : Block) (o v : Nat) : (s.wr64 b o v).flm = s.flm := rfl
@[simp] theorem State.wr64_evt (s : State) (b : Block) (o v : Nat) : (s.wr64 b o v).evt = s.evt := rfl
@[simp] theorem State.wr64_net (s : State) (b : Block) (o v : Nat) : (s.wr64 b o v).net = s.net := rfl
@[simp] theorem State.wr64_prs (s : State) (b : Block) (o v : Nat) : (s.wr64 b o v).prs = s.prs := rfl
@[simp] theorem State.wr64_tbl (s : State) (b : Block) (o v : Nat) : (s.wr64 b o v).tbl = s.tbl := rfl
@[simp] theorem State.wr64_xbr (s : State) (b : Block) (o v : Nat) : (s.wr64 b o v).xbr = s.xbr := rfl
@[simp] theorem State.wr64_cis (s : State) (b : Block) (o v : Nat) : (s.wr64 b o v).cis = s.cis := rfl
@[simp] theorem State.wr64_tdm (s : State) (b : Block) (o v : Nat) : (s.wr64 b o v).tdm = s.tdm := rfl
@[simp] theorem State.wr64_key (s : State) (b : Block) (o v : Nat) : (s.wr64 b o v).key = s.key := rfl
@[simp] theorem State.wr64_gwy (s : State) (b : Block) (o v : Nat) : (s.wr64 b o v).gwy = s.gwy := rfl
@[simp] theorem State.wr64_can (s : State) (b : Block) (o v : Nat) : (s.wr64 b o v).can = s.can := rfl
@[simp] theorem State.wr64_mvb (s : State) (b : Block) (o v : Nat) : (s.wr64 b o v).mvb = s.mvb := rfl
@[simp] theorem State.wr64_hbr (s : State) (b : Block) (o v : Nat) : (s.wr64 b o v).hbr = s.hbr := rfl
@[simp] theorem State.wr64_lmp (s : State) (b : Block) (o v : Nat) : (s.wr64 b o v).lmp = s.lmp := rfl
@[simp] theorem State.wr64_mf (s : State) (b : Block) (o v : Nat) : (s.wr64 b o v).mf = s.mf := rfl
@[simp] theorem State.wr64_sense (s : State) (b : Block) (o v : Nat) : (s.wr64 b o v).sense = s.sense := rfl
@[simp] theorem State.wr64_mgt (s : State) (b : Block) (o v : Nat) : (s.wr64 b o v).mgt = s.mgt := rfl
@[simp] theorem State.wr64_fuses (s : State) (b : Block) (o v : Nat) : (s.wr64 b o v).fuses = s.fuses := rfl
@[simp] theorem State.wr64_flash (s : State) (b : Block) (o v : Nat) : (s.wr64 b o v).flash = s.flash := rfl
@[simp] theorem State.wr64_out (s : State) (b : Block) (o v : Nat) : (s.wr64 b o v).out = s.out := rfl
@[simp] theorem State.wr64_free (s : State) (b : Block) (o v : Nat) : (s.wr64 b o v).free = s.free := rfl
@[simp] theorem State.wr64_pending (s : State) (b : Block) (o v : Nat) : (s.wr64 b o v).pending = s.pending := rfl

@[simp] theorem State.setCount_paths (s : State) (b : Block) (o n : Nat) : (s.setCount b o n).paths = s.paths := rfl
@[simp] theorem State.setCount_seq (s : State) (b : Block) (o n : Nat) : (s.setCount b o n).seq = s.seq := rfl
@[simp] theorem State.setCount_img (s : State) (b : Block) (o n : Nat) : (s.setCount b o n).img = s.img := rfl
@[simp] theorem State.setCount_tkp (s : State) (b : Block) (o n : Nat) : (s.setCount b o n).tkp = s.tkp := rfl
@[simp] theorem State.setCount_flm (s : State) (b : Block) (o n : Nat) : (s.setCount b o n).flm = s.flm := rfl
@[simp] theorem State.setCount_evt (s : State) (b : Block) (o n : Nat) : (s.setCount b o n).evt = s.evt := rfl
@[simp] theorem State.setCount_net (s : State) (b : Block) (o n : Nat) : (s.setCount b o n).net = s.net := rfl
@[simp] theorem State.setCount_prs (s : State) (b : Block) (o n : Nat) : (s.setCount b o n).prs = s.prs := rfl
@[simp] theorem State.setCount_tbl (s : State) (b : Block) (o n : Nat) : (s.setCount b o n).tbl = s.tbl := rfl
@[simp] theorem State.setCount_xbr (s : State) (b : Block) (o n : Nat) : (s.setCount b o n).xbr = s.xbr := rfl
@[simp] theorem State.setCount_cis (s : State) (b : Block) (o n : Nat) : (s.setCount b o n).cis = s.cis := rfl
@[simp] theorem State.setCount_tdm (s : State) (b : Block) (o n : Nat) : (s.setCount b o n).tdm = s.tdm := rfl
@[simp] theorem State.setCount_key (s : State) (b : Block) (o n : Nat) : (s.setCount b o n).key = s.key := rfl
@[simp] theorem State.setCount_gwy (s : State) (b : Block) (o n : Nat) : (s.setCount b o n).gwy = s.gwy := rfl
@[simp] theorem State.setCount_can (s : State) (b : Block) (o n : Nat) : (s.setCount b o n).can = s.can := rfl
@[simp] theorem State.setCount_mvb (s : State) (b : Block) (o n : Nat) : (s.setCount b o n).mvb = s.mvb := rfl
@[simp] theorem State.setCount_hbr (s : State) (b : Block) (o n : Nat) : (s.setCount b o n).hbr = s.hbr := rfl
@[simp] theorem State.setCount_lmp (s : State) (b : Block) (o n : Nat) : (s.setCount b o n).lmp = s.lmp := rfl
@[simp] theorem State.setCount_mf (s : State) (b : Block) (o n : Nat) : (s.setCount b o n).mf = s.mf := rfl
@[simp] theorem State.setCount_sense (s : State) (b : Block) (o n : Nat) : (s.setCount b o n).sense = s.sense := rfl
@[simp] theorem State.setCount_mgt (s : State) (b : Block) (o n : Nat) : (s.setCount b o n).mgt = s.mgt := rfl
@[simp] theorem State.setCount_fuses (s : State) (b : Block) (o n : Nat) : (s.setCount b o n).fuses = s.fuses := rfl
@[simp] theorem State.setCount_flash (s : State) (b : Block) (o n : Nat) : (s.setCount b o n).flash = s.flash := rfl
@[simp] theorem State.setCount_out (s : State) (b : Block) (o n : Nat) : (s.setCount b o n).out = s.out := rfl
@[simp] theorem State.setCount_free (s : State) (b : Block) (o n : Nat) : (s.setCount b o n).free = s.free := rfl
@[simp] theorem State.setCount_pending (s : State) (b : Block) (o n : Nat) : (s.setCount b o n).pending = s.pending := rfl

@[simp] theorem State.tookSeq_paths (s : State) (i : Nat) : (s.tookSeq i).paths = s.paths := rfl
@[simp] theorem State.tookSeq_img (s : State) (i : Nat) : (s.tookSeq i).img = s.img := rfl
@[simp] theorem State.tookSeq_tkp (s : State) (i : Nat) : (s.tookSeq i).tkp = s.tkp := rfl
@[simp] theorem State.tookSeq_flm (s : State) (i : Nat) : (s.tookSeq i).flm = s.flm := rfl
@[simp] theorem State.tookSeq_evt (s : State) (i : Nat) : (s.tookSeq i).evt = s.evt := rfl
@[simp] theorem State.tookSeq_net (s : State) (i : Nat) : (s.tookSeq i).net = s.net := rfl
@[simp] theorem State.tookSeq_prs (s : State) (i : Nat) : (s.tookSeq i).prs = s.prs := rfl
@[simp] theorem State.tookSeq_tbl (s : State) (i : Nat) : (s.tookSeq i).tbl = s.tbl := rfl
@[simp] theorem State.tookSeq_xbr (s : State) (i : Nat) : (s.tookSeq i).xbr = s.xbr := rfl
@[simp] theorem State.tookSeq_cis (s : State) (i : Nat) : (s.tookSeq i).cis = s.cis := rfl
@[simp] theorem State.tookSeq_tdm (s : State) (i : Nat) : (s.tookSeq i).tdm = s.tdm := rfl
@[simp] theorem State.tookSeq_key (s : State) (i : Nat) : (s.tookSeq i).key = s.key := rfl
@[simp] theorem State.tookSeq_gwy (s : State) (i : Nat) : (s.tookSeq i).gwy = s.gwy := rfl
@[simp] theorem State.tookSeq_can (s : State) (i : Nat) : (s.tookSeq i).can = s.can := rfl
@[simp] theorem State.tookSeq_mvb (s : State) (i : Nat) : (s.tookSeq i).mvb = s.mvb := rfl
@[simp] theorem State.tookSeq_hbr (s : State) (i : Nat) : (s.tookSeq i).hbr = s.hbr := rfl
@[simp] theorem State.tookSeq_lmp (s : State) (i : Nat) : (s.tookSeq i).lmp = s.lmp := rfl
@[simp] theorem State.tookSeq_mf (s : State) (i : Nat) : (s.tookSeq i).mf = s.mf := rfl
@[simp] theorem State.tookSeq_sense (s : State) (i : Nat) : (s.tookSeq i).sense = s.sense := rfl
@[simp] theorem State.tookSeq_mgt (s : State) (i : Nat) : (s.tookSeq i).mgt = s.mgt := rfl
@[simp] theorem State.tookSeq_fuses (s : State) (i : Nat) : (s.tookSeq i).fuses = s.fuses := rfl
@[simp] theorem State.tookSeq_flash (s : State) (i : Nat) : (s.tookSeq i).flash = s.flash := rfl
@[simp] theorem State.tookSeq_out (s : State) (i : Nat) : (s.tookSeq i).out = s.out := rfl
@[simp] theorem State.tookSeq_free (s : State) (i : Nat) : (s.tookSeq i).free = s.free := rfl
@[simp] theorem State.tookSeq_pending (s : State) (i : Nat) : (s.tookSeq i).pending = s.pending := rfl

@[simp] theorem State.emit_paths (s : State) (e : Nat) (p : List Byte) : (s.emit e p).paths = s.paths := rfl
@[simp] theorem State.emit_img (s : State) (e : Nat) (p : List Byte) : (s.emit e p).img = s.img := rfl
@[simp] theorem State.emit_tkp (s : State) (e : Nat) (p : List Byte) : (s.emit e p).tkp = s.tkp := rfl
@[simp] theorem State.emit_flm (s : State) (e : Nat) (p : List Byte) : (s.emit e p).flm = s.flm := rfl
@[simp] theorem State.emit_net (s : State) (e : Nat) (p : List Byte) : (s.emit e p).net = s.net := rfl
@[simp] theorem State.emit_prs (s : State) (e : Nat) (p : List Byte) : (s.emit e p).prs = s.prs := rfl
@[simp] theorem State.emit_tbl (s : State) (e : Nat) (p : List Byte) : (s.emit e p).tbl = s.tbl := rfl
@[simp] theorem State.emit_xbr (s : State) (e : Nat) (p : List Byte) : (s.emit e p).xbr = s.xbr := rfl
@[simp] theorem State.emit_cis (s : State) (e : Nat) (p : List Byte) : (s.emit e p).cis = s.cis := rfl
@[simp] theorem State.emit_tdm (s : State) (e : Nat) (p : List Byte) : (s.emit e p).tdm = s.tdm := rfl
@[simp] theorem State.emit_key (s : State) (e : Nat) (p : List Byte) : (s.emit e p).key = s.key := rfl
@[simp] theorem State.emit_gwy (s : State) (e : Nat) (p : List Byte) : (s.emit e p).gwy = s.gwy := rfl
@[simp] theorem State.emit_can (s : State) (e : Nat) (p : List Byte) : (s.emit e p).can = s.can := rfl
@[simp] theorem State.emit_mvb (s : State) (e : Nat) (p : List Byte) : (s.emit e p).mvb = s.mvb := rfl
@[simp] theorem State.emit_hbr (s : State) (e : Nat) (p : List Byte) : (s.emit e p).hbr = s.hbr := rfl
@[simp] theorem State.emit_lmp (s : State) (e : Nat) (p : List Byte) : (s.emit e p).lmp = s.lmp := rfl
@[simp] theorem State.emit_mf (s : State) (e : Nat) (p : List Byte) : (s.emit e p).mf = s.mf := rfl
@[simp] theorem State.emit_sense (s : State) (e : Nat) (p : List Byte) : (s.emit e p).sense = s.sense := rfl
@[simp] theorem State.emit_mgt (s : State) (e : Nat) (p : List Byte) : (s.emit e p).mgt = s.mgt := rfl
@[simp] theorem State.emit_fuses (s : State) (e : Nat) (p : List Byte) : (s.emit e p).fuses = s.fuses := rfl
@[simp] theorem State.emit_flash (s : State) (e : Nat) (p : List Byte) : (s.emit e p).flash = s.flash := rfl
@[simp] theorem State.emit_out (s : State) (e : Nat) (p : List Byte) : (s.emit e p).out = s.out := rfl
@[simp] theorem State.emit_free (s : State) (e : Nat) (p : List Byte) : (s.emit e p).free = s.free := rfl
@[simp] theorem State.emit_pending (s : State) (e : Nat) (p : List Byte) : (s.emit e p).pending = s.pending := rfl

@[simp] theorem State.bumpBy_paths (s : State) (b : Block) (o n : Nat) : (s.bumpBy b o n).paths = s.paths := by
  unfold State.bumpBy; dsimp only; repeat' split
  all_goals rfl
@[simp] theorem State.bumpBy_img (s : State) (b : Block) (o n : Nat) : (s.bumpBy b o n).img = s.img := by
  unfold State.bumpBy; dsimp only; repeat' split
  all_goals rfl
@[simp] theorem State.bumpBy_tkp (s : State) (b : Block) (o n : Nat) : (s.bumpBy b o n).tkp = s.tkp := by
  unfold State.bumpBy; dsimp only; repeat' split
  all_goals rfl
@[simp] theorem State.bumpBy_flm (s : State) (b : Block) (o n : Nat) : (s.bumpBy b o n).flm = s.flm := by
  unfold State.bumpBy; dsimp only; repeat' split
  all_goals rfl
@[simp] theorem State.bumpBy_net (s : State) (b : Block) (o n : Nat) : (s.bumpBy b o n).net = s.net := by
  unfold State.bumpBy; dsimp only; repeat' split
  all_goals rfl
@[simp] theorem State.bumpBy_prs (s : State) (b : Block) (o n : Nat) : (s.bumpBy b o n).prs = s.prs := by
  unfold State.bumpBy; dsimp only; repeat' split
  all_goals rfl
@[simp] theorem State.bumpBy_tbl (s : State) (b : Block) (o n : Nat) : (s.bumpBy b o n).tbl = s.tbl := by
  unfold State.bumpBy; dsimp only; repeat' split
  all_goals rfl
@[simp] theorem State.bumpBy_xbr (s : State) (b : Block) (o n : Nat) : (s.bumpBy b o n).xbr = s.xbr := by
  unfold State.bumpBy; dsimp only; repeat' split
  all_goals rfl
@[simp] theorem State.bumpBy_cis (s : State) (b : Block) (o n : Nat) : (s.bumpBy b o n).cis = s.cis := by
  unfold State.bumpBy; dsimp only; repeat' split
  all_goals rfl
@[simp] theorem State.bumpBy_tdm (s : State) (b : Block) (o n : Nat) : (s.bumpBy b o n).tdm = s.tdm := by
  unfold State.bumpBy; dsimp only; repeat' split
  all_goals rfl
@[simp] theorem State.bumpBy_key (s : State) (b : Block) (o n : Nat) : (s.bumpBy b o n).key = s.key := by
  unfold State.bumpBy; dsimp only; repeat' split
  all_goals rfl
@[simp] theorem State.bumpBy_gwy (s : State) (b : Block) (o n : Nat) : (s.bumpBy b o n).gwy = s.gwy := by
  unfold State.bumpBy; dsimp only; repeat' split
  all_goals rfl
@[simp] theorem State.bumpBy_can (s : State) (b : Block) (o n : Nat) : (s.bumpBy b o n).can = s.can := by
  unfold State.bumpBy; dsimp only; repeat' split
  all_goals rfl
@[simp] theorem State.bumpBy_mvb (s : State) (b : Block) (o n : Nat) : (s.bumpBy b o n).mvb = s.mvb := by
  unfold State.bumpBy; dsimp only; repeat' split
  all_goals rfl
@[simp] theorem State.bumpBy_hbr (s : State) (b : Block) (o n : Nat) : (s.bumpBy b o n).hbr = s.hbr := by
  unfold State.bumpBy; dsimp only; repeat' split
  all_goals rfl
@[simp] theorem State.bumpBy_lmp (s : State) (b : Block) (o n : Nat) : (s.bumpBy b o n).lmp = s.lmp := by
  unfold State.bumpBy; dsimp only; repeat' split
  all_goals rfl
@[simp] theorem State.bumpBy_mf (s : State) (b : Block) (o n : Nat) : (s.bumpBy b o n).mf = s.mf := by
  unfold State.bumpBy; dsimp only; repeat' split
  all_goals rfl
@[simp] theorem State.bumpBy_sense (s : State) (b : Block) (o n : Nat) : (s.bumpBy b o n).sense = s.sense := by
  unfold State.bumpBy; dsimp only; repeat' split
  all_goals rfl
@[simp] theorem State.bumpBy_mgt (s : State) (b : Block) (o n : Nat) : (s.bumpBy b o n).mgt = s.mgt := by
  unfold State.bumpBy; dsimp only; repeat' split
  all_goals rfl
@[simp] theorem State.bumpBy_fuses (s : State) (b : Block) (o n : Nat) : (s.bumpBy b o n).fuses = s.fuses := by
  unfold State.bumpBy; dsimp only; repeat' split
  all_goals rfl
@[simp] theorem State.bumpBy_flash (s : State) (b : Block) (o n : Nat) : (s.bumpBy b o n).flash = s.flash := by
  unfold State.bumpBy; dsimp only; repeat' split
  all_goals rfl
@[simp] theorem State.bumpBy_out (s : State) (b : Block) (o n : Nat) : (s.bumpBy b o n).out = s.out := by
  unfold State.bumpBy; dsimp only; repeat' split
  all_goals rfl
@[simp] theorem State.bumpBy_free (s : State) (b : Block) (o n : Nat) : (s.bumpBy b o n).free = s.free := by
  unfold State.bumpBy; dsimp only; repeat' split
  all_goals rfl
@[simp] theorem State.bumpBy_pending (s : State) (b : Block) (o n : Nat) : (s.bumpBy b o n).pending = s.pending := by
  unfold State.bumpBy; dsimp only; repeat' split
  all_goals rfl

@[simp] theorem State.bump_paths (s : State) (b : Block) (o : Nat) : (s.bump b o).paths = s.paths := State.bumpBy_paths s b o 1
@[simp] theorem State.bump_img (s : State) (b : Block) (o : Nat) : (s.bump b o).img = s.img := State.bumpBy_img s b o 1
@[simp] theorem State.bump_tkp (s : State) (b : Block) (o : Nat) : (s.bump b o).tkp = s.tkp := State.bumpBy_tkp s b o 1
@[simp] theorem State.bump_flm (s : State) (b : Block) (o : Nat) : (s.bump b o).flm = s.flm := State.bumpBy_flm s b o 1
@[simp] theorem State.bump_net (s : State) (b : Block) (o : Nat) : (s.bump b o).net = s.net := State.bumpBy_net s b o 1
@[simp] theorem State.bump_prs (s : State) (b : Block) (o : Nat) : (s.bump b o).prs = s.prs := State.bumpBy_prs s b o 1
@[simp] theorem State.bump_tbl (s : State) (b : Block) (o : Nat) : (s.bump b o).tbl = s.tbl := State.bumpBy_tbl s b o 1
@[simp] theorem State.bump_xbr (s : State) (b : Block) (o : Nat) : (s.bump b o).xbr = s.xbr := State.bumpBy_xbr s b o 1
@[simp] theorem State.bump_cis (s : State) (b : Block) (o : Nat) : (s.bump b o).cis = s.cis := State.bumpBy_cis s b o 1
@[simp] theorem State.bump_tdm (s : State) (b : Block) (o : Nat) : (s.bump b o).tdm = s.tdm := State.bumpBy_tdm s b o 1
@[simp] theorem State.bump_key (s : State) (b : Block) (o : Nat) : (s.bump b o).key = s.key := State.bumpBy_key s b o 1
@[simp] theorem State.bump_gwy (s : State) (b : Block) (o : Nat) : (s.bump b o).gwy = s.gwy := State.bumpBy_gwy s b o 1
@[simp] theorem State.bump_can (s : State) (b : Block) (o : Nat) : (s.bump b o).can = s.can := State.bumpBy_can s b o 1
@[simp] theorem State.bump_mvb (s : State) (b : Block) (o : Nat) : (s.bump b o).mvb = s.mvb := State.bumpBy_mvb s b o 1
@[simp] theorem State.bump_hbr (s : State) (b : Block) (o : Nat) : (s.bump b o).hbr = s.hbr := State.bumpBy_hbr s b o 1
@[simp] theorem State.bump_lmp (s : State) (b : Block) (o : Nat) : (s.bump b o).lmp = s.lmp := State.bumpBy_lmp s b o 1
@[simp] theorem State.bump_mf (s : State) (b : Block) (o : Nat) : (s.bump b o).mf = s.mf := State.bumpBy_mf s b o 1
@[simp] theorem State.bump_sense (s : State) (b : Block) (o : Nat) : (s.bump b o).sense = s.sense := State.bumpBy_sense s b o 1
@[simp] theorem State.bump_mgt (s : State) (b : Block) (o : Nat) : (s.bump b o).mgt = s.mgt := State.bumpBy_mgt s b o 1
@[simp] theorem State.bump_fuses (s : State) (b : Block) (o : Nat) : (s.bump b o).fuses = s.fuses := State.bumpBy_fuses s b o 1
@[simp] theorem State.bump_flash (s : State) (b : Block) (o : Nat) : (s.bump b o).flash = s.flash := State.bumpBy_flash s b o 1
@[simp] theorem State.bump_out (s : State) (b : Block) (o : Nat) : (s.bump b o).out = s.out := State.bumpBy_out s b o 1
@[simp] theorem State.bump_free (s : State) (b : Block) (o : Nat) : (s.bump b o).free = s.free := State.bumpBy_free s b o 1
@[simp] theorem State.bump_pending (s : State) (b : Block) (o : Nat) : (s.bump b o).pending = s.pending := State.bumpBy_pending s b o 1

@[simp] theorem State.setErr_paths (s : State) (b : Block) (o i e : Nat) (p : List Byte) : (s.setErr b o i e p).paths = s.paths := by
  unfold State.setErr; split <;> rfl
@[simp] theorem State.setErr_img (s : State) (b : Block) (o i e : Nat) (p : List Byte) : (s.setErr b o i e p).img = s.img := by
  unfold State.setErr; split <;> rfl
@[simp] theorem State.setErr_tkp (s : State) (b : Block) (o i e : Nat) (p : List Byte) : (s.setErr b o i e p).tkp = s.tkp := by
  unfold State.setErr; split <;> rfl
@[simp] theorem State.setErr_flm (s : State) (b : Block) (o i e : Nat) (p : List Byte) : (s.setErr b o i e p).flm = s.flm := by
  unfold State.setErr; split <;> rfl
@[simp] theorem State.setErr_net (s : State) (b : Block) (o i e : Nat) (p : List Byte) : (s.setErr b o i e p).net = s.net := by
  unfold State.setErr; split <;> rfl
@[simp] theorem State.setErr_prs (s : State) (b : Block) (o i e : Nat) (p : List Byte) : (s.setErr b o i e p).prs = s.prs := by
  unfold State.setErr; split <;> rfl
@[simp] theorem State.setErr_tbl (s : State) (b : Block) (o i e : Nat) (p : List Byte) : (s.setErr b o i e p).tbl = s.tbl := by
  unfold State.setErr; split <;> rfl
@[simp] theorem State.setErr_xbr (s : State) (b : Block) (o i e : Nat) (p : List Byte) : (s.setErr b o i e p).xbr = s.xbr := by
  unfold State.setErr; split <;> rfl
@[simp] theorem State.setErr_cis (s : State) (b : Block) (o i e : Nat) (p : List Byte) : (s.setErr b o i e p).cis = s.cis := by
  unfold State.setErr; split <;> rfl
@[simp] theorem State.setErr_tdm (s : State) (b : Block) (o i e : Nat) (p : List Byte) : (s.setErr b o i e p).tdm = s.tdm := by
  unfold State.setErr; split <;> rfl
@[simp] theorem State.setErr_key (s : State) (b : Block) (o i e : Nat) (p : List Byte) : (s.setErr b o i e p).key = s.key := by
  unfold State.setErr; split <;> rfl
@[simp] theorem State.setErr_gwy (s : State) (b : Block) (o i e : Nat) (p : List Byte) : (s.setErr b o i e p).gwy = s.gwy := by
  unfold State.setErr; split <;> rfl
@[simp] theorem State.setErr_can (s : State) (b : Block) (o i e : Nat) (p : List Byte) : (s.setErr b o i e p).can = s.can := by
  unfold State.setErr; split <;> rfl
@[simp] theorem State.setErr_mvb (s : State) (b : Block) (o i e : Nat) (p : List Byte) : (s.setErr b o i e p).mvb = s.mvb := by
  unfold State.setErr; split <;> rfl
@[simp] theorem State.setErr_hbr (s : State) (b : Block) (o i e : Nat) (p : List Byte) : (s.setErr b o i e p).hbr = s.hbr := by
  unfold State.setErr; split <;> rfl
@[simp] theorem State.setErr_lmp (s : State) (b : Block) (o i e : Nat) (p : List Byte) : (s.setErr b o i e p).lmp = s.lmp := by
  unfold State.setErr; split <;> rfl
@[simp] theorem State.setErr_mf (s : State) (b : Block) (o i e : Nat) (p : List Byte) : (s.setErr b o i e p).mf = s.mf := by
  unfold State.setErr; split <;> rfl
@[simp] theorem State.setErr_sense (s : State) (b : Block) (o i e : Nat) (p : List Byte) : (s.setErr b o i e p).sense = s.sense := by
  unfold State.setErr; split <;> rfl
@[simp] theorem State.setErr_mgt (s : State) (b : Block) (o i e : Nat) (p : List Byte) : (s.setErr b o i e p).mgt = s.mgt := by
  unfold State.setErr; split <;> rfl
@[simp] theorem State.setErr_fuses (s : State) (b : Block) (o i e : Nat) (p : List Byte) : (s.setErr b o i e p).fuses = s.fuses := by
  unfold State.setErr; split <;> rfl
@[simp] theorem State.setErr_flash (s : State) (b : Block) (o i e : Nat) (p : List Byte) : (s.setErr b o i e p).flash = s.flash := by
  unfold State.setErr; split <;> rfl
@[simp] theorem State.setErr_out (s : State) (b : Block) (o i e : Nat) (p : List Byte) : (s.setErr b o i e p).out = s.out := by
  unfold State.setErr; split <;> rfl
@[simp] theorem State.setErr_free (s : State) (b : Block) (o i e : Nat) (p : List Byte) : (s.setErr b o i e p).free = s.free := by
  unfold State.setErr; split <;> rfl
@[simp] theorem State.setErr_pending (s : State) (b : Block) (o i e : Nat) (p : List Byte) : (s.setErr b o i e p).pending = s.pending := by
  unfold State.setErr; split <;> rfl

@[simp] theorem State.lmpEmit_paths (s : State) (e : Nat) (p : List Byte) : (s.lmpEmit e p).paths = s.paths := by
  unfold State.lmpEmit; split <;> rfl
@[simp] theorem State.lmpEmit_img (s : State) (e : Nat) (p : List Byte) : (s.lmpEmit e p).img = s.img := by
  unfold State.lmpEmit; split <;> rfl
@[simp] theorem State.lmpEmit_tkp (s : State) (e : Nat) (p : List Byte) : (s.lmpEmit e p).tkp = s.tkp := by
  unfold State.lmpEmit; split <;> rfl
@[simp] theorem State.lmpEmit_flm (s : State) (e : Nat) (p : List Byte) : (s.lmpEmit e p).flm = s.flm := by
  unfold State.lmpEmit; split <;> rfl
@[simp] theorem State.lmpEmit_net (s : State) (e : Nat) (p : List Byte) : (s.lmpEmit e p).net = s.net := by
  unfold State.lmpEmit; split <;> rfl
@[simp] theorem State.lmpEmit_prs (s : State) (e : Nat) (p : List Byte) : (s.lmpEmit e p).prs = s.prs := by
  unfold State.lmpEmit; split <;> rfl
@[simp] theorem State.lmpEmit_tbl (s : State) (e : Nat) (p : List Byte) : (s.lmpEmit e p).tbl = s.tbl := by
  unfold State.lmpEmit; split <;> rfl
@[simp] theorem State.lmpEmit_xbr (s : State) (e : Nat) (p : List Byte) : (s.lmpEmit e p).xbr = s.xbr := by
  unfold State.lmpEmit; split <;> rfl
@[simp] theorem State.lmpEmit_cis (s : State) (e : Nat) (p : List Byte) : (s.lmpEmit e p).cis = s.cis := by
  unfold State.lmpEmit; split <;> rfl
@[simp] theorem State.lmpEmit_tdm (s : State) (e : Nat) (p : List Byte) : (s.lmpEmit e p).tdm = s.tdm := by
  unfold State.lmpEmit; split <;> rfl
@[simp] theorem State.lmpEmit_key (s : State) (e : Nat) (p : List Byte) : (s.lmpEmit e p).key = s.key := by
  unfold State.lmpEmit; split <;> rfl
@[simp] theorem State.lmpEmit_gwy (s : State) (e : Nat) (p : List Byte) : (s.lmpEmit e p).gwy = s.gwy := by
  unfold State.lmpEmit; split <;> rfl
@[simp] theorem State.lmpEmit_can (s : State) (e : Nat) (p : List Byte) : (s.lmpEmit e p).can = s.can := by
  unfold State.lmpEmit; split <;> rfl
@[simp] theorem State.lmpEmit_mvb (s : State) (e : Nat) (p : List Byte) : (s.lmpEmit e p).mvb = s.mvb := by
  unfold State.lmpEmit; split <;> rfl
@[simp] theorem State.lmpEmit_hbr (s : State) (e : Nat) (p : List Byte) : (s.lmpEmit e p).hbr = s.hbr := by
  unfold State.lmpEmit; split <;> rfl
@[simp] theorem State.lmpEmit_lmp (s : State) (e : Nat) (p : List Byte) : (s.lmpEmit e p).lmp = s.lmp := by
  unfold State.lmpEmit; split <;> rfl
@[simp] theorem State.lmpEmit_mf (s : State) (e : Nat) (p : List Byte) : (s.lmpEmit e p).mf = s.mf := by
  unfold State.lmpEmit; split <;> rfl
@[simp] theorem State.lmpEmit_sense (s : State) (e : Nat) (p : List Byte) : (s.lmpEmit e p).sense = s.sense := by
  unfold State.lmpEmit; split <;> rfl
@[simp] theorem State.lmpEmit_mgt (s : State) (e : Nat) (p : List Byte) : (s.lmpEmit e p).mgt = s.mgt := by
  unfold State.lmpEmit; split <;> rfl
@[simp] theorem State.lmpEmit_fuses (s : State) (e : Nat) (p : List Byte) : (s.lmpEmit e p).fuses = s.fuses := by
  unfold State.lmpEmit; split <;> rfl
@[simp] theorem State.lmpEmit_flash (s : State) (e : Nat) (p : List Byte) : (s.lmpEmit e p).flash = s.flash := by
  unfold State.lmpEmit; split <;> rfl
@[simp] theorem State.lmpEmit_out (s : State) (e : Nat) (p : List Byte) : (s.lmpEmit e p).out = s.out := by
  unfold State.lmpEmit; split <;> rfl
@[simp] theorem State.lmpEmit_free (s : State) (e : Nat) (p : List Byte) : (s.lmpEmit e p).free = s.free := by
  unfold State.lmpEmit; split <;> rfl
@[simp] theorem State.lmpEmit_pending (s : State) (e : Nat) (p : List Byte) : (s.lmpEmit e p).pending = s.pending := by
  unfold State.lmpEmit; split <;> rfl

@[simp] theorem State.lmpBump_paths (s : State) (k : Nat) : (s.lmpBump k).paths = s.paths := State.bump_paths s _ _
@[simp] theorem State.lmpBump_img (s : State) (k : Nat) : (s.lmpBump k).img = s.img := State.bump_img s _ _
@[simp] theorem State.lmpBump_tkp (s : State) (k : Nat) : (s.lmpBump k).tkp = s.tkp := State.bump_tkp s _ _
@[simp] theorem State.lmpBump_flm (s : State) (k : Nat) : (s.lmpBump k).flm = s.flm := State.bump_flm s _ _
@[simp] theorem State.lmpBump_net (s : State) (k : Nat) : (s.lmpBump k).net = s.net := State.bump_net s _ _
@[simp] theorem State.lmpBump_prs (s : State) (k : Nat) : (s.lmpBump k).prs = s.prs := State.bump_prs s _ _
@[simp] theorem State.lmpBump_tbl (s : State) (k : Nat) : (s.lmpBump k).tbl = s.tbl := State.bump_tbl s _ _
@[simp] theorem State.lmpBump_xbr (s : State) (k : Nat) : (s.lmpBump k).xbr = s.xbr := State.bump_xbr s _ _
@[simp] theorem State.lmpBump_cis (s : State) (k : Nat) : (s.lmpBump k).cis = s.cis := State.bump_cis s _ _
@[simp] theorem State.lmpBump_tdm (s : State) (k : Nat) : (s.lmpBump k).tdm = s.tdm := State.bump_tdm s _ _
@[simp] theorem State.lmpBump_key (s : State) (k : Nat) : (s.lmpBump k).key = s.key := State.bump_key s _ _
@[simp] theorem State.lmpBump_gwy (s : State) (k : Nat) : (s.lmpBump k).gwy = s.gwy := State.bump_gwy s _ _
@[simp] theorem State.lmpBump_can (s : State) (k : Nat) : (s.lmpBump k).can = s.can := State.bump_can s _ _
@[simp] theorem State.lmpBump_mvb (s : State) (k : Nat) : (s.lmpBump k).mvb = s.mvb := State.bump_mvb s _ _
@[simp] theorem State.lmpBump_hbr (s : State) (k : Nat) : (s.lmpBump k).hbr = s.hbr := State.bump_hbr s _ _
@[simp] theorem State.lmpBump_lmp (s : State) (k : Nat) : (s.lmpBump k).lmp = s.lmp := State.bump_lmp s _ _
@[simp] theorem State.lmpBump_mf (s : State) (k : Nat) : (s.lmpBump k).mf = s.mf := State.bump_mf s _ _
@[simp] theorem State.lmpBump_sense (s : State) (k : Nat) : (s.lmpBump k).sense = s.sense := State.bump_sense s _ _
@[simp] theorem State.lmpBump_mgt (s : State) (k : Nat) : (s.lmpBump k).mgt = s.mgt := State.bump_mgt s _ _
@[simp] theorem State.lmpBump_fuses (s : State) (k : Nat) : (s.lmpBump k).fuses = s.fuses := State.bump_fuses s _ _
@[simp] theorem State.lmpBump_flash (s : State) (k : Nat) : (s.lmpBump k).flash = s.flash := State.bump_flash s _ _
@[simp] theorem State.lmpBump_out (s : State) (k : Nat) : (s.lmpBump k).out = s.out := State.bump_out s _ _
@[simp] theorem State.lmpBump_free (s : State) (k : Nat) : (s.lmpBump k).free = s.free := State.bump_free s _ _
@[simp] theorem State.lmpBump_pending (s : State) (k : Nat) : (s.lmpBump k).pending = s.pending := State.bump_pending s _ _

@[simp] theorem State.lmpErr_paths (s : State) (i : Nat) : (s.lmpErr i).paths = s.paths := by
  unfold State.lmpErr; split
  · rfl
  · rw [State.lmpEmit_paths]; rfl
@[simp] theorem State.lmpErr_img (s : State) (i : Nat) : (s.lmpErr i).img = s.img := by
  unfold State.lmpErr; split
  · rfl
  · rw [State.lmpEmit_img]; rfl
@[simp] theorem State.lmpErr_tkp (s : State) (i : Nat) : (s.lmpErr i).tkp = s.tkp := by
  unfold State.lmpErr; split
  · rfl
  · rw [State.lmpEmit_tkp]; rfl
@[simp] theorem State.lmpErr_flm (s : State) (i : Nat) : (s.lmpErr i).flm = s.flm := by
  unfold State.lmpErr; split
  · rfl
  · rw [State.lmpEmit_flm]; rfl
@[simp] theorem State.lmpErr_net (s : State) (i : Nat) : (s.lmpErr i).net = s.net := by
  unfold State.lmpErr; split
  · rfl
  · rw [State.lmpEmit_net]; rfl
@[simp] theorem State.lmpErr_prs (s : State) (i : Nat) : (s.lmpErr i).prs = s.prs := by
  unfold State.lmpErr; split
  · rfl
  · rw [State.lmpEmit_prs]; rfl
@[simp] theorem State.lmpErr_tbl (s : State) (i : Nat) : (s.lmpErr i).tbl = s.tbl := by
  unfold State.lmpErr; split
  · rfl
  · rw [State.lmpEmit_tbl]; rfl
@[simp] theorem State.lmpErr_xbr (s : State) (i : Nat) : (s.lmpErr i).xbr = s.xbr := by
  unfold State.lmpErr; split
  · rfl
  · rw [State.lmpEmit_xbr]; rfl
@[simp] theorem State.lmpErr_cis (s : State) (i : Nat) : (s.lmpErr i).cis = s.cis := by
  unfold State.lmpErr; split
  · rfl
  · rw [State.lmpEmit_cis]; rfl
@[simp] theorem State.lmpErr_tdm (s : State) (i : Nat) : (s.lmpErr i).tdm = s.tdm := by
  unfold State.lmpErr; split
  · rfl
  · rw [State.lmpEmit_tdm]; rfl
@[simp] theorem State.lmpErr_key (s : State) (i : Nat) : (s.lmpErr i).key = s.key := by
  unfold State.lmpErr; split
  · rfl
  · rw [State.lmpEmit_key]; rfl
@[simp] theorem State.lmpErr_gwy (s : State) (i : Nat) : (s.lmpErr i).gwy = s.gwy := by
  unfold State.lmpErr; split
  · rfl
  · rw [State.lmpEmit_gwy]; rfl
@[simp] theorem State.lmpErr_can (s : State) (i : Nat) : (s.lmpErr i).can = s.can := by
  unfold State.lmpErr; split
  · rfl
  · rw [State.lmpEmit_can]; rfl
@[simp] theorem State.lmpErr_mvb (s : State) (i : Nat) : (s.lmpErr i).mvb = s.mvb := by
  unfold State.lmpErr; split
  · rfl
  · rw [State.lmpEmit_mvb]; rfl
@[simp] theorem State.lmpErr_hbr (s : State) (i : Nat) : (s.lmpErr i).hbr = s.hbr := by
  unfold State.lmpErr; split
  · rfl
  · rw [State.lmpEmit_hbr]; rfl
@[simp] theorem State.lmpErr_lmp (s : State) (i : Nat) : (s.lmpErr i).lmp = s.lmp := by
  unfold State.lmpErr; split
  · rfl
  · rw [State.lmpEmit_lmp]; rfl
@[simp] theorem State.lmpErr_mf (s : State) (i : Nat) : (s.lmpErr i).mf = s.mf := by
  unfold State.lmpErr; split
  · rfl
  · rw [State.lmpEmit_mf]; rfl
@[simp] theorem State.lmpErr_sense (s : State) (i : Nat) : (s.lmpErr i).sense = s.sense := by
  unfold State.lmpErr; split
  · rfl
  · rw [State.lmpEmit_sense]; rfl
@[simp] theorem State.lmpErr_mgt (s : State) (i : Nat) : (s.lmpErr i).mgt = s.mgt := by
  unfold State.lmpErr; split
  · rfl
  · rw [State.lmpEmit_mgt]; rfl
@[simp] theorem State.lmpErr_fuses (s : State) (i : Nat) : (s.lmpErr i).fuses = s.fuses := by
  unfold State.lmpErr; split
  · rfl
  · rw [State.lmpEmit_fuses]; rfl
@[simp] theorem State.lmpErr_flash (s : State) (i : Nat) : (s.lmpErr i).flash = s.flash := by
  unfold State.lmpErr; split
  · rfl
  · rw [State.lmpEmit_flash]; rfl
@[simp] theorem State.lmpErr_out (s : State) (i : Nat) : (s.lmpErr i).out = s.out := by
  unfold State.lmpErr; split
  · rfl
  · rw [State.lmpEmit_out]; rfl
@[simp] theorem State.lmpErr_free (s : State) (i : Nat) : (s.lmpErr i).free = s.free := by
  unfold State.lmpErr; split
  · rfl
  · rw [State.lmpEmit_free]; rfl
@[simp] theorem State.lmpErr_pending (s : State) (i : Nat) : (s.lmpErr i).pending = s.pending := by
  unfold State.lmpErr; split
  · rfl
  · rw [State.lmpEmit_pending]; rfl

@[simp] theorem State.send_paths (s : State) (x : Output) : (s.send x).paths = s.paths := rfl
@[simp] theorem State.send_seq (s : State) (x : Output) : (s.send x).seq = s.seq := rfl
@[simp] theorem State.send_img (s : State) (x : Output) : (s.send x).img = s.img := rfl
@[simp] theorem State.send_tkp (s : State) (x : Output) : (s.send x).tkp = s.tkp := rfl
@[simp] theorem State.send_flm (s : State) (x : Output) : (s.send x).flm = s.flm := rfl
@[simp] theorem State.send_evt (s : State) (x : Output) : (s.send x).evt = s.evt := rfl
@[simp] theorem State.send_net (s : State) (x : Output) : (s.send x).net = s.net := rfl
@[simp] theorem State.send_prs (s : State) (x : Output) : (s.send x).prs = s.prs := rfl
@[simp] theorem State.send_tbl (s : State) (x : Output) : (s.send x).tbl = s.tbl := rfl
@[simp] theorem State.send_xbr (s : State) (x : Output) : (s.send x).xbr = s.xbr := rfl
@[simp] theorem State.send_cis (s : State) (x : Output) : (s.send x).cis = s.cis := rfl
@[simp] theorem State.send_tdm (s : State) (x : Output) : (s.send x).tdm = s.tdm := rfl
@[simp] theorem State.send_key (s : State) (x : Output) : (s.send x).key = s.key := rfl
@[simp] theorem State.send_gwy (s : State) (x : Output) : (s.send x).gwy = s.gwy := rfl
@[simp] theorem State.send_can (s : State) (x : Output) : (s.send x).can = s.can := rfl
@[simp] theorem State.send_mvb (s : State) (x : Output) : (s.send x).mvb = s.mvb := rfl
@[simp] theorem State.send_hbr (s : State) (x : Output) : (s.send x).hbr = s.hbr := rfl
@[simp] theorem State.send_lmp (s : State) (x : Output) : (s.send x).lmp = s.lmp := rfl
@[simp] theorem State.send_mf (s : State) (x : Output) : (s.send x).mf = s.mf := rfl
@[simp] theorem State.send_sense (s : State) (x : Output) : (s.send x).sense = s.sense := rfl
@[simp] theorem State.send_mgt (s : State) (x : Output) : (s.send x).mgt = s.mgt := rfl
@[simp] theorem State.send_fuses (s : State) (x : Output) : (s.send x).fuses = s.fuses := rfl
@[simp] theorem State.send_flash (s : State) (x : Output) : (s.send x).flash = s.flash := rfl
@[simp] theorem State.send_free (s : State) (x : Output) : (s.send x).free = s.free := rfl
@[simp] theorem State.send_pending (s : State) (x : Output) : (s.send x).pending = s.pending := rfl

@[simp] theorem State.setPath_seq (s : State) (p : Path) (v : PathState) : (s.setPath p v).seq = s.seq := rfl
@[simp] theorem State.setPath_img (s : State) (p : Path) (v : PathState) : (s.setPath p v).img = s.img := rfl
@[simp] theorem State.setPath_tkp (s : State) (p : Path) (v : PathState) : (s.setPath p v).tkp = s.tkp := rfl
@[simp] theorem State.setPath_flm (s : State) (p : Path) (v : PathState) : (s.setPath p v).flm = s.flm := rfl
@[simp] theorem State.setPath_evt (s : State) (p : Path) (v : PathState) : (s.setPath p v).evt = s.evt := rfl
@[simp] theorem State.setPath_net (s : State) (p : Path) (v : PathState) : (s.setPath p v).net = s.net := rfl
@[simp] theorem State.setPath_prs (s : State) (p : Path) (v : PathState) : (s.setPath p v).prs = s.prs := rfl
@[simp] theorem State.setPath_tbl (s : State) (p : Path) (v : PathState) : (s.setPath p v).tbl = s.tbl := rfl
@[simp] theorem State.setPath_xbr (s : State) (p : Path) (v : PathState) : (s.setPath p v).xbr = s.xbr := rfl
@[simp] theorem State.setPath_cis (s : State) (p : Path) (v : PathState) : (s.setPath p v).cis = s.cis := rfl
@[simp] theorem State.setPath_tdm (s : State) (p : Path) (v : PathState) : (s.setPath p v).tdm = s.tdm := rfl
@[simp] theorem State.setPath_key (s : State) (p : Path) (v : PathState) : (s.setPath p v).key = s.key := rfl
@[simp] theorem State.setPath_gwy (s : State) (p : Path) (v : PathState) : (s.setPath p v).gwy = s.gwy := rfl
@[simp] theorem State.setPath_can (s : State) (p : Path) (v : PathState) : (s.setPath p v).can = s.can := rfl
@[simp] theorem State.setPath_mvb (s : State) (p : Path) (v : PathState) : (s.setPath p v).mvb = s.mvb := rfl
@[simp] theorem State.setPath_hbr (s : State) (p : Path) (v : PathState) : (s.setPath p v).hbr = s.hbr := rfl
@[simp] theorem State.setPath_lmp (s : State) (p : Path) (v : PathState) : (s.setPath p v).lmp = s.lmp := rfl
@[simp] theorem State.setPath_mf (s : State) (p : Path) (v : PathState) : (s.setPath p v).mf = s.mf := rfl
@[simp] theorem State.setPath_sense (s : State) (p : Path) (v : PathState) : (s.setPath p v).sense = s.sense := rfl
@[simp] theorem State.setPath_mgt (s : State) (p : Path) (v : PathState) : (s.setPath p v).mgt = s.mgt := rfl
@[simp] theorem State.setPath_fuses (s : State) (p : Path) (v : PathState) : (s.setPath p v).fuses = s.fuses := rfl
@[simp] theorem State.setPath_flash (s : State) (p : Path) (v : PathState) : (s.setPath p v).flash = s.flash := rfl
@[simp] theorem State.setPath_out (s : State) (p : Path) (v : PathState) : (s.setPath p v).out = s.out := rfl
@[simp] theorem State.setPath_free (s : State) (p : Path) (v : PathState) : (s.setPath p v).free = s.free := rfl
@[simp] theorem State.setPath_pending (s : State) (p : Path) (v : PathState) : (s.setPath p v).pending = s.pending := rfl

@[simp] theorem State.readAs_seq (s : State) (p : Path) (v : Word) : (s.readAs p v).seq = s.seq := rfl
@[simp] theorem State.readAs_img (s : State) (p : Path) (v : Word) : (s.readAs p v).img = s.img := rfl
@[simp] theorem State.readAs_tkp (s : State) (p : Path) (v : Word) : (s.readAs p v).tkp = s.tkp := rfl
@[simp] theorem State.readAs_flm (s : State) (p : Path) (v : Word) : (s.readAs p v).flm = s.flm := rfl
@[simp] theorem State.readAs_evt (s : State) (p : Path) (v : Word) : (s.readAs p v).evt = s.evt := rfl
@[simp] theorem State.readAs_net (s : State) (p : Path) (v : Word) : (s.readAs p v).net = s.net := rfl
@[simp] theorem State.readAs_prs (s : State) (p : Path) (v : Word) : (s.readAs p v).prs = s.prs := rfl
@[simp] theorem State.readAs_tbl (s : State) (p : Path) (v : Word) : (s.readAs p v).tbl = s.tbl := rfl
@[simp] theorem State.readAs_xbr (s : State) (p : Path) (v : Word) : (s.readAs p v).xbr = s.xbr := rfl
@[simp] theorem State.readAs_cis (s : State) (p : Path) (v : Word) : (s.readAs p v).cis = s.cis := rfl
@[simp] theorem State.readAs_tdm (s : State) (p : Path) (v : Word) : (s.readAs p v).tdm = s.tdm := rfl
@[simp] theorem State.readAs_key (s : State) (p : Path) (v : Word) : (s.readAs p v).key = s.key := rfl
@[simp] theorem State.readAs_gwy (s : State) (p : Path) (v : Word) : (s.readAs p v).gwy = s.gwy := rfl
@[simp] theorem State.readAs_can (s : State) (p : Path) (v : Word) : (s.readAs p v).can = s.can := rfl
@[simp] theorem State.readAs_mvb (s : State) (p : Path) (v : Word) : (s.readAs p v).mvb = s.mvb := rfl
@[simp] theorem State.readAs_hbr (s : State) (p : Path) (v : Word) : (s.readAs p v).hbr = s.hbr := rfl
@[simp] theorem State.readAs_lmp (s : State) (p : Path) (v : Word) : (s.readAs p v).lmp = s.lmp := rfl
@[simp] theorem State.readAs_mf (s : State) (p : Path) (v : Word) : (s.readAs p v).mf = s.mf := rfl
@[simp] theorem State.readAs_sense (s : State) (p : Path) (v : Word) : (s.readAs p v).sense = s.sense := rfl
@[simp] theorem State.readAs_mgt (s : State) (p : Path) (v : Word) : (s.readAs p v).mgt = s.mgt := rfl
@[simp] theorem State.readAs_fuses (s : State) (p : Path) (v : Word) : (s.readAs p v).fuses = s.fuses := rfl
@[simp] theorem State.readAs_flash (s : State) (p : Path) (v : Word) : (s.readAs p v).flash = s.flash := rfl
@[simp] theorem State.readAs_out (s : State) (p : Path) (v : Word) : (s.readAs p v).out = s.out := rfl
@[simp] theorem State.readAs_free (s : State) (p : Path) (v : Word) : (s.readAs p v).free = s.free := rfl
@[simp] theorem State.readAs_pending (s : State) (p : Path) (v : Word) : (s.readAs p v).pending = s.pending := rfl

@[simp] theorem State.setDom_paths (s : State) (d : Nat) (v : Domain) : (s.setDom d v).paths = s.paths := rfl
@[simp] theorem State.setDom_seq (s : State) (d : Nat) (v : Domain) : (s.setDom d v).seq = s.seq := rfl
@[simp] theorem State.setDom_img (s : State) (d : Nat) (v : Domain) : (s.setDom d v).img = s.img := rfl
@[simp] theorem State.setDom_flm (s : State) (d : Nat) (v : Domain) : (s.setDom d v).flm = s.flm := rfl
@[simp] theorem State.setDom_evt (s : State) (d : Nat) (v : Domain) : (s.setDom d v).evt = s.evt := rfl
@[simp] theorem State.setDom_net (s : State) (d : Nat) (v : Domain) : (s.setDom d v).net = s.net := rfl
@[simp] theorem State.setDom_prs (s : State) (d : Nat) (v : Domain) : (s.setDom d v).prs = s.prs := rfl
@[simp] theorem State.setDom_tbl (s : State) (d : Nat) (v : Domain) : (s.setDom d v).tbl = s.tbl := rfl
@[simp] theorem State.setDom_xbr (s : State) (d : Nat) (v : Domain) : (s.setDom d v).xbr = s.xbr := rfl
@[simp] theorem State.setDom_cis (s : State) (d : Nat) (v : Domain) : (s.setDom d v).cis = s.cis := rfl
@[simp] theorem State.setDom_tdm (s : State) (d : Nat) (v : Domain) : (s.setDom d v).tdm = s.tdm := rfl
@[simp] theorem State.setDom_key (s : State) (d : Nat) (v : Domain) : (s.setDom d v).key = s.key := rfl
@[simp] theorem State.setDom_gwy (s : State) (d : Nat) (v : Domain) : (s.setDom d v).gwy = s.gwy := rfl
@[simp] theorem State.setDom_can (s : State) (d : Nat) (v : Domain) : (s.setDom d v).can = s.can := rfl
@[simp] theorem State.setDom_mvb (s : State) (d : Nat) (v : Domain) : (s.setDom d v).mvb = s.mvb := rfl
@[simp] theorem State.setDom_hbr (s : State) (d : Nat) (v : Domain) : (s.setDom d v).hbr = s.hbr := rfl
@[simp] theorem State.setDom_lmp (s : State) (d : Nat) (v : Domain) : (s.setDom d v).lmp = s.lmp := rfl
@[simp] theorem State.setDom_mf (s : State) (d : Nat) (v : Domain) : (s.setDom d v).mf = s.mf := rfl
@[simp] theorem State.setDom_sense (s : State) (d : Nat) (v : Domain) : (s.setDom d v).sense = s.sense := rfl
@[simp] theorem State.setDom_mgt (s : State) (d : Nat) (v : Domain) : (s.setDom d v).mgt = s.mgt := rfl
@[simp] theorem State.setDom_fuses (s : State) (d : Nat) (v : Domain) : (s.setDom d v).fuses = s.fuses := rfl
@[simp] theorem State.setDom_flash (s : State) (d : Nat) (v : Domain) : (s.setDom d v).flash = s.flash := rfl
@[simp] theorem State.setDom_out (s : State) (d : Nat) (v : Domain) : (s.setDom d v).out = s.out := rfl
@[simp] theorem State.setDom_free (s : State) (d : Nat) (v : Domain) : (s.setDom d v).free = s.free := rfl
@[simp] theorem State.setDom_pending (s : State) (d : Nat) (v : Domain) : (s.setDom d v).pending = s.pending := rfl

/-- A register word, and a counter, in a register space. -/
def RegSpace.word (r : RegSpace) (b : Block) (a : Nat) : Word := Sparse.get (resetWord b) (r.get b).word a
def RegSpace.counter (r : RegSpace) (b : Block) (a : Nat) : Nat := (Sparse.get (fun _ => (0 : BitVec 40)) (r.get b).count a).toNat
@[simp] theorem State.rd_mk (r : RegSpace) (x0 : _) (x1 : _) (x2 : _) (x3 : _) (x4 : _) (x5 : _) (x6 : _) (x7 : _) (x8 : _) (x9 : _) (x10 : _) (x11 : _) (x12 : _) (x13 : _) (x14 : _) (x15 : _) (x16 : _) (x17 : _) (x18 : _) (x19 : _) (x20 : _) (x21 : _) (x22 : _) (x23 : _) (x24 : _) (x25 : _) (b : Block) (a : Nat) : State.rd (State.mk r x0 x1 x2 x3 x4 x5 x6 x7 x8 x9 x10 x11 x12 x13 x14 x15 x16 x17 x18 x19 x20 x21 x22 x23 x24 x25) b a = r.word b a := rfl
@[simp] theorem State.count_mk (r : RegSpace) (x0 : _) (x1 : _) (x2 : _) (x3 : _) (x4 : _) (x5 : _) (x6 : _) (x7 : _) (x8 : _) (x9 : _) (x10 : _) (x11 : _) (x12 : _) (x13 : _) (x14 : _) (x15 : _) (x16 : _) (x17 : _) (x18 : _) (x19 : _) (x20 : _) (x21 : _) (x22 : _) (x23 : _) (x24 : _) (x25 : _) (b : Block) (a : Nat) : State.count (State.mk r x0 x1 x2 x3 x4 x5 x6 x7 x8 x9 x10 x11 x12 x13 x14 x15 x16 x17 x18 x19 x20 x21 x22 x23 x24 x25) b a = r.counter b a := rfl
@[simp] theorem State.regs_word (s : State) (b : Block) (a : Nat) : s.regs.word b a = s.rd b a := rfl
@[simp] theorem State.regs_counter (s : State) (b : Block) (a : Nat) : s.regs.counter b a = s.count b a := rfl

/-! ### Registers and counters -/

theorem State.rd_wr (s : State) (b c : Block) (o a : Nat) (v : Word) :
    (s.wr b o v).rd c a = if b = c ∧ o = a then v else s.rd c a := by
  unfold State.rd State.wr
  by_cases h : b = c
  · subst h
    rw [RegSpace.get_put]
    simp only [Sparse.get_put]
    by_cases k : o = a <;> simp [k]
  · rw [RegSpace.get_put_ne _ _ h]; simp [h]
@[simp] theorem State.rd_wr_same (s : State) (b : Block) (o : Nat) (v : Word) : (s.wr b o v).rd b o = v := by simp [State.rd_wr]
@[simp] theorem State.count_wr (s : State) (b c : Block) (o a : Nat) (v : Word) : (s.wr b o v).count c a = s.count c a := by
  unfold State.count State.wr
  by_cases h : b = c
  · subst h; rw [RegSpace.get_put]
  · rw [RegSpace.get_put_ne _ _ h]
theorem State.rd_setFld (s : State) (b c : Block) (o a hi lo v : Nat) :
    (s.setFld b o hi lo v).rd c a = if b = c ∧ o = a then setField (s.rd b o) hi lo v else s.rd c a := State.rd_wr s b c o a _
@[simp] theorem State.count_setFld (s : State) (b c : Block) (o a hi lo v : Nat) : (s.setFld b o hi lo v).count c a = s.count c a :=
  State.count_wr s b c o a _
theorem State.rd_wr64 (s : State) (b c : Block) (o a v : Nat) :
    (s.wr64 b o v).rd c a = if b = c ∧ o + 4 = a then hi32 v else if b = c ∧ o = a then lo32 v else s.rd c a := by
  unfold State.wr64; rw [State.rd_wr, State.rd_wr]
@[simp] theorem State.count_wr64 (s : State) (b c : Block) (o a v : Nat) : (s.wr64 b o v).count c a = s.count c a := by
  unfold State.wr64; rw [State.count_wr, State.count_wr]
@[simp] theorem State.rd_setCount (s : State) (b c : Block) (o a n : Nat) : (s.setCount b o n).rd c a = s.rd c a := by
  unfold State.rd State.setCount
  by_cases h : b = c
  · subst h; rw [RegSpace.get_put]
  · rw [RegSpace.get_put_ne _ _ h]
theorem State.count_setCount (s : State) (b c : Block) (o a n : Nat) :
    (s.setCount b o n).count c a = if b = c ∧ o = a then n % 2 ^ 40 else s.count c a := by
  unfold State.count State.setCount
  by_cases h : b = c
  · subst h
    rw [RegSpace.get_put]
    simp only [Sparse.get_put]
    by_cases k : o = a <;> simp [k]
  · rw [RegSpace.get_put_ne _ _ h]; simp [h]
@[simp] theorem State.rd_tookSeq (s : State) (i : Nat) (b : Block) (a : Nat) : (s.tookSeq i).rd b a = s.rd b a := rfl
@[simp] theorem State.count_tookSeq (s : State) (i : Nat) (b : Block) (a : Nat) : (s.tookSeq i).count b a = s.count b a := rfl
@[simp] theorem State.rd_emit (s : State) (e : Nat) (p : List Byte) (b : Block) (a : Nat) : (s.emit e p).rd b a = s.rd b a := rfl
@[simp] theorem State.count_emit (s : State) (e : Nat) (p : List Byte) (b : Block) (a : Nat) : (s.emit e p).count b a = s.count b a := rfl
@[simp] theorem State.rd_bumpBy (s : State) (b c : Block) (o n a : Nat) : (s.bumpBy b o n).rd c a = s.rd c a := by
  unfold State.bumpBy; dsimp only; repeat' split
  all_goals simp
@[simp] theorem State.rd_bump (s : State) (b c : Block) (o a : Nat) : (s.bump b o).rd c a = s.rd c a := State.rd_bumpBy s b c o 1 a
theorem State.count_bumpBy (s : State) (b c : Block) (o n a : Nat) :
    (s.bumpBy b o n).count c a = if b = c ∧ o = a then (s.count c a + n) % 2 ^ 40 else s.count c a := by
  have k : (s.bumpBy b o n).count c a = (s.setCount b o ((s.count b o + n) % 2 ^ 40)).count c a := by
    unfold State.bumpBy; dsimp only; repeat' split
    all_goals rfl
  rw [k, State.count_setCount]
  by_cases h : b = c ∧ o = a
  · obtain ⟨rfl, rfl⟩ := h; simp
  · rw [if_neg h, if_neg h]
theorem State.count_bump (s : State) (b c : Block) (o a : Nat) :
    (s.bump b o).count c a = if b = c ∧ o = a then (s.count c a + 1) % 2 ^ 40 else s.count c a := State.count_bumpBy s b c o 1 a
theorem State.rd_setErr (s : State) (b c : Block) (o i e a : Nat) (p : List Byte) :
    (s.setErr b o i e p).rd c a = if b = c ∧ o = a ∧ s.flag b o i = false then setBit (s.rd b o) i true else s.rd c a := by
  unfold State.setErr
  cases h : s.flag b o i <;> simp [State.rd_wr]
@[simp] theorem State.count_setErr (s : State) (b c : Block) (o i e a : Nat) (p : List Byte) : (s.setErr b o i e p).count c a = s.count c a := by
  unfold State.setErr; split <;> simp
/-- After an error bit is set it reads 1, whatever it was. -/
theorem State.flag_setErr (s : State) (b : Block) (o e : Nat) {i : Nat} (p : List Byte) (h : i < 32) : (s.setErr b o i e p).flag b o i = true := by
  unfold State.flag
  rw [State.rd_setErr]
  split
  · exact bit_setBit_same _ true h
  · rename_i k
    cases hf : s.flag b o i
    · exact absurd ⟨rfl, rfl, hf⟩ k
    · exact hf
@[simp] theorem State.rd_lmpEmit (s : State) (e : Nat) (p : List Byte) (b : Block) (a : Nat) : (s.lmpEmit e p).rd b a = s.rd b a := by
  unfold State.lmpEmit; split <;> rfl
@[simp] theorem State.count_lmpEmit (s : State) (e : Nat) (p : List Byte) (b : Block) (a : Nat) : (s.lmpEmit e p).count b a = s.count b a := by
  unfold State.lmpEmit; split <;> rfl
@[simp] theorem State.rd_lmpBump (s : State) (k : Nat) (b : Block) (a : Nat) : (s.lmpBump k).rd b a = s.rd b a := State.rd_bump s _ b _ a
theorem State.count_lmpBump (s : State) (k : Nat) (b : Block) (a : Nat) :
    (s.lmpBump k).count b a = if .lmp = b ∧ 0x800 + 8 * k = a then (s.count b a + 1) % 2 ^ 40 else s.count b a := State.count_bump s _ b _ a
theorem State.rd_lmpErr (s : State) (i : Nat) (b : Block) (a : Nat) :
    (s.lmpErr i).rd b a = if .lmp = b ∧ 8 = a ∧ s.flag .lmp 8 i = false then setBit (s.rd .lmp 8) i true else s.rd b a := by
  unfold State.lmpErr
  cases h : s.flag .lmp 8 i <;> simp [State.rd_wr]
@[simp] theorem State.count_lmpErr (s : State) (i : Nat) (b : Block) (a : Nat) : (s.lmpErr i).count b a = s.count b a := by
  unfold State.lmpErr; split <;> simp
theorem State.flag_lmpErr (s : State) {i : Nat} (h : i < 32) : (s.lmpErr i).flag .lmp 8 i = true := by
  unfold State.flag
  rw [State.rd_lmpErr]
  split
  · exact bit_setBit_same _ true h
  · rename_i k
    cases hf : s.flag .lmp 8 i
    · exact absurd ⟨rfl, rfl, hf⟩ k
    · exact hf
@[simp] theorem State.rd_send (s : State) (x : Output) (b : Block) (a : Nat) : (s.send x).rd b a = s.rd b a := rfl
@[simp] theorem State.count_send (s : State) (x : Output) (b : Block) (a : Nat) : (s.send x).count b a = s.count b a := rfl
@[simp] theorem State.rd_setPath (s : State) (p : Path) (v : PathState) (b : Block) (a : Nat) : (s.setPath p v).rd b a = s.rd b a := rfl
@[simp] theorem State.count_setPath (s : State) (p : Path) (v : PathState) (b : Block) (a : Nat) : (s.setPath p v).count b a = s.count b a := rfl
@[simp] theorem State.rd_readAs (s : State) (p : Path) (v : Word) (b : Block) (a : Nat) : (s.readAs p v).rd b a = s.rd b a := rfl
@[simp] theorem State.count_readAs (s : State) (p : Path) (v : Word) (b : Block) (a : Nat) : (s.readAs p v).count b a = s.count b a := rfl

/-! ### Paths, while device reset is not held, settings -/

theorem pathIndex_inj {p q : Path} (h : pathIndex p = pathIndex q) : p = q := by
  cases p <;> cases q <;> simp only [pathIndex] at h <;> first
    | rfl
    | (rename_i a b; congr 1; apply Fin.ext; omega)
    | (rename_i a; have := a.isLt; omega)
    | omega
theorem State.path_setPath (s : State) (p q : Path) (v : PathState) : (s.setPath p v).path q = if p = q then v else s.path q := by
  unfold State.path State.setPath
  simp only [Sparse.get_put]
  by_cases h : p = q
  · subst h; simp
  · rw [if_neg (fun e => h (pathIndex_inj e)), if_neg h]
@[simp] theorem State.path_setPath_same (s : State) (p : Path) (v : PathState) : (s.setPath p v).path p = v := by simp [State.path_setPath]
theorem State.path_readAs (s : State) (p q : Path) (v : Word) :
    (s.readAs p v).path q = if p = q then { s.path p with lastRead := v } else s.path q := State.path_setPath s p q _
@[simp] theorem State.path_wr (s : State) (b : Block) (o : Nat) (v : Word) (p : Path) : (s.wr b o v).path p = s.path p := rfl
theorem State.awake_of (s : State) (f : State → State) (h : s.lmp.held = false) : s.awake f = f s := by unfold State.awake; simp [h]
theorem State.awake_held (s : State) (f : State → State) (h : s.lmp.held = true) : s.awake f = s := by unfold State.awake; simp [h]

/-! ### What a frame by parts says of one part -/

theorem Agree.rd {m : Nat} {s t : State} (h : Agree m s t) (b : Block) (k : m.testBit b.index = false) (a : Nat) : t.rd b a = s.rd b a := by
  unfold State.rd; rw [h (.regs b) k]
theorem Agree.count {m : Nat} {s t : State} (h : Agree m s t) (b : Block) (k : m.testBit b.index = false) (a : Nat) : t.count b a = s.count b a := by
  unfold State.count; rw [h (.regs b) k]
theorem Agree.paths {m : Nat} {s t : State} (h : Agree m s t) (k : m.testBit 20 = false) : t.paths = s.paths := h .paths k
theorem Agree.seq {m : Nat} {s t : State} (h : Agree m s t) (k : m.testBit 21 = false) : t.seq = s.seq := h .seq k
theorem Agree.img {m : Nat} {s t : State} (h : Agree m s t) (k : m.testBit 22 = false) : t.img = s.img := h .img k
theorem Agree.tkp {m : Nat} {s t : State} (h : Agree m s t) (k : m.testBit 23 = false) : t.tkp = s.tkp := h .tkp k
theorem Agree.flm {m : Nat} {s t : State} (h : Agree m s t) (k : m.testBit 24 = false) : t.flm = s.flm := h .flm k
theorem Agree.evt {m : Nat} {s t : State} (h : Agree m s t) (k : m.testBit 25 = false) : t.evt = s.evt := h .evt k
theorem Agree.net {m : Nat} {s t : State} (h : Agree m s t) (k : m.testBit 26 = false) : t.net = s.net := h .net k
theorem Agree.prs {m : Nat} {s t : State} (h : Agree m s t) (k : m.testBit 27 = false) : t.prs = s.prs := h .prs k
theorem Agree.tbl {m : Nat} {s t : State} (h : Agree m s t) (k : m.testBit 28 = false) : t.tbl = s.tbl := h .tbl k
theorem Agree.xbr {m : Nat} {s t : State} (h : Agree m s t) (k : m.testBit 29 = false) : t.xbr = s.xbr := h .xbr k
theorem Agree.cis {m : Nat} {s t : State} (h : Agree m s t) (k : m.testBit 30 = false) : t.cis = s.cis := h .cis k
theorem Agree.tdm {m : Nat} {s t : State} (h : Agree m s t) (k : m.testBit 31 = false) : t.tdm = s.tdm := h .tdm k
theorem Agree.key {m : Nat} {s t : State} (h : Agree m s t) (k : m.testBit 32 = false) : t.key = s.key := h .key k
theorem Agree.gwy {m : Nat} {s t : State} (h : Agree m s t) (k : m.testBit 33 = false) : t.gwy = s.gwy := h .gwy k
theorem Agree.can {m : Nat} {s t : State} (h : Agree m s t) (k : m.testBit 34 = false) : t.can = s.can := h .can k
theorem Agree.mvb {m : Nat} {s t : State} (h : Agree m s t) (k : m.testBit 35 = false) : t.mvb = s.mvb := h .mvb k
theorem Agree.hbr {m : Nat} {s t : State} (h : Agree m s t) (k : m.testBit 36 = false) : t.hbr = s.hbr := h .hbr k
theorem Agree.lmp {m : Nat} {s t : State} (h : Agree m s t) (k : m.testBit 37 = false) : t.lmp = s.lmp := h .lmp k
theorem Agree.mf {m : Nat} {s t : State} (h : Agree m s t) (k : m.testBit 38 = false) : t.mf = s.mf := h .mf k
theorem Agree.sense {m : Nat} {s t : State} (h : Agree m s t) (k : m.testBit 39 = false) : t.sense = s.sense := h .sense k
theorem Agree.mgt {m : Nat} {s t : State} (h : Agree m s t) (k : m.testBit 40 = false) : t.mgt = s.mgt := h .mgt k
theorem Agree.fuses {m : Nat} {s t : State} (h : Agree m s t) (k : m.testBit 41 = false) : t.fuses = s.fuses := h .fuses k
theorem Agree.flash {m : Nat} {s t : State} (h : Agree m s t) (k : m.testBit 42 = false) : t.flash = s.flash := h .flash k
theorem Agree.out {m : Nat} {s t : State} (h : Agree m s t) (k : m.testBit 43 = false) : t.out = s.out := h .out k
theorem Agree.free {m : Nat} {s t : State} (h : Agree m s t) (k : m.testBit 44 = false) : t.free = s.free := h .free k
theorem Agree.pending {m : Nat} {s t : State} (h : Agree m s t) (k : m.testBit 45 = false) : t.pending = s.pending := h .pending k

/-! ### Events -/

theorem State.emit_offered (s : State) (e : Nat) (p : List Byte) :
    (s.emit e p).evt.offered = s.evt.offered ++ [⟨s.stamp, e, s.seqOf e, padTo 16 p⟩] := rfl

end Sys2Proof.Machine
end

