-- ==== Sys2Proof/Laws/Effects.lean ====
section
/-!
SUPPORT. What raises an event, what keeps registers and what counts: the lemmas that build the facts of the statements.
-/
namespace Sys2Proof.Machine

/-- Records offered only grow. -/
def Grows (s u : State) : Prop := ∃ l : List EventRec, u.evt.offered = s.evt.offered ++ l

theorem Grows.refl (s : State) : Grows s s := ⟨[], (List.append_nil _).symm⟩
theorem Grows.trans {s t u : State} (h : Grows s t) (k : Grows t u) : Grows s u := by
  obtain ⟨a, ha⟩ := h; obtain ⟨b, hb⟩ := k
  exact ⟨a ++ b, by rw [hb, ha, List.append_assoc]⟩
theorem Grows.of_evt {s t u : State} (h : Grows s t) (k : u.evt = t.evt) : Grows s u := by
  obtain ⟨a, ha⟩ := h; exact ⟨a, by rw [k, ha]⟩
theorem Grows.agree {m : Nat} {s t : State} (h : Agree m s t) (k : m.testBit 25 = false) : Grows s t := (Grows.refl s).of_evt (h.evt k)
theorem State.emit_grows (s : State) (e : Nat) (p : List Byte) : Grows s (s.emit e p) := ⟨_, rfl⟩
theorem State.bumpBy_grows (s : State) (b : Block) (o n : Nat) : Grows s (s.bumpBy b o n) := by
  unfold State.bumpBy; dsimp only; repeat' split
  · exact ⟨[], (List.append_nil _).symm⟩
  · exact ⟨_, rfl⟩
  · exact ⟨[], (List.append_nil _).symm⟩
theorem State.bump_grows (s : State) (b : Block) (o : Nat) : Grows s (s.bump b o) := s.bumpBy_grows b o 1
theorem State.setErr_grows (s : State) (b : Block) (o i e : Nat) (p : List Byte) : Grows s (s.setErr b o i e p) := by
  unfold State.setErr; split
  · exact Grows.refl s
  · exact ⟨_, rfl⟩
theorem State.lmpEmit_grows (s : State) (e : Nat) (p : List Byte) : Grows s (s.lmpEmit e p) := by
  unfold State.lmpEmit; split
  · exact Grows.refl s
  · exact ⟨_, rfl⟩
theorem State.lmpErr_grows (s : State) (i : Nat) : Grows s (s.lmpErr i) := by
  unfold State.lmpErr; split
  · exact Grows.refl s
  · exact (State.lmpEmit_grows (s.wr .lmp 8 _) _ _)

theorem State.queueTandem_grows (s : State) (p ty : Nat) (body : List Byte) : Grows s (s.queueTandem p ty body) := by
  unfold State.queueTandem; dsimp only
  split
  · exact Grows.trans (t := State.setErr { s with tdm := { s.tdm with nextSeq := (s.tdm.nextSeq + 1) % 2 ^ 32, sentSeq := s.tdm.nextSeq } } .tdm 0x1C 3 1547 (p4 0))
      (State.setErr_grows { s with tdm := { s.tdm with nextSeq := (s.tdm.nextSeq + 1) % 2 ^ 32, sentSeq := s.tdm.nextSeq } } ..) (State.bump_grows ..)
  · split
    · exact State.bump_grows ..
    · split
      · exact (Grows.refl s).trans (State.bump_grows { s with tdm := _ } .tdm 0x438)
      · exact Grows.refl s
theorem State.mirrorRing_grows (s : State) (r : Nat) : Grows s (s.mirrorRing r) := by
  unfold State.mirrorRing; split
  · exact State.queueTandem_grows ..
  · exact Grows.refl s

/-! ### The stamp of an instant depends on the time keeper alone -/

theorem State.stamp_of {s t : State} (h : t.tkp = s.tkp) (k : t.rd .tkp 0 = s.rd .tkp 0) : t.stamp = s.stamp := by
  unfold State.stamp State.now State.primary State.dom State.fld
  rw [h, k]
theorem Agree.stamp {m : Nat} {s t : State} (h : Agree m s t) (k : m.testBit 23 = false) (j : m.testBit 2 = false) : t.stamp = s.stamp :=
  State.stamp_of (h.tkp k) (h.rd .tkp j 0)
@[simp] theorem State.stamp_emit (s : State) (e : Nat) (p : List Byte) : (s.emit e p).stamp = s.stamp := rfl
@[simp] theorem State.stamp_bump (s : State) (b : Block) (o : Nat) : (s.bump b o).stamp = s.stamp :=
  State.stamp_of (State.bump_tkp s b o) (State.rd_bump s b .tkp o 0)
@[simp] theorem State.stamp_setErr (s : State) (b : Block) (o i e : Nat) (p : List Byte) (h : b ≠ .tkp) : (s.setErr b o i e p).stamp = s.stamp :=
  State.stamp_of (State.setErr_tkp s b o i e p) (by rw [State.rd_setErr, if_neg (fun k => h k.1)])
@[simp] theorem State.stamp_wr (s : State) (b : Block) (o : Nat) (v : Word) (h : b ≠ .tkp) : (s.wr b o v).stamp = s.stamp :=
  State.stamp_of rfl (by rw [State.rd_wr, if_neg (fun k => h k.1)])
@[simp] theorem State.stamp_setFld (s : State) (b : Block) (o hi lo v : Nat) (h : b ≠ .tkp) : (s.setFld b o hi lo v).stamp = s.stamp :=
  State.stamp_wr s b o _ h
@[simp] theorem State.stamp_lmpEmit (s : State) (e : Nat) (p : List Byte) : (s.lmpEmit e p).stamp = s.stamp :=
  State.stamp_of (State.lmpEmit_tkp s e p) (State.rd_lmpEmit s e p .tkp 0)
@[simp] theorem State.stamp_lmpBump (s : State) (k : Nat) : (s.lmpBump k).stamp = s.stamp := State.stamp_bump s _ _
@[simp] theorem State.stamp_lmpErr (s : State) (i : Nat) : (s.lmpErr i).stamp = s.stamp :=
  State.stamp_of (State.lmpErr_tkp s i) (by rw [State.rd_lmpErr, if_neg (fun k => Block.noConfusion k.1)])

/-! ### Raised -/

theorem Raised.emit {s t : State} (g : Grows s t) (h : t.stamp = s.stamp) (e : Nat) (p : List Byte) : Raised e p s (t.emit e p) := by
  obtain ⟨l, hl⟩ := g
  exact ⟨l ++ [⟨t.stamp, e, t.seqOf e, padTo 16 p⟩], ⟨t.stamp, e, t.seqOf e, padTo 16 p⟩, by rw [State.emit_offered, hl, List.append_assoc], by simp, rfl, rfl, h⟩
theorem Raised.grows {e : Nat} {p : List Byte} {s t u : State} (h : Raised e p s t) (g : Grows t u) : Raised e p s u := by
  obtain ⟨l, r, h1, h2, h3⟩ := h; obtain ⟨k, hk⟩ := g
  exact ⟨l ++ k, r, by rw [hk, h1, List.append_assoc], List.mem_append_left _ h2, h3⟩
theorem Raised.from {e : Nat} {p : List Byte} {s t u : State} (g : Grows s t) (h : t.stamp = s.stamp) (r : Raised e p t u) : Raised e p s u := by
  obtain ⟨l, r, h1, h2, h3, h4, h5⟩ := r; obtain ⟨k, hk⟩ := g
  exact ⟨k ++ l, r, by rw [h1, hk, List.append_assoc], List.mem_append_right _ h2, h3, h4, h5.trans h⟩
theorem Raised.setErr {s t : State} (g : Grows s t) (h : t.stamp = s.stamp) {b : Block} (hb : b ≠ .tkp) {o i : Nat} (f : t.flag b o i = false) (e : Nat) (p : List Byte) :
    Raised e p s (t.setErr b o i e p) := by
  unfold State.setErr
  rw [f, if_neg (by decide)]
  exact Raised.emit (t := t.wr b o (setBit (t.rd b o) i true)) (g.trans (u := t.wr b o _) ⟨[], (List.append_nil _).symm⟩)
    ((State.stamp_wr _ _ _ _ hb).trans h) e p
theorem Raised.lmpEmit {s t : State} (g : Grows s t) (h : t.stamp = s.stamp) (k : t.lmp.held = false) (e : Nat) (p : List Byte) :
    Raised e p s (t.lmpEmit e p) := by
  unfold State.lmpEmit; rw [k, if_neg (by decide)]; exact Raised.emit g h e p

/-! ### Registers kept, counters counted -/

theorem Kept.refl (ks : List (Block × Nat)) (s : State) : Kept ks s s := fun _ _ _ => rfl
theorem Kept.of_rd {ks : List (Block × Nat)} {s t u : State} (h : Kept ks s t) (k : ∀ b a, (b, a) ∉ ks → u.rd b a = t.rd b a) : Kept ks s u :=
  fun b a m => (k b a m).trans (h b a m)
theorem Kept.wr {ks : List (Block × Nat)} {s t : State} (h : Kept ks s t) {b : Block} {o : Nat} (m : (b, o) ∈ ks) (v : Word) : Kept ks s (t.wr b o v) :=
  h.of_rd (fun c a n => by
    rw [State.rd_wr, if_neg]; rintro ⟨rfl, rfl⟩; exact n m)
theorem Kept.setFld {ks : List (Block × Nat)} {s t : State} (h : Kept ks s t) {b : Block} {o : Nat} (m : (b, o) ∈ ks) (hi lo v : Nat) :
    Kept ks s (t.setFld b o hi lo v) := h.wr m _
theorem Kept.setErr {ks : List (Block × Nat)} {s t : State} (h : Kept ks s t) {b : Block} {o : Nat} (m : (b, o) ∈ ks) (i e : Nat) (p : List Byte) :
    Kept ks s (t.setErr b o i e p) := by
  unfold State.setErr; split
  · exact h
  · exact (h.wr m _).of_rd (fun _ _ _ => rfl)
theorem Kept.bump {ks : List (Block × Nat)} {s t : State} (h : Kept ks s t) (b : Block) (o : Nat) : Kept ks s (t.bump b o) :=
  h.of_rd (fun c a _ => State.rd_bump t b c o a)
theorem Kept.emit {ks : List (Block × Nat)} {s t : State} (h : Kept ks s t) (e : Nat) (p : List Byte) : Kept ks s (t.emit e p) :=
  h.of_rd (fun _ _ _ => rfl)
theorem Kept.lmpEmit {ks : List (Block × Nat)} {s t : State} (h : Kept ks s t) (e : Nat) (p : List Byte) : Kept ks s (t.lmpEmit e p) :=
  h.of_rd (fun c a _ => State.rd_lmpEmit t e p c a)
theorem Kept.agree {m : Nat} {s t : State} (h : Agree m s t) (k : m &&& 0xFFFFF = 0) (ks : List (Block × Nat)) : Kept ks s t := by
  intro b a _
  refine h.rd b ?_ a
  have e : (m &&& 0xFFFFF).testBit b.index = false := by rw [k]; exact Nat.zero_testBit _
  rw [Nat.testBit_and, show (0xFFFFF : Nat).testBit b.index = true by cases b <;> decide, Bool.and_true] at e
  exact e

theorem State.count_lt (s : State) (b : Block) (a : Nat) : s.count b a < 2 ^ 40 := by unfold State.count; exact BitVec.isLt _
theorem Counted.refl (s : State) : Counted [] s s := fun b a => by
  simp only [List.count_nil, Nat.add_zero]; exact (Nat.mod_eq_of_lt (s.count_lt b a)).symm
theorem Counted.of_count {ks : List (Block × Nat)} {s t u : State} (h : Counted ks s t) (k : ∀ b a, u.count b a = t.count b a) : Counted ks s u :=
  fun b a => (k b a).trans (h b a)
theorem Counted.bump {ks : List (Block × Nat)} {s t : State} (h : Counted ks s t) (b : Block) (o : Nat) : Counted ((b, o) :: ks) s (t.bump b o) := by
  intro c a
  rw [State.count_bump, List.count_cons, h c a]
  by_cases e : b = c ∧ o = a
  · obtain ⟨rfl, rfl⟩ := e
    simp only [and_self, if_true, beq_self_eq_true]; omega
  · have n : ¬ ((b, o) == (c, a)) = true := by simpa [Prod.ext_iff] using e
    rw [if_neg e, if_neg n, Nat.add_zero]
theorem Counted.lmpBump {ks : List (Block × Nat)} {s t : State} (h : Counted ks s t) (k : Nat) : Counted ((.lmp, 0x800 + 8 * k) :: ks) s (t.lmpBump k) :=
  h.bump .lmp _
theorem Counted.wr {ks : List (Block × Nat)} {s t : State} (h : Counted ks s t) (b : Block) (o : Nat) (v : Word) : Counted ks s (t.wr b o v) :=
  h.of_count (fun c a => State.count_wr t b c o a v)
theorem Counted.emit {ks : List (Block × Nat)} {s t : State} (h : Counted ks s t) (e : Nat) (p : List Byte) : Counted ks s (t.emit e p) :=
  h.of_count (fun _ _ => rfl)
theorem Counted.setErr {ks : List (Block × Nat)} {s t : State} (h : Counted ks s t) (b : Block) (o i e : Nat) (p : List Byte) :
    Counted ks s (t.setErr b o i e p) := h.of_count (fun c a => State.count_setErr t b c o i e a p)
theorem Counted.lmpEmit {ks : List (Block × Nat)} {s t : State} (h : Counted ks s t) (e : Nat) (p : List Byte) : Counted ks s (t.lmpEmit e p) :=
  h.of_count (fun b a => State.count_lmpEmit t e p b a)
theorem Counted.lmpErr {ks : List (Block × Nat)} {s t : State} (h : Counted ks s t) (i : Nat) : Counted ks s (t.lmpErr i) :=
  h.of_count (fun b a => State.count_lmpErr t i b a)
theorem Counted.agree {m : Nat} {s t : State} (h : Agree m s t) (k : m &&& 0xFFFFF = 0) : Counted [] s t :=
  (Counted.refl s).of_count (fun b a => by
    refine h.count b ?_ a
    have e : (m &&& 0xFFFFF).testBit b.index = false := by rw [k]; exact Nat.zero_testBit _
    rw [Nat.testBit_and, show (0xFFFFF : Nat).testBit b.index = true by cases b <;> decide, Bool.and_true] at e
    exact e)


/-- An event that is raised is offered. -/
theorem State.emit_mem (t : State) (e : Nat) (p : List Byte) : ∃ r ∈ (t.emit e p).evt.offered, r.source = e ∧ r.payload = padTo 16 p :=
  ⟨⟨t.stamp, e, t.seqOf e, padTo 16 p⟩, by unfold State.emit; simp, rfl, rfl⟩

end Sys2Proof.Machine
end

