-- ==== Sys2Proof/Laws/Keys.lean ====
section
/-!
SUPPORT. What a command of the key ledger leaves.
-/
namespace Sys2Proof.Machine

theorem State.rd_of_regs {s t : State} (h : t.regs = s.regs) (b : Block) (a : Nat) : t.rd b a = s.rd b a := by unfold State.rd; rw [h]
theorem State.count_of_regs {s t : State} (h : t.regs = s.regs) (b : Block) (a : Nat) : t.count b a = s.count b a := by unfold State.count; rw [h]

theorem Counted.same {s t : State} (h : t.regs = s.regs) : Counted [] s t := (Counted.refl s).of_count (State.count_of_regs h)
theorem Kept.same {s t : State} (h : t.regs = s.regs) (ks : List (Block × Nat)) : Kept ks s t := fun b a _ => State.rd_of_regs h b a
theorem Grows.same {s t : State} (h : t.evt = s.evt) : Grows s t := (Grows.refl s).of_evt h

theorem State.rd_wrs (s : State) (b c : Block) (l : List Word) (o a : Nat) :
    (s.wrs b o l).rd c a = if b = c ∧ o ≤ a ∧ a < o + 4 * l.length ∧ (a - o) % 4 = 0 then l.getD ((a - o) / 4) 0 else s.rd c a := by
  induction l generalizing s o with
  | nil => unfold State.wrs; rw [if_neg]; simp; omega
  | cons v vs ih =>
    unfold State.wrs
    rw [ih, State.rd_wr]
    by_cases hb : b = c
    · subst hb
      by_cases h0 : o = a
      · subst h0
        rw [if_neg (by omega), if_pos ⟨rfl, rfl⟩, if_pos (by simp)]; simp
      · by_cases h1 : o + 4 ≤ a ∧ a < o + 4 + 4 * vs.length ∧ (a - (o + 4)) % 4 = 0
        · rw [if_pos ⟨rfl, h1⟩, if_pos ⟨rfl, by omega, by simp; omega, by omega⟩]
          have e : (a - o) / 4 = (a - (o + 4)) / 4 + 1 := by omega
          rw [e]; simp
        · rw [if_neg (fun h => h1 h.2), if_neg (fun h => h0 h.2), if_neg]
          intro h; apply h1; simp at h; omega
    · rw [if_neg (fun h => hb h.1), if_neg (fun h => hb h.1), if_neg (fun h => hb h.1)]

theorem State.wrs_regs (s : State) (b : Block) (l : List Word) (o : Nat) : ∃ r, s.wrs b o l = { s with regs := r } := by
  induction l generalizing s o with
  | nil => exact ⟨s.regs, rfl⟩
  | cons v vs ih =>
    obtain ⟨r, hr⟩ := ih (s.wr b o v) (o + 4)
    exact ⟨r, by unfold State.wrs; rw [hr]; rfl⟩
theorem State.wrs_evt (s : State) (b : Block) (o : Nat) (l : List Word) : (s.wrs b o l).evt = s.evt := by
  obtain ⟨r, hr⟩ := s.wrs_regs b l o; rw [hr]
theorem State.wrs_tkp (s : State) (b : Block) (o : Nat) (l : List Word) : (s.wrs b o l).tkp = s.tkp := by
  obtain ⟨r, hr⟩ := s.wrs_regs b l o; rw [hr]
theorem State.wrs_key (s : State) (b : Block) (o : Nat) (l : List Word) : (s.wrs b o l).key = s.key := by
  obtain ⟨r, hr⟩ := s.wrs_regs b l o; rw [hr]
theorem State.wrs_mgt (s : State) (b : Block) (o : Nat) (l : List Word) : (s.wrs b o l).mgt = s.mgt := by
  obtain ⟨r, hr⟩ := s.wrs_regs b l o; rw [hr]
theorem State.wrs_img (s : State) (b : Block) (o : Nat) (l : List Word) : (s.wrs b o l).img = s.img := by
  obtain ⟨r, hr⟩ := s.wrs_regs b l o; rw [hr]
theorem State.wrs_fuses (s : State) (b : Block) (o : Nat) (l : List Word) : (s.wrs b o l).fuses = s.fuses := by
  obtain ⟨r, hr⟩ := s.wrs_regs b l o; rw [hr]
theorem State.wrs_flash (s : State) (b : Block) (o : Nat) (l : List Word) : (s.wrs b o l).flash = s.flash := by
  obtain ⟨r, hr⟩ := s.wrs_regs b l o; rw [hr]
theorem State.wrs_tbl (s : State) (b : Block) (o : Nat) (l : List Word) : (s.wrs b o l).tbl = s.tbl := by
  obtain ⟨r, hr⟩ := s.wrs_regs b l o; rw [hr]
theorem State.wrs_free (s : State) (b : Block) (o : Nat) (l : List Word) : (s.wrs b o l).free = s.free := by
  obtain ⟨r, hr⟩ := s.wrs_regs b l o; rw [hr]
theorem State.wrs_out (s : State) (b : Block) (o : Nat) (l : List Word) : (s.wrs b o l).out = s.out := by
  obtain ⟨r, hr⟩ := s.wrs_regs b l o; rw [hr]
@[simp] theorem State.count_wrs (s : State) (b c : Block) (l : List Word) (o a : Nat) : (s.wrs b o l).count c a = s.count c a := by
  induction l generalizing s o with
  | nil => rfl
  | cons v vs ih => unfold State.wrs; rw [ih, State.count_wr]

/-- A state with a path's KEY_OUT cleared, as a command starts. -/
def State.keyStart (s : State) (p : Nat) : State := (s.wrs .key (keyReg p 0x200) (List.replicate 96 0)).wr .key (keyReg p 0x14) 0

theorem State.keyStart_regs (s : State) (p : Nat) : ∃ r, s.keyStart p = { s with regs := r } := by
  obtain ⟨r, hr⟩ := s.wrs_regs .key (List.replicate 96 0) (keyReg p 0x200)
  unfold State.keyStart; rw [hr]; exact ⟨_, rfl⟩
theorem State.rd_keyStart (s : State) (p : Nat) {a : Nat} (h : a < 0x20000) : (s.keyStart p).rd .key a = s.rd .key a := by
  unfold State.keyStart keyReg; rw [State.rd_wr, if_neg (by omega), State.rd_wrs, if_neg (by omega)]
@[simp] theorem State.count_keyStart (s : State) (p : Nat) (b : Block) (a : Nat) : (s.keyStart p).count b a = s.count b a := by
  unfold State.keyStart; rw [State.count_wr, State.count_wrs]
theorem State.stamp_keyStart (s : State) (p : Nat) : (s.keyStart p).stamp = s.stamp := by
  obtain ⟨r, hr⟩ := s.keyStart_regs p
  refine State.stamp_of (by rw [hr]) ?_
  unfold State.keyStart; rw [State.rd_wr, if_neg (by simp), State.rd_wrs, if_neg (by simp)]

theorem wordsOf_length : ∀ (l : List Byte), 4 * (wordsOf l).length < l.length + 4
  | [] => by simp [wordsOf]
  | [_] => by simp [wordsOf]
  | [_, _] => by simp [wordsOf]
  | [_, _, _] => by simp [wordsOf]
  | _ :: _ :: _ :: _ :: l => by have := wordsOf_length l; simp [wordsOf]; omega

theorem List.getD_of_le {α : Type} {d : α} : ∀ (l : List α) (i : Nat), l.length ≤ i → l.getD i d = d := by
  intro l i h; simp [List.getD, List.getElem?_eq_none h]

/-- A command that succeeds on its path. -/
theorem State.keyCommand_ok {s t : State} {path : Path} (hp : path ≠ .debug) {op : Nat} {run : KeyReq → State → KeyAnswer} {output : List Byte}
    (h : run (s.keyReq (pathIndex path)) (s.keyStart (pathIndex path)) = ⟨t, 0, output⟩) :
    s.keyCommand path op run = (((t.wr .key (keyReg (pathIndex path) 4) 0).wrs .key (keyReg (pathIndex path) 0x200) (wordsOf output)).wr .key
      (keyReg (pathIndex path) 0x14) (word output.length)).bump .key 0x400 := by
  unfold State.keyCommand; rw [if_neg hp]
  unfold State.keyStart at h
  dsimp only; rw [h]; dsimp only; rw [if_pos rfl]; rfl

theorem KeyEnds.ok {s t : State} {p : Nat} {output : List Byte} {ks : List Nat} (hl : output.length ≤ 384)
    (hk : ∀ a, a ∉ ks → t.rd .key a = (s.keyStart p).rd .key a) (hw : ∀ a ∈ ks, a < 0x20000) :
    KeyEnds p 0 output ks s ((((t.wr .key (keyReg p 4) 0).wrs .key (keyReg p 0x200) (wordsOf output)).wr .key
      (keyReg p 0x14) (word output.length)).bump .key 0x400) := by
  have hlen := wordsOf_length output
  refine ⟨?_, ?_, ?_, ?_⟩
  · unfold keyReg; rw [State.rd_bump, State.rd_wr, if_neg (by omega), State.rd_wrs, if_neg (by omega), State.rd_wr_same]; rfl
  · rw [State.rd_bump, State.rd_wr_same]
  · intro i hi
    have hks : keyReg p (0x200 + 4 * i) ∉ ks := fun m => by have := hw _ m; unfold keyReg at this; omega
    rw [State.rd_bump, State.rd_wr, if_neg (by unfold keyReg; omega), State.rd_wrs]
    by_cases hb : i < (wordsOf output).length
    · rw [if_pos ⟨rfl, by unfold keyReg; omega, by unfold keyReg; omega, by unfold keyReg; omega⟩]; congr 1; unfold keyReg; omega
    · rw [if_neg (by unfold keyReg; omega), State.rd_wr, if_neg (by unfold keyReg; omega), hk _ hks, List.getD_of_le _ _ (by omega)]
      unfold State.keyStart; rw [State.rd_wr, if_neg (by unfold keyReg; omega), State.rd_wrs,
        if_pos ⟨rfl, by unfold keyReg; omega, by simp; unfold keyReg; omega, by unfold keyReg; omega⟩]
      rw [List.getD_eq_getElem?_getD, List.getElem?_replicate]; split <;> rfl
  · intro a h1 h2 h3 h4
    have hw' : ∀ l : List Word, l.length ≤ 96 → ¬ (Block.key = Block.key ∧ keyReg p 0x200 ≤ a ∧ a < keyReg p 0x200 + 4 * l.length ∧ (a - keyReg p 0x200) % 4 = 0) := by
      rintro l hl' ⟨-, j1, j2, j3⟩
      refine h4 ((a - keyReg p 0x200) / 4) (by omega) ?_
      unfold keyReg at *; omega
    rw [State.rd_bump, State.rd_wr, if_neg (fun h => h3 h.2.symm), State.rd_wrs, if_neg (hw' _ (by omega)), State.rd_wr,
      if_neg (fun h => h2 h.2.symm), hk _ h1]
    unfold State.keyStart
    rw [State.rd_wr, if_neg (fun h => h3 h.2.symm), State.rd_wrs, if_neg (hw' _ (by simp))]

theorem State.count_keyEnd (t : State) (p : Nat) (v w : Word) (l : List Word) (b : Block) (a : Nat) :
    (((t.wr .key (keyReg p 4) v).wrs .key (keyReg p 0x200) l).wr .key (keyReg p 0x14) w).count b a = t.count b a := by
  rw [State.count_wr, State.count_wrs, State.count_wr]

theorem State.keySlot_of {s t : State} (h : t.key.slot = s.key.slot) (k : Nat) : t.keySlot k = s.keySlot k := by unfold State.keySlot; rw [h]
theorem State.keyEnd_key (t : State) (p : Nat) (v w : Word) (l : List Word) :
    ((((t.wr .key (keyReg p 4) v).wrs .key (keyReg p 0x200) l).wr .key (keyReg p 0x14) w).bump .key 0x400).key = t.key := by
  obtain ⟨r, hr⟩ := (t.wr .key (keyReg p 4) v).wrs_regs .key l (keyReg p 0x200)
  rw [State.bump_key, hr]; rfl

theorem State.keyEnd_free (t : State) (p : Nat) (v w : Word) (l : List Word) :
    ((((t.wr .key (keyReg p 4) v).wrs .key (keyReg p 0x200) l).wr .key (keyReg p 0x14) w).bump .key 0x400).free = t.free := by
  obtain ⟨r, hr⟩ := (t.wr .key (keyReg p 4) v).wrs_regs .key l (keyReg p 0x200)
  rw [State.bump_free, hr]; rfl

theorem State.keySlot_putSlot (s : State) (h k : Nat) (v : KeySlot) : (s.putSlot h v).keySlot k = if h = k then v else s.keySlot k := by
  unfold State.keySlot State.putSlot; exact Sparse.get_put ..
theorem State.putSlot_key (s : State) (h : Nat) (v : KeySlot) : (s.putSlot h v).key = { s.key with slot := Sparse.put (fun _ => {}) s.key.slot h v } := rfl
theorem State.rd_putSlot (s : State) (h : Nat) (v : KeySlot) (a : Nat) : (s.putSlot h v).rd .key a = if a = 0x14 then s.rd .key 0x14 + 1 else s.rd .key a := by
  unfold State.putSlot; dsimp only; rw [State.rd_wr]
  by_cases e : a = 0x14
  · subst e; rw [if_pos ⟨rfl, rfl⟩, if_pos rfl]
  · rw [if_neg (fun x => e x.2.symm), if_neg e]; rfl
@[simp] theorem State.count_putSlot (s : State) (h : Nat) (v : KeySlot) (b : Block) (a : Nat) : (s.putSlot h v).count b a = s.count b a := by
  unfold State.putSlot; dsimp only; rw [State.count_wr]; rfl
theorem State.fillSlot_filled (s : State) (h : Nat) (w : Word) (value : List Byte) : Filled h w value s (s.fillSlot h w value) := by
  unfold Filled State.fillSlot; dsimp only
  cases hp : isPairAlg (attrAlg w) with
  | true =>
    simp only [if_true]
    refine ⟨fun k => ?_, ?_⟩
    · rw [State.keySlot_putSlot, State.keySlot_putSlot]; grind
    · rw [State.rd_putSlot, if_pos rfl, State.rd_putSlot, if_pos rfl, BitVec.add_assoc]; rfl
  | false =>
    refine ⟨fun k => ?_, ?_⟩
    · simp only [Bool.false_eq_true, if_false, false_and]; rw [State.keySlot_putSlot]; grind
    · simp only [Bool.false_eq_true, if_false]; rw [State.rd_putSlot, if_pos rfl]
theorem State.putSlot_due (s : State) (h : Nat) (v : KeySlot) : (s.putSlot h v).key.due = s.key.due := by rw [State.putSlot_key]
theorem State.fillSlot_due (s : State) (h : Nat) (w : Word) (value : List Byte) : (s.fillSlot h w value).key.due = s.key.due := by
  unfold State.fillSlot; dsimp only
  by_cases c : isPairAlg (attrAlg w) = true
  · rw [if_pos c, State.putSlot_due, State.putSlot_due]
  · rw [if_neg c, State.putSlot_due]
theorem State.fillSlot_rd (s : State) (h : Nat) (w : Word) (value : List Byte) (a : Nat) (ha : a ≠ 0x14) :
    (s.fillSlot h w value).rd .key a = s.rd .key a := by
  unfold State.fillSlot; dsimp only; split
  · rw [State.rd_putSlot, if_neg ha, State.rd_putSlot, if_neg ha]
  · rw [State.rd_putSlot, if_neg ha]
@[simp] theorem State.count_fillSlot (s : State) (h : Nat) (w : Word) (value : List Byte) (b : Block) (a : Nat) :
    (s.fillSlot h w value).count b a = s.count b a := by
  unfold State.fillSlot; dsimp only; split <;> simp

/-- A command that fills a slot. -/
theorem State.keyCommand_fills {s t : State} {path : Path} (hp : path ≠ .debug) {op : Nat} {run : KeyReq → State → KeyAnswer} {h : Nat} {w : Word} {v : List Byte}
    (e : run (s.keyReq (pathIndex path)) (s.keyStart (pathIndex path)) = ⟨t.fillSlot h w v, 0, []⟩)
    (hr : ∀ a, t.rd .key a = (s.keyStart (pathIndex path)).rd .key a) (hs : t.key.slot = s.key.slot) (hc : ∀ b a, t.count b a = s.count b a) :
    Filled h w v s (s.keyCommand path op run) ∧ KeyEnds (pathIndex path) 0 [] [0x14] s (s.keyCommand path op run) ∧ Counted [(.key, 0x400)] s (s.keyCommand path op run) := by
  rw [State.keyCommand_ok hp e]
  have f := t.fillSlot_filled h w v
  refine ⟨⟨fun k => ?_, ?_⟩, KeyEnds.ok (by simp) ?_ (by simp), ?_⟩
  · rw [State.keySlot_of (congrArg KeyState.slot (State.keyEnd_key ..)), f.1 k, State.keySlot_of hs]
  · rw [State.rd_bump, State.rd_wr, if_neg (by unfold keyReg; omega), State.rd_wrs, if_neg (by unfold keyReg; omega), State.rd_wr, if_neg (by unfold keyReg; omega), f.2,
      hr, State.rd_keyStart _ _ (by omega)]
  · intro a ha; rw [State.fillSlot_rd _ _ _ _ _ (by simpa using ha), hr]
  · exact Counted.bump ((Counted.refl s).of_count (fun b a => by rw [State.count_keyEnd, State.count_fillSlot, hc])) .key 0x400

/-- A command that fills no slot. -/
theorem State.keyCommand_answers {s t : State} {path : Path} (hp : path ≠ .debug) {op : Nat} {run : KeyReq → State → KeyAnswer} {output : List Byte} {ks : List Nat}
    {cs : List (Block × Nat)} (e : run (s.keyReq (pathIndex path)) (s.keyStart (pathIndex path)) = ⟨t, 0, output⟩) (hl : output.length ≤ 384)
    (hr : ∀ a, a ∉ ks → t.rd .key a = (s.keyStart (pathIndex path)).rd .key a) (hw : ∀ a ∈ ks, a < 0x20000) (hc : Counted cs s t) :
    KeyEnds (pathIndex path) 0 output ks s (s.keyCommand path op run) ∧ Counted ((.key, 0x400) :: cs) s (s.keyCommand path op run) ∧ (s.keyCommand path op run).key = t.key ∧
      (∀ a, a < 0x20000 → (s.keyCommand path op run).rd .key a = t.rd .key a) ∧
        (s.keyCommand path op run).free = t.free := by
  rw [State.keyCommand_ok hp e]
  refine ⟨KeyEnds.ok hl hr hw, ?_, State.keyEnd_key .., ?_, State.keyEnd_free ..⟩
  · exact (hc.of_count (fun b a => State.count_keyEnd ..)).bump .key 0x400
  · intro a ha
    rw [State.rd_bump, State.rd_wr, if_neg (by unfold keyReg; omega), State.rd_wrs, if_neg (by unfold keyReg; omega), State.rd_wr, if_neg (by unfold keyReg; omega)]

theorem checked_ok {s : State} {l : List (Bool × Nat)} {run : State → KeyAnswer} (h : firstFail l = none) : s.keyChecked l run = run s := by
  unfold State.keyChecked; rw [h]
theorem checked_fail {s : State} {l : List (Bool × Nat)} {run : State → KeyAnswer} {n : Nat} (h : firstFail l = some n) : s.keyChecked l run = ⟨s, n, []⟩ := by
  unfold State.keyChecked; rw [h]
theorem firstFail_mem : ∀ {l : List (Bool × Nat)} {n : Nat}, firstFail l = some n → n ∈ l.map Prod.snd
  | [], _, h => by simp [firstFail] at h
  | (ok, c) :: l, n, h => by
    unfold firstFail at h
    split at h
    · exact List.mem_cons_of_mem _ (firstFail_mem h)
    · simp at h; simp [h]

/-- A command that is refused. -/
theorem State.keyCommand_refused {s : State} {path : Path} (hp : path ≠ .debug) {op n : Nat} {run : KeyReq → State → KeyAnswer}
    (e : run (s.keyReq (pathIndex path)) (s.keyStart (pathIndex path)) = ⟨s.keyStart (pathIndex path), n, []⟩) (h0 : n ≠ 0) (h1 : n ≠ 0xB) :
    let u := s.keyCommand path op run
    let p := pathIndex path
    KeyEnds p n [] [4] s u ∧ u.flag .key 4 0 = true ∧ (s.flag .key 4 0 = false → Raised 1416 (p1 p ++ (p1 op ++ p1 n)) s u) ∧ Counted [(.key, 0x408)] s u ∧ u.key = s.key := by
  have eq : s.keyCommand path op run = (((s.keyStart (pathIndex path)).wr .key (keyReg (pathIndex path) 4) (word n)).bump .key 0x408).keyErr 0 (pathIndex path) op n := by
    unfold State.keyCommand; rw [if_neg hp]
    unfold State.keyStart at e ⊢
    dsimp only; rw [e]; dsimp only; rw [if_neg h0, if_neg h1]
  intro u p
  have hrd : ∀ a, a ≠ 4 → u.rd .key a = ((s.keyStart p).wr .key (keyReg p 4) (word n)).rd .key a := by
    intro a ha; simp only [u, eq]; unfold State.keyErr
    rw [State.rd_setErr, if_neg (fun h => ha h.2.1.symm), State.rd_bump]
  refine ⟨⟨?_, ?_, ?_, ?_⟩, ?_, ?_, ?_, ?_⟩
  · rw [hrd _ (by unfold keyReg; omega), State.rd_wr_same]
  · rw [hrd _ (by unfold keyReg; omega), State.rd_wr, if_neg (by unfold keyReg; omega)]; unfold State.keyStart; rw [State.rd_wr_same]; rfl
  · intro i hi
    rw [hrd _ (by unfold keyReg; omega), State.rd_wr, if_neg (by unfold keyReg; omega)]; unfold State.keyStart
    rw [State.rd_wr, if_neg (by unfold keyReg; omega), State.rd_wrs,
        if_pos ⟨rfl, by unfold keyReg; omega, by simp; unfold keyReg; omega, by unfold keyReg; omega⟩]
    rw [List.getD_eq_getElem?_getD, List.getElem?_replicate]; split <;> rfl
  · intro a h1 h2 h3 h4
    rw [hrd _ (by simpa using h1), State.rd_wr, if_neg (fun h => h2 h.2.symm)]
    unfold State.keyStart
    rw [State.rd_wr, if_neg (fun h => h3 h.2.symm), State.rd_wrs, if_neg]
    rintro ⟨-, j1, j2, j3⟩
    simp only [List.length_replicate] at j2
    refine h4 ((a - keyReg p 0x200) / 4) (by omega) ?_
    unfold keyReg at *; omega
  · simp only [u, eq]; unfold State.keyErr; exact State.flag_setErr _ _ _ _ _ (by omega)
  · intro h; simp only [u, eq]; unfold State.keyErr
    have hrw : ∀ a, a < 0x20000 → (((s.keyStart p).wr .key (keyReg p 4) (word n)).bump .key 0x408).rd .key a = s.rd .key a := by
      intro a ha; rw [State.rd_bump, State.rd_wr, if_neg (by unfold keyReg; omega), State.rd_keyStart _ _ ha]
    refine Raised.setErr ?_ ?_ (by simp) ?_ _ _
    · have g1 : Grows s (s.keyStart p) := by obtain ⟨r, hr⟩ := s.keyStart_regs p; rw [hr]; exact ⟨[], (List.append_nil _).symm⟩
      exact g1.trans (Grows.trans (t := (s.keyStart p).wr .key (keyReg p 4) (word n)) ⟨[], (List.append_nil _).symm⟩ (State.bump_grows ..))
    · rw [State.stamp_bump, State.stamp_wr _ _ _ _ (by simp), State.stamp_keyStart]
    · unfold State.flag at h ⊢; rw [hrw 4 (by omega)]; exact h
  · simp only [u, eq]; unfold State.keyErr
    exact (((Counted.refl s).of_count (fun b a => by rw [State.count_wr, State.count_keyStart])).bump .key 0x408).setErr _ _ _ _ _
  · simp only [u, eq]; unfold State.keyErr; rw [State.setErr_key, State.bump_key, State.wr_key]
    obtain ⟨r, hr⟩ := s.keyStart_regs (pathIndex path); rw [hr]

theorem State.start_slot (s : State) (p k : Nat) : (s.keyStart p).keySlot k = s.keySlot k := by
  obtain ⟨r, hr⟩ := s.keyStart_regs p; rw [hr]; rfl
theorem State.start_policy (s : State) (p k : Nat) (w : Word) : (s.keyStart p).policyAllows k w = s.policyAllows k w := by
  obtain ⟨r, hr⟩ := s.keyStart_regs p; rw [hr]; rfl
theorem State.start_empty (s : State) (p k a : Nat) : (s.keyStart p).targetEmpty k a = s.targetEmpty k a := by
  obtain ⟨r, hr⟩ := s.keyStart_regs p; rw [hr]; rfl
theorem State.start_rng (s : State) (p : Nat) : (s.keyStart p).rngOk = s.rngOk := by
  obtain ⟨r, hr⟩ := s.keyStart_regs p; rw [hr]; rfl
theorem State.start_key (s : State) (p : Nat) : (s.keyStart p).key = s.key := by
  obtain ⟨r, hr⟩ := s.keyStart_regs p; rw [hr]
theorem State.start_free (s : State) (p : Nat) : (s.keyStart p).free = s.free := by
  obtain ⟨r, hr⟩ := s.keyStart_regs p; rw [hr]
theorem State.start_usable (s : State) (p k : Nat) : (s.keyStart p).keyUsable k = s.keyUsable k := by
  unfold State.keyUsable; rw [State.start_slot]
theorem State.start_serves (s : State) (p k : Nat) : (s.keyStart p).keyServes k = s.keyServes k := by
  unfold State.keyServes; rw [State.start_slot, State.start_usable]
theorem State.start_wrapKey (s : State) (p k : Nat) : (s.keyStart p).isWrapKey k = s.isWrapKey k := by
  unfold State.isWrapKey; rw [State.start_slot, State.start_serves]
theorem State.start_wraps (s : State) (p k n : Nat) : (s.keyStart p).wrapsLength k n = s.wrapsLength k n := by
  unfold State.wrapsLength; rw [State.start_slot]
theorem State.start_ecPair (s : State) (p k : Nat) : (s.keyStart p).isEcPair k = s.isEcPair k := by
  unfold State.isEcPair; rw [State.start_slot, State.start_serves]
theorem State.start_ecdsa (s : State) (p k : Nat) : (s.keyStart p).isEcdsa k = s.isEcdsa k := by
  unfold State.isEcdsa; rw [State.start_slot, State.start_serves]
theorem State.start_ecdh (s : State) (p k : Nat) : (s.keyStart p).isEcdh k = s.isEcdh k := by
  unfold State.isEcdh; rw [State.start_slot, State.start_serves]
theorem padTo_length (n : Nat) (l : List Byte) : (padTo n l).length = n := by unfold padTo; simp; omega

end Sys2Proof.Machine
end

