-- ==== Sys2Proof/Laws/Flash.lean ====
section
/-!
SUPPORT. Reading flash after writing and erasing it.
-/
namespace Sys2Proof.Machine

theorem Sparse.gets_eq {α : Type} (d : Nat → α) (m : Sparse α) (k n : Nat) : Sparse.gets d m k n = (List.range n).map (fun i => Sparse.get d m (k + i)) := by
  induction n generalizing k with
  | zero => rfl
  | succ n ih =>
    unfold Sparse.gets; rw [ih, List.range_succ_eq_map, List.map_cons, List.map_map]
    congr 1
    apply List.map_congr_left; intro i _; show Sparse.get d m (k + 1 + i) = Sparse.get d m (k + (i + 1)); congr 1; omega
theorem Sparse.get_puts {α : Type} [DecidableEq α] (d : Nat → α) (vs : List α) (m : Sparse α) (k a : Nat) :
    Sparse.get d (Sparse.puts d m k vs) a = if k ≤ a then (vs[a - k]?).getD (Sparse.get d m a) else Sparse.get d m a := by
  induction vs generalizing m k with
  | nil => unfold Sparse.puts; simp
  | cons v vs ih =>
    unfold Sparse.puts; rw [ih, Sparse.get_put]
    by_cases h : k ≤ a
    · rw [if_pos h]
      by_cases e : k = a
      · subst e; rw [if_neg (by omega), if_pos rfl]; simp
      · rw [if_pos (by omega), if_neg e]
        have : a - k = (a - (k + 1)) + 1 := by omega
        rw [this, List.getElem?_cons_succ]
    · rw [if_neg h, if_neg (by omega), if_neg (by omega)]

@[simp] theorem State.flashBytes_length (s : State) (o n : Nat) : (s.flashBytes o n).length = n := by unfold State.flashBytes; rw [Sparse.gets_eq]; simp
theorem State.flashBytes_eq (s : State) (o n : Nat) : s.flashBytes o n = (List.range n).map (fun i => Sparse.get (fun _ => (0xFF : Byte)) s.flash (o + i)) := by
  unfold State.flashBytes; exact Sparse.gets_eq ..
theorem State.flashBytes_append (s : State) (o m n : Nat) : s.flashBytes o (m + n) = s.flashBytes o m ++ s.flashBytes (o + m) n := by
  rw [State.flashBytes_eq, State.flashBytes_eq, State.flashBytes_eq, List.range_add, List.map_append, List.map_map]
  congr 1
  apply List.map_congr_left; intro i _; show Sparse.get _ s.flash (o + (m + i)) = Sparse.get _ s.flash (o + m + i); congr 1; omega
theorem State.flashBytes_take (s : State) (o : Nat) {m n : Nat} (h : m ≤ n) : (s.flashBytes o n).take m = s.flashBytes o m := by
  obtain ⟨k, rfl⟩ := Nat.exists_eq_add_of_le h
  rw [State.flashBytes_append, List.take_append_of_le_length (by simp), List.take_of_length_le (by simp)]
theorem State.flashBytes_drop (s : State) (o : Nat) (m n : Nat) : (s.flashBytes o (m + n)).drop m = s.flashBytes (o + m) n := by
  rw [State.flashBytes_append, List.drop_append_of_le_length (by simp), List.drop_of_length_le (by simp), List.nil_append]
theorem State.flashBytes_put (s : State) (o : Nat) (bs : List Byte) : (s.flashPut o bs).flashBytes o bs.length = bs := by
  rw [State.flashBytes_eq]
  apply List.ext_getElem (by simp)
  intro i h1 h2
  simp only [List.getElem_map, List.getElem_range]
  show Sparse.get _ (Sparse.puts _ s.flash o bs) (o + i) = _
  rw [Sparse.get_puts, if_pos (by omega)]
  have : o + i - o = i := by omega
  rw [this, List.getElem?_eq_getElem h2]; rfl
theorem State.flashBytes_put_off (s : State) (o a n : Nat) (bs : List Byte) (h : a + n ≤ o ∨ o + bs.length ≤ a) : (s.flashPut o bs).flashBytes a n = s.flashBytes a n := by
  rw [State.flashBytes_eq, State.flashBytes_eq]
  apply List.map_congr_left; intro i hi
  have hi : i < n := List.mem_range.1 hi
  show Sparse.get _ (Sparse.puts _ s.flash o bs) (a + i) = _
  rw [Sparse.get_puts]
  split
  · rw [List.getElem?_eq_none (by omega)]; rfl
  · rfl
theorem State.flashBytes_erase_off (s : State) (o a n m : Nat) (h : a + n ≤ o ∨ o + m ≤ a) : (s.flashErase o m).flashBytes a n = s.flashBytes a n := by
  rw [State.flashBytes_eq, State.flashBytes_eq]
  apply List.map_congr_left; intro i hi
  have hi : i < n := List.mem_range.1 hi
  show Sparse.get _ (Sparse.clear _ s.flash) (a + i) = _
  rw [Sparse.get_clear, if_neg]; simp; omega
theorem State.flashBytes_of {s t : State} (h : t.flash = s.flash) (a n : Nat) : t.flashBytes a n = s.flashBytes a n := by unfold State.flashBytes; rw [h]
@[simp] theorem State.flashPut_regs (s : State) (o : Nat) (bs : List Byte) : (s.flashPut o bs).regs = s.regs := rfl
@[simp] theorem State.flashErase_regs (s : State) (o n : Nat) : (s.flashErase o n).regs = s.regs := rfl
@[simp] theorem State.keyFlash_regs (s : State) (f : Option FlashFault) (k o n : Nat) (bs : List Byte) : (s.keyFlash f k o n bs).1.regs = s.regs := by
  unfold State.keyFlash; dsimp only; split
  · split <;> rfl
  · rfl

/-- A package whose bytes lie elsewhere checks the same. -/
theorem State.checkFirmware_same {s t : State} {o q b n : Nat} (hn : n = leAt (s.flashBytes o 256) 0x0C 4) (h : t.flashBytes q (256 + n) = s.flashBytes o (256 + n)) (hf : t.fuses = s.fuses) :
    t.checkFirmware q b = s.checkFirmware o b := by
  have h1 : t.flashBytes q 256 = s.flashBytes o 256 := by
    rw [← State.flashBytes_take t q (Nat.le_add_right 256 n), h, State.flashBytes_take s o (Nat.le_add_right 256 n)]
  have h2 : t.flashBytes (q + 256) n = s.flashBytes (o + 256) n := by
    rw [← State.flashBytes_drop t q 256 n, h, State.flashBytes_drop s o 256 n]
  unfold State.checkFirmware
  rw [h1, hf]; dsimp only; rw [← hn, h2]

theorem bootRecord_length (a b c : Nat) (t : List Byte) : (bootRecord a b c t).length = 512 := by
  unfold bootRecord; simp [padTo_length, leBytes]

/-- The record that a write of the boot record leaves in both copies (12_keys_and_attestation.md R486, R489). -/
def State.nextBoot (s : State) (active count : Nat) (table : List Byte) : List Byte := bootRecord (leAt s.bootInForce 4 4 + 1) active count table

theorem State.keyFlash_ok (s : State) (k o n : Nat) (bs : List Byte) : s.keyFlash none k o n bs = ((s.flashErase o n).flashPut o bs, true) := rfl
theorem State.writeBoot_ok (s : State) (k a c : Nat) (t : List Byte) :
    let w := s.writeBoot none k a c t
    w.2 = true ∧ w.1.bootCopy 0 = s.nextBoot a c t ∧ w.1.bootCopy 1 = s.nextBoot a c t ∧
      (∀ o n, 0x2000 ≤ o → w.1.flashBytes o n = s.flashBytes o n) ∧ ∃ f, w.1 = { s with flash := f } := by
  have len := bootRecord_length (leAt s.bootInForce 4 4 + 1) a c t
  have same : ∀ (u : State) (i : Nat), ((u.flashErase (0x1000 * i) 0x1000).flashPut (0x1000 * i) (s.nextBoot a c t)).bootCopy i = s.nextBoot a c t := by
    intro u i; unfold State.bootCopy State.nextBoot
    conv_lhs => rw [← len]
    exact State.flashBytes_put ..
  have other : ∀ (u : State) (i o n : Nat), (o + n ≤ 0x1000 * i ∨ 0x1000 * i + 0x1000 ≤ o) →
      ((u.flashErase (0x1000 * i) 0x1000).flashPut (0x1000 * i) (s.nextBoot a c t)).flashBytes o n = u.flashBytes o n := by
    intro u i o n h
    rw [State.flashBytes_put_off _ _ _ _ _ (by rw [State.nextBoot, len]; omega), State.flashBytes_erase_off _ _ _ _ _ h]
  intro w
  have hw : ∃ i, (i = 0 ∨ i = 1) ∧ w = ((((s.flashErase (0x1000 * i) 0x1000).flashPut (0x1000 * i) (s.nextBoot a c t)).flashErase (0x1000 * (1 - i)) 0x1000).flashPut
      (0x1000 * (1 - i)) (s.nextBoot a c t), true) := by
    refine ⟨if s.bootWinner = some 0 then 1 else 0, by split <;> simp, rfl⟩
  obtain ⟨i, hi, e⟩ := hw
  rw [e]; dsimp only
  refine ⟨rfl, ?_, ?_, ?_, ⟨_, rfl⟩⟩
  · rcases hi with rfl | rfl
    · unfold State.bootCopy; rw [other _ _ _ _ (by omega)]; exact same s 0
    · exact same _ 0
  · rcases hi with rfl | rfl
    · exact same _ 1
    · unfold State.bootCopy; rw [other _ _ _ _ (by omega)]; exact same s 1
  · intro o n h
    rw [other _ _ _ _ (by omega), other _ _ _ _ (by omega)]

end Sys2Proof.Machine
end

