-- ==== Sys2Proof/Laws/Image.lean ====
section
/-!
SUPPORT. What booting, staging and putting a configuration in force leave in the image loader.
-/
namespace Sys2Proof.Machine

/-- What does not touch the flash, the fuses or the ledger does not change what a slot's image is worth. -/
theorem State.slotBytes_of {s t : State} (h : t.flash = s.flash) : t.slotBytes = s.slotBytes := by
  funext sl o n; exact State.flashBytes_of h ..

theorem State.imgHeader_of {s t : State} (h : t.flash = s.flash) (sl : Slot) : t.imgHeader sl = s.imgHeader sl := by
  unfold State.imgHeader; rw [State.slotBytes_of h]

theorem State.signedDigest_of {s t : State} (h : t.flash = s.flash) (sl : Slot) : t.signedDigest sl = s.signedDigest sl := by
  unfold State.signedDigest State.sigBlock; rw [State.imgHeader_of h, State.slotBytes_of h]

theorem State.parcelAt_of {s t : State} (h : t.flash = s.flash) : t.parcelAt = s.parcelAt := by
  funext sl o; unfold State.parcelAt; rw [State.slotBytes_of h]

theorem State.parcelsFrom_of {s t : State} (h : t.flash = s.flash) (sl : Slot) (n o : Nat) : t.parcelsFrom sl o n = s.parcelsFrom sl o n := by
  induction n generalizing o with
  | zero => rfl
  | succ n ih => unfold State.parcelsFrom; rw [State.parcelAt_of h]; dsimp only; rw [ih]

theorem State.baseParcels_of {s t : State} (h : t.flash = s.flash) : t.baseParcels = s.baseParcels := by
  funext sl b; unfold State.baseParcels State.dirParcel State.dirEntry; rw [State.parcelAt_of h, State.slotBytes_of h]

theorem State.dirAgrees_of {s t : State} (h : t.flash = s.flash) : t.dirAgrees = s.dirAgrees := by
  funext sl b i; unfold State.dirAgrees State.dirParcel State.dirEntry; rw [State.parcelAt_of h, State.slotBytes_of h]

theorem State.parcelOk_of {s t : State} (h : t.flash = s.flash) : t.parcelOk = s.parcelOk := by
  funext sl b p; unfold State.parcelOk; rw [State.slotBytes_of h]

theorem State.overlays_of {s t : State} (h : t.flash = s.flash) : t.overlays = s.overlays := by
  funext sl b; unfold State.overlays State.overlayEntry; rw [State.slotBytes_of h]

theorem State.imageFormed_of {s t : State} (h : t.flash = s.flash) (sl : Slot) (b : List Byte) : t.imageFormed sl b = s.imageFormed sl b := by
  unfold State.imageFormed State.overlayDirOk State.baseDigest State.sigBlock State.maskNamed State.overlayFor State.overlayParcels State.overlayEntry
  rw [State.baseParcels_of h, State.parcelOk_of h, State.dirAgrees_of h, State.overlays_of h, State.slotBytes_of h]
  simp only [State.parcelsFrom_of h]

theorem Agree.slotReason {m : Nat} {s t : State} (h : Agree m s t) (k1 : m.testBit 42 = false) (k2 : m.testBit 41 = false) (k3 : m.testBit 32 = false) (sl : Slot) :
    t.slotReason sl = s.slotReason sl := by
  have e1 := h.flash k1; have e2 := h.fuses k2; have e3 := h.key k3
  unfold State.slotReason State.deviceOk State.imageSigner State.signerKey State.sigBlock
  rw [State.imgHeader_of e1, State.slotBytes_of e1, e2, e3]; simp only [State.imageFormed_of e1]

theorem readParcels_grows (sl : Slot) (gs : List ReadGlitch) (ps : List Parcel) (s : State) (i : Nat) : Grows s (s.readParcels sl gs i ps).1 := by
  induction ps generalizing s i with
  | nil => exact Grows.refl s
  | cons p ps ih =>
    unfold State.readParcels; dsimp only
    generalize (if s.crcOk sl p = true then Nat.min 3 (glitchesOf gs sl i) else 3) = n
    by_cases h : n = 3
    · rw [if_pos h]; exact (State.bumpBy_grows ..).trans (State.bump_grows ..)
    · rw [if_neg h]; exact (State.bumpBy_grows ..).trans (ih _ _)

theorem loadSlot_grows (s : State) (sl : Slot) (mask : Nat) (gs : List ReadGlitch) : Grows s (s.loadSlot sl mask gs).state := by
  unfold State.loadSlot; dsimp only
  split
  · exact Grows.refl s
  · split
    · exact Grows.refl s
    · split
      · exact readParcels_grows ..
      · split <;> exact readParcels_grows ..

theorem loadSlot_conf {s : State} {sl : Slot} {mask : Nat} {gs : List ReadGlitch} {c : Conf} (h : (s.loadSlot sl mask gs).conf = some c) : c.slot = sl ∧ c.overlays = mask := by
  unfold State.loadSlot at h; dsimp only at h
  split at h
  · cases h
  · split at h
    · cases h
    · split at h
      · cases h
      · split at h
        · cases h
        · cases h; exact ⟨rfl, rfl⟩

theorem loadSlot_err {s : State} {sl : Slot} {mask : Nat} {gs : List ReadGlitch} (h : (s.loadSlot sl mask gs).conf = none) : (s.loadSlot sl mask gs).err ≠ 0 := by
  revert h; unfold State.loadSlot; dsimp only
  split
  · intro _; simp
  · split
    · intro _; simp
    · split
      · intro _; simp
      · split
        · intro _; simp
        · intro h; cases h

theorem admitConf_evt (s : State) (rs : List Rec) : (s.admitConf rs).1.evt = s.evt := rfl

theorem slotFails_grows (s : State) (sl : Slot) (r : Nat) : Grows s (s.slotFails sl r) := by
  unfold State.slotFails; split
  · exact Grows.refl s
  · exact ((Grows.refl s).of_evt (State.setFld_evt ..)).trans (State.emit_grows ..)

theorem bootSlot_parts (s : State) (gs : List ReadGlitch) (sl : Slot) :
    Grows s (s.bootSlot gs sl).1 ∧ (∀ c, (s.bootSlot gs sl).2 = some c → c.slot = sl ∧ confLegal (primaryIn c.recs) c.recs = true) := by
  unfold State.bootSlot; dsimp only
  have g := loadSlot_grows s sl (hdrDefault (s.imgHeader sl)) gs
  split
  · exact ⟨g.trans (slotFails_grows ..), fun c h => by cases h⟩
  · rename_i c hc
    split
    · exact ⟨g.trans (slotFails_grows ..), fun c h => by cases h⟩
    · rename_i hl
      split
      · refine ⟨g.of_evt (admitConf_evt ..), fun d h => ?_⟩
        cases h; exact ⟨(loadSlot_conf hc).1, by simpa using hl⟩
      · exact ⟨(g.of_evt (admitConf_evt ..)).trans (slotFails_grows ..), fun c h => by cases h⟩

theorem bootFirst_parts (gs : List ReadGlitch) (l : List Slot) (s : State) :
    Grows s (s.bootFirst gs l).1 ∧ (∀ c, (s.bootFirst gs l).2 = some c → confLegal (primaryIn c.recs) c.recs = true ∧ c.slot ∈ l ∧ (c.slot = .g → s.slotReason .g = 0)) := by
  induction l generalizing s with
  | nil => exact ⟨Grows.refl s, fun c h => by cases h⟩
  | cons sl l ih =>
    unfold State.bootFirst; dsimp only
    obtain ⟨r, hr⟩ : ∃ r, r = (if sl = .g then s.slotReason .g else 0) := ⟨_, rfl⟩
    rw [← hr]
    by_cases h0 : r ≠ 0
    · rw [if_pos h0]
      obtain ⟨g, h⟩ := ih (s.slotFails sl r)
      refine ⟨(slotFails_grows ..).trans g, fun c hc => ?_⟩
      obtain ⟨h1, h2, h3⟩ := h c hc
      refine ⟨h1, by simp [h2], fun e => ?_⟩
      rw [← h3 e]; exact (Agree.slotReason (m := 35651586) ((State.slotFails_agree _ _ _ (by decide)).2 (Agree.refl _ _)) (by decide) (by decide) (by decide) .g).symm
    · rw [if_neg h0]
      have h0 : r = 0 := by simpa using h0
      obtain ⟨g, k⟩ := bootSlot_parts s gs sl
      have ag : Agree 35651586 s (s.bootSlot gs sl).1 := (State.bootSlot_agree _ _ _ (by decide)).2 (Agree.refl _ _)
      rcases e : s.bootSlot gs sl with ⟨s1, _ | c⟩
      · rw [e] at g ag
        obtain ⟨g', h⟩ := ih s1
        refine ⟨g.trans g', fun c hc => ?_⟩
        obtain ⟨h1, h2, h3⟩ := h c hc
        exact ⟨h1, by simp [h2], fun e => by rw [← h3 e]; exact (Agree.slotReason (m := 35651586) ag (by decide) (by decide) (by decide) .g).symm⟩
      · rw [e] at g k
        refine ⟨g, fun d hd => ?_⟩
        cases hd
        obtain ⟨k1, k2⟩ := k c rfl
        refine ⟨k2, by simp [k1], fun e => ?_⟩
        rw [k1] at e; rw [if_pos e] at hr; exact hr.symm.trans h0

theorem slotVersions_parts (s : State) : (∀ sl, s.slotVersions.rd .img (0xC + 4 * slotCode sl) = word (if hasMagic (s.imgHeader sl) then hdrVersion (s.imgHeader sl) else 0)) ∧
    s.slotVersions.evt = s.evt := by
  constructor
  · intro sl
    have e : ∀ (t : State) k v sl, (t.wr .img k v).imgHeader sl = t.imgHeader sl := fun t k v sl => State.imgHeader_of (State.wr_flash ..) sl
    unfold State.slotVersions
    simp only [List.foldl_cons, List.foldl_nil, e, State.rd_wr]
    cases sl <;> simp [slotCode]
  · rfl

theorem slotFails_rd (s : State) (sl : Slot) (r a : Nat) (h : a ≠ 8) : (s.slotFails sl r).rd .img a = s.rd .img a := by
  unfold State.slotFails; split
  · rfl
  · rw [State.rd_emit, State.rd_setFld, if_neg (fun k => h k.2.symm)]

theorem readParcels_rd (sl : Slot) (gs : List ReadGlitch) (ps : List Parcel) (s : State) (i : Nat) (b : Block) (a : Nat) : (s.readParcels sl gs i ps).1.rd b a = s.rd b a := by
  induction ps generalizing s i with
  | nil => rfl
  | cons p ps ih =>
    unfold State.readParcels; dsimp only
    generalize (if s.crcOk sl p = true then Nat.min 3 (glitchesOf gs sl i) else 3) = n
    by_cases h : n = 3
    · rw [if_pos h]; dsimp only; rw [State.rd_bump, State.rd_bumpBy]
    · rw [if_neg h, ih, State.rd_bumpBy]

theorem loadSlot_rd (s : State) (sl : Slot) (mask : Nat) (gs : List ReadGlitch) (b : Block) (a : Nat) : (s.loadSlot sl mask gs).state.rd b a = s.rd b a := by
  unfold State.loadSlot; dsimp only
  split
  · rfl
  · split
    · rfl
    · split
      · exact readParcels_rd ..
      · split <;> exact readParcels_rd ..

theorem admitConf_rd (s : State) (rs : List Rec) (a : Nat) (h : a < 0x34) : (s.admitConf rs).1.rd .img a = s.rd .img a := by
  unfold State.admitConf State.admitAt; dsimp only
  rw [State.rd_wr, if_neg (by omega), State.rd_wr, if_neg (by omega), State.rd_wr, if_neg (by omega)]

theorem bootSlot_rd (s : State) (gs : List ReadGlitch) (sl : Slot) (a : Nat) (h : a < 0x34) (h8 : a ≠ 8) : (s.bootSlot gs sl).1.rd .img a = s.rd .img a := by
  unfold State.bootSlot; dsimp only
  split
  · rw [slotFails_rd _ _ _ _ h8, loadSlot_rd]
  · split
    · rw [slotFails_rd _ _ _ _ h8, loadSlot_rd]
    · split
      · rw [admitConf_rd _ _ _ h, loadSlot_rd]
      · rw [slotFails_rd _ _ _ _ h8, admitConf_rd _ _ _ h, loadSlot_rd]

theorem bootFirst_rd (gs : List ReadGlitch) (l : List Slot) (s : State) (a : Nat) (h : a < 0x34) (h8 : a ≠ 8) : (s.bootFirst gs l).1.rd .img a = s.rd .img a := by
  induction l generalizing s with
  | nil => rfl
  | cons sl l ih =>
    unfold State.bootFirst; dsimp only
    generalize (if sl = .g then s.slotReason .g else 0) = r
    by_cases h0 : r ≠ 0
    · rw [if_pos h0, ih, slotFails_rd _ _ _ _ h8]
    · rw [if_neg h0]
      have := bootSlot_rd s gs sl a h h8
      rcases e : s.bootSlot gs sl with ⟨s1, _ | c⟩
      · rw [e] at this; dsimp only; rw [ih, this]
      · rw [e] at this; exact this

/-- What the boot selection leaves before and while a candidate is tried. -/
structure Tried (s t : State) : Prop where
  ag : Agree 35651586 s t
  grows : Grows s t
  rd : ∀ a, a < 0x34 → a ≠ 8 → t.rd .img a = s.slotVersions.rd .img a

theorem Tried.stamp {s t : State} (h : Tried s t) : t.stamp = s.stamp := Agree.stamp h.ag (by decide) (by decide)

theorem Tried.emit {s t : State} (h : Tried s t) (e : Nat) (p : List Byte) : Tried s (t.emit e p) :=
  ⟨(State.emit_agree _ _ _ (by decide)).2 h.ag, h.grows.trans (State.emit_grows ..), fun a h1 h2 => by rw [State.rd_emit]; exact h.rd a h1 h2⟩

theorem Tried.fails {s t : State} (h : Tried s t) (sl : Slot) (r : Nat) : Tried s (t.slotFails sl r) :=
  ⟨(State.slotFails_agree _ _ _ (by decide)).2 h.ag, h.grows.trans (slotFails_grows ..), fun a h1 h2 => by rw [slotFails_rd _ _ _ _ h2]; exact h.rd a h1 h2⟩

theorem Tried.first {s t : State} (h : Tried s t) (gs : List ReadGlitch) (l : List Slot) : Tried s (t.bootFirst gs l).1 :=
  ⟨(State.bootFirst_agree _ _ _ (by decide)).2 h.ag, h.grows.trans (bootFirst_parts gs l t).1, fun a h1 h2 => by rw [bootFirst_rd _ _ _ _ h1 h2]; exact h.rd a h1 h2⟩

theorem slotFails_raised {s t : State} (h : Tried s t) (sl : Slot) (r : Nat) (hr : r ≠ 0) : Raised 5 (p1 (slotCode sl) ++ p1 r) s (t.slotFails sl r) := by
  unfold State.slotFails; rw [if_neg hr]
  exact Raised.emit (h.grows.of_evt (State.setFld_evt ..)) (by rw [State.stamp_setFld _ _ _ _ _ _ (by simp)]; exact h.stamp) _ _

theorem wordsOf_exact : ∀ (n : Nat) (l : List Byte), l.length = 4 * n → (wordsOf l).length = n
  | 0, [], _ => rfl
  | n + 1, a :: b :: c :: d :: l, h => by
    have := wordsOf_exact n l (by simp only [List.length_cons] at h; omega)
    cases l <;> simp [wordsOf] at this ⊢ <;> omega
  | 0, _ :: _, h => by simp at h
  | n + 1, [], h => by simp at h
  | n + 1, [_], h => by simp at h; omega
  | n + 1, [_, _], h => by simp at h; omega
  | n + 1, [_, _, _], h => by simp at h; omega

theorem loadLimits_img (s : State) (l : Load) (a : Nat) (h1 : a ≠ 0x40) (h2 : a ≠ 4) : (s.loadLimits l).rd .img a = s.rd .img a ∧ ∀ k, (s.loadLimits l).count .img k = s.count .img k := by
  unfold State.loadLimits; dsimp only
  obtain ⟨t, ht⟩ : ∃ t, t = ((s.setLimits (limitsIn l.new)).wr .img 0x40 0).setFld .img 4 17 17 0 := ⟨_, rfl⟩
  rw [← ht]
  have ag : Agree (maskOf [.regs .cis, .cis]) t ((if l.wholly || l.writes 7 0xFFFF 0x80000 then t.loadWords .cis [0, 4] (recBody l.new 7 0xFFFF 0x80000) else t).updateXoff) := by
    refine (State.updateXoff_agree _ (by decide)).2 ?_
    split
    · exact (State.loadWords_agree _ _ _ _ (by decide)).2 (Agree.refl _ _)
    · exact Agree.refl _ _
  have sl : Agree 1610612736 s (s.setLimits (limitsIn l.new)) := (State.setLimits_agree _ _ (by decide)).2 (Agree.refl _ _)
  constructor
  · rw [ag.rd .img (by decide), ht, State.rd_setFld, if_neg (fun k => h2 k.2.symm), State.rd_wr, if_neg (fun k => h1 k.2.symm), sl.rd .img (by decide)]
  · intro k; rw [ag.count .img (by decide), ht, State.count_setFld, State.count_wr, sl.count .img (by decide)]

theorem loadAll_img (s : State) (l : Load) (ws : List Works) :
    (s.loadAll l ws).img = s.img ∧ (∀ a, a ≠ 0x40 → a ≠ 4 → (s.loadAll l ws).rd .img a = s.rd .img a) ∧ ∀ k, (s.loadAll l ws).count .img k = s.count .img k := by
  refine ⟨((State.loadAll_agree _ _ _ (μ := 27968821780414) (σ := s) (by decide)).2 (Agree.refl _ _)).img (by decide), ?_⟩
  unfold State.loadAll; dsimp only
  obtain ⟨t, ht⟩ : ∃ t, t = (((List.range 31).foldl (fun (t : State) n => t.loadTable l n) ((List.range 29).foldl (fun (t : State) p => ((t.loadPort l p).loadSchedule l p).loadShapers l p) (((ws.foldl (fun (t : State) w => t.beginWorks w) (s.loadTandem l)).loadTime l).loadFlumes l))).loadWeirs l).loadIngress l := ⟨_, rfl⟩
  have pre : Agree 27968821780412 s t := by
    rw [ht]
    refine (State.loadIngress_agree _ _ (by decide)).2 ((State.loadWeirs_agree _ _ (by decide)).2 ((Agree.foldl _ (fun _ _ => (State.loadTable_agree _ _ _ (by decide)).2 (Agree.refl _ _))).2 ((Agree.foldl _ (fun _ _ => ?_)).2 ?_)))
    · exact (State.loadShapers_agree _ _ _ (by decide)).2 ((State.loadSchedule_agree _ _ _ (by decide)).2 ((State.loadPort_agree _ _ _ (by decide)).2 (Agree.refl _ _)))
    · exact (State.loadFlumes_agree _ _ (by decide)).2 ((State.loadTime_agree _ _ (by decide)).2 ((Agree.foldl _ (fun _ _ => (State.beginWorks_agree _ _ (by decide)).2 (Agree.refl _ _))).2
        ((State.loadTandem_agree _ _ (by decide)).2 (Agree.refl _ _))))
  rw [← ht]
  have post : ∀ w : State, Agree 27968821780412 w
      ((((((([0, 1].foldl (fun (t : State) n => t.buildMvb n) ((List.range 32).foldl (fun (t : State) n => t.loadChannel l ws n) (w.loadPdus l.old l.new))).gwyCommit l.old l.new).loadPolicies l).loadIsland l).loadEvents l).loadPins l).decideGms) := by
    intro w
    refine (State.decideGms_agree _ (by decide)).2 ((State.loadPins_agree _ _ (by decide)).2 ((State.loadEvents_agree _ _ (by decide)).2 ((State.loadIsland_agree _ _ (by decide)).2
      ((State.loadPolicies_agree _ _ (by decide)).2 ((State.gwyCommit_agree _ _ _ (by decide)).2 ((Agree.foldl _ (fun _ _ => (State.buildMvb_agree _ _ (by decide)).2 (Agree.refl _ _))).2
        ((Agree.foldl _ (fun _ _ => (State.loadChannel_agree _ _ _ _ (by decide)).2 (Agree.refl _ _))).2 ((State.loadPdus_agree _ _ _ (by decide)).2 (Agree.refl _ _)))))))))
  refine ⟨fun a h1 h2 => ?_, fun k => ?_⟩
  · rw [(post (t.loadLimits l)).rd .img (by decide), (loadLimits_img t l a h1 h2).1, pre.rd .img (by decide)]
  · rw [(post (t.loadLimits l)).count .img (by decide), (loadLimits_img t l 0 (by decide) (by decide)).2, pre.count .img (by decide)]

theorem formRoot_img (t : State) (c : Nat) : (t.formRoot c).img = t.img ∧ (∀ a, (t.formRoot c).rd .img a = t.rd .img a) ∧ ∀ k, (t.formRoot c).count .img k = t.count .img k := by
  have ag : Agree 4330635264 t (t.formRoot c) := (State.formRoot_agree _ _ (by decide)).2 (Agree.refl _ _)
  exact ⟨ag.img (by decide), fun a => ag.rd .img (by decide) a, fun k => ag.count .img (by decide) k⟩

/-- What putting a configuration in force leaves in the loader. -/
theorem install_aux (s : State) (c : Conf) (e : Nat) (b : Bool) (l : Load) :
    let ws := s.worksOf l
    let w := ({ s.keepPast with img := { s.keepPast.img with conf := some c, works := ws, worksFrom := s.nowNs } }.showConf c e).loadAll l ws
    let v := if b then w.formRoot 1 else if l.wholly then w.formRoot 2 else w
    (∃ h, v.img = { s.img with conf := some c, works := ws, worksFrom := s.nowNs, history := h }) ∧
    v.rd .img 0x18 = word e ∧ v.fld .img 0x1C 15 0 = c.overlays % 65536 ∧ v.fld .img 8 1 0 = slotCode c.slot ∧
      (∀ i, i < 12 → v.rd .img (0x80 + 4 * i) = (wordsOf (padTo 48 c.digest)).getD i 0) ∧ (∀ k, v.count .img k = s.count .img k) := by
  dsimp only
  generalize s.worksOf l = ws
  obtain ⟨t, ht⟩ : ∃ t, t = { s.keepPast with img := { s.keepPast.img with conf := some c, works := ws, worksFrom := s.nowNs } } := ⟨_, rfl⟩
  rw [← ht]
  obtain ⟨a1, a2, a3⟩ := loadAll_img (t.showConf c e) l ws
  generalize (t.showConf c e).loadAll l ws = w at *
  have fr : ∀ v : State, v = (if b then w.formRoot 1 else if l.wholly then w.formRoot 2 else w) → v.img = w.img ∧ (∀ a, v.rd .img a = w.rd .img a) ∧ ∀ k, v.count .img k = w.count .img k := by
    intro v hv; rw [hv]; split
    · exact formRoot_img ..
    · split
      · exact formRoot_img ..
      · exact ⟨rfl, fun _ => rfl, fun _ => rfl⟩
  obtain ⟨f1, f2, f3⟩ := fr _ rfl
  generalize (if b then w.formRoot 1 else if l.wholly then w.formRoot 2 else w) = v at *
  have len : (wordsOf (padTo 48 c.digest)).length = 12 := wordsOf_exact 12 _ (padTo_length ..)
  have ti : ∃ h, t.img = { s.img with conf := some c, works := ws, worksFrom := s.nowNs, history := h } := by rw [ht]; exact ⟨_, rfl⟩
  have tc : ∀ k, t.count .img k = s.count .img k := by intro k; rw [ht]; rfl
  have si : (t.showConf c e).img = t.img := ((State.showConf_agree t c e (μ := 2) (σ := t) (by decide)).2 (Agree.refl _ _)).img (by decide)
  unfold State.fld
  refine ⟨?_, ?_, ?_, ?_, ?_, ?_⟩
  · rw [f1, a1, si]; exact ti
  · rw [f2, a2 _ (by decide) (by decide)]; unfold State.showConf
    rw [State.rd_setFld, if_neg (by simp), State.rd_setFld, if_neg (by simp), State.rd_wrs, if_neg (by simp), State.rd_setFld, if_neg (by simp), State.rd_wr_same]
  · rw [f2, a2 _ (by decide) (by decide)]; unfold State.showConf
    rw [State.rd_setFld, if_neg (by simp), State.rd_setFld, if_neg (by simp), State.rd_wrs, if_neg (by simp), State.rd_setFld, if_pos ⟨rfl, rfl⟩, field_setField _ (by omega) (by omega)]; try rfl
  · rw [f2, a2 _ (by decide) (by decide)]; unfold State.showConf; dsimp only
    rw [State.rd_setFld, if_neg (by simp), State.rd_setFld, if_pos ⟨rfl, rfl⟩, field_setField _ (by omega) (by omega)]; try rfl
    cases c.slot <;> rfl
  · intro i hi
    rw [f2, a2 _ (by omega) (by omega)]; unfold State.showConf
    rw [State.rd_setFld, if_neg (by omega), State.rd_setFld, if_neg (by omega), State.rd_wrs, if_pos ⟨rfl, by omega, by rw [len]; omega, by omega⟩]; congr 1; omega
  · intro k; rw [f3, a3]; unfold State.showConf
    rw [State.count_setFld, State.count_setFld, State.count_wrs, State.count_setFld, State.count_wr, tc]

theorem install_parts (s : State) (c : Conf) (e : Nat) (b : Bool) :
    (∃ h ws, (s.install c e b).1.img = { s.img with conf := some c, works := ws, worksFrom := s.nowNs, history := h } ∧ (s.install c e b).2 = ws.length) ∧
    (s.install c e b).1.rd .img 0x18 = word e ∧ (s.install c e b).1.fld .img 0x1C 15 0 = c.overlays % 65536 ∧ (s.install c e b).1.fld .img 8 1 0 = slotCode c.slot ∧
      (∀ i, i < 12 → (s.install c e b).1.rd .img (0x80 + 4 * i) = (wordsOf (padTo 48 c.digest)).getD i 0) ∧ (∀ k, (s.install c e b).1.count .img k = s.count .img k) := by
  obtain ⟨⟨h, h1⟩, h2⟩ := install_aux s c e b { fresh := s.img.conf.isNone, boot := b, wholly := decide (s.img.conf.map (fun o => o.base) ≠ some c.base), old := s.recs, new := c.recs }
  exact ⟨⟨h, _, h1, rfl⟩, h2⟩

theorem dropStaging_parts (t : State) : t.dropStaging.img = { t.img with staged := none, armed := none, decision := none, partner := none, abortRx := false, refusedHold := false, kept := t.img.kept.filter (fun k => !k.2.2) } ∧
    t.dropStaging.fld .img 0x1C 31 16 = 0 ∧ (∀ i, i < 12 → t.dropStaging.rd .img (0xC0 + 4 * i) = 0) ∧ (∀ a, a < 0xC0 → a ≠ 0x1C → t.dropStaging.rd .img a = t.rd .img a) ∧
      t.dropStaging.fld .img 0x1C 15 0 = t.fld .img 0x1C 15 0 ∧ (∀ k, t.dropStaging.count .img k = t.count .img k) := by
  have len : (wordsOf (padTo 48 [])).length = 12 := wordsOf_exact 12 _ (padTo_length ..)
  have z : ∀ i, i < 12 → (wordsOf (padTo 48 [])).getD i 0 = 0 := by decide
  unfold State.dropStaging State.showStaged State.fld
  obtain ⟨w, hw⟩ : ∃ w : State, w = { t with img := { t.img with staged := none, armed := none, decision := none, partner := none, abortRx := false, refusedHold := false, kept := t.img.kept.filter (fun k => !k.2.2) } } := ⟨_, rfl⟩
  have wr : ∀ a, w.rd .img a = t.rd .img a := fun a => State.rd_of_regs (by rw [hw]) .img a
  have wc : ∀ a, w.count .img a = t.count .img a := fun a => State.count_of_regs (by rw [hw]) .img a
  rw [← hw]
  refine ⟨?_, ?_, ?_, ?_, ?_, ?_⟩
  · rw [State.wrs_img, State.setFld_img, hw]
  · rw [State.rd_wrs, if_neg (by simp), State.rd_setFld, if_pos ⟨rfl, rfl⟩, field_setField _ (by omega) (by omega)]; try rfl
  · intro i hi; rw [State.rd_wrs, if_pos ⟨rfl, by omega, by rw [len]; omega, by omega⟩, show (0xC0 + 4 * i - 0xC0) / 4 = i by omega]; exact z i hi
  · intro a h1 h2; rw [State.rd_wrs, if_neg (by omega), State.rd_setFld, if_neg (by omega), wr]
  · rw [State.rd_wrs, if_neg (by simp), State.rd_setFld, if_pos ⟨rfl, rfl⟩, field_setField_ne _ (by omega) (by omega) (by omega), wr]
  · intro k; rw [State.count_wrs, State.count_setFld, wc]

theorem lastErr_fld (t : State) (e : Nat) : (t.lastErr e).fld .img 4 11 8 = e % 16 := by
  unfold State.lastErr State.fld; rw [State.rd_setFld, if_pos ⟨rfl, rfl⟩, field_setField _ (by omega) (by omega)]; try rfl

theorem lastErr_kept (t : State) (e : Nat) : Kept [(.img, 4)] t (t.lastErr e) := (Kept.refl _ t).setFld (by simp) 11 8 e

theorem reasonError_ne (r : Nat) : reasonError r ≠ 0 := by unfold reasonError; split <;> decide

theorem stageResult_parts (t : State) (gs : List ReadGlitch) :
    (t.stageResult gs).1.fld .img 4 11 8 = t.fld .img 4 11 8 ∧ (t.stageSlot = none → (t.stageResult gs).2 = (3, none)) ∧
      (∀ sl, t.stageSlot = some sl → t.slotReason sl ≠ 0 → (t.stageResult gs).2 = (reasonError (t.slotReason sl), none)) ∧
        (∀ c, (t.stageResult gs).2.2 = some c → (t.stageResult gs).2.1 = 0 ∧ confLegal t.primary c.recs = true ∧ t.stageSlot = some c.slot ∧ t.slotReason c.slot = 0 ∧ c.overlays = t.fld .img 0x20 31 16) ∧
          ((t.stageResult gs).2.2 = none → (t.stageResult gs).2.1 ≠ 0) := by
  unfold State.stageResult
  cases hs : t.stageSlot with
  | none => exact ⟨rfl, fun _ => rfl, fun sl h => (by cases h), fun c h => (by cases h), fun _ => by simp⟩
  | some sl =>
    dsimp only
    by_cases hr : t.slotReason sl ≠ 0
    · rw [if_pos hr]; exact ⟨rfl, fun h => (by cases h), fun x h _ => (by cases h; rfl), fun c h => (by cases h), fun _ => reasonError_ne _⟩
    · rw [if_neg hr]; simp only [ne_eq, Decidable.not_not] at hr
      have er := loadSlot_rd t sl (t.fld .img 0x20 31 16) gs .img
      have cf := @loadSlot_conf t sl (t.fld .img 0x20 31 16) gs
      have ce := @loadSlot_err t sl (t.fld .img 0x20 31 16) gs
      generalize t.loadSlot sl (t.fld .img 0x20 31 16) gs = r at *
      rcases hc : r.conf with _ | c
      · refine ⟨by unfold State.fld; rw [er], fun h => (by cases h), fun x h k => (by cases h; exact absurd hr k), fun c h => (by cases h), fun _ => ce hc⟩
      · dsimp only
        obtain ⟨c1, c2⟩ := cf hc
        by_cases hl : confLegal t.primary c.recs = true
        · rw [if_neg (by simp [hl])]
          have ad := admitConf_rd r.state c.recs 4 (by decide)
          split
          · refine ⟨by unfold State.fld; dsimp only; rw [ad, er], fun h => (by cases h), fun x h k => (by cases h; exact absurd hr k), fun d h => ?_, fun h => by cases h⟩
            cases h; exact ⟨rfl, hl, by rw [c1], by rw [c1]; exact hr, c2⟩
          · exact ⟨by unfold State.fld; dsimp only; rw [ad, er], fun h => (by cases h), fun x h k => (by cases h; exact absurd hr k), fun d h => (by cases h), fun _ => by simp⟩
        · rw [if_pos (by simp [hl])]
          exact ⟨by unfold State.fld; dsimp only; rw [er], fun h => (by cases h), fun x h k => (by cases h; exact absurd hr k), fun d h => (by cases h), fun _ => by simp⟩

end Sys2Proof.Machine
end

