-- ==== Sys2Proof/Laws/Island.lean ====
section
/-!
SUPPORT. What the rings, the feeds and SLEEP_REQ leave of the island (13_wake_sleep_power.md).
-/
namespace Sys2Proof.Machine

/-- The island is the same but for its rings and feeds. -/
def SameIsland (s t : State) : Prop := t.lmp = { s.lmp with ring := t.lmp.ring, feed := t.lmp.feed }

theorem SameIsland.refl (s : State) : SameIsland s s := rfl
theorem SameIsland.of_lmp {s t : State} (h : t.lmp = s.lmp) : SameIsland s t := by unfold SameIsland; rw [h]
theorem SameIsland.trans {s t u : State} (h : SameIsland s t) (k : SameIsland t u) : SameIsland s u := by
  unfold SameIsland at *; rw [k, h]
theorem SameIsland.foldl {α : Type} {f : State → α → State} (h : ∀ t a, SameIsland t (f t a)) (l : List α) (s : State) :
    SameIsland s (l.foldl f s) := by
  induction l generalizing s with
  | nil => exact SameIsland.refl s
  | cons a l ih => exact (h s a).trans (ih (f s a))
theorem SameIsland.kind {s t : State} (h : SameIsland s t) : t.lmp.kind = s.lmp.kind := by rw [h]
theorem SameIsland.held {s t : State} (h : SameIsland s t) : t.lmp.held = s.lmp.held := by rw [h]
theorem SameIsland.sleepReq {s t : State} (h : SameIsland s t) : t.lmp.sleepReq = s.lmp.sleepReq := by rw [h]
theorem SameIsland.railFails {s t : State} (h : SameIsland s t) : t.lmp.railFails = s.lmp.railFails := by rw [h]
theorem SameIsland.clock {s t : State} (h : SameIsland s t) : t.lmp.clock = s.lmp.clock := by rw [h]
theorem SameIsland.enables {s t : State} (h : SameIsland s t) : t.lmp.enables = s.lmp.enables := by rw [h]
theorem SameIsland.grace {s t : State} (h : SameIsland s t) : t.lmp.grace = s.lmp.grace := by rw [h]

theorem State.putRing_island (s : State) (r : Nat) (v : Ring) : SameIsland s (s.putRing r v) := rfl
theorem State.putFeed_island (s : State) (f : Nat) (v : Feed) : SameIsland s (s.putFeed f v) := rfl
theorem State.mirrorRing_lmp (s : State) (r : Nat) : (s.mirrorRing r).lmp = s.lmp :=
  Agree.lmp (m := 2 ^ 46 - 1 - 2 ^ 37) (by simp) (by decide)
theorem State.ringTo_island (s : State) (r : Nat) (k : RingKind) (ms : Nat) : SameIsland s (s.ringTo r k ms) := by
  unfold State.ringTo
  dsimp only
  split
  · exact State.putRing_island ..
  · exact (State.putRing_island s r _).trans (SameIsland.of_lmp ((State.mirrorRing_lmp ..).trans (State.lmpEmit_lmp ..)))
theorem State.ringSend_island (s : State) (r : Nat) (op : RingOp) : SameIsland s (s.ringSend r op) := by
  unfold State.ringSend; split <;> rfl
theorem State.ringAlive_island (s : State) (r : Nat) : SameIsland s (s.ringAlive r) := (s.ringSend_island r .alive).trans (State.ringTo_island ..)
theorem State.ringRequest_island (s : State) (r : Nat) : SameIsland s (s.ringRequest r) := by
  unfold State.ringRequest; split
  · exact State.ringTo_island ..
  · exact State.ringTo_island ..
  · exact State.ringAlive_island ..
  · exact SameIsland.refl s
theorem State.ringStart_island (s : State) (r : Nat) : SameIsland s (s.ringStart r) := by
  unfold State.ringStart; split
  · dsimp only; split
    · exact (State.putRing_island s r _).trans (State.ringAlive_island ..)
    · exact (State.putRing_island s r _).trans (State.ringTo_island ..)
  · exact SameIsland.refl s
theorem State.feedTo_island (s : State) (f : Nat) (k : FeedKind) : SameIsland s (s.feedTo f k) := by
  unfold State.feedTo; dsimp only; split
  · exact SameIsland.refl s
  · split
    · exact (State.putFeed_island s f _).trans (SameIsland.of_lmp ((State.bump_lmp ..).trans (State.lmpEmit_lmp ..)))
    · exact (State.putFeed_island s f _).trans (SameIsland.of_lmp ((State.bump_lmp ..).trans (State.lmpEmit_lmp ..)))
    · exact (State.putFeed_island s f _).trans (SameIsland.of_lmp (State.lmpEmit_lmp ..))
theorem State.setIsland_lmp (s : State) (k : IslKind) : (s.setIsland k).lmp = { s.lmp with kind := k } := by
  unfold State.setIsland; split
  · rename_i h; rw [← h]
  · rw [State.lmpEmit_lmp]
theorem State.setSleepReq_island (s : State) (v : Bool) : SameIsland { s with lmp := { s.lmp with sleepReq := v } } (s.setSleepReq v) := by
  unfold State.setSleepReq; split
  · rename_i h; subst h; exact SameIsland.refl s
  · exact SameIsland.foldl (fun t r => t.ringRequest_island r) _ _
/-- Entry to RUN leaves the island in RUN with SLEEP_REQ clear, and changes else only rings and feeds (R499, R510). -/
theorem State.enterRun_island (s : State) : SameIsland { s with lmp := { s.lmp with kind := .run, sleepReq := false } } s.enterRun := by
  unfold State.enterRun; dsimp only
  refine SameIsland.trans ?_ (SameIsland.foldl (fun t f => ?_) _ _)
  · refine SameIsland.trans ?_ (SameIsland.foldl (fun t r => t.ringStart_island r) _ _)
    have h := State.setSleepReq_island (s.setIsland .run) false
    unfold SameIsland at *
    rw [h, State.setIsland_lmp]
  · split
    · exact State.feedTo_island ..
    · exact SameIsland.refl t
theorem State.setFalseWakes_lmp (s : State) (x : WakeSource) (n : Nat) : (s.setFalseWakes x n).lmp = s.lmp := by
  unfold State.setFalseWakes; split <;> exact State.setFld_lmp ..
theorem State.setDisarmed_lmp (s : State) (x : WakeSource) (v : Bool) : (s.setDisarmed x v).lmp = s.lmp := by
  unfold State.setDisarmed; split <;> exact State.setFld_lmp ..
theorem State.rearmAll_lmp (s : State) (c : Nat) : (s.rearmAll c).lmp = s.lmp := by
  unfold State.rearmAll
  rw [State.lmpEmit_lmp]
  suffices h : ∀ (l : List Nat) (t : State), (l.foldl (fun (t : State) x => (t.setFalseWakes x 0).setDisarmed x false) t).lmp = t.lmp from h _ s
  intro l
  induction l with
  | nil => intro t; rfl
  | cons a l ih => intro t; rw [List.foldl_cons, ih, State.setDisarmed_lmp, State.setFalseWakes_lmp]
theorem State.latchCause_lmp (s : State) (c : Nat) : (s.latchCause c).lmp = s.lmp := by
  unfold State.latchCause; dsimp only
  rw [State.lmpEmit_lmp]
  repeat' split
  all_goals rfl
theorem State.setFlds_lmp (g : State → Nat → Nat) (off : Nat → Nat) (hi lo : Nat) (l : List Nat) (s : State) :
    (l.foldl (fun (t : State) n => t.setFld .lmp (off n) hi lo (g t n)) s).lmp = s.lmp := by
  induction l generalizing s with
  | nil => rfl
  | cons a l ih => rw [List.foldl_cons, ih]; rfl
/-- What a wake leaves of the island (R499, R503, R509). -/
theorem State.wakeUp_lmp (s : State) (c k : Nat) : ∃ ws, (s.wakeUp c k).lmp =
    { s.lmp with kind := .waking, next := 0, later := none, retry := false, errOff := [], windows := ws, cause := 1 } := by
  have h : ∀ t : State, (if s.commanded c then t.rearmAll c else t).lmp = t.lmp := by
    intro t; split
    · exact State.rearmAll_lmp ..
    · rfl
  unfold State.wakeUp
  dsimp only
  rw [h, State.setIsland_lmp, State.lmpBump_lmp]
  dsimp only
  rw [State.setFlds_lmp (fun _ n => Sparse.get (fun _ => 0) s.lmp.errs n) (fun n => 0x11C + 0x20 * n)]
  exact ⟨_, rfl⟩
/-- What arming leaves of the island (R499, R502, R506). -/
theorem State.armAll_lmp (s : State) : s.armAll.lmp = { s.lmp with kind := .sleep, errs := [], errOff := [] } := by
  unfold State.armAll
  dsimp only
  rw [State.setIsland_lmp]
  dsimp only
  rw [State.setFlds_lmp (fun t n => (t.mayWake n).toNat) (fun n => 0x11C + 0x20 * n)]

/-! ### False-wake counts and disarmed sources (R509, R527) -/

theorem State.fld_of_rd {s t : State} {b : Block} {o : Nat} (h : t.rd b o = s.rd b o) (hi lo : Nat) : t.fld b o hi lo = s.fld b o hi lo := by
  unfold State.fld; rw [h]
theorem State.fld_setFld (s : State) (b : Block) (o v : Nat) {hi lo : Nat} (h : hi < 32) (l : lo ≤ hi) :
    (s.setFld b o hi lo v).fld b o hi lo = v % 2 ^ (hi + 1 - lo) := by
  unfold State.fld; rw [State.rd_setFld, if_pos ⟨rfl, rfl⟩, field_setField _ h l]
theorem State.fld_setFld_apart (s : State) (b : Block) (o v : Nat) {hi lo h2 l2 : Nat} (h : hi < 32) (l : lo ≤ hi) (n : h2 < lo ∨ hi < l2) :
    (s.setFld b o hi lo v).fld b o h2 l2 = s.fld b o h2 l2 := by
  unfold State.fld; rw [State.rd_setFld, if_pos ⟨rfl, rfl⟩, field_setField_ne _ h l n]
theorem State.fld_setFld_ne (s : State) (b c : Block) (o a hi lo v h2 l2 : Nat) (n : ¬ (b = c ∧ o = a)) :
    (s.setFld b o hi lo v).fld c a h2 l2 = s.fld c a h2 l2 := by
  unfold State.fld; rw [State.rd_setFld, if_neg n]
theorem State.flag_setFld_apart (s : State) (b : Block) (o v : Nat) {hi lo i : Nat} (h : hi < 32) (l : lo ≤ hi) (n : i < lo ∨ hi < i) :
    (s.setFld b o hi lo v).flag b o i = s.flag b o i := by
  unfold State.flag; rw [State.rd_setFld, if_pos ⟨rfl, rfl⟩, bit_setField_ne _ h l n]
theorem State.flag_setFld_ne (s : State) (b c : Block) (o a hi lo v i : Nat) (n : ¬ (b = c ∧ o = a)) :
    (s.setFld b o hi lo v).flag c a i = s.flag c a i := by
  unfold State.flag; rw [State.rd_setFld, if_neg n]
theorem State.flag_setFld (s : State) (b : Block) (o : Nat) {i : Nat} (v : Bool) (h : i < 32) : (s.setFld b o i i v.toNat).flag b o i = v := by
  unfold State.flag; rw [State.rd_setFld, if_pos ⟨rfl, rfl⟩]; exact bit_setBit_same _ v h

theorem State.falseWakes_setFalseWakes (s : State) {x y : Nat} (n : Nat) (hx : x < 36) (hy : y < 36) :
    (s.setFalseWakes x n).falseWakes y = if x = y then Nat.min 63 n else s.falseWakes y := by
  have hm : Nat.min 63 n ≤ 63 := Nat.min_le_left 63 n
  unfold State.falseWakes State.setFalseWakes
  by_cases h1 : x < 32 <;> by_cases h2 : y < 32 <;> simp only [h1, h2, if_true, if_false]
  · by_cases e : x = y
    · subst e; rw [if_pos rfl, State.fld_setFld _ _ _ _ (by decide) (by decide)]; omega
    · rw [if_neg e, State.fld_setFld_ne _ _ _ _ _ _ _ _ _ _ (by omega)]
  · rw [if_neg (by omega), State.fld_setFld_ne _ _ _ _ _ _ _ _ _ _ (by omega)]
  · rw [if_neg (by omega), State.fld_setFld_ne _ _ _ _ _ _ _ _ _ _ (by omega)]
  · by_cases e : x = y
    · subst e; rw [if_pos rfl, State.fld_setFld _ _ _ _ (by omega) (by omega)]
      have : 8 * (x - 32) + 5 + 1 - 8 * (x - 32) = 6 := by omega
      rw [this]; omega
    · rw [if_neg e, State.fld_setFld_apart _ _ _ _ (by omega) (by omega) (by omega)]
theorem State.falseWakes_setDisarmed (s : State) {x y : Nat} (v : Bool) (hx : x < 36) (hy : y < 36) :
    (s.setDisarmed x v).falseWakes y = s.falseWakes y := by
  unfold State.falseWakes State.setDisarmed
  by_cases h1 : x < 32 <;> by_cases h2 : y < 32 <;> simp only [h1, h2, if_true, if_false]
  · by_cases e : x = y
    · subst e; rw [State.fld_setFld_apart _ _ _ _ (by decide) (by decide) (by decide)]
    · rw [State.fld_setFld_ne _ _ _ _ _ _ _ _ _ _ (by omega)]
  · rw [State.fld_setFld_ne _ _ _ _ _ _ _ _ _ _ (by omega)]
  · rw [State.fld_setFld_ne _ _ _ _ _ _ _ _ _ _ (by omega)]
  · rw [State.fld_setFld_apart _ _ _ _ (by omega) (by omega) (by omega)]
theorem State.disarmed_setFalseWakes (s : State) {x y : Nat} (n : Nat) (hx : x < 36) (hy : y < 36) :
    (s.setFalseWakes x n).disarmed y = s.disarmed y := by
  unfold State.disarmed State.setFalseWakes
  by_cases h1 : x < 32 <;> by_cases h2 : y < 32 <;> simp only [h1, h2, if_true, if_false]
  · by_cases e : x = y
    · subst e; rw [State.flag_setFld_apart _ _ _ _ (by decide) (by decide) (by decide)]
    · rw [State.flag_setFld_ne _ _ _ _ _ _ _ _ _ (by omega)]
  · rw [State.flag_setFld_ne _ _ _ _ _ _ _ _ _ (by omega)]
  · rw [State.flag_setFld_ne _ _ _ _ _ _ _ _ _ (by omega)]
  · rw [State.flag_setFld_apart _ _ _ _ (by omega) (by omega) (by omega)]
theorem State.disarmed_setDisarmed (s : State) {x y : Nat} (v : Bool) (hx : x < 36) (hy : y < 36) :
    (s.setDisarmed x v).disarmed y = if x = y then v else s.disarmed y := by
  unfold State.disarmed State.setDisarmed
  by_cases h1 : x < 32 <;> by_cases h2 : y < 32 <;> simp only [h1, h2, if_true, if_false]
  · by_cases e : x = y
    · subst e; rw [if_pos rfl, State.flag_setFld _ _ _ _ (by decide)]
    · rw [if_neg e, State.flag_setFld_ne _ _ _ _ _ _ _ _ _ (by omega)]
  · rw [if_neg (by omega), State.flag_setFld_ne _ _ _ _ _ _ _ _ _ (by omega)]
  · rw [if_neg (by omega), State.flag_setFld_ne _ _ _ _ _ _ _ _ _ (by omega)]
  · by_cases e : x = y
    · subst e; rw [if_pos rfl, State.flag_setFld _ _ _ _ (by omega)]
    · rw [if_neg e, State.flag_setFld_apart _ _ _ _ (by omega) (by omega) (by omega)]
/-- Rearming sets every count to 0 and disarms no source (R509). -/
theorem State.rearmAll_all (s : State) (c : Nat) {y : Nat} (hy : y < 36) : (s.rearmAll c).falseWakes y = 0 ∧ (s.rearmAll c).disarmed y = false := by
  have k : ∀ (l : List Nat) (t : State), (∀ x ∈ l, x < 36) → (y ∈ l ∨ (t.falseWakes y = 0 ∧ t.disarmed y = false)) →
      (l.foldl (fun (t : State) x => (t.setFalseWakes x 0).setDisarmed x false) t).falseWakes y = 0 ∧
        (l.foldl (fun (t : State) x => (t.setFalseWakes x 0).setDisarmed x false) t).disarmed y = false := by
    intro l
    induction l with
    | nil => intro t _ h; simpa using h
    | cons a l ih =>
      intro t hl h
      have ha : a < 36 := hl a List.mem_cons_self
      rw [List.foldl_cons]
      apply ih _ (fun x hx => hl x (List.mem_cons_of_mem _ hx))
      by_cases e : y ∈ l
      · exact .inl e
      · right
        rw [State.falseWakes_setDisarmed _ _ ha hy, State.falseWakes_setFalseWakes _ _ ha hy, State.disarmed_setDisarmed _ _ ha hy,
          State.disarmed_setFalseWakes _ _ ha hy]
        by_cases d : a = y
        · simp [d]
        · have : y ∉ a :: l := by simp [e, Ne.symm d]
          simpa [d] using h.resolve_left this
  have h1 := k (List.range 36) s (by simp) (.inl (by simpa using hy))
  have e : ∀ (t : State) (e : Nat) (p : List Byte), (t.lmpEmit e p).falseWakes y = t.falseWakes y ∧ (t.lmpEmit e p).disarmed y = t.disarmed y := by
    intro t e p
    unfold State.falseWakes State.disarmed State.fld State.flag
    simp only [State.rd_lmpEmit, and_self]
  unfold State.rearmAll
  rw [(e _ _ _).1, (e _ _ _).2]
  exact h1

/-! ### Registers and counters -/

theorem rd_setFlds (g : State → Nat → Nat) (off : Nat → Nat) (hi lo a : Nat) (l : List Nat) (h : ∀ n ∈ l, off n ≠ a) (s : State) (b : Block) :
    (l.foldl (fun (t : State) n => t.setFld .lmp (off n) hi lo (g t n)) s).rd b a = s.rd b a := by
  induction l generalizing s with
  | nil => rfl
  | cons x l ih =>
    rw [List.foldl_cons, ih (fun n hn => h n (List.mem_cons_of_mem _ hn)), State.rd_setFld, if_neg]
    rintro ⟨-, k⟩; exact h x (List.mem_cons_self) k

theorem rd_setFalseWakes (s : State) (x n : Nat) (a : Nat) (h : a < 0x50) (b : Block) : (s.setFalseWakes x n).rd b a = s.rd b a := by
  unfold State.setFalseWakes; split <;> rw [State.rd_setFld, if_neg (by omega)]
theorem rd_setDisarmed (s : State) (x : Nat) (v : Bool) (a : Nat) (h : a < 0x50) (b : Block) : (s.setDisarmed x v).rd b a = s.rd b a := by
  unfold State.setDisarmed; split <;> rw [State.rd_setFld, if_neg (by omega)]
theorem rd_rearmAll (s : State) (c a : Nat) (h : a < 0x50) (b : Block) : (s.rearmAll c).rd b a = s.rd b a := by
  unfold State.rearmAll
  rw [State.rd_lmpEmit]
  suffices h : ∀ (l : List Nat) (t : State), (l.foldl (fun (t : State) x => (t.setFalseWakes x 0).setDisarmed x false) t).rd b a = t.rd b a from h _ s
  intro l
  induction l with
  | nil => intro t; rfl
  | cons x l ih => intro t; rw [List.foldl_cons, ih, rd_setDisarmed _ _ _ _ h, rd_setFalseWakes _ _ _ _ h]
theorem rd_setIsland (s : State) (k : IslKind) (b : Block) (a : Nat) : (s.setIsland k).rd b a = s.rd b a := by
  unfold State.setIsland; split
  · rfl
  · rw [State.rd_lmpEmit]; rfl
theorem rd_wakeUp (s : State) (c k : Nat) : (s.wakeUp c k).rd .lmp 0x14 = word c := by
  unfold State.wakeUp
  dsimp only
  have h : ∀ t : State, (if s.commanded c then t.rearmAll c else t).rd .lmp 0x14 = t.rd .lmp 0x14 := by
    intro t; split
    · exact rd_rearmAll _ _ _ (by omega) _
    · rfl
  rw [h, rd_setIsland, State.rd_lmpBump, State.rd_mk, State.regs_word, rd_setFlds (fun _ n => Sparse.get (fun _ => 0) s.lmp.errs n) (fun n => 0x11C + 0x20 * n) _ _ _ _ (by intros; omega)]
  simp [State.rd_wr]

theorem count_setIsland (s : State) (k : IslKind) (b : Block) (a : Nat) : (s.setIsland k).count b a = s.count b a := by
  unfold State.setIsland; split
  · rfl
  · rw [State.count_lmpEmit]; rfl
theorem count_setFlds (g : State → Nat → Nat) (off : Nat → Nat) (hi lo : Nat) (l : List Nat) (s : State) (b : Block) (a : Nat) :
    (l.foldl (fun (t : State) n => t.setFld .lmp (off n) hi lo (g t n)) s).count b a = s.count b a := by
  induction l generalizing s with
  | nil => rfl
  | cons x l ih => rw [List.foldl_cons, ih, State.count_setFld]
theorem testBit_sub_pow {e n : Nat} (h : e.testBit n = true) : (e - 2 ^ n).testBit n = false := by
  rw [Nat.testBit_eq_decide_div_mod_eq] at h ⊢
  have h1 : (e - 2 ^ n) / 2 ^ n = e / 2 ^ n - 1 := by have := Nat.sub_mul_div e (2 ^ n) 1; simpa using this
  simp only [decide_eq_true_eq, decide_eq_false_iff_not] at h ⊢
  rw [h1]; omega

/-! ### One ring, one feed -/

theorem State.ringOf_of_lmp {s t : State} (h : t.lmp = s.lmp) (q : Nat) : t.ringOf q = s.ringOf q := by unfold State.ringOf; rw [h]
theorem State.ringOf_putRing (s : State) (r q : Nat) (v : Ring) : (s.putRing r v).ringOf q = if r = q then v else s.ringOf q := by
  unfold State.ringOf State.putRing; exact Sparse.get_put ..
theorem State.ringTo_ring (s : State) (r : Nat) (k : RingKind) (ms : Nat) : ∃ g : Ring, (∀ q, (s.ringTo r k ms).ringOf q = if r = q then g else s.ringOf q) ∧
    g.kind = k ∧ g.members = (s.ringOf r).members ∧ g.due = s.islandCount + islandTicks ms ∧ (k ≠ .limphome → g.out = (s.ringOf r).out) := by
  have put : ∀ (g2 : Ring) (u : State), u = (if (s.ringOf r).kind = k then s.putRing r g2 else
      ((s.putRing r g2).lmpEmit (1480 + r) (p1 (s.ringOf r).kind.code ++ (p1 k.code ++ p4 (s.ringOf r).members.length))).mirrorRing r) →
      ∀ q, u.ringOf q = if r = q then g2 else s.ringOf q := by
    intro g2 u hu q; subst hu
    split
    · rw [State.ringOf_putRing]
    · rw [State.ringOf_of_lmp (State.mirrorRing_lmp ..), State.ringOf_of_lmp (State.lmpEmit_lmp ..), State.ringOf_putRing]
  cases k <;> exact ⟨_, put _ _ rfl, rfl, rfl, rfl, by simp⟩

theorem State.feedOf_of_lmp {s t : State} (h : t.lmp = s.lmp) (q : Nat) : t.feedOf q = s.feedOf q := by unfold State.feedOf; rw [h]
theorem State.feedOf_putFeed (s : State) (f q : Nat) (v : Feed) : (s.putFeed f v).feedOf q = if f = q then v else s.feedOf q := by
  unfold State.feedOf State.putFeed; exact Sparse.get_put ..
/-- A feed moves, the others stand (R519). -/
theorem State.feedOf_feedTo (s : State) (f q : Nat) (k : FeedKind) : (s.feedTo f k).feedOf q = if f = q then { s.feedOf f with kind := k } else s.feedOf q := by
  unfold State.feedTo; dsimp only; split
  · rename_i h
    split
    · rename_i e; subst e; rw [← h]
    · rfl
  · split
    · rw [State.feedOf_of_lmp (State.bump_lmp ..), State.feedOf_of_lmp (State.lmpEmit_lmp ..), State.feedOf_putFeed]
    · rw [State.feedOf_of_lmp (State.bump_lmp ..), State.feedOf_of_lmp (State.lmpEmit_lmp ..), State.feedOf_putFeed]
    · rw [State.feedOf_of_lmp (State.lmpEmit_lmp ..), State.feedOf_putFeed]
@[simp] theorem State.rd_putFeed (s : State) (f : Nat) (v : Feed) (b : Block) (a : Nat) : (s.putFeed f v).rd b a = s.rd b a := rfl
@[simp] theorem State.count_putFeed (s : State) (f : Nat) (v : Feed) (b : Block) (a : Nat) : (s.putFeed f v).count b a = s.count b a := rfl
@[simp] theorem State.rd_feedTo (s : State) (f : Nat) (k : FeedKind) (b : Block) (a : Nat) : (s.feedTo f k).rd b a = s.rd b a := by
  unfold State.feedTo; dsimp only; repeat' split
  all_goals simp
theorem State.count_feedTo (s : State) (f : Nat) (k : FeedKind) (b : Block) (a : Nat) : (s.feedTo f k).count b a =
    if (s.feedOf f).kind ≠ k ∧ .pin = b ∧ ((k = .ramp ∧ feedReg f 0x40 = a) ∨ (k = .latched ∧ feedReg f 0x60 = a)) then (s.count b a + 1) % 2 ^ 40 else s.count b a := by
  unfold State.feedTo; dsimp only
  by_cases h : (s.feedOf f).kind = k
  · simp [h]
  · rw [if_neg h]
    cases k <;> simp [h, State.count_bump]
/-- The event of a change (R524). -/
theorem State.feedTo_raised (s : State) (f : Nat) (k : FeedKind) (h : (s.feedOf f).kind ≠ k) (hh : s.lmp.held = false) :
    Raised (1776 + f) (p1 (s.feedOf f).kind.code ++ (p1 k.code ++ (p4 (s.feedOf f).trips ++ p1 (s.fld .pin (feedReg f 0x14) 31 30)))) s (s.feedTo f k) := by
  unfold State.feedTo; dsimp only; rw [if_neg h]
  have r := Raised.lmpEmit (s := s) (t := s.putFeed f { s.feedOf f with kind := k }) ⟨[], (List.append_nil _).symm⟩ rfl hh (1776 + f)
    (p1 (s.feedOf f).kind.code ++ (p1 k.code ++ (p4 (s.feedOf f).trips ++ p1 (s.fld .pin (feedReg f 0x14) 31 30))))
  split
  · exact r.grows (State.bump_grows ..)
  · exact r.grows (State.bump_grows ..)
  · exact r
theorem State.feedTo_grows (s : State) (f : Nat) (k : FeedKind) : Grows s (s.feedTo f k) := by
  unfold State.feedTo; dsimp only; split
  · exact Grows.refl s
  · have g : Grows s ((s.putFeed f { s.feedOf f with kind := k }).lmpEmit (1776 + f) (p1 (s.feedOf f).kind.code ++ (p1 k.code ++ (p4 (s.feedOf f).trips ++ p1 (s.fld .pin (feedReg f 0x14) 31 30))))) :=
      (show Grows s (s.putFeed f { s.feedOf f with kind := k }) from ⟨[], (List.append_nil _).symm⟩).trans (State.lmpEmit_grows ..)
    split
    · exact g.trans (State.bump_grows ..)
    · exact g.trans (State.bump_grows ..)
    · exact g

end Sys2Proof.Machine
end

