-- ==== Sys2Proof/Laws/Mgt.lean ====
section
/-!
SUPPORT. Leases, their timers, and what a reset of the management plane leaves.
-/
namespace Sys2Proof.Machine

theorem lease_setLease (s : State) (l k : Nat) (v : Option Lease) : (s.setLease l v).lease k = if l = k then v else s.lease k := by
  unfold State.lease State.setLease; exact Sparse.get_put ..
theorem lease_of {s t : State} (h : t.mgt.lease = s.mgt.lease) (k : Nat) : t.lease k = s.lease k := by unfold State.lease; rw [h]
theorem batch_of {s t : State} (h : t.tbl.batch = s.tbl.batch) (k : Nat) : t.batch k = s.batch k := by unfold State.batch; rw [h]
theorem filter_same {α : Type} (l : List α) (f : α → Bool) (h : l.any (fun x => !f x) = false) : l.filter f = l := by
  rw [List.filter_eq_self]; simp at h; simpa using h
theorem batch_dropBatch (s : State) (w t c k : Nat) : (s.dropBatch w t c).batch k = if k = w then (s.batch k).filter (fun x => x.table != t) else s.batch k := by
  unfold State.dropBatch
  by_cases h : ((s.batch w).any (fun x => x.table == t)) = true
  · rw [if_pos h, batch_of (s := s.setBatch w ((s.batch w).filter (fun x => x.table != t))) (by rw [State.emit_tbl])]
    unfold State.batch State.setBatch; dsimp only; rw [Sparse.get_put]; grind
  · rw [if_neg h]; split
    · rename_i e; subst e; rw [filter_same]; simp at h; simp; intro x hx; exact h x hx
    · rfl
theorem lease_dropBatch (s : State) (w t c k : Nat) : (s.dropBatch w t c).lease k = s.lease k := by
  unfold State.dropBatch; split
  · exact lease_of (by rw [State.emit_mgt]; rfl) k
  · rfl
theorem freeLease_parts (s : State) (l c : Nat) (a : Lease) (h : s.lease l = some a) :
    (∀ k, (s.freeLease l c).1.lease k = if l = k then none else s.lease k) ∧
      (∀ w, (s.freeLease l c).1.batch w = if w = a.holder ∧ l < 31 then (s.batch w).filter (fun x => x.table != l) else s.batch w) ∧
        (s.freeLease l c).2 = (if l < 31 then ((s.batch a.holder).filter (fun x => x.table == l)).length else 0) ∧
          (∀ b o, (s.freeLease l c).1.rd b o = s.rd b o) ∧ (∀ b o, (s.freeLease l c).1.count b o = s.count b o) ∧ Grows s (s.freeLease l c).1 ∧
            (s.freeLease l c).1.tkp = s.tkp := by
  unfold State.freeLease; rw [h]; dsimp only
  by_cases hl : l < 31
  · rw [if_pos hl]
    have hd : ∀ t : State, (∀ b o, (t.dropBatch a.holder l c).rd b o = t.rd b o) ∧ (∀ b o, (t.dropBatch a.holder l c).count b o = t.count b o) ∧ Grows t (t.dropBatch a.holder l c) ∧
        (t.dropBatch a.holder l c).tkp = t.tkp := by
      intro t; unfold State.dropBatch; split
      · exact ⟨fun b o => State.rd_of_regs rfl b o, fun b o => State.count_of_regs rfl b o, ⟨_, rfl⟩, rfl⟩
      · exact ⟨fun _ _ => rfl, fun _ _ => rfl, Grows.refl _, rfl⟩
    obtain ⟨d1, d2, d3, d4⟩ := hd (s.setLease l none)
    refine ⟨fun k => ?_, fun w => ?_, ?_, fun b o => ?_, fun b o => ?_, ?_, ?_⟩
    · rw [lease_dropBatch, lease_setLease]
    · rw [batch_dropBatch]
      have e : ∀ w, (s.setLease l none).batch w = s.batch w := fun w => batch_of rfl w
      rw [e]; simp [hl]
    · rw [if_pos hl]
    · rw [d1]; exact State.rd_of_regs rfl b o
    · rw [d2]; exact State.count_of_regs rfl b o
    · exact Grows.trans (t := s.setLease l none) ⟨[], (List.append_nil _).symm⟩ d3
    · rw [d4]; rfl
  · rw [if_neg hl]
    refine ⟨fun k => ?_, fun w => ?_, ?_, fun b o => State.rd_of_regs rfl b o, fun b o => State.count_of_regs rfl b o, ⟨[], (List.append_nil _).symm⟩, rfl⟩
    · rw [lease_setLease]
    · rw [if_neg (by simp [hl])]; exact batch_of rfl w
    · rw [if_neg hl]
theorem nowNs_of {s t : State} (h : t.tkp = s.tkp) (k : t.rd .tkp 0 = s.rd .tkp 0) : t.nowNs = s.nowNs := by
  unfold State.nowNs State.now State.primary State.dom State.fld; rw [h, k]
def holdOne (t : State) (l : Nat) : State :=
  match t.lease l with
    | none => t
    | some a => t.setLease l (some { a with timer := a.timer.still t.nowNs (t.leaseFrozen a.holder) })
theorem holdOne_parts (t : State) (l : Nat) : (∀ k, (holdOne t l).lease k = if k = l then (t.lease k).map (fun a => { a with timer := a.timer.still t.nowNs (t.leaseFrozen a.holder) }) else t.lease k) ∧
    (holdOne t l).regs = t.regs ∧ (holdOne t l).tkp = t.tkp ∧ (∃ m, (holdOne t l) = { t with mgt := { t.mgt with lease := m } }) := by
  unfold holdOne
  cases h : t.lease l with
  | none => exact ⟨fun k => by split <;> simp_all, rfl, rfl, ⟨t.mgt.lease, rfl⟩⟩
  | some a =>
    refine ⟨fun k => ?_, rfl, rfl, ⟨_, rfl⟩⟩
    rw [lease_setLease]
    by_cases e : l = k
    · subst e; simp [h]
    · rw [if_neg e, if_neg (Ne.symm e)]
theorem holdAll_parts (ls : List Nat) (hn : ls.Nodup) (t : State) :
    (∀ k, (ls.foldl holdOne t).lease k = if k ∈ ls then (t.lease k).map (fun a => { a with timer := a.timer.still t.nowNs (t.leaseFrozen a.holder) }) else t.lease k) ∧
      (∃ m, (ls.foldl holdOne t) = { t with mgt := { t.mgt with lease := m } }) := by
  induction ls generalizing t with
  | nil => exact ⟨fun k => by simp, ⟨t.mgt.lease, rfl⟩⟩
  | cons l ls ih =>
    obtain ⟨h1, h2, h3, m, h4⟩ := holdOne_parts t l
    obtain ⟨i1, m', i2⟩ := ih (List.nodup_cons.1 hn).2 (holdOne t l)
    rw [List.foldl_cons]
    refine ⟨fun k => ?_, ⟨m', by rw [i2, h4]⟩⟩
    have en : (holdOne t l).nowNs = t.nowNs := nowNs_of h3 (State.rd_of_regs h2 ..)
    have ef : ∀ x, (holdOne t l).leaseFrozen x = t.leaseFrozen x := by
      intro x; unfold State.leaseFrozen State.flag State.halted State.fld; rw [State.rd_of_regs h2]
    rw [i1, en]; simp only [ef]
    rw [h1]
    have hl : l ∉ ls := (List.nodup_cons.1 hn).1
    by_cases e : k = l
    · subst e; rw [if_neg hl, if_pos rfl, if_pos (by simp)]
    · rw [if_neg e]; simp [e]

theorem holdTimers_eq (t : State) : t.holdTimers = if ((List.range 64).foldl holdOne t).mgt.state = .running then
      { (List.range 64).foldl holdOne t with mgt := { ((List.range 64).foldl holdOne t).mgt with wdt := ((List.range 64).foldl holdOne t).mgt.wdt.still ((List.range 64).foldl holdOne t).nowNs (decide (((List.range 64).foldl holdOne t).halted ≠ 0)) } }
      else (List.range 64).foldl holdOne t := by
  unfold State.holdTimers; generalize List.range 64 = L; rfl
theorem lc (s : State) (path : Path) (l ms : Nat) (hh : s.lmp.held = false) (h : ms ≠ 0) :
    (s.leaseCommand path l 1 ms = if ((s.lease l).map (fun (a : Lease) => a.holder)).isNone || ((s.lease l).map (fun (a : Lease) => a.holder) == some (pathIndex path)) then s.holdLease path l ms else s.leaseResult path 1) ∧
    (s.leaseCommand path l 2 ms = if (s.lease l).map (fun (a : Lease) => a.holder) = some (pathIndex path) then s.holdLease path l ms else s.leaseResult path 2) ∧
    (s.leaseCommand path l 3 ms = if (s.lease l).map (fun (a : Lease) => a.holder) = some (pathIndex path) then (s.freeLease l 1).1.leaseResult path 0 else s.leaseResult path 2) := by
  refine ⟨?_, ?_, ?_⟩ <;> (unfold State.leaseCommand; dsimp only; rw [if_neg (by simp [hh]), if_neg h])
  · simp only [beq_iff_eq]
  · simp only [beq_iff_eq]
  · simp only [beq_iff_eq]


/-- Does a management core hold it? -/
def coreHeld (o : Option Lease) : Bool := o.any (fun a => decide (1 ≤ a.holder) && decide (a.holder ≤ 4))
def freeOne (t : State) (l : Nat) : State :=
  match t.lease l with
    | none => t
    | some a => if 1 ≤ a.holder && a.holder ≤ 4 then (t.freeLease l 2).1 else t
theorem freeOne_parts (t : State) (l : Nat) : (∀ k, (freeOne t l).lease k = if k = l ∧ coreHeld (t.lease l) then none else t.lease k) ∧
    (∀ b o, (freeOne t l).rd b o = t.rd b o) ∧ (∀ b o, (freeOne t l).count b o = t.count b o) ∧ Grows t (freeOne t l) := by
  unfold freeOne
  cases h : t.lease l with
  | none => exact ⟨fun k => by simp [coreHeld], fun _ _ => rfl, fun _ _ => rfl, Grows.refl t⟩
  | some a =>
    dsimp only
    by_cases c : (decide (1 ≤ a.holder) && decide (a.holder ≤ 4)) = true
    · rw [if_pos (by simpa using c)]
      obtain ⟨f1, -, -, f4, f5, f6, -⟩ := freeLease_parts t l 2 a h
      refine ⟨fun k => ?_, f4, f5, f6⟩
      rw [f1]
      have : coreHeld (some a) = true := c
      rw [this]; grind
    · rw [if_neg (by simpa using c)]
      refine ⟨fun k => ?_, fun _ _ => rfl, fun _ _ => rfl, Grows.refl t⟩
      have : coreHeld (some a) = false := by simpa [coreHeld] using c
      rw [this]; simp
theorem freeAll_parts (ls : List Nat) (hn : ls.Nodup) (t : State) :
    (∀ k, (ls.foldl freeOne t).lease k = if k ∈ ls ∧ coreHeld (t.lease k) then none else t.lease k) ∧
    (∀ b o, (ls.foldl freeOne t).rd b o = t.rd b o) ∧ (∀ b o, (ls.foldl freeOne t).count b o = t.count b o) ∧ Grows t (ls.foldl freeOne t) := by
  induction ls generalizing t with
  | nil => exact ⟨fun k => by simp, fun _ _ => rfl, fun _ _ => rfl, Grows.refl t⟩
  | cons l ls ih =>
    obtain ⟨h1, h2, h3, h4⟩ := freeOne_parts t l
    obtain ⟨i1, i2, i3, i4⟩ := ih (List.nodup_cons.1 hn).2 (freeOne t l)
    rw [List.foldl_cons]
    refine ⟨fun k => ?_, fun b o => (i2 b o).trans (h2 b o), fun b o => (i3 b o).trans (h3 b o), h4.trans i4⟩
    rw [i1, h1]
    have hl : l ∉ ls := (List.nodup_cons.1 hn).1
    by_cases e : k = l
    · subst e; simp [hl]
    · simp [e]
theorem freeCore_eq (t : State) : t.freeCoreLeases = (List.range 64).foldl freeOne t := by
  unfold State.freeCoreLeases; generalize List.range 64 = L; rfl

theorem rd_clearCore (s : State) (b : Block) (a : Nat) : s.clearCoreWindows.rd b a = if coreWindow b a = true then resetWord b a else s.rd b a := by
  have hp : ∀ b, (b = .flm ∨ b = .tbl ∨ b = .key ∨ b = .can ∨ b = .mvb) ∨ coreWindow b a = false := by
    intro b; cases b <;> simp [coreWindow]
  unfold State.rd
  cases b <;> first
    | exact (Sparse.get_clear ..)
    | (rw [if_neg (by simp [coreWindow])]; rfl)
theorem clearCore_mgt (s : State) : s.clearCoreWindows.mgt = s.mgt := rfl
theorem clearCore_evt (s : State) : s.clearCoreWindows.evt = s.evt := rfl
theorem clearCore_batch (s : State) : s.clearCoreWindows.tbl.batch = Sparse.clear (fun k => decide (1 ≤ k) && decide (k ≤ 4)) s.tbl.batch := rfl
theorem count_clearCore (s : State) (b : Block) (a : Nat) : s.clearCoreWindows.count b a = s.count b a := by
  unfold State.count; cases b <;> rfl

theorem State.setMgt_parts (s : State) (k : MgtKind) : (s.setMgt k).mgt = { s.mgt with state := k } ∧ (∀ b o, (s.setMgt k).rd b o = s.rd b o) ∧ (∀ b o, (s.setMgt k).count b o = s.count b o) ∧
    Grows s (s.setMgt k) ∧ (s.mgt.state ≠ k → Raised 1600 (p1 s.mgt.state.code ++ (p1 k.code ++ p1 (s.fld .dev 8 11 8))) s (s.setMgt k)) := by
  unfold State.setMgt
  by_cases h : s.mgt.state = k
  · rw [if_pos h]; refine ⟨by rw [← h], fun _ _ => rfl, fun _ _ => rfl, Grows.refl s, fun n => absurd h n⟩
  · rw [if_neg h]
    exact ⟨rfl, fun b o => State.rd_of_regs rfl b o, fun b o => State.count_of_regs rfl b o, ⟨_, rfl⟩, fun _ => Raised.emit (t := { s with mgt := { s.mgt with state := k } }) ⟨[], (List.append_nil _).symm⟩ rfl _ _⟩

/-- What a reset of the management plane leaves (15_management_events_health.md R566-R568). -/
theorem State.mgtReset_parts (s : State) {c : Nat} (hc : c < 16) (hs : s.mgt.state ≠ .reset) :
    let u := s.mgtReset c
    u.mgt.state = .reset ∧ u.mgt.wdt = {} ∧ u.key.fw = none ∧ u.fld .dev 8 11 8 = c ∧ u.fld .dev 8 31 16 = Nat.min 0xFFFF (s.fld .dev 8 31 16 + 1) ∧
      (∀ l, l < 64 → u.lease l = if coreHeld (s.lease l) then none else s.lease l) ∧ (∀ w, 1 ≤ w → w ≤ 4 → u.batch w = []) ∧
        (∀ b a, (b, a) ≠ (Block.dev, 8) → u.rd b a = if coreWindow b a = true then resetWord b a else s.rd b a) ∧
          Raised 1600 (p1 s.mgt.state.code ++ (p1 0 ++ p1 c)) s u ∧ Counted [(.mgt, 0x400)] s u := by
  obtain ⟨n, hn⟩ : ∃ n, n = Nat.min 0xFFFF (s.fld .dev 8 31 16 + 1) := ⟨_, rfl⟩
  obtain ⟨a, ha⟩ : ∃ a, a = ((s.bump .mgt 0x400).setFld .dev 8 11 8 c).setFld .dev 8 31 16 n := ⟨_, rfl⟩
  obtain ⟨m1, m2, m3, m4, m5⟩ := a.setMgt_parts .reset
  obtain ⟨b, hb⟩ : ∃ b, b = a.setMgt .reset := ⟨_, rfl⟩
  rw [← hb] at m1 m2 m3 m4 m5
  obtain ⟨f1, f2, f3, f4⟩ := freeAll_parts (List.range 64) List.nodup_range b
  obtain ⟨d, hd⟩ : ∃ d, d = b.freeCoreLeases.clearCoreWindows := ⟨_, rfl⟩
  rw [← freeCore_eq] at f1 f2 f3 f4
  have hu : s.mgtReset c = { d with mgt := { d.mgt with wdt := {} }, key := { d.key with fw := none } } := by
    unfold State.mgtReset; dsimp only; rw [← hn, ← ha, ← hb, ← hd]
  have am : a.mgt = s.mgt := by rw [ha, State.setFld_mgt, State.setFld_mgt, State.bump_mgt]
  have dm : d.mgt = b.freeCoreLeases.mgt := by rw [hd, clearCore_mgt]
  have bl : ∀ k, b.lease k = s.lease k := fun k => lease_of (by rw [m1]; dsimp only; rw [am]) k
  have af : a.fld .dev 8 11 8 = c ∧ a.fld .dev 8 31 16 = n := by
    unfold State.fld; rw [ha, State.rd_setFld, if_pos ⟨rfl, rfl⟩, State.rd_setFld, if_pos ⟨rfl, rfl⟩]
    refine ⟨?_, ?_⟩
    · rw [field_setField_ne _ (by omega) (by omega) (by omega), field_setField _ (by omega) (by omega)]; omega
    · rw [field_setField _ (by omega) (by omega), hn]
      exact Nat.mod_eq_of_lt (Nat.lt_of_le_of_lt (Nat.min_le_left _ _) (by decide))
  have ar : ∀ x y, (x, y) ≠ (Block.dev, 8) → a.rd x y = s.rd x y := by
    intro x y h; rw [ha, State.rd_setFld, if_neg (fun k => h (by rw [← k.1, ← k.2])), State.rd_setFld, if_neg (fun k => h (by rw [← k.1, ← k.2])), State.rd_bump]
  have dr : ∀ x y, d.rd x y = if coreWindow x y = true then resetWord x y else a.rd x y := by
    intro x y; rw [hd, rd_clearCore, f2, m2]
  have ag : Grows s a := (State.bump_grows s .mgt 0x400).trans (by rw [ha]; exact ⟨[], (List.append_nil _).symm⟩)
  have as' : a.stamp = s.stamp := by rw [ha, State.stamp_setFld _ _ _ _ _ _ (by simp), State.stamp_setFld _ _ _ _ _ _ (by simp), State.stamp_bump]
  obtain ⟨v, hv⟩ : ∃ v, v = s.mgtReset c := ⟨_, rfl⟩
  rw [← hv] at hu
  have vr : ∀ x y, v.rd x y = d.rd x y := State.rd_of_regs (by rw [hu])
  have vc : ∀ x y, v.count x y = d.count x y := State.count_of_regs (by rw [hu])
  have vm : v.mgt = { d.mgt with wdt := {} } := by rw [hu]
  intro u
  simp only [u]
  rw [← hv, ← hn]
  refine ⟨?_, by rw [vm], by rw [hu], ?_, ?_, ?_, ?_, ?_, ?_, ?_⟩
  · rw [vm]; dsimp only; rw [dm]
    have : ∀ (ls : List Nat) (t : State), (ls.foldl freeOne t).mgt.state = t.mgt.state := by
      intro ls; induction ls with
      | nil => intro t; rfl
      | cons l ls ih =>
        intro t; rw [List.foldl_cons, ih]; unfold freeOne; split
        · rfl
        · split
          · unfold State.freeLease; split
            · rfl
            · dsimp only; split
              · unfold State.dropBatch; split
                · rfl
                · rfl
              · rfl
          · rfl
    rw [freeCore_eq, this, m1]
  · unfold State.fld; rw [vr, dr, if_neg (by simp [coreWindow])]; exact af.1
  · unfold State.fld; rw [vr, dr, if_neg (by simp [coreWindow])]; exact af.2
  · intro l hl
    rw [lease_of (s := b.freeCoreLeases) (by rw [vm]; dsimp only; rw [dm]), f1, bl]; simp [hl]
  · intro w h1 h2
    unfold State.batch
    have e : v.tbl = d.tbl := by rw [hu]
    rw [e, hd, clearCore_batch, Sparse.get_clear, if_pos (by simp [h1, h2])]
  · intro x y h
    rw [vr, dr, ar x y h]
  · have r1 : Raised 1600 (p1 s.mgt.state.code ++ (p1 0 ++ p1 c)) s b := by
      have := m5 (by rw [am]; exact hs)
      rw [am, af.1] at this
      exact Raised.from ag as' this
    have e : v.evt = d.evt := by rw [hu]
    exact (r1.grows f4).grows ((Grows.refl _).of_evt (by rw [e, hd, clearCore_evt]))
  · refine Counted.of_count ((Counted.refl s).bump .mgt 0x400) (fun x y => ?_)
    rw [vc, hd, count_clearCore, f3, m3, ha, State.count_setFld, State.count_setFld]

end Sys2Proof.Machine
end

