-- ==== Sys2Proof/Laws/Regs.lean ====
section
/-!
SUPPORT. What a register store leaves.
-/
namespace Sys2Proof.Machine

theorem State.store_plain (s : State) (p : Path) (b : Block) (off : Nat) (v : Word) (row : RegRow) (h : rowAt b off = some row) (hp : row.perPath = false)
    (hw : row.w1c = 0) (hs : ∀ w, storedAs b row.off w = w) : s.store p b off v = s.wr b off (s.rd b off &&& ~~~ word row.rw ||| v &&& word row.rw) := by
  have e : (s.rd b off &&& ~~~ word row.rw ||| v &&& word row.rw) &&& ~~~ (v &&& word row.w1c) = (s.rd b off &&& ~~~ word row.rw ||| v &&& word row.rw) := by
    rw [hw, show word 0 = 0#32 from rfl, BitVec.and_zero, BitVec.not_zero, BitVec.and_allOnes]
  unfold State.store State.storedWord
  simp only [h, Option.map_some, RegRow.key, hp, RegRow.written, hs]
  simp only [Bool.false_eq_true, if_false, e]

theorem wide_aux (s : State) (path : Path) (v : Word) (b : Block) (off m : Nat)
    (r1 : ∀ t : State, ∀ w, t.store path b off w = t.wr b off w)
    (r2 : ∀ t : State, ∀ w, t.store path b (off + 4) w = t.wr b (off + 4) (t.rd b (off + 4) &&& ~~~ word m ||| w &&& word m)) :
    let u := s.storeHigh path b off v
    u.rd b (off + 4) = (s.rd b (off + 4) &&& ~~~ word m ||| v &&& word m) ∧ (∀ w, (s.path path).stage = some (b.base + off, w) → u.rd b off = w ∧ (u.path path).stage = none) ∧
        ((s.path path).stage = none → u.rd b off = s.rd b off) ∧ Kept [(b, off), (b, off + 4)] s u ∧ (∀ q, q ≠ path → u.path q = s.path q) ∧
          Only [.regs b, .paths] s u := by
  intro u
  have hr : ∀ (t : State) c a, (t.unstage path (b.base + off)).rd c a = t.rd c a := by
    intro t c a; unfold State.unstage; repeat' split
    all_goals rfl
  have hu : u = ((s.wr b off (s.lowFor path (b.base + off) (s.rd b off))).unstage path (b.base + off)).wr b (off + 4) (s.rd b (off + 4) &&& ~~~ word m ||| v &&& word m) := by
    show State.storeHigh .. = _
    unfold State.storeHigh; dsimp only; rw [r1, r2, hr, State.rd_wr, if_neg (by omega)]
  refine ⟨?_, ?_, ?_, ?_, ?_, ?_⟩
  · rw [hu]; simp
  · intro w hw
    rw [hu]; constructor
    · rw [State.rd_wr, if_neg (by omega), hr]; simp [State.lowFor, hw]
    · simp [State.unstage, hw]
  · intro hw
    rw [hu, State.rd_wr, if_neg (by omega), hr]; simp [State.lowFor, hw]
  · intro c a hm
    simp only [List.mem_cons, Prod.mk.injEq, List.not_mem_nil, or_false, not_or, not_and] at hm
    rw [hu, State.rd_wr, if_neg (fun k => hm.2 k.1.symm k.2.symm), hr, State.rd_wr, if_neg (fun k => hm.1 k.1.symm k.2.symm)]
  · intro q hq
    rw [hu]; unfold State.unstage
    simp only [State.path_wr]
    split
    · split
      · rw [State.path_setPath, if_neg (Ne.symm hq)]; rfl
      · rfl
    · rfl
  · rw [only_iff_agree]
    cases b <;> simp [u, maskOf, Part.index, Block.index]

end Sys2Proof.Machine
end

