-- ==== Sys2Proof/Laws/Time.lean ====
section
/-!
SUPPORT. What the operations of the time keeper leave.
-/
namespace Sys2Proof.Machine

theorem State.dom_setDom (s : State) (d e : Nat) (v : Domain) : (s.setDom d v).dom e = if d = e then v else s.dom e := by
  unfold State.dom State.setDom; exact Sparse.get_put ..
theorem State.dom_of {s t : State} (h : t.tkp = s.tkp) (d : Nat) : t.dom d = s.dom d := by unfold State.dom; rw [h]
theorem State.ptp_of {s t : State} (h : t.tkp = s.tkp) (p : Nat) : t.ptp p = s.ptp p := by unfold State.ptp; rw [h]
theorem State.rd_setDom (s : State) (d : Nat) (v : Domain) (b : Block) (a : Nat) : (s.setDom d v).rd b a = s.rd b a := State.rd_of_regs rfl ..
theorem State.count_setDom (s : State) (d : Nat) (v : Domain) (b : Block) (a : Nat) : (s.setDom d v).count b a = s.count b a := State.count_of_regs rfl ..
theorem State.setDom_grows (s : State) (d : Nat) (v : Domain) : Grows s (s.setDom d v) := ⟨[], (List.append_nil _).symm⟩

/-- Sending a message, at once or after a wait, leaves the domains and the gPTP side of the ports. -/
theorem State.sendPtp_tkp (s : State) (p : Nat) (m : PtpMsg) : (s.sendPtp p m).tkp = s.tkp :=
  ((State.sendPtp_agree s p m (μ := 9071073689612) (σ := s) (by decide)).2 (Agree.refl _ _)).tkp (by decide)

/-- Sending on a list of ports. -/
theorem sends_tkp (f : Nat → PtpMsg) (L : List Nat) (s : State) : (L.foldl (fun (t : State) p => t.sendPtp p (f p)) s).tkp = s.tkp := by
  induction L generalizing s with
  | nil => rfl
  | cons p L ih => rw [List.foldl_cons, ih, State.sendPtp_tkp]

/-- What a change of a domain's state or of its grandmaster leaves as it was. -/
structure DomKept (s t : State) : Prop where
  rd : ∀ b a, t.rd b a = s.rd b a
  count : ∀ b a, (∀ d, d < 4 → a ≠ domReg d 0x90) → t.count b a = s.count b a
  time : ∀ e, (t.dom e).time = (s.dom e).time
  f : ∀ e, (t.dom e).f = (s.dom e).f
  sync : ∀ e, (t.dom e).sync = (s.dom e).sync
  heard : ∀ e, (t.dom e).heard = (s.dom e).heard
  sseq : ∀ e, (t.dom e).syncSeq = (s.dom e).syncSeq
  aseq : ∀ e, (t.dom e).announceSeq = (s.dom e).announceSeq
  off : ∀ e, (t.dom e).state = .disabled ↔ (s.dom e).state = .disabled
  port : t.tkp.port = s.tkp.port
  pps : t.tkp.pps = s.tkp.pps
  grows : Grows s t
theorem DomKept.refl (s : State) : DomKept s s :=
  ⟨fun _ _ => rfl, fun _ _ _ => rfl, fun _ => rfl, fun _ => rfl, fun _ => rfl, fun _ => rfl, fun _ => rfl, fun _ => rfl, fun _ => Iff.rfl, rfl, rfl, Grows.refl s⟩
theorem DomKept.trans {s t u : State} (h : DomKept s t) (k : DomKept t u) : DomKept s u :=
  ⟨fun b a => (k.rd b a).trans (h.rd b a), fun b a x => (k.count b a x).trans (h.count b a x), fun e => (k.time e).trans (h.time e), fun e => (k.f e).trans (h.f e),
    fun e => (k.sync e).trans (h.sync e), fun e => (k.heard e).trans (h.heard e), fun e => (k.sseq e).trans (h.sseq e), fun e => (k.aseq e).trans (h.aseq e),
    fun e => (k.off e).trans (h.off e), k.port.trans h.port, k.pps.trans h.pps, h.grows.trans k.grows⟩
theorem DomKept.setDom (s : State) (d : Nat) (v : Domain) (h : v.time = (s.dom d).time ∧ v.f = (s.dom d).f ∧ v.sync = (s.dom d).sync ∧ v.heard = (s.dom d).heard ∧
    v.syncSeq = (s.dom d).syncSeq ∧ v.announceSeq = (s.dom d).announceSeq ∧ (v.state = .disabled ↔ (s.dom d).state = .disabled)) : DomKept s (s.setDom d v) := by
  obtain ⟨h1, h2, h3, h4, h5, h6, h7⟩ := h
  refine ⟨fun _ _ => State.rd_setDom .., fun _ _ _ => State.count_setDom .., ?_, ?_, ?_, ?_, ?_, ?_, ?_, rfl, rfl, State.setDom_grows ..⟩ <;> intro e <;> rw [State.dom_setDom]
  all_goals split
  all_goals first | (rename_i k; subst k; assumption) | rfl
theorem DomKept.emit (s : State) (e : Nat) (p : List Byte) : DomKept s (s.emit e p) := by
  have k : ∀ d, (s.emit e p).dom d = s.dom d := fun d => State.dom_of (State.emit_tkp ..) d
  refine ⟨fun _ _ => State.rd_emit .., fun _ _ _ => State.count_emit .., ?_, ?_, ?_, ?_, ?_, ?_, ?_, by rw [State.emit_tkp], by rw [State.emit_tkp], State.emit_grows ..⟩ <;> intro d <;> rw [k]
theorem DomKept.bump (s : State) (d : Nat) (h : d < 4) : DomKept s (s.bump .tkp (domReg d 0x90)) := by
  have k : ∀ e, (s.bump .tkp (domReg d 0x90)).dom e = s.dom e := fun e => State.dom_of (State.bump_tkp ..) e
  refine ⟨fun _ _ => State.rd_bump .., fun b a x => ?_, ?_, ?_, ?_, ?_, ?_, ?_, ?_, by rw [State.bump_tkp], by rw [State.bump_tkp], State.bump_grows ..⟩
  · rw [State.count_bump, if_neg (fun q => x d h q.2.symm)]
  all_goals (intro e; rw [k])
theorem DomKept.firstLock (s : State) : DomKept s { s with tkp := { s.tkp with firstLock := true } } :=
  ⟨fun _ _ => State.rd_of_regs rfl .., fun _ _ _ => State.count_of_regs rfl .., fun _ => rfl, fun _ => rfl, fun _ => rfl, fun _ => rfl, fun _ => rfl, fun _ => rfl, fun _ => Iff.rfl, rfl, rfl,
    ⟨[], (List.append_nil _).symm⟩⟩
theorem State.enterDom_kept (s : State) (d : Nat) (new : DomState) (h : new ≠ .disabled) (k : (s.dom d).state ≠ .disabled) : DomKept s (s.enterDom d new) := by
  unfold State.enterDom; dsimp only
  split
  · exact DomKept.refl s
  · have k1 : DomKept s (s.setDom d ((s.dom d).entering new)) := by
      refine DomKept.setDom s d _ ?_
      unfold Domain.entering; cases new <;> first | exact absurd rfl h | exact ⟨rfl, rfl, rfl, rfl, rfl, rfl, by simp [k]⟩
    refine DomKept.trans ?_ (DomKept.emit ..)
    split
    · exact k1.trans (DomKept.firstLock _)
    · exact k1
/-- The state that a domain enters. -/
theorem State.enterDom_dom (s : State) (d : Nat) (new : DomState) : (s.enterDom d new).dom d = if (s.dom d).state = new then s.dom d else (s.dom d).entering new := by
  unfold State.enterDom; dsimp only
  split
  · rfl
  · rw [State.dom_of (State.emit_tkp ..)]
    split
    · exact (State.dom_setDom s d d _).trans (if_pos rfl)
    · exact (State.dom_setDom s d d _).trans (if_pos rfl)
theorem State.enterDom_ne (s : State) (d e : Nat) (new : DomState) (h : e ≠ d) : (s.enterDom d new).dom e = s.dom e := by
  unfold State.enterDom; dsimp only
  split
  · rfl
  · rw [State.dom_of (State.emit_tkp ..)]
    split
    · exact (State.dom_setDom s d e _).trans (if_neg (Ne.symm h))
    · exact (State.dom_setDom s d e _).trans (if_neg (Ne.symm h))
/-- Leaving a state raises E64 + d. -/
theorem State.enterDom_raised (s : State) (d : Nat) (new : DomState) (h : (s.dom d).state ≠ new) :
    ∃ r ∈ (s.enterDom d new).evt.offered, r.source = 64 + d ∧ r.payload = padTo 16 (p1 (s.dom d).state.code ++ (p1 new.code ++ leBytes 4 (s.rd .tkp (domReg d 0x20)).toNat)) := by
  unfold State.enterDom; dsimp only; rw [if_neg h]
  exact State.emit_mem ..

theorem State.followGm_kept (s : State) (d id steps : Nat) (self : Bool) (hd : d < 4) : DomKept s (s.followGm d id steps self) := by
  unfold State.followGm; dsimp only
  split
  · exact DomKept.refl s
  · rename_i hx
    obtain ⟨w, hw⟩ : ∃ w, w = (if (s.dom d).gm = id then s.setDom d { s.dom d with steps := steps }
      else ((s.setDom d { s.dom d with gm := id, steps := steps }).emit (68 + d) (beBytes 8 id ++ p4 steps)).bump .tkp (domReg d 0x90)) := ⟨_, rfl⟩
    rw [← hw]
    have k : DomKept s w := by
      rw [hw]; split
      · exact DomKept.setDom s d _ ⟨rfl, rfl, rfl, rfl, rfl, rfl, Iff.rfl⟩
      · exact ((DomKept.setDom s d { s.dom d with gm := id, steps := steps } ⟨rfl, rfl, rfl, rfl, rfl, rfl, Iff.rfl⟩).trans (DomKept.emit ..)).trans (DomKept.bump _ d hd)
    have n : (w.dom d).state ≠ .disabled := fun q => hx ((k.off d).1 q)
    split
    · split
      · exact k
      · exact k.trans (State.enterDom_kept _ _ _ (by simp) n)
    · split
      · exact k
      · exact k.trans (State.enterDom_kept _ _ _ (by simp) n)
    · split
      · exact k
      · exact k.trans (DomKept.setDom _ d _ ⟨rfl, rfl, rfl, rfl, rfl, rfl, Iff.rfl⟩)
    · split
      · exact k.trans (State.enterDom_kept _ _ _ (by simp) n)
      · exact k
    · exact k
theorem State.decideGm_kept (s : State) (d : Nat) (hd : d < 4) : DomKept s (s.decideGm d) := by
  unfold State.decideGm
  split
  · exact State.followGm_kept _ _ _ _ _ hd
  · split
    · exact DomKept.refl s
    · split
      · split
        · exact State.followGm_kept _ _ _ _ _ hd
        · exact DomKept.refl s
      · exact DomKept.refl s
theorem State.decideGms_kept (s : State) : DomKept s s.decideGms := by
  have : ∀ (L : List Nat) (t : State), (∀ d ∈ L, d < 4) → DomKept t (L.foldl (fun (t : State) d => t.decideGm d) t) := by
    intro L; induction L with
    | nil => exact fun t _ => DomKept.refl t
    | cons d L ih => intro t h; exact (State.decideGm_kept t d (h d (by simp))).trans (ih _ (fun e he => h e (by simp [he])))
  exact this _ s (fun d h => List.mem_range.1 h)
theorem State.domainOf_lt {s : State} {n d : Nat} (h : s.domainOf n = some d) : d < 4 ∧ (s.dom d).state ≠ .disabled := by
  unfold State.domainOf at h
  have h1 := List.find?_some h
  have h2 := List.mem_of_find?_eq_some h
  simp at h1 h2; exact ⟨h2, h1.1⟩
theorem State.followSync_kept (s : State) (d p c : Nat) (hd : d < 4) : DomKept s (s.followSync d p c) := by
  unfold State.followSync
  split
  · exact DomKept.refl s
  · split
    · split <;> exact State.followGm_kept _ _ _ _ _ hd
    · exact State.followGm_kept _ _ _ _ _ hd

/-- A rejected message. -/
theorem State.rejectPtp_parts (s : State) (p code : Nat) (h : code < 16) :
    (s.rejectPtp p code).fld .tkp (tkpPort p 4) 11 8 = code ∧ Kept [(.tkp, tkpPort p 4)] s (s.rejectPtp p code) ∧ Counted [(.tkp, tkpPort p 0x28)] s (s.rejectPtp p code) := by
  unfold State.rejectPtp
  refine ⟨?_, ((Kept.refl _ s).bump _ _).setFld (by simp) _ _ _, ((Counted.refl s).bump _ _).of_count (fun b a => State.count_setFld ..)⟩
  unfold State.fld; rw [State.rd_setFld, if_pos ⟨rfl, rfl⟩, field_setField _ (by omega) (by omega)]; exact Nat.mod_eq_of_lt h
theorem State.rejectPtp_tkp (s : State) (p code : Nat) : (s.rejectPtp p code).tkp = s.tkp := by
  unfold State.rejectPtp; rw [State.setFld_tkp, State.bump_tkp]
theorem State.headerReject_lt {s : State} {h : PtpHeader} {n c : Nat} {ts : List PtpTime} (k : s.headerReject h n ts = some c) : c < 16 := by
  unfold State.headerReject at k; repeat' split at k
  all_goals first | (cases k; omega) | cases k

end Sys2Proof.Machine
end

