-- ==== Sys2Proof/WellFormed.lean ====
section
/-!
DEFINITION. Which commands can reach the block: what the operands' types do not say of them already. Meanings do not depend on it; a claim
that does names it.
-/
namespace Sys2Proof

/-- The register space with its inspection alias ends here (00_scope.md R3, R13). -/
def spaceTop : Nat := 0x4000000

/-- The inspection alias begins here (R13). -/
def aliasBase : Nat := 0x2000000

/-- Is an access of `size` bytes at `addr` a naturally aligned 32-bit access (R4)? -/
def aligned (addr size : Nat) : Bool := size == 4 && addr % 4 == 0

/-- A CAN frame as the bus can carry it (08_can_controllers.md R319-R321): the identifier within its width, no more data than the format holds,
the XL fields within theirs, no remote frame in FD or XL. -/
def CanFrame.wf (f : CanFrame) : Bool :=
  decide (f.id < (if f.ide then 2 ^ 29 else 2 ^ 11)) &&
    (decide (f.data.length ≤ (if f.xlf then 2048 else if f.fdf then 64 else 8)) &&
      (decide (f.sdt < 256) && (decide (f.vcid < 256) && (decide (f.af < 2 ^ 32) &&
        (decide (f.rlen < 16) && !(f.rtr && (f.fdf || f.xlf)))))))

/-- A frame on a wire has at least a header and an FCS. -/
def WireFrame.wf (f : WireFrame) : Bool := decide (18 ≤ f.bytes.length)

/-- What FRAME_RECEIVE reports: the first part of a frame lies within it; a fragment has four check bytes (04_ethernet_ports.md R155, R166). -/
def RxEvent.wf : RxEvent → Bool
  | .whole f => f.wf
  | .first f n => f.wf && (decide (64 ≤ n) && decide (n ≤ f.bytes.length))
  | .more _ => true
  | .last => true
  | .fragment g => decide (g.check.length = 4)

/-- A read disturbance names a parcel that a slot can hold. -/
def glitchesWf (gs : List ReadGlitch) : Bool := gs.all (fun g => decide (0 < g.fails))

/-- Is the command one that can reach the block? -/
def Instr.wf : Instr → Bool
  | .loReadLatch p a w => decide (a < spaceTop) && (w.isNone || (decide (p = .host) && decide (a < 0x100000)))
  | .loWriteStage _ a _ => decide (a < spaceTop)
  | .hiWriteStore _ a _ => decide (a < spaceTop)
  | .registerWrite _ a _ => decide (a < spaceTop)
  | .regAccess _ a _ => decide (a < spaceTop)
  | .misalignedAccess _ a n _ => decide (a < spaceTop) && !aligned a n
  | .aliasWrite _ a _ => decide (aliasBase ≤ a) && decide (a < spaceTop)
  | .bootSelect gs => glitchesWf gs
  | .imgStage gs => glitchesWf gs
  | .frameReceive _ ev => ev.wf
  | .pauseFrameRx _ _ sa _ => decide (sa < 2 ^ 48)
  | .pfcFrameRx _ _ sa _ ts => decide (sa < 2 ^ 48) && (decide (ts.length = 8) && ts.all (fun t => decide (t < 2 ^ 16)))
  | .canFrameRx _ f => f.wf
  | .wakeFrameMatch _ f => f.all (fun x => x.wf)
  | .mvbTelegramRx _ _ _ data _ _ => decide (data.length ≤ 32)
  | .flumeItemHandoff _ _ bytes => decide (0 < bytes.length)
  | .dmaTxFetch _ ds => decide (0 < ds.length)
  | .dbgResponse r => decide (r.length = 100)
  | .islandReset => true
  | .islandResetRelease => true
  | .enableStep => true
  | .vcoreGood => true
  | .railTimeout => true
  | .railRetry => true
  | .deviceResetRelease => true
  | .brownOut _ _ => true
  | .resetPin => true
  | .deviceResetCmd => true
  | .mgtResetCmd => true
  | .vcoreLowDetect _ => true
  | .thermWarn _ => true
  | .vinLow _ => true
  | .pinVcoreMinRead _ => true
  | .firmwareBoot => true
  | .bootLoadDone => true
  | .stagingComplete => true
  | .imgArm => true
  | .imgAbort => true
  | .imgCommitNow => true
  | .imgConfigWrite _ _ _ => true
  | .agreementDeadline => true
  | .commitSwitch => true
  | .refusedHoldExpiry => true
  | .commitRoadworksDone => true
  | .keptConfigRelease => true
  | .syncRx _ _ => true
  | .followUpRx _ _ => true
  | .announceRx _ _ => true
  | .gmSyncSend _ => true
  | .announceSend _ => true
  | .announceReceiptTimeout _ _ => true
  | .signalingRx _ _ => true
  | .pdelayReqSend _ => true
  | .pdelayReqRx _ _ => true
  | .pdelayRespRx _ _ _ => true
  | .syncReceiptTimeout _ => true
  | .holdoverMaxExpiry _ => true
  | .tkpSet _ => true
  | .tkpResync _ => true
  | .domEnable _ _ => true
  | .domDisable _ _ => true
  | .domRoleWrite _ _ _ => true
  | .ppsInEdge _ => true
  | .ppsInLoss => true
  | .ppsOutEdge => true
  | .ppsOutWidthEnd => true
  | .portEnable _ => true
  | .portDisable _ => true
  | .pcsLinkUp _ _ _ => true
  | .trainTimeout _ => true
  | .pcsLinkLoss _ _ => true
  | .portHoldoffExpiry _ => true
  | .portRoadworksEnd _ => true
  | .pauseExpiry _ _ => true
  | .pauseWatchdogTrip _ => true
  | .pauseWdClear _ => true
  | .macControlTx _ => true
  | .pauseRefresh _ => true
  | .mmCfgWrite _ _ => true
  | .verifyTimeout _ => true
  | .verifyRx _ => true
  | .respondRx _ => true
  | .saWrite _ _ _ _ _ => true
  | .secCfgWrite _ _ => true
  | .beaconTx _ => true
  | .beaconRx _ => true
  | .plcaStatusLoss _ => true
  | .plcaTxOpportunity _ => true
  | .collision _ => true
  | .backoffExpiry _ => true
  | .fecAlarm _ _ _ _ => true
  | .classifyFrame _ => true
  | .learnAgeOut => true
  | .cbResetTimer _ => true
  | .tblInsert _ _ => true
  | .tblDelete _ _ => true
  | .tblRead _ _ => true
  | .tblReadIndex _ _ => true
  | .tblWriteIndex _ _ => true
  | .tblStage _ _ _ => true
  | .batchApply _ _ => true
  | .batchDiscard _ _ => true
  | .weirStagedWrite _ _ _ => true
  | .weirCfgWrite _ _ => true
  | .roundaboutSlot _ => true
  | .laneAckTimeout _ => true
  | .laneRemapDone => true
  | .laneSelftestDone _ _ => true
  | .bankAllocStopped _ => true
  | .bankDrainDone _ => true
  | .bankBistDone _ _ => true
  | .cisAcctSelWrite _ _ => true
  | .egressSelect _ => true
  | .frameTxStart _ => true
  | .frameTxEnd _ => true
  | .gateChange _ => true
  | .sLaneStaleDrop => true
  | .canArbitration _ _ => true
  | .canTxSuccess _ _ => true
  | .canBusError _ _ => true
  | .canIntegrationDone _ => true
  | .busOffHoldExpiry _ => true
  | .canRecoveryDone _ => true
  | .canRoadworksEnd _ => true
  | .canRecover _ => true
  | .canTxqFlush _ => true
  | .objTxrqWrite _ _ _ => true
  | .objTxcanWrite _ _ _ => true
  | .msgRead _ _ => true
  | .msgWrite _ _ => true
  | .msgPop _ _ => true
  | .msgPush _ _ => true
  | .msgReadClr _ _ => true
  | .sofcLatch _ _ => true
  | .refMessageDue _ => true
  | .refRoleTimeout _ => true
  | .spduFvWrite _ _ _ _ _ => true
  | .signalTimeout _ => true
  | .targetFramePeriod _ => true
  | .lookasideCryptoDone => true
  | .culvertRx => true
  | .culvertRewrap => true
  | .culvertHoldExpiry _ _ => true
  | .acfWaitExpiry _ => true
  | .acfRx => true
  | .gwySelWrite _ _ _ => true
  | .mvbLineIdle _ => true
  | .mvbBasicPeriod _ => true
  | .mvbMasterFrameRx _ _ _ _ => true
  | .mvbReplyTimeout _ => true
  | .mvbMasterTimeout _ => true
  | .mastershipOfferRx _ => true
  | .relinquish _ => true
  | .mdFlush _ => true
  | .mvbRoadworksEnd _ => true
  | .portRead _ _ => true
  | .portWrite _ _ => true
  | .portPop _ _ => true
  | .portPush _ _ => true
  | .flumeGrant _ _ => true
  | .flumeRead _ _ _ => true
  | .flumeMark _ _ => true
  | .flumeRewind _ _ => true
  | .flumeRelease _ _ => true
  | .flumeReleaseMark _ _ => true
  | .flumePeek _ _ _ => true
  | .flumeStale _ => true
  | .pointerMismatch _ _ _ => true
  | .postedWrite _ _ => true
  | .ackWindowWrite _ _ _ => true
  | .ackWriteComplete => true
  | .ackTimeout => true
  | .ackLong => true
  | .qpEnable _ _ => true
  | .qpDisable _ _ => true
  | .qpTailWrite _ _ _ => true
  | .dmaCplTimeout _ _ => true
  | .hostRxFrame _ => true
  | .queueEngineItem _ => true
  | .irqModerationExpiry _ => true
  | .msixUnmask _ => true
  | .pcieLinkDown _ => true
  | .pcieLinkUp _ _ => true
  | .hbrHoldoffExpiry => true
  | .mbxSend _ => true
  | .fwPing => true
  | .flashErase _ => true
  | .flashWrite _ => true
  | .flashRead _ => true
  | .keyGenerate _ => true
  | .keyImport _ _ => true
  | .keyExport _ _ => true
  | .keyDerive _ => true
  | .keyEcdh _ => true
  | .keyPubkey _ => true
  | .keyErase _ => true
  | .keySign _ => true
  | .keyAttest _ => true
  | .keyProvenance _ => true
  | .keyRandom _ => true
  | .keyRollback _ _ => true
  | .keyFwInstall _ _ => true
  | .keyProvision _ _ _ => true
  | .keyRevoke _ _ => true
  | .genAtLoadDone _ => true
  | .entropyHealthFail _ => true
  | .entropyStartupDone => true
  | .drbgReseed => true
  | .sleepEntry => true
  | .graceExpiry => true
  | .minOffExpiry => true
  | .wakePin _ _ => true
  | .alarmMatch => true
  | .wakeWindowExpiry _ => true
  | .lmpSleep => true
  | .lmpCancel => true
  | .lmpConfirm => true
  | .lmpRearm => true
  | .lmpLatch _ => true
  | .ringTtypExpiry _ => true
  | .ringTmaxExpiry _ => true
  | .ringMemberTimeout _ _ => true
  | .ringTwbsExpiry _ => true
  | .limphomeTerror _ => true
  | .feedOn _ => true
  | .feedOff _ => true
  | .feedClear _ => true
  | .feedRampDone _ _ => true
  | .feedTrip _ _ _ => true
  | .feedOcBlankExpiry _ => true
  | .feedCoolExpiry _ => true
  | .feedTripClearTimer _ => true
  | .feedOvervoltage _ => true
  | .feedOvRecover _ => true
  | .tfailToggle => true
  | .tfailInEdge => true
  | .tfailInLoss => true
  | .heartbeatTx => true
  | .identityRx _ _ _ => true
  | .heartbeatRx _ _ _ => true
  | .heartbeatLoss => true
  | .tandemArmRx _ _ _ => true
  | .tandemAbortRx _ _ _ => true
  | .resolveRequestRx _ _ _ => true
  | .resolveResultRx _ _ _ => true
  | .resyncReqRx _ _ _ => true
  | .switchRx _ _ _ => true
  | .learnRecordRx _ _ _ => true
  | .cbRecordRx _ _ _ => true
  | .ringRecordRx _ _ _ => true
  | .flumeRecordRx _ _ _ => true
  | .gwlastRecordRx _ _ _ => true
  | .bulkStartRx _ _ _ => true
  | .bulkEndRx _ _ _ => true
  | .digestRecordRx _ _ _ => true
  | .pairWaitExpiry => true
  | .tdmHoldoffExpiry => true
  | .epochFollowTimeout => true
  | .selfCheckDone _ _ => true
  | .resolveTimeout => true
  | .tdmSwitchover => true
  | .tdmResume => true
  | .tdmRetire => true
  | .tdmRejoin => true
  | .watchdogExpiry => true
  | .wdtKick _ _ => true
  | .mgtSramUe => true
  | .watcherCheck _ => true
  | .snapshot _ => true
  | .patrolWord _ _ _ => true
  | .rwStart => true
  | .rwRelease => true
  | .rwUnitOut => true
  | .rwTestDone _ => true
  | .tableRoadworksEnd _ => true
  | .parserRoadworksEnd => true
  | .leaseAcquire _ _ _ => true
  | .leaseRenew _ _ _ => true
  | .leaseRelease _ _ _ => true
  | .leaseExpiry _ => true
  | .dbgChallenge => true
  | .dbgLock => true
  | .idcode => true
  | .bypass _ => true
  | .samplePreload _ => true
  | .extest _ => true
  | .coreHalt _ _ => true
  | .coreResume _ _ => true
  | .coreStep _ _ => true
  | .gpioEdge _ _ => true
  | .captureEdge _ _ => true
  | .gpioOutWrite _ _ => true
  | .gpioSet _ _ => true
  | .gpioClr _ _ => true
  | .pinSwitchDone _ _ => true
  | .ledTimer _ => true
  | .mirrorIntervalExpiry _ => true
  | .aerError _ => true
  | .firstBusIdle _ => true

end Sys2Proof
end

