-- ==== Sys2Proof/Tests/Slice0.lean ====
section
/-!
SUPPORT. For every statement that has hypotheses, a concrete state and operands that meet them, clause by clause and at the ends of ranges (witness_<Statement>); an ill-formed command for each check of
WellFormed.lean, which the check refuses; a few numbers that the spec works out. A signature, a hash and a cipher text are written out, but evaluating them is beyond a small test; key generation, an MVB check sequence and the FCS fields of CAN XL are functions of Config without a body.
-/
namespace Sys2Proof.Machine

/-! ### Small states -/

/-- The state after reset with the island, the tandem, the management plane, a register or the key ledger changed. -/
def isl (f : LmpState → LmpState) : State := { State.reset with lmp := f State.reset.lmp }
def tdmS (f : TdmState → TdmState) : State := { State.reset with tdm := f State.reset.tdm }
def mgtS (f : MgtState → MgtState) : State := { State.reset with mgt := f State.reset.mgt }
def heldS : State := isl ({ · with held := true })
def ringS (r : Ring) : State := isl ({ · with ring := [(0, r)] })
def feedS (k : FeedKind) (trips : Nat) : State := isl ({ · with feed := [(1, { kind := k, trips := trips })] })
/-- A register of the reset state holds `v`. -/
def regS (b : Block) (off v : Nat) : State := State.reset.wr b off (word v)
/-- The host's key window names slot 8 as TGT and `src` as SRC, with an attribute word and a length; slot 16 holds a key with word `a`; a policy record allows slot 8 the low
bits of the attribute word from every origin; random numbers are ready. -/
def keyS (attrIn len src : Nat) (a : Word) : State :=
  let s : State := { State.reset with key := { slot := [(16, ⟨a, List.replicate 32 7⟩)], rng := .ok, due := [8] }, img := { State.reset.img with conf := some { recs := [⟨0x0F, 0xFFFF, 8, leBytes 4 attrIn ++ [0x1F]⟩] } } }
  ((s.wr .key (keyReg 0 8) (word (8 + 65536 * src))).wr .key (keyReg 0 0xC) (word attrIn)).wr .key (keyReg 0 0x10) (word len)
/-- The reset state with its request engine, a port, a channel, an MVB channel, a lane, a bank changed. -/
def rwS (st : RwKind) (kind index : Nat) : State := mgtS ({ · with state := .running, rw := ⟨st, kind, index, false⟩ })
def portS (p : Nat) (f : EthPort → EthPort) : State := { State.reset with net := { eth := [(p, f {})] } }
def chanS (n : Nat) (f : CanChan → CanChan) : State := { State.reset with can := { chan := [(n, f { kind := .errorActive })] } }
def mvbS (n : Nat) (f : MvbChan → MvbChan) : State := { State.reset with mvb := [(n, f {})] }
def laneS (n : Nat) (l : Lane) : State := { State.reset with xbr := { lane := [(n, l)] } }
def bankS (n : Nat) (b : Bank) : State := { State.reset with cis := { bank := [(n, b)] } }


/-! ### Witnesses: states and operands that meet each statement's hypotheses -/

theorem witness_EmptyQueueLetsTimePass : State.reset.pending = [] ∧ State.reset.lmp.held = false ∧ heldS.pending = [] ∧ heldS.lmp.held = true := by decide

/-- A _LO and a _HI register, an address of the alias at both its ends, and a path that holds a latch. -/
theorem witness_ReadsAndStrayAccesses :
    (State.reset.lmp.held = false ∧ locate 0x200010 = some (.tkp, 0x10) ∧ State.reset.serves .host .tkp 0x10 = true ∧ wideLow .tkp 0x10 = true) ∧
    (locate 0x200014 = some (.tkp, 0x14) ∧ wideLow .tkp 0x14 = false ∧ wideHigh .tkp 0x14 = true ∧ State.reset.serves (.core 3) .tkp 0x14 = true ∧ (State.reset.path .host).latch = none) ∧
    ((State.reset.setPath .host { latch := some (0x200010, 7, 0) }).path .host).latch = some (0x200010, 7, 0) ∧
    inAlias 0x2000000 = true ∧ inAlias 0x3FFFFFF = true ∧ inAlias 0x1FFFFFF = false := by decide

theorem witness_WritesStoreByWidthAndAccessCode :
    (State.reset.path .host).stage = none ∧ ((State.reset.setPath .host { stage := some (Block.tkp.base + 0x20, 5) }).path .host).stage = some (Block.tkp.base + 0x20, 5) ∧
    locate 0x1000000 = some (.xbr, 0) ∧ (rowAt .xbr 0).isSome = true ∧ storedAs .xbr 0 = id ∧ locate 0x4D0000 = none ∧ locate 0x100044 = some (.img, 0x44) ∧ rowAt .img 0x44 = none := by
  refine ⟨by decide, by decide, by decide, by decide, rfl, by decide, by decide, by decide⟩

theorem witness_IslandPowerUpFollowsStateTable :
    (isl ({ · with kind := .off })).lmp.kind = .off ∧
    (let s := isl ({ · with kind := .waking, next := 0, enables := 0 }); s.stepUsed 0 = true ∧ s.lmp.next ≤ 0 ∧ s.lmp.kind = .waking) ∧
    (let s := isl ({ · with kind := .waking, next := 5 }); s.stepUsed 5 = true ∧ s.lmp.next ≤ 5) ∧
    (let s := isl ({ · with kind := .sleeping }); s.stepUsed 5 = true ∧ 5 < s.lmp.next ∧ s.lmp.next ≤ 6 ∧ s.lmp.kind = .sleeping ∧ s.lmp.grace = false) ∧
    (isl ({ · with kind := .waking, next := 6 })).nextUp = none ∧ (isl ({ · with kind := .sleep, retry := true })).lmp.retry = true ∧ (isl ({ · with kind := .sleep })).lmp.kind = .sleep := by decide

theorem witness_SleepFollowsStateTable :
    (State.reset.lmp.held = false ∧ State.reset.lmp.kind = .run ∧ (ringS { kind := .normal }).ringOf 0 = { kind := .normal }) ∧
    (let s := isl ({ · with sleepReq := true }); s.lmp.kind = .run ∧ s.sleepCondition = true) ∧
    (let s := isl ({ · with kind := .sleeping, grace := true }); s.lmp.held = false ∧ s.lmp.kind = .sleeping ∧ s.lmp.grace = true ∧ s.flag .pin (feedReg 0 0) 30 = false) ∧
    ((regS .pin (feedReg 0 0) 0x40000000).flag .pin (feedReg 0 0) 30 = true) ∧
    (let s := isl ({ · with kind := .sleeping, next := 0, later := some (0x20, 9) }); s.lmp.grace = false ∧ s.nextDown = none ∧ s.lmp.later = some (0x20, 9)) ∧
    (let s := isl ({ · with kind := .sleeping, next := 0 }); s.nextDown = none ∧ s.lmp.later = none) := by decide

/-- Decoder 3 is armed, and counts its 31st and 32nd error; the pins and the alarm may wake. -/
theorem witness_WakeSourcesAndFalseWakes :
    (let s := (isl ({ · with kind := .sleep })).wr .lmp (0x11C + 0x20 * 3) 0x80000000; s.lmp.kind = .sleep ∧ s.flag .lmp (0x11C + 0x20 * 3) 31 = true ∧ s.lmp.errOff.contains 3 = false ∧
      Sparse.get (fun _ => 0) s.lmp.errs 3 < 31 ∧ s.flag .lmp (0x108 + 0x20 * 3) 29 = true ∧ s.wakeMatch 3 { id := 0, data := [] } = true) ∧
    (let s := ((isl ({ · with kind := .sleep, errs := [(3, 31)] })).wr .lmp (0x11C + 0x20 * 3) 0x80000000).wr .lmp (0x108 + 0x20 * 3) 0; 31 ≤ Sparse.get (fun _ => 0) s.lmp.errs 3 ∧
      s.flag .lmp (0x11C + 0x20 * 3) 31 = true ∧ s.flag .lmp (0x108 + 0x20 * 3) 29 = false) ∧
    (let s := (regS .lmp 0x80 0xC0000004).wr .lmp 0x8C 0xC0000004; s.mayWake 32 = true ∧ s.mayWake 35 = true ∧ true ≠ bit (s.rd .lmp 0x80) 28 ∧ s.lmp.pins.testBit 0 ≠ true) ∧
    (let s := (isl ({ · with clock := 390625 * 5 })).wr .lmp 0x48 5; s.alarm ≠ 0 ∧ s.alarm ≤ s.islandCount ∧ s.lmp.kind = .run ∧ s.lmp.held = false) ∧
    (let s := isl ({ · with windows := [35] }); s.lmp.windows.contains 35 = true ∧ s.falseWakes 35 + 1 ≤ s.fld .lmp 0x20 23 20 ∧ s.disarmed 35 = false) ∧
    (let s := (isl ({ · with windows := [35] })).wr .lmp 0x20 0x05020A32; s.fld .lmp 0x20 23 20 < s.falseWakes 35 + 1) := by decide

theorem witness_RingTimersFollowStateTable :
    (ringS { kind := .reset }).ringOf 0 = { kind := .reset } ∧ (let s := ringS { kind := .normal, token := true }; (s.ringOf 0).kind = .normal ∧ (s.ringOf 0).token = true) ∧
    (let s := ringS { kind := .prepSleep, token := true, agreed := true }; (s.ringOf 0).kind = .prepSleep ∧ (s.ringOf 0).agreed = true) ∧
    (let s := ringS { kind := .normal, members := [0, 9] }; 9 ≠ s.ringAddr 0 ∧ (s.ringOf 0).members.contains 9 = true) ∧
    (ringS { kind := .waitBusSleep }).ringOf 0 = { kind := .waitBusSleep } ∧ (ringS { kind := .limphome }).ringOf 0 = { kind := .limphome } := by decide

theorem witness_FeedsFollowStateTable :
    (State.reset.lmp.held = false ∧ (State.reset.feedOf 1).kind = .off ∧ State.reset.lmp.kind ≠ .off) ∧ ((feedS .on 0).feedOf 1).kind = .on ∧ ((feedS .latched 3).feedOf 1).kind = .latched ∧
    (((feedS .ramp 1).feedOf 1).kind = .ramp ∧ ¬(2 ≤ ((feedS .ramp 1).feedOf 1).trips)) ∧ (((feedS .ramp 2).feedOf 1).kind = .ramp ∧ 2 ≤ ((feedS .ramp 2).feedOf 1).trips) ∧
    ((feedS .cool 1).feedOf 1).kind = .cool ∧ ((feedS .ovHold 1).feedOf 1).kind = .ovHold := by decide

/-- The reset state with a multi-function pin changed, or held in device reset. -/
def pinS (n : Nat) (f : MfPin → MfPin) : State := { State.reset with mf := [(n, f {})] }

theorem witness_DeviceResetPinsAndSensors_reset :
    State.reset.lmp.held = false ∧ heldS.lmp.held = true ∧ heldS.lmp.kind = .run ∧ heldS.lmp.cause < 16 ∧ (isl ({ · with kind := .sleep })).lmp.kind ≠ .run := by decide

/-- VCORE at 719 mV and at 720 mV; the temperature one step beyond its limit; a GPIO pin, a capture pin and a pin in a switch. -/
theorem witness_DeviceResetPinsAndSensors_pins :
    State.reset.lmp.held = false ∧ (719 : Fin 65536).val < 720 ∧ 720 ≤ (720 : Fin 65536).val ∧ State.reset.sense.low = false ∧
    (4 * (State.reset.fld .pin 8 31 24 : Int) < signed 16 (4 * State.reset.fld .pin 8 31 24 + 1) ∧ State.reset.sense.hot = false ∧ State.reset.flag .pin 4 1 = false) ∧
    (let s := pinS 47 id; (s.pin 47).switching = false ∧ (s.pin 47).level ≠ true ∧ (s.pin 47).func = 0 ∧ bit (s.pinCfg 47) 22 = false) ∧
    (let s := (pinS 39 ({ · with func := 2 })).wr .pin (0x100 + 4 * 39) 0x80400000;
      (s.pin 39).switching = false ∧ (s.pin 39).level ≠ true ∧ (s.pin 39).func = 2 ∧ bit (s.pinCfg 39) 22 = true) ∧
    ((pinS 40 ({ · with switching := true })).pin 40).switching = true := by decide

/-- Slot 8 may take a fresh AES-128 key, an unwrapped one, a derived one from the sealing root or from a KDF key, an ECDH result. What IMPORT, ECDH and FW_INSTALL ask of AES, of
the curve and of signatures is too long to evaluate here. -/
theorem witness_KeyCommandsFillSlots :
    (let s := keyS 0 0 16 0; let r := s.keyReq 0; let w := attrFor r.attrIn 0; s.lmp.held = false ∧ s.targetEmpty r.tgt (attrAlg w) = true ∧ attrLegal w = true ∧ s.policyAllows r.tgt w = true ∧ s.rngOk = true) ∧
    (let s := keyS 0 24 16 0xC0100000; let r := s.keyReq 0; firstFail (s.importChecks r (attrFor r.attrIn 1)) = none) ∧
    (let s := (keyS 0 0 0x8000 0).wr .key 0 0x20; let r := s.keyReq 0; let w := attrFor r.attrIn 2; r.root = true ∧ s.flag .key 0 5 = true ∧ derivable (attrAlg w) = true ∧ s.policyAllows r.tgt w = true) ∧
    (let s := keyS 0 0 16 0xE0800000; let r := s.keyReq 0; r.root = false ∧ s.keyServes r.src = true ∧ attrAlg (s.keySlot r.src).attr ∈ [8, 9] ∧
      attrDistrict (attrFor r.attrIn 2) = attrDistrict (s.keySlot r.src).attr) ∧
    (let s := keyS 0x60800000 64 16 0xE0600000; let r := s.keyReq 0; let w := attrFor r.attrIn 2; s.isEcdh r.src = true ∧ r.len = pointBytes (attrAlg (s.keySlot r.src).attr) ∧ attrLegal w = true ∧
      s.policyAllows r.tgt w = true ∧ attrAlg w = 8) := by decide

theorem witness_KeyCommandsAnswerOrRefuse :
    (let s := { keyS 0 0 17 0x8C000000 with key := { (keyS 0 0 17 0).key with slot := [(8, ⟨0x8C000000, []⟩), (17, ⟨0xC0100000, []⟩)] } }; let r := s.keyReq 0; let a := (s.keySlot r.tgt).attr
      s.isWrapKey r.src = true ∧ s.keyUsable r.tgt = true ∧ s.wrapsLength r.src ((keyBytes (attrAlg a)).getD 0) = true ∧ attrDistrict a = attrDistrict (s.keySlot r.src).attr ∧ attrOrigin a = 1 ∧
      attrExportable a = true ∧ attrPair a = false) ∧
    (let s := (keyS 0 32 0 0x80400000).wr .key (keyReg 0 8) 16; let r := s.keyReq 0; s.isEcPair r.tgt = true ∧ s.isEcdsa r.tgt = true ∧ r.len = digestBytes (attrAlg (s.keySlot r.tgt).attr) ∧ s.rngOk = true ∧
      attrValid (s.keySlot r.tgt).attr = true ∧ attrOrigin (s.keySlot r.tgt).attr = 0 ∧ attrExportable (s.keySlot r.tgt).attr = false ∧ attrAttest (s.keySlot r.tgt).attr = false ∧ 1 ≤ r.len ∧ r.len ≤ 384) ∧
    (let s := keyS 0 0 16 0x82300000; let r := s.keyReq 0; s.keyUsable r.src = true ∧ attrAttest (s.keySlot r.src).attr = true) ∧
    (let s := State.reset; let r := s.keyReq 0; let w := attrFor r.attrIn 0; firstFail [(s.targetEmpty r.tgt (attrAlg w), 1), (attrLegal w && s.policyAllows r.tgt w, 3), (s.rngOk, 7)] = some 3 ∧
      firstFail (s.importChecks r (attrFor r.attrIn 1)) = some 8 ∧ firstFail [(s.isEcPair r.tgt, 2)] = some 2 ∧ firstFail [(s.keyUsable r.src, 2), (attrAttest (s.keySlot r.src).attr, 0xD)] = some 2 ∧
      firstFail [(decide (1 ≤ r.len) && decide (r.len ≤ 384), 8), (s.rngOk, 7)] = some 8 ∧ s.rollbackAllowed r.len = false) ∧
    (let s : State := { State.reset with fuses := { anchor := some [] }, img := { State.reset.img with conf := some { signer := 0 } } }; s.fuses.anchor ≠ none ∧ (s.keyReq 0).len ≤ 4 ∧ s.signerNeeded (s.keyReq 0).len = true) := by
  decide

theorem witness_FusesAndRandomNumbers :
    (let s := (keyS 0 4 16 0).wr .key (keyReg 0 0x10) 4; (s.keyReq 0).len ≤ 4 ∧ s.signerNeeded (s.keyReq 0).len = false ∧ s.fuses.anchor = none ∧ s.rngOk = true) ∧ State.reset.rngOk = false ∧
    (State.reset.checkFirmware 0x3400000 State.reset.idleBank).2 = none ∧
    (let s := keyS 0 0 16 0; s.key.due.contains 8 = true ∧ policyOf s.recs 8 = some (0, 0x1F) ∧ (0x1F : Nat).testBit 0 = true ∧ s.targetEmpty 8 (attrAlg (attrFor 0 0)) = true) := by decide

/-- A running plane with a running watchdog; with EN set; a plane in RESET whose banks hold nothing. That a bank verifies is a matter of SHA-384 and ECDSA, too long to evaluate here. -/
theorem witness_ManagementPlaneStateTable :
    (let s := (mgtS ({ · with state := .running, wdt := ⟨5, some 0⟩ })).wr .mgt 8 0x800003E8; s.lmp.held = false ∧ s.mgt.state = .running ∧ s.flag .mgt 8 31 = true ∧ s.mgt.wdt.since.isSome = true) ∧
    field 0xA55A 15 0 = 0xA55A ∧ field 0xA55B 15 0 ≠ 0xA55A ∧ State.reset.mgt.state = .reset ∧ State.reset.bootWinner = none ∧
    (∀ b, b < 2 → (State.reset.checkFirmware (bankOffset b) b).2 = none) := by decide

/-- Watcher 0 watches a counter with DELTA 0 in a window of 1 ms, and has raised its event or not; buffer 15 names a counter group, buffer 14 none. -/
theorem witness_WatchersAndSnapshots :
    (let s := ((regS .evt 0x20000 0x1C80400).wr .evt 0x20008 1); locate (s.rd .evt 0x20000).toNat = some (.mgt, 0x400) ∧ isCounter .mgt 0x400 = true ∧ 1000000 * s.fld .evt 0x20008 15 0 ≠ 0 ∧
      (Sparse.get (fun _ => ({} : Watch)) s.evt.watch 0).raised = false ∧ (s.rd .evt 0x20004).toNat ≤ 0 ∧ 0 < ((s.wr .evt 0x20004 1).rd .evt 0x20004).toNat) ∧
    (0x8000 : Fin 65536).val.testBit 15 = true ∧ (0x8000 : Fin 65536).val.testBit 14 = false ∧
    (let s := regS .mgt (snapReg 15 0) 0x1C80400; (groupAt (s.rd .mgt (snapReg 15 0)).toNat).isSome = true ∧ groupAt (s.rd .mgt (snapReg 14 0)).toNat = none) := by decide

theorem witness_PatrolScrubsAndChecks :
    State.reset.mgtStopped = true ∧
    (let s : State := { (mgtS ({ · with state := .running })).wr .mgt 0x14 0x80000000 with key := { slot := [(8191, ⟨0x80200000, []⟩)] } }; s.mgtStopped = false ∧ s.flag .mgt 0x14 31 = true ∧
      attrValid (s.keySlot 8191).attr = true ∧ isPairAlg (attrAlg (s.keySlot 8191).attr) = false ∧ s.tbl.sumBad = [] ∧ (1 : Word).toNat ≠ tableSum (s.table 30) ∧
      (let u : State := { s with tbl := { sumBad := [30] } }; u.tbl.sumBad = [30] ∧ (1 : Word).toNat ≠ tableSum (u.table 30) ∧ u.mgtStopped = false)) ∧
    (let s : State := { State.reset with tbl := { entries := [(30, [{ index := 7 }])] } }; (s.table 30).any (fun e => e.index == 7) = true) := by decide

/-- Lease 63 free, held by the host, held by another path; its timer runs. -/
theorem witness_LeasesLockAndExpire :
    State.reset.lmp.held = false ∧ (1 : Fin 65536).val ≠ 0 ∧ (State.reset.lease 63).map (fun a => a.holder) = none ∧
    (let s := mgtS ({ · with lease := [(63, some ⟨pathIndex .host, ⟨1000000, some 0⟩⟩)] }); (s.lease 63).map (fun a => a.holder) = some (pathIndex .host) ∧
      (s.lease 63).map (fun a => a.holder) ≠ some (pathIndex (.core 0)) ∧ (s.lease 63).map (fun a => a.holder) ≠ none ∧ (s.lease 63).any (fun a => a.timer.since.isSome) = true) := by decide

/-- Random numbers ready or not; the eighth refusal shuts out every response; an UNLOCKED port. That a response verifies is a matter of ECDSA, too long to evaluate here. -/
theorem witness_DebugPortAndScan_port :
    State.reset.lmp.held = false ∧ (keyS 0 0 0 0).rngOk = true ∧ State.reset.rngOk = false ∧
    (let s := mgtS ({ · with challenge := some [], refusals := 8 }); ¬∃ c, s.mgt.challenge = some c ∧ s.mgt.refusals < 8) ∧
    (mgtS ({ · with unlocked := true })).mgt.unlocked = true ∧ State.reset.mgt.unlocked = false ∧ 0 % 4 = 0 ∧ 2 * mirrorBase - 4 < 2 * mirrorBase ∧ (2 * mirrorBase - 4) % 4 = 0 := by
  refine ⟨by decide, by decide, by decide, ?_, by decide, by decide, by decide, by decide, by decide⟩
  intro s ⟨_, _, h⟩; exact absurd h (by decide)

theorem witness_DebugPortAndScan_scan :
    State.reset.lmp.held = false ∧ State.reset.mgt.unlocked = false ∧ (mgtS ({ · with unlocked := true })).mgt.unlocked = true ∧ Path.host ≠ .debug ∧
    (mgtS ({ · with state := .running })).mgt.state = .running ∧ State.reset.mgt.state ≠ .running := by decide

/-- A loader in RUNNING, with an empty configuration, in the given state and with what is staged. -/
def imgS (f : ImgState → ImgState) : State := { State.reset with img := f { State.reset.img with state := .running, conf := some {} } }

/-- No slot of an empty flash has its magic, so nothing is picked. That a slot authenticates is a matter of SHA-384 and ECDSA, too long to evaluate here. -/
theorem witness_BootSelectsAndLoads :
    (let s : State := { State.reset with key := { State.reset.key with booted := true } }; s.lmp.held = false ∧ s.img.state = .booting ∧ s.img.boot = none ∧ s.key.booted = true ∧
      s.slotReason .a ≠ 0 ∧ s.slotReason .b ≠ 0) ∧
    (let s : State := { State.reset with img := { State.reset.img with boot := some {} } }; s.img.state = .booting ∧ s.img.boot = some {}) := by decide

theorem witness_StagingFollowsStateTable :
    ((imgS id).lmp.held = false ∧ (imgS id).img.state = .running ∧ ((imgS id).wr .img 0x20 0).stageSlot = some .a ∧ (imgS id).slotReason .a ≠ 0 ∧
      (imgS ({ · with conf := none })).stageSlot = none) ∧
    (imgS ({ · with state := .staged })).img.state = .staged ∧
    (let s := imgS ({ · with state := .staging, outcome := some (0, some {}) }); s.img.state = .staging ∧ s.img.outcome = some (0, some {})) ∧
    (∀ e ∈ [1, 6], let s := imgS ({ · with state := .staging, outcome := some (e, none) }); s.img.state = .staging ∧ s.img.outcome = some (e, none)) := by decide

/-- A record of region 9 that opens a schedule with no interval fails admission; epoch 1 follows epoch 0, T lies at the lead or one ns before it, and at the last instant of ABORT. -/
def scheduleConf : Conf := { recs := [⟨9, 0, 0, List.replicate 16 0⟩] }

set_option maxRecDepth 20000 in
theorem witness_ArmingChecksItsRules :
    (let s := (imgS ({ · with state := .staged, staged := some {} })).wr .img 0x30 1; s.lmp.held = false ∧ s.img.state = .staged ∧ s.img.staged = some {} ∧ s.inPairing = false ∧ s.agreeing = false ∧
      s.sameLayout {} = true ∧ (s.rd .img 0x30).toNat = s.nextEpoch ∧ s.timeOk = true ∧ (s.admitConf []).2 = true ∧ (s.admitConf scheduleConf.recs).2 = false ∧
        s.commitDomain.time + s.minLead * 2 ^ 32 ≤ s.minLead * 2 ^ 32) ∧
    (let s := (imgS ({ · with state := .staged, staged := some {} })).wr .img 0 0x00010000; 0 * 2 ^ 32 < s.commitDomain.time + s.minLead * 2 ^ 32 ∧ (s.rd .img 0x30).toNat ≠ s.nextEpoch) ∧
    (imgS id).sameLayout { recs := [⟨0x11, 0xFFFF, 0, List.replicate 10 0 ++ [1]⟩] } = false ∧ (imgS id).img.state ≠ .staged ∧
    ({ imgS id with tkp := { State.reset.tkp with dom := [] } } : State).timeOk = false ∧
    (let s := (regS .img 0 2).wr .tdm 0 0; (({ s with tdm := { s.tdm with state := .paired } } : State).agreeing = true)) ∧
    (let a : ArmRecord := ⟨1, 200001, [], 0⟩; let s := imgS ({ · with state := .armed, armed := some a }); s.img.state = .armed ∧ s.img.armed = some a ∧ s.img.decision = none ∧
      s.commitDomain.time + 200000 * 2 ^ 32 < a.t * 2 ^ 32 ∧ 200000 * 2 ^ 32 ≤ s.commitDomain.time + 200000 * 2 ^ 32) := by decide

set_option maxRecDepth 20000 in
theorem witness_CommitSwitchesOrRefuses :
    (let a : ArmRecord := ⟨1, 0, [], 0⟩; let s := imgS ({ · with state := .armed, armed := some a, staged := some {} }); s.img.state = .armed ∧ s.img.decision = none ∧ s.img.armed = some a ∧
      s.img.staged = some {} ∧ (!s.agreeing || (s.img.decision).getD s.agreed) = true ∧ (s.admitConf ([] : List Rec)).2 = true ∧ (s.admitConf scheduleConf.recs).2 = false) ∧
    (let s0 := (imgS ({ · with state := .armed, decision := some false })).wr .img 0 2; let s : State := { s0 with tdm := { s0.tdm with state := .paired } };
      (!s.agreeing || (s.img.decision).getD s.agreed) = false) ∧
    (let s := imgS ({ · with state := .staged, refusedHold := true }); s.img.state = .staged ∧ s.img.refusedHold = true) ∧
    (let s := imgS ({ · with state := .committing }); s.img.state = .committing ∧ s.img.works = []) ∧ (imgS ({ · with works := [.parser] })).img.works ≠ [] := by decide

/-- Port 3 is UP and the slave port, or another role, of the primary domain with external roles; the domain is in a state with its time. -/
def ptpS (st : DomState) (role time : Nat) : State :=
  let s : State := { State.reset with net := { eth := [(3, { state := .up })] }, tkp := { State.reset.tkp with dom := [(0, { state := st, time := time })] } }
  (s.wr .tkp (domReg 0 0) 3).wr .tkp (domReg 0 0x38) (word (64 * role))
/-- A header of domain 0 with `n` bytes. -/
def hdrOf (n : Nat) : PtpHeader := ⟨1, 2, 0, n, n, 7, 99, 5, 0, -3⟩

/-- A header of majorSdoId 0 is rejected with 1. In LOCKED with a Sync noted at 0 a Follow_Up is on time; with origin 0 its offset is within OUTLIER, with origin 999999999 ns beyond it. -/
theorem witness_TimeMessagesAndPeerDelay_messages :
    (let s := ptpS .locked 2 0; s.ptpUp 3 = true ∧ s.headerReject { hdrOf 44 with majorSdo := 0 } 44 [] = some 1 ∧ s.headerReject (hdrOf 44) 44 [] = none ∧ s.domainOf 0 = some 0 ∧ s.role 0 3 = 2 ∧
      (s.dom 0).sync = none) ∧
    ((ptpS .locked 1 0).role 0 3 ≠ 2 ∧ ((ptpS .locked 2 0).wr .tkp (tkpPort 3 0) 0x10000).flag .tkp (tkpPort 3 0) 16 = true ∧ rateFits (2 ^ 62) = false) ∧
    (let y : PendingSync := ⟨7, 99, 5, 0, 0⟩; let x := (ptpS .locked 2 0).dom 0; let s := (ptpS .locked 2 0).setDom 0 { x with sync := some y }; let near : PtpTime := ⟨0, 0⟩; let far : PtpTime := ⟨0, 999999999⟩
      s.headerReject (hdrOf 76) 76 [near] = none ∧ s.role 0 3 = 2 ∧ (s.dom 0).sync = some y ∧ y.seq = (hdrOf 76).seq ∧ y.clock = (hdrOf 76).clock ∧ y.portNum = (hdrOf 76).portNum ∧
        s.rxTime 0 3 - y.rx < syncInterval (hdrOf 76).logInterval * 65536 ∧ rateFits 0 = true ∧ (s.dom 0).state = .locked ∧
          (((y.rx : Int) - (ptpTicks near + y.correction + 0 + (s.portDelay 3 + s.asymmetry 3) * 256)).natAbs ≤ 65536 * s.fld .tkp (domReg 0 0x14) 23 0) ∧
            (65536 * s.fld .tkp (domReg 0 0x14) 23 0 < ((y.rx : Int) - (ptpTicks far + y.correction + 0 + (s.portDelay 3 + s.asymmetry 3) * 256)).natAbs)) ∧
    (let s := ptpS .freeRun 2 0; s.headerReject (hdrOf 68) 68 [] = none ∧ 254 < 255 ∧ s.fuses.clockId ∉ ([] : List Nat) ∧ s.fuses.clockId ∈ [s.fuses.clockId]) := by decide

/-- A pair of responses that answers the request outstanding, with a delay of 0 or below -10 ns. -/
theorem witness_TimeMessagesAndPeerDelay_peers :
    (let s := (ptpS .freeRun 2 0).wr .tkp (tkpPort 3 0) 1; s.ptpUp 3 = true ∧ s.flag .tkp (tkpPort 3 0) 0 = true ∧ (s.ptp 3).answered = true ∧
      ((s.setPtp 3 { s.ptp 3 with answered := false }).ptp 3).answered = false ∧ (s.wr .tkp (tkpPort 3 0) 0).flag .tkp (tkpPort 3 0) 0 = false) ∧
    (let s := ptpS .freeRun 2 0; s.headerReject (hdrOf 54) 54 [⟨0, 0⟩] = none ∧ s.headerReject { hdrOf 54 with version := 1 } 54 [] = some 1 ∧ s.headerReject (hdrOf 44) 44 [] = none) ∧
    (let s := (ptpS .freeRun 2 0).setPtp 3 { req := some (7, 0) }; (s.ptp 3).req = some (7, 0) ∧ (s.rxTime s.primary 3 - 0 - (ptpTicks ⟨0, 0⟩ - ptpTicks ⟨0, 0⟩) - 0 - 0) / 2 ≥ -655360 ∧
      (s.rxTime s.primary 3 - 0 - (ptpTicks ⟨0, 999999999⟩ - ptpTicks ⟨0, 0⟩) - 0 - 0) / 2 < -655360) := by decide

theorem witness_DomainsFollowStateTable :
    (ptpS .locked 2 0).dom 0 = { state := .locked } ∧ (ptpS .acquiring 2 0).dom 0 = { state := .acquiring } ∧
    (let s := (ptpS .acquiring 2 0).setDom 0 { state := .acquiring, lockedSince := true }; (s.dom 0).state = .acquiring ∧ (s.dom 0).lockedSince = true) ∧
    ((ptpS .acquiring 2 0).selfSelected 0 = false ∧ (ptpS .acquiring 2 0).extRoles 0 = true) ∧ ((ptpS .holdover 2 0).wr .tkp 0x50 1).fld .tkp 0x50 15 0 ≠ 0 ∧ ((ptpS .holdover 2 0).wr .tkp 0x50 0).fld .tkp 0x50 15 0 = 0 ∧
    ((ptpS .holdover 2 0).lmp.held = false ∧ (State.reset.dom 3).state = .disabled ∧ (ptpS .grandmaster 0 0).primary = 0 ∧ (ptpS .grandmaster 0 0).firstLock = false ∧ (ptpS .grandmaster 0 0).armedOn 0 = false) ∧
    (({ ptpS .freeRun 0 0 with tkp := { State.reset.tkp with firstLock := true } } : State).firstLock = true) ∧
    (let s := ptpS .freeRun 0 1; s.rd64 .tkp 0x20 * 2 ^ 32 < (s.dom 0).time) ∧ (let s := ptpS .freeRun 0 0; (s.dom 0).time ≤ s.rd64 .tkp 0x20 * 2 ^ 32) ∧
    (({ ptpS .freeRun 0 0 with img := { State.reset.img with armed := some ⟨1, 0, [], 0⟩ } } : State).armedOn 0 = true) ∧
    (State.reset.domCfgFits 3 (setBit 0xFFFF 0 true &&& 0xFF0F) = false ∧ State.reset.domCfgFits 3 (setBit 0x7F00 0 true &&& 0xFF0F) = true ∧ 3 ≠ State.reset.primary) ∧
    ((State.reset.setDom 3 { state := .freeRun }).dom 3).state ≠ .disabled ∧ 1 < slaves 0xA 0 ∧ slaves 2 0 ≤ 1 ∧ slaves 0 (2 &&& 0x3FFFFFF) ≤ 1 ∧
    ((ptpS .grandmaster 0 0).dom 0).state = .grandmaster ∧ ((ptpS .locked 0 0).dom 0).state ≠ .grandmaster := by decide

theorem witness_PpsStampsAndDisciplines :
    State.reset.fld .tkp 0x30 1 0 = 0 ∧ (let s := regS .tkp 0x30 1; s.flag .tkp 0x30 4 = false ∧ s.fld .tkp 0x30 1 0 = 1 ∧ s.tkp.pps.lost = false ∧ s.flag .tkp 0x30 4 ≠ true) ∧
    (let s := (regS .tkp 0x30 2).setDom 0 { time := 65536 * (32768 * 1000000000) }; let s1 : State := { s with tkp := { s.tkp with pps := { inRow := s.lockCount 0 } } }; s1.fld .tkp 0x30 1 0 = 2 ∧
      s1.lockCount 0 ≤ s1.tkp.pps.inRow ∧
        65536000 * s1.fld .tkp 0x30 31 16 < (fromSecond ((((s1.dom 0).time / 65536 : Nat) : Int) - 65536 * signed 32 (s1.rd .tkp 0x4C).toNat)).natAbs) ∧
    (let s : State := { regS .tkp 0x30 2 with tkp := { State.reset.tkp with pps := { ok := true } } }; s.tkp.pps.ok = true ∧ (s.dom 0).state ≠ .grandmaster ∧
      ((s.setDom 0 { state := .grandmaster }).dom 0).state = .grandmaster) ∧
    (let s := regS .tkp 0x34 1; s.flag .tkp 0x34 0 = true ∧ s.flag .tkp 0x34 1 = false ∧ s.tkp.pps.outSince = none) ∧ (regS .tkp 0x34 0).flag .tkp 0x34 0 = false ∧
    (let s := regS .tkp 0x34 3; s.flag .tkp 0x34 1 = true ∧ (s.dom (s.fld .tkp 0x34 5 4)).state ∉ [.locked, .holdover, .grandmaster] ∧
      ((s.setDom 0 { state := .holdover }).dom (s.fld .tkp 0x34 5 4)).state ∈ [.locked, .holdover, .grandmaster]) ∧
    (({ State.reset with tkp := { State.reset.tkp with pps := { outSince := some 0 } } } : State).tkp.pps.outSince = some 0) := by decide

/-- A frame of 64 bytes with EtherType 0 and its FCS. -/
def goodFrame : WireFrame := ⟨List.replicate 60 0 ++ fcsOf (List.replicate 60 0), false⟩
/-- Port `p` UP with register `off` holding `v`. -/
def portR (p off v : Nat) : State := (portS p ({ · with state := .up })).wr .eth (ethReg p off) (word v)

theorem witness_LinkStatesAndEpochs :
    State.reset.lmp.held = false ∧ (State.reset.port 28).state = .disabled ∧ (regS .eth (ethReg 28 0) 10).buildMode 28 = 10 ∧ (regS .eth (ethReg 3 0) 8).buildMode 3 = 8 ∧ State.reset.buildMode 3 = 0 ∧
    (∀ st ∈ [LinkState.up, .standby, .down, .training, .roadworks], ((portS 28 ({ · with state := st })).port 28).state = st) ∧ (portS 28 ({ · with verify := .initial })).tdm.active = true ∧
    0 < speedRate 1 ∧ speedRate 1 ≤ buildRate 10 ∧ buildRate 10 < speedRate 7 := by decide

set_option maxRecDepth 40000 in
/-- One frame for each failing check: a code error, 63 bytes, 64 bytes beyond MAX_LEN, a wrong FCS; and one that passes. -/
theorem witness_ReceivedFramesChecked :
    (let s := portR 3 0x14 1518; s.receiving 3 = true ∧ (s.port 3).rx = none ∧ (s.port 3).state = .up ∧ s.laneServed (laneOf 3) = true ∧ s.macsecBuilt 3 = false ∧
      s.fld .eth (ethReg 3 0x14) 13 0 = 1518 ∧ (portR 3 0x14 63).fld .eth (ethReg 3 0x14) 13 0 = 63) ∧
    State.reset.receiving 3 = false ∧ ((portS 3 ({ · with state := .standby })).receiving 3 = true) ∧ (({ laneS (laneOf 3) { state := .out } with net := { eth := [(3, { state := .up })] } } : State).laneServed (laneOf 3) = false) ∧
    goodFrame.bytes.length = 64 ∧ goodFrame.bytes.drop 60 = fcsOf (goodFrame.bytes.take 60) ∧ goodFrame.codeErr = false ∧ etherType (goodFrame.bytes.take 60) ≠ 0x8808 ∧ etherType (goodFrame.bytes.take 60) ≠ 0x88B6 ∧
    isGptp (goodFrame.bytes.take 60) = false ∧ (List.replicate 64 (0 : Byte)).drop 60 ≠ fcsOf (List.replicate 60 0) ∧
    (let r : RxFrame := ⟨1, goodFrame.bytes, false, 64, 1518, {}, 0, true⟩; let s := portS 3 ({ · with state := .up, rx := some r }); (s.port 3).rx = some r ∧ r.given = true ∧ r.codeErr = false) := by decide

theorem witness_FragmentsReassembled :
    (let s := portR 3 0x50 1; s.receiving 3 = true ∧ s.flag .eth (ethReg 3 0x50) 0 = true ∧ (s.port 3).assembly = none) ∧ (portR 3 0x50 0).flag .eth (ethReg 3 0x50) 0 = false ∧
    (let a : Assembly := ⟨[1, 2], 3, 3, 1518, {}, 0⟩; let s := portS 3 ({ · with state := .up, assembly := some a }); (s.port 3).assembly = some a ∧ a.number = (3 : Fin 4).val ∧ a.next = (3 : Fin 4).val ∧
      a.number ≠ (0 : Fin 4).val) ∧
    mcrcOf [1, 2] ≠ fcsOf [1, 2] := by decide

/-- A port with PFC off or on, paused or not, whose account wants XOFF (256 where PFC is off) or no longer does. -/
theorem witness_PauseAndFlowControl :
    (let s := portR 3 0x40 0x8000; (s.port 3).state = .up ∧ 64 ≤ s.fld .eth (ethReg 3 0x14) 13 0 ∧ isSPort 3 = false ∧ isSPort 21 = true ∧ s.flag .eth (ethReg 3 0x40) 15 = true ∧ s.fld .eth (ethReg 3 0x44) 7 0 = 0 ∧
      (s.port 3).ignorePause = false ∧ (255 : Fin 65536).val < 256 ∧ 256 ≤ (256 : Fin 65536).val) ∧
    (portR 3 0x44 1).fld .eth (ethReg 3 0x44) 7 0 ≠ 0 ∧ ((portS 3 ({ · with ignorePause := true })).port 3).ignorePause = true ∧ (portR 3 0x40 0).flag .eth (ethReg 3 0x40) 15 = false ∧
    (let s := (portS 3 ({ · with state := .up, linkPaused := true })).wr .eth (ethReg 3 0x40) 1; s.fld .eth (ethReg 3 0x40) 11 0 ≠ 0 ∧ (s.port 3).linkPaused = true) ∧ (portR 3 0x40 0).fld .eth (ethReg 3 0x40) 11 0 = 0 ∧
    (let s : State := { ((portR 3 0x40 0x6000).wr .eth (ethReg 3 0x18) 1).wr .eth (ethReg 3 0x1C) 1 with cis := { xoff := [(3, 4)] } }; s.xoffWanted 3 = 256 ∧ s.controlFits 3 = true ∧ s.xoffWanted 3 ≠ (s.port 3).xoffSent ∧
      (s.wr .eth (ethReg 3 0x44) 0x400).xoffWanted 3 = 4 ∧ s.flag .eth (ethReg 3 0x40) 13 = true) ∧
    (let s := ((portS 3 ({ · with state := .up, xoffSent := 256 })).wr .eth (ethReg 3 0x18) 1).wr .eth (ethReg 3 0x1C) 1; s.xoffWanted 3 = 0 ∧ s.controlFits 3 = true ∧ (s.port 3).xoffSent = 256 ∧
      (s.wr .eth (ethReg 3 0x40) 0).flag .eth (ethReg 3 0x40) 13 = false ∧ s.xoffWanted 3 &&& (s.port 3).xoffSent = 0) := by decide

theorem witness_MergeVerificationAndSecurityRegisters :
    State.reset.lmp.held = false ∧ isSPort 21 = true ∧ isSPort 20 = false ∧ bit 1 0 = true ∧ bit 1 1 = false ∧ bit 3 1 = true ∧
    (let s := portR 3 0 0x100; s.flag .eth (ethReg 3 0) 8 = true ∧ (s.port 3).verify = .disabled ∧ (s.port 3).state = .up) ∧
    (∀ v ∈ [VerifyState.initial, .verifying, .succeeded], ((portS 3 ({ · with verify := v })).port 3).verify = v) ∧
    (let s := regS .eth (saOffset 3 (.tx 3)) 0x80000000; s.flag .eth (saOffset 3 (.tx 3)) 31 = true ∧ s.anySa 3 = true ∧ s.flag .eth (saOffset 3 (.rx 15 3)) 31 = false ∧ State.reset.anySa 3 = false) ∧
    (let s := portS 3 ({ · with verify := .verifying, tries := 2 }); (s.port 3).tries < 3 ∧ 3 ≤ ((portS 3 ({ · with verify := .verifying, tries := 3 })).port 3).tries) := by decide

/-- Port 21 as coordinator, as follower, with a frame on the wire or in back-off; a build with and without FEC. -/
theorem witness_MultidropAndFecAlarm :
    (let s := portR 21 0x80 0x80000000; s.coordinator 21 = true ∧ isSPort 21 = true ∧ (s.port 21).backoff = false) ∧
    (let s := portR 21 0x80 0x80000001; s.coordinator 21 = false ∧ (s.port 21).state = .up ∧ s.flag .eth (ethReg 21 0x80) 31 = true ∧ s.plcaMaySend 21 = false) ∧
    ((portS 21 ({ · with plca := true })).port 21).plca = true ∧
    (let w : OnWire := { copy := 5, cls := 0, express := true, bytes := [], start := 0 }; let s : State := { State.reset with net := { egr := [(21, { wire := [w], attempts := 14 })] } };
      (s.egress 21).active = some w ∧ (s.egress 21).attempts + 1 < 16 ∧
        16 ≤ ((({ s with net := { egr := [(21, { wire := [w], attempts := 15 })] } } : State).egress 21).attempts + 1)) ∧
    (let c : Copy := ⟨5, 1, 21, 21, 3, .port 21, false, none, 0, false⟩; let s : State := { portS 21 ({ · with state := .up }) with net := { eth := [(21, { state := .up, backoff := true })], sbuf := [⟨5, 0⟩] }, cis := { copies := [c], held := [{ frame := { id := 1 } }] } };
      (s.port 21).backoff = true ∧ (s.egress 21).active = none ∧ s.macsecBuilt 21 = false ∧ s.net.sbuf = [⟨5, 0⟩] ∧ s.copyOf 5 = some c ∧ c.dest = .port 21) ∧
    (let c : Copy := ⟨5, 1, 21, 21, 3, .port 21, false, none, 1, false⟩; let s : State := { (regS .eth (ethReg 21 0x80) 0x80000000) with net := { eth := [(21, { state := .up, speed := 1 })], sbuf := [⟨5, 0⟩] }, cis := { copies := [c], held := [{ frame := { id := 1 } }] } };
      s.plcaMaySend 21 = true ∧ s.eligible 21 s.nowNs 3 = true ∧ s.groupOf 21 3 = 0 ∧ s.windowFor 21 3 = 0xFFFFFFFF) ∧
    (portR 3 0 0).fld .eth (ethReg 3 0) 5 4 = 0 ∧ (portR 3 0 0x10).fld .eth (ethReg 3 0) 5 4 ≠ 0 := by decide

/-- Port 3 with MACsec: an EAPOL frame bypasses; an untagged, a malformed and a well-formed tagged frame; a channel whose SA is disabled, enabled without a key, enabled with one. What AES-GCM
answers is too long to evaluate here. -/
def secS (attr : Word) (nextPn : Nat) : State :=
  let s : State := { State.reset with key := { slot := [(9, ⟨attr, List.replicate 32 1⟩)] } };
  (((((s.wr .eth (ethReg 3 0) 0x80).wr .eth (ethReg 3 0x60) 0x202).wr .eth (rxSc 3 0) 0x80000000).wr .eth (rxSa 3 0 0) 0x80000009).wr .eth (txSa 3 0) 0x80000009).wr .eth (txSa 3 0 + 8) (word nextPn)
/-- A frame of EtherType 0x88E5 with this TCI byte and 64 bytes after a SecTAG of 8 bytes, or more. -/
def tagged (tci : Byte) : List Byte := List.replicate 12 0 ++ ([0x88, 0xE5, tci, 0, 0, 0, 0, 1] ++ List.replicate 80 0)

theorem witness_MacsecFollowsTable :
    (let s := secS 0 0; s.macsecBuilt 3 = true ∧ s.macsecOn 3 = true ∧ s.macsecBypass 3 (List.replicate 12 0 ++ [0x88, 0x8E]) = true ∧ s.macsecBypass 3 (tagged 0) = false ∧ etherType (tagged 0) = 0x88E5 ∧
      etherType (List.replicate 60 0) ≠ 0x88E5 ∧ (secTagOf (tagged 0x80)).ok (tagged 0x80).length = false ∧ (secTagOf (tagged 0x0C)).ok (tagged 0x0C).length = true ∧ s.scOf 3 (secTagOf (tagged 0x0C)) = some 0 ∧
        s.flag .eth (rxSa 3 0 0) 31 = true ∧ (secTagOf (tagged 0x0D)).tci % 4 = 1 ∧ s.flag .eth (rxSa 3 0 1) 31 = false ∧ s.saKey 3 (rxSa 3 0 0) 1 = none ∧ s.saKey 3 (txSa 3 0) 0 = none) ∧
    (let s := secS 0 0; s.flag .eth (txSa 3 0) 31 = true ∧ s.rd64 .eth (txSa 3 0 + 8) = 0 ∧ s.xpn 3 = false ∧ (secS 0 1).rd64 .eth (txSa 3 0 + 8) ≠ 0 ∧ (secS 0 1).rd64 .eth (txSa 3 0 + 8) < 2 ^ 32) := by decide

/-- A frame of 60 zeros waits for lane 3, and a graph whose one node has this role, LEN_BASE and flags; no districts, or district 0 with weirs 4 and 5. -/
def prsS (role base : Nat) (bs : List Byte) (districts : List Rec) : State :=
  { State.reset with prs := { wait := [{ id := 1, bytes := bs, lane := 3 }] }, img := { State.reset.img with conf := some { recs := ⟨2, 0xFFFF, 0, padTo 64 (leBytes 1 role ++ ([0] ++ (leBytes 2 base ++ [0xFF])))⟩ :: districts } } }

set_option maxRecDepth 40000 in
/-- A zero byte has an IHL of 0, which is conflict code 5; a node of 300 bytes truncates a frame of 400; a node of 14 does neither. -/
theorem witness_FramesMeetPolicies :
    State.reset.prs.wait.find? (fun f => f.lane == 3) = none ∧
    (let s := prsS 5 0 (List.replicate 60 0) []; let f : Frame := { id := 1, bytes := List.replicate 60 0, lane := 3 }; let p := parse (graphOf (s.recsAt f.epoch)) f.bytes
      s.prs.wait.find? (fun f => f.lane == 3) = some f ∧ s.prs.roadworks = false ∧ p.conflict f.bytes.length = 5 ∧ s.lencPolicy f = false ∧ s.truncPolicy f = 0) ∧
    (let s := prsS 10 300 (List.replicate 400 0) []; (parse (graphOf (s.recsAt 0)) (List.replicate 400 0)).truncated = true ∧ (parse (graphOf (s.recsAt 0)) (List.replicate 400 0)).conflict 400 = 0) ∧
    (let s := prsS 10 14 (List.replicate 60 0) []; let p := parse (graphOf (s.recsAt 0)) (List.replicate 60 0); p.conflict 60 = 0 ∧ p.truncated = false ∧ s.districtAt 0 0 = none) ∧
    (({ State.reset with prs := { roadworks := true } } : State).prs.roadworks = true) := by decide

theorem witness_DistrictsAreIsolated :
    (prsS 10 14 [] []).prs.wait.find? (fun f => f.lane == 3) = some { id := 1, lane := 3 } ∧
    (let e : TblEntry := { index := 0, district := 7, key := [1] }; findEntry .exact [e] 7 [1] 0 [] = some e ∧ findEntry .exact [e] 6 [1] 0 [] = none) ∧
    (let e : TblEntry := { index := 0, district := 7, dmask := 0, key := [1], mask := [0xFF] }; findEntry .ternary [e] 6 [1] 0 [] = some e) ∧ (0x3FFF : Nat) ≠ 0xFFFF := by decide

/-- Weir 16383 in RFC 2698 and in RFC 4115 mode, colour-aware; a staged PIR that would fall below CIR. -/
theorem witness_WeirsMeterAndStage :
    bit 0x80000000 31 = true ∧ bit 0x40000000 31 = false ∧ bit 0x40000000 30 = true ∧ State.reset.lmp.held = false ∧
    (let R := (State.reset.weirRates 16383); let l := State.reset.weir 16383; Nat.min (R.burst1 * 1000000) (l.l1 + R.rate1 * 0) < (((2 ^ 40 : Nat) : Int) + signed 7 0).toNat * 1000000 ∧
      (((0 : Nat) : Int) + signed 7 0).toNat * 1000000 ≤ Nat.min (R.burst1 * 1000000) (l.l1 + R.rate1 * 0)) ∧
    (let s : State := { State.reset with prs := { stage := [(16383, { rate1 := some 5, rate2 := some 4 })] } }; let g := s.weirStage 16383; field (g.rate2.getD 0) 23 0 < field (g.rate1.getD 0) 23 0) ∧
    (let g := State.reset.weirStage 16383; ¬field (g.rate2.getD (State.reset.rd .prs (weirReg 16383 8))) 23 0 < field (g.rate1.getD (State.reset.rd .prs (weirReg 16383 4))) 23 0) := by decide

/-- Table 0 is free, leased by the host or by another path, under roadworks; table 31 does not exist; table 30 is an index table. An entry held and one not held, a batch of one write. -/
def tblS (es : List TblEntry) (holder : Option Nat) (batch : List TblWrite) : State :=
  let s : State := mgtS ({ · with lease := [(0, holder.map (fun h => ⟨h, ⟨1000000, some 0⟩⟩))] })
  { s with tbl := { entries := [(0, es)], batch := [(0, batch)] } }

set_option maxRecDepth 40000 in
theorem witness_TablesUpdatedAtRunTime :
    State.reset.lmp.held = false ∧ State.reset.tblSize 31 = none ∧ (tblS [] (some 1) []).leaseHolder 0 = some 1 ∧ (tblS [] none []).tblRefusal 0 0 = none ∧ (tblS [] (some 0) []).tblRefusal 0 0 = none ∧
    (({ State.reset with tbl := { works := [0] } } : State).tbl.works.contains 0 = true) ∧ opFits 5 .learning = false ∧ opFits 1 .learning = true ∧ opFits 5 (tableKind 30) = true ∧
    (let s := regS .tbl (winReg 0 0xC) 0; let e := s.winEntry 0 0; s.writeRefusal 0 1 e = none ∧ s.writeRefusal 0 2 e = none ∧ (tblS [e] none []).table 0 = [e] ∧ [e].find? (fun x => sameKey .learning x e) = some e ∧
      ([] : List TblEntry).find? (fun x => sameKey .learning x e) = none ∧ s.tblSize 0 = some (learnSize, 8) ∧ freeIndex [e] learnSize = some 1 ∧ [e].find? (fun x => x.index == e.index) = some e) ∧
    (let s := (regS .tbl (winReg 0 0xC0) 29); s.entryLegal 0 (s.winEntry 0 0) = false) ∧ ((regS .tbl (winReg 0 8) 1024).writeRefusal 30 5 ((regS .tbl (winReg 0 8) 1024).winEntry 0 30) = some 7) ∧
    ((regS .tbl (winReg 0 0xC) 0).winEntry 0 16).dmask ≠ 0xFFF ∧ tableKind 0 ≠ .index ∧ tableKind 0 ≠ .ternary ∧
    (let w : TblWrite := ⟨1, 0, State.reset.winEntry 0 0⟩; let s := tblS [] (some 0) [w]; s.leaseHolder 0 = some 0 ∧ (s.batch 0).length < 1024 ∧ (s.batch 0).filter (fun x => x.table == 0) = [w] ∧
      (∀ b, runBatch .learning learnSize b [] [w] = some [{ w.entry with index := 0 }]) ∧ (∀ b, runBatch .learning 0 b [] [w] = none)) ∧
    1024 ≤ (List.replicate 1024 (0 : Nat)).length ∧ (regS .tbl 0x8000 0).fld .tbl 0x8000 15 0 = 0 ∧ ((regS .tbl 0x8000 300).fld .tbl 0x8000 15 0 ≠ 0 ∧ (regS .tbl 0x8000 300).tdm.active = true) := by decide

/-- Stream 1023 with vector recovery and a history of 32, with match recovery, and without an entry; a sequence number that repeats, lies behind, lies ahead and is out of range. -/
theorem witness_StreamsGenerateRecoverReset :
    (let s (alg : Byte) : State := { State.reset with tbl := { entries := [(30, [{ index := 1023, result := [alg, 32] }])] }, prs := { cb := [(1023, { takeAny := false, last := 5, hist := 1 })] } };
      (s 2).streamEntry 1023 ≠ [] ∧ leAt ((s 2).streamEntry 1023) 1 1 = 32 ∧ leAt ((s 1).streamEntry 1023) 0 1 = 1 ∧ leAt ((s 2).streamEntry 1023) 0 1 ≠ 1 ∧ ((s 2).recovery 1023).takeAny = false ∧
        ((s 2).recovery 1023).hist.testBit 0 = true ∧ ((s 2).recovery 1023).hist.testBit 1 = false) ∧
    State.reset.streamEntry 1023 = [] ∧ (State.reset.recovery 1023).takeAny = true ∧ (let e : Edited := { bytes := List.replicate 18 0, hdrs := [⟨0, 4, 12, 6⟩], l3 := none, l4 := none }; e.rtag = some ⟨0, 4, 12, 6⟩ ∧
      ({ e with hdrs := [] } : Edited).rtag = none ∧ ({ e with hdrs := [] } : Edited).tags = []) ∧
    signed 16 ((5 + 65536 - 5) % 65536) = 0 ∧ signed 16 ((36 + 65536 - 5) % 65536) = 31 ∧ signed 16 ((37 + 65536 - 5) % 65536) = 32 ∧ signed 16 ((65535 + 65536 - 5) % 65536) = -6 := by decide

/-- A whole frame of 60 bytes is held, with one copy from lane 4 to lane 3 for port 3; port 3 is UP in a build and has selected its class. -/
def cisS (moved : Nat) : State :=
  let s : State := { State.reset with net := { eth := [(3, { state := .up })], egr := [(3, { staged := [{ cls := 2, express := true }] })] }, cis := { held := [{ frame := { id := 1, bytes := List.replicate 60 0, rxLen := 64, lane := 4 }, banks := [0] }], copies := [⟨5, 1, 4, 3, 2, .port 3, false, none, moved, false⟩] } }
  s.wr .eth (ethReg 3 0) 3

/-- One slot moves that copy's only cell. -/
theorem witness_RoundaboutMovesCells :
    (let s := cisS 0; (s.cis.copies.map (fun c => c.id)).Nodup ∧ s.xbr.lock = [] ∧ (∀ l ∈ List.range 27, (s.lane l).state ≠ .out) ∧ s.buildMode 3 ≠ 0 ∧ s.movers = s.cis.copies ∧ s.matching.1.pairs = [(4, 3)]) ∧
    ((cisS 0).queuesSound) := by
  refine ⟨by decide, ?_, ?_⟩
  · decide
  · intro l h; rw [show (cisS 0).xbr.lock = [] by decide] at h; cases h

theorem witness_LanesFailOverToTheSpare :
    (State.reset.lane 26).state = .inService ∧ State.reset.xbr.spareTest = false ∧ State.reset.spareFree = true ∧ State.reset.xbr.spareFor = none ∧
    (let s : State := { State.reset with xbr := { lane := [(3, { state := .onSpare })], spareFor := some 3 } }; s.spareFree = false ∧ s.xbr.spareFor = some 3 ∧ (s.lane 3).state = .onSpare ∧ (s.lane 3).state ≠ .remapping ∧
      (s.lane 26).state = .inService) ∧
    (let s : State := { State.reset with xbr := { lane := [(3, { state := .remapping })], spareFor := some 3 } }; s.xbr.spareFor = some 3 ∧ (s.lane 3).state = .remapping) := by decide

/-- A frame of 64 bytes is admitted, from the shared pool and into the fixed pool of lane 26; bank 63 retires; the account that a selection names has a reservation. -/
theorem witness_CisternAdmitsWithinLimits :
    (let s : State := { State.reset.wr .cis 0 0x64001000 with cis := { limits := [(⟨false, 0, 2, some 7⟩, ⟨10, 100, 0⟩)] } }; let f : Frame := { rxLen := 64, bytes := List.replicate 60 0, lane := 0 };
      (match s.admission f 7 2 false [⟨26, 2, .crypto, false⟩] with | .admitted _ _ _ _ _ _ => true | .refused _ => false) = true ∧
      (match s.admission f 7 2 false [⟨3, 2, .port 3, false⟩] with | .admitted _ _ _ _ i e => i.isSome && e.isSome | .refused _ => false) = true ∧
        s.cis.limits.find? (fun e => e.1 == ⟨bit 0x00700002 15, field 0x00700002 12 8, field 0x00700002 2 0, some (field 0x00700002 31 20)⟩) = some (⟨false, 0, 2, some 7⟩, ⟨10, 100, 0⟩) ∧ bit 0x00700002 16 = false) ∧
    ((bankS 63 { state := .retiring false }).bank 63).state = .retiring false ∧ ((bankS 63 { state := .retiring false }).bank 63).stopped = false ∧ State.reset.lmp.held = false ∧ fixedPool 27 = none := by decide

/-- Port 3 runs a schedule of 1000 ns, open for class 2 for 400 ns with this operation and closed to it after; `f` sets its egress. -/
def gateS (op : Nat) (f : EgrPort → EgrPort) : State :=
  let s : State := { State.reset with net := { eth := [(3, { state := .up, verify := .succeeded })], egr := [(3, f {})] } }
  let r := fun (s : State) (off v : Nat) => s.wr .egr (egrReg 3 off) (word v)
  ((r (r (r (r (r (r (r s 0 1) 0x18 1000) 0x1C 2) 0x2000 400) 0x2004 (255 + 256 * op)) 0x2008 600) 0x200C 0xFB).wr .eth (ethReg 3 0) 0x103).wr .eth (ethReg 3 0x50) 0x20001

set_option maxRecDepth 20000 in
theorem witness_SluicesGateAndSelect :
    State.reset.scheduled 3 = false ∧ State.reset.preempting 3 = false ∧
    (let s := gateS 1 id; let es := s.gateList 3; s.scheduled 3 = true ∧ s.preempting 3 = true ∧ es = [⟨400, 0xFF, 1⟩, ⟨600, 0xFB, 0⟩] ∧ gateStart es es.length = s.gateCycle 3 ∧ (∀ x ∈ es, 0 < x.interval) ∧
      gateStart es 0 ≤ s.gatePos 3 399 ∧ s.gatePos 3 399 < gateStart es 0 + 400 ∧ gateStart es 1 ≤ s.gatePos 3 400 ∧ s.gatePos 3 400 < gateStart es 1 + 600 ∧ s.openFor 3 3 0 = none ∧ s.openFor 3 2 399 = some 1 ∧
        s.windowFor 3 2 ≠ 0xFFFFFFFF) ∧
    ((gateS 2 id).gateList 3).head? = some ⟨400, 0xFF, 2⟩ ∧ ((gateS 0 id).gateList 3).head? = some ⟨400, 0xFF, 0⟩ ∧ (gateS 1 id).buildMode 3 ≠ 0 ∧ State.reset.buildMode 3 = 0 ∧ isSPort 3 = false ∧ isSPort 21 = true ∧
    (gateS 1 ({ · with staged := [{ cls := 2, express := true, held := true }] })).stagingHeld 3 = true ∧ (gateS 1 id).stagingHeld 3 = false ∧
    (let s : State := { regS .eth (ethReg 3 0) 3 with net := { eth := [(3, { state := .up, speed := 6 })] }, cis := { held := [{ frame := { id := 1, bytes := List.replicate 60 0, rxLen := 64 }, banks := [0] }], copies := [⟨5, 1, 4, 3, 2, .port 3, false, none, 0, false⟩] } };
      s.eligible 3 s.nowNs 2 = true ∧ (s.selectClass 3 s.nowNs (fun _ => true)).2 = some 2 ∧ (∀ c < 8, s.groupOf 3 c = 0) ∧ (s.selectClass 3 s.nowNs (fun c => c == 3)).2 = none ∧ (s.portHeads 3 2).length = 1 ∧
        s.guardFits 3 2000 (some 400) = false) := by decide

/-- A copy whose first cell has reached port 3, staged as express; a preemptable frame of 200 bytes on the wire, of which 80 have gone, or suspended; a paused port; a stale frame of the S-lane buffer. -/
def wireS (moved : Nat) (f : EgrPort → EgrPort) : State :=
  let s : State := { State.reset with net := { eth := [(3, { state := .up, speed := 6, verify := .succeeded })], egr := [(3, f { staged := [{ cls := 2, express := true, copy := some 5 }] })] }, tkp := { State.reset.tkp with dom := [(0, { time := 100 * 2 ^ 32 })] }, cis := { held := [{ frame := { id := 1, bytes := List.replicate 60 0, rxLen := 64 }, banks := [0] }], copies := [⟨5, 1, 4, 3, 2, .port 3, false, none, moved, false⟩] } }
  (s.wr .eth (ethReg 3 0) 0x103).wr .eth (ethReg 3 0x50) 1

set_option maxRecDepth 20000 in
theorem witness_FramesCrossTheWire :
    (let s := wireS 1 id; let c : Copy := ⟨5, 1, 4, 3, 2, .port 3, false, none, 1, false⟩; s.stagedReady 3 true = some (⟨2, true, some 5, false⟩, c) ∧ s.macsecOn 3 = false ∧ s.macsecBypass 3 (s.frameOf c).frame.bytes = false ∧
      3 ≠ 4 ∧ (s.egress 3).active = none ∧ s.classPaused 3 2 = false ∧ (wireS 0 id).stagedReady 3 true = none) ∧
    (let s0 := wireS 1 id; let s : State := { s0 with net := { s0.net with eth := [(3, { state := .up, linkPaused := true, linkSince := 0 })] }, tkp := { State.reset.tkp with dom := [(0, { time := 101 * 2 ^ 32 })] } }; s.classPaused 3 2 = true ∧
      100 < s.nowNs - (s.port 3).linkSince) ∧
    (let w : OnWire := { copy := 6, cls := 1, express := false, bytes := List.replicate 2000 0, start := 0 }; let s := wireS 1 ({ · with wire := [w] }); (s.egress 3).active = some w ∧ s.preempting 3 = true ∧ s.mayPreempt 3 w = true ∧
      (wireS 0 ({ · with wire := [{ w with suspended := true }], hold := true })).stagedReady 3 true = none ∧
        ((wireS 0 ({ · with wire := [{ w with suspended := true }] })).egress 3).wire.find? (fun v => v.suspended) = some { w with suspended := true } ∧ (s.gatesAt 3 s.nowNs).testBit 1 = true) ∧
    (let w : OnWire := { copy := 5, cls := 2, express := true, bytes := List.replicate 60 0, start := 0 }; let s := wireS 1 ({ · with staged := [], wire := [w] }); (s.egress 3).active = some w ∧ s.preempting 3 = true ∧
      s.mayPreempt 3 w = false ∧ (s.copyOf 5).isSome = true ∧ (s.frameOf ⟨5, 1, 4, 3, 2, .port 3, false, none, 1, false⟩).frame.whole = true) ∧
    (let s : State := { State.reset with tkp := { State.reset.tkp with dom := [(0, { time := 100000000 * 2 ^ 32 })] }, net := { sbuf := [⟨5, 0⟩] }, cis := { copies := [⟨5, 1, 4, 20, 2, .port 21, false, none, 1, false⟩] } }; (s.net.sbuf.map (fun i => i.copy)).Nodup ∧
      (s.cis.copies.map (fun c => c.id)).Nodup ∧ (s.copyOf 5).any (fun c => c.dest == .port 21) = true ∧ s.net.sbuf.filter (fun i => decide (100000000 ≤ s.nowNs - i.since)) = [⟨5, 0⟩]) := by decide

/-- Channel 31 on the bus with classic CAN in this MODE (1 message objects, 2 queues), a message memory of 1 KiB, one entry in each queue and operating mode `op`; `f` sets its state. -/
def canS (mode op : Nat) (f : CanChan → CanChan) : State :=
  let r := fun (s : State) (off v : Nat) => s.wr .can (canReg 31 off) (word v)
  r (r (r (chanS 31 f) 0 (65536 + 1024 * mode + 256)) 4 op) 0x70 65537

/-- Channel 31 owns one enabled receive PDU for identifier 5 whose key slot is empty, so that its frames fail check 4. What a MAC is belongs to AES-CMAC, too long to evaluate here. -/
def pduS : State :=
  let s := (canS 2 0 id).wr .can (canReg 31 0xE0) 1
  { s with can := { s.can with spdu := [(0, { en := true })] }, img := { State.reset.img with conf := some { recs := [⟨0x0F, 0xFFFF, 0x10000, padTo 32 [31, 1, 8, 8, 5]⟩] } } }

theorem witness_CanFramesAndErrors :
    (let s := canS 2 0 id; let f : CanFrame := { id := 5, data := [1] }; (s.chan 31).kind.onBus = true ∧ (s.chan 31).busy = none ∧ s.canOp 31 ≠ 3 ∧ s.canTakes 31 f = true ∧ s.canTakes 31 { f with fdf := true } = false ∧
      s.pduFor 31 false f = none ∧ s.canSends 31 = true ∧ (s.chan 31).rxe ≤ 127 ∧ s.candidates 31 = [] ∧ (canS 2 3 id).canOp 31 = 3 ∧ (canS 2 1 id).canSends 31 = false) ∧
    (let b := padTo 32 [31, 1, 8, 8, 5]; pduS.pduFor 31 false { id := 5 } = some (0, b) ∧ pduS.checkPdu 31 0 b [] = (4, 0)) ∧
    (let f : CanFrame := { id := 5, data := [1] }; let s := canS 2 0 ({ · with txq := [⟨f, none⟩] }); s.candidates 31 = [(.queue, f)] ∧ s.sealedOf 31 .queue = none ∧ s.pduFor 31 true f = none ∧ s.txRoom 31 f = false) ∧
    (let s := (canS 1 0 ({ · with objs := [(127, { id := 5, mask := 0x7FF })] })).wr .can (canReg 31 0x11FC) 0x80000000; s.canMode 31 = 1 ∧ s.objEn 31 127 = true ∧ s.objTx 31 127 = false ∧ s.objCap 31 127 = 8 ∧
      idMatch { id := 5 } ((s.chan 31).obj 127).ide ((s.chan 31).obj 127).id ((s.chan 31).obj 127).mask = true ∧ idMatch { id := 4 } ((s.chan 31).obj 127).ide ((s.chan 31).obj 127).id ((s.chan 31).obj 127).mask = false ∧
        s.objBit 31 0x60 127 = false ∧ (s.setObjBit 31 0x60 127 true).objBit 31 0x60 127 = true ∧ bit (s.objCfg 31 127) 29 = false) ∧
    (let s := canS 2 0 ({ · with filters := [(false, 5, 0x7FF)] }); s.canMode 31 = 2 ∧ (s.chan 31).filters.any (fun f => idMatch { id := 5 } f.1 f.2.1 f.2.2) = true ∧ s.rxRoom 31 { id := 5 } = true ∧
      (canS 2 0 ({ · with rxq := [{}] })).rxRoom 31 { id := 5 } = false) ∧
    (let s := canS 2 0 ({ · with busy := some (.queue, { id := 5 }), tec := 255 }); (s.chan 31).busy = some (.queue, { id := 5 }) ∧ (s.chan 31).tec ≤ 255 ∧ s.canOp 31 ≠ 4 ∧ 255 < (s.chan 31).tec + 8) ∧
    ((canS 2 128 id).flag .can (canReg 31 4) 7 = true ∧ (canS 2 128 id).canOp 31 = 0) ∧ (∀ k ∈ [CanKind.integrating, .busOff, .recovering, .standby, .absent], ((canS 2 0 ({ · with kind := k })).chan 31).kind = k) ∧
    (canS 2 256 id).fld .can (canReg 31 4) 15 8 ≠ 0 ∧ (canS 2 0 id).fld .can (canReg 31 4) 15 8 = 0 := by decide

/-- Channel 31 with a receive object 0, a transmit object 1 and a window of the host on one of them, or on a queue; its PDU is off or on. -/
theorem witness_CanRequestsAndWindows :
    State.reset.lmp.held = false ∧
    (let s := ((canS 1 0 ({ · with objs := [(0, { built := true }), (1, { built := true })] })).wr .can (canReg 31 0x1000) 0x80000000).wr .can (canReg 31 0x1004) 0xC0000000; let t := s.wr .can (msgReg .host 31 0x100) 1; s.msgClosed 31 = none ∧ s.msgTarget .host 31 = 0 ∧ s.msgIndex .host 31 = 0 ∧
      s.objExists 31 0 = true ∧ s.objTx 31 0 = false ∧ t.msgIndex .host 31 = 1 ∧ t.objExists 31 1 = true ∧ t.objTx 31 1 = true ∧ t.objExists 31 2 = false ∧ t.objBit 31 0x40 1 = false ∧ targetOf t.recs 1 31 1 = none ∧
        (t.setObjBit 31 0x40 1 true).objBit 31 0x40 1 = true ∧ t.canTakes 31 (t.finalFrame 31 (t.windowFrame .host 31 false 5)) = true ∧ (t.finalFrame 31 (t.windowFrame .host 31 false 5)).data.length ≤ t.objCap 31 1 ∧
          (t.wr .can (msgReg .host 31 0x118) 9).canTakes 31 ((t.wr .can (msgReg .host 31 0x118) 9).finalFrame 31 ((t.wr .can (msgReg .host 31 0x118) 9).windowFrame .host 31 false 5)) = false) ∧
    ((canS 1 0 ({ · with kind := .absent })).msgClosed 31 = some 4 ∧ (canS 1 0 ({ · with kind := .roadworks })).msgClosed 31 = some 6) ∧
    (∀ t ∈ [1, 2, 3], ((canS 2 0 id).wr .can (msgReg .host 31 0x100) (word (2 ^ 30 * t))).msgTarget .host 31 = t) ∧
    (let s := canS 2 0 ({ · with rxq := [{}] }); s.canMode 31 = 2 ∧ (s.chan 31).rxq = [{}] ∧ (s.chan 31).txq = [] ∧ ((canS 2 0 id).chan 31).rxq = []) ∧
    ((canS 2 0 id).txRoom 31 {} = true ∧ (canS 2 0 ({ · with txq := [⟨{}, none⟩] })).txRoom 31 {} = false) ∧ 27 < 28 ∧ 28 ≤ (28 : Fin 32).val ∧
    ((canS 2 0 id).pduCount 31 ≤ 0 ∧ 0 < pduS.pduCount 31 ∧ (pduS.spdu (pduS.pduBase 31 + 0)).en = true ∧ (({ pduS with can := { pduS.can with spdu := [] } } : State).spdu 0).en = false) ∧
    (∀ r ∈ [RefKind.master, .backup, .following, .wait], ((canS 2 0 ({ · with ref := r })).chan 31).ref = r) := by decide

/-- The reset state with one record of region 0x0D of this type and index 3. -/
def gwyS (type : Nat) (body : List Byte) : State :=
  { State.reset with img := { State.reset.img with conf := some { recs := [⟨0x0D, 0xFFFF, 2 ^ 28 * type + 3, padTo 64 body⟩] } } }
/-- A culvert frame of kind 1 with 8 bytes of foreign frame, and an AVTP frame of subtype 0x82 with stream 0. -/
def culFrame : Frame := { id := 1, bytes := List.replicate 12 0 ++ ([0x88, 0xB5, 0x11, 0] ++ (List.replicate 14 0 ++ ([0, 8, 0, 0] ++ [0, 0, 0, 5, 0, 0, 1, 2]))) }
def avtpFrame : Frame := { id := 1, bytes := List.replicate 12 0 ++ ([0x22, 0xF0, 0x82] ++ List.replicate 40 0) }
/-- `s` with a frame that has reached the gateway for rule 3, to be rewrapped when the flag is set. -/
def arrivedS (s : State) (again : Bool) (f : Frame) : State := { s with gwy := { s.gwy with arrived := [(again, 3, f)] } }

/-- A signal of 8 bits in a frame of one byte and of none; a rule with and without TIMEOUT; a target frame on a transmit object; an ACF stream that holds a message or none; a frame of the stream and one of another. -/
theorem witness_SignalsAndStreams :
    (∀ x ∈ signalBits false 0 8, x < 8 * [(5 : Byte)].length) ∧ ¬(∀ x ∈ signalBits false 0 8, x < 8 * ([] : List Byte).length) ∧
    (let r : List Byte := padTo 64 ([0, 0, 0, 0, 0, 0, 0, 0, 0, 0, 0, 0, 8, 0, 0, 0] ++ (leBytes 8 2 ++ leBytes 8 5)); let g := fun b => (signalGet (signalBits false 0 8) [b] : Int); signalLimit r 0x10 ≤ g 2 ∧ g 5 ≤ signalLimit r 0x18 ∧
      g 1 < signalLimit r 0x10 ∧ signalLimit r 0x18 < g 6) ∧
    (let r : List Byte := [0, 0, 1, 0] ++ (List.replicate 36 0 ++ [10]); let s := gwyS 2 r; gwyRec s.recs 2 3 = some (padTo 64 r) ∧ (leAt (padTo 64 r) 2 1).testBit 0 = true ∧ leAt (padTo 64 r) 0x28 2 ≠ 0 ∧ (s.sig 3).silent = false ∧
      gwyRec State.reset.recs 2 3 = none) ∧
    (let b : List Byte := padTo 64 [1, 31, 1, 0, 0, 0, 0, 0, 10]; let s : State := { (canS 1 0 id).wr .can (canReg 31 0x1004) 0xC0000000 with img := (gwyS 3 b).img }; gwyRec s.recs 3 3 = some b ∧ leAt b 0 1 = 1 ∧ leAt b 8 2 ≠ 0 ∧
      s.objBit 31 0x40 1 = false ∧ (s.chan 31).kind ∉ [CanKind.absent, .roadworks, .standby] ∧ s.canSends 31 = true ∧ s.objTx 31 1 = true ∧ s.objCap 31 1 = 8 ∧ 1 ≠ 0xFFFF ∧ protoHas (s.canProto 31) {} = true ∧
        protoHas (s.canProto 31) { fdf := true } = false ∧ (s.setObjBit 31 0x40 1 true).objBit 31 0x40 1 = true) ∧
    (let s := gwyS 6 []; (gwyRec (s.recsAt s.epoch) 6 3).isSome = true ∧ (s.acf 3).msgs = [] ∧ (({ s with gwy := { acf := [(3, { msgs := [[1]] })] } } : State).acf 3).msgs ≠ [] ∧ s.tdm.active = true ∧
      (({ s with tdm := { s.tdm with active := false } } : State).tdm.active = false) ∧ gwyRec (State.reset.recsAt State.reset.epoch) 6 3 = none) ∧
    (let s := arrivedS (gwyS 5 [3]) false avtpFrame; let x := avtpFrame.bytes.drop (etherAt 8 avtpFrame.bytes 12).1; s.gwy.arrived.find? (fun a => (s.acfRule a).isSome) = some (false, 3, avtpFrame) ∧
      (etherAt 8 avtpFrame.bytes 12).2 = 0x22F0 ∧ leAt x 0 1 = 0x82 ∧ beAt x 4 8 = leAt (padTo 64 [3]) 0x14 8 ∧ (etherAt 8 culFrame.bytes 12).2 ≠ 0x22F0 ∧ (s.ing 3 0).takeAny = true) ∧
    (gwyS 2 []).lmp.held = false ∧ gwyRec (gwyS 2 []).recs 2 (field 3 12 0) ≠ none ∧ gwyRec (gwyS 4 []).recs 4 (field 3 11 0) ≠ none := by decide

theorem culFrame_matches : culMatches (arrivedS (gwyS 5 (padTo 64 [1, 0, 0xFF, 0xFF, 0xFF, 0xFF])) false culFrame) (padTo 64 [1, 0, 0xFF, 0xFF, 0xFF, 0xFF]) culFrame := by unfold culMatches; decide

/-- A culvert frame of rule 3 with a good header, with a bad one and cut short; a fresh and a replayed sequence; an egress rule in clear and one with a key that is absent. Whether a foreign frame's
check field is right, and what AES-GCM answers, is too long to evaluate here. -/
theorem witness_CulvertsCheckAndWrap :
    State.reset.gwy.arrived = [] ∧
    (let b : List Byte := padTo 64 [1, 0, 0xFF, 0xFF, 0xFF, 0xFF]; let s := arrivedS (gwyS 5 b) false culFrame; let p := culParts culFrame; let h := p.2.1; s.gwy.arrived.find? (fun a => !a.1 && (s.acfRule a).isNone) = some (false, 3, culFrame) ∧
      gwyRec (s.recsAt culFrame.epoch) 5 3 = some b ∧ culHeaderOk (etherAt 8 culFrame.bytes 12).2 h = true ∧ p.2.2.2 = false ∧ culHeaderOk (etherAt 8 avtpFrame.bytes 12).2 (culParts avtpFrame).2.1 = false ∧
        (s.ing 3 0).takeAny = true ∧ kindSuits 1 1 = true ∧ kindSuits 1 2 = false ∧ p.2.2.1.length = beAt h 16 2 ∧ p.2.2.1.length = foreignLen 1 p.2.2.1 ∧
          (let short : Frame := { culFrame with bytes := culFrame.bytes.take 40 }; let q := culParts short; culHeaderOk (etherAt 8 short.bytes 12).2 q.2.1 = true ∧ short.bytes.length < q.1 + 20 + beAt q.2.1 16 2)) ∧
    (let s := arrivedS (gwyS 4 [1]) true culFrame; s.gwy.arrived.find? (fun a => a.1) = some (true, 3, culFrame) ∧ gwyRec (s.recsAt culFrame.epoch) 4 3 = some (padTo 64 [1]) ∧ s.tdm.active = true) ∧
    (let b : List Byte := padTo 64 [3]; let s := gwyS 4 b; gwyRec (s.recsAt s.epoch) 4 3 = some b ∧ (leAt b 0 1).testBit 0 = true ∧ (leAt b 0 1).testBit 1 = true ∧ (s.culSeq 3).exhausted = false ∧ s.aesKey (leAt b 0xC 2) 0 (leAt b 2 2 % 4096) = none ∧
      (({ s with gwy := { cul := [(3, { exhausted := true })] } } : State).culSeq 3).exhausted = true ∧ (({ s with key := { slot := [(0, ⟨0x80000000, [1]⟩)] } } : State).aesKey 0 0 0) = some [1]) ∧
    ((0 < (6 + 2 ^ 32 - 5) % 2 ^ 32 ∧ (6 + 2 ^ 32 - 5) % 2 ^ 32 < 2 ^ 31) ∧ ¬(0 < (5 + 2 ^ 32 - 5) % 2 ^ 32) ∧ (({ gwyS 5 [1] with gwy := { ing := [(6, { takeAny := false, last := 5 })] } } : State).ing 3 0).takeAny = false) ∧
    (let s : State := { State.reset with gwy := { crypto := [.pass culFrame] } }; s.gwy.crypto = [.pass culFrame]) ∧
    (let b : List Byte := padTo 64 [1, 0, 0, 0, 0, 0, 0, 0, 10]; gwyRec (gwyS 5 b).recs 5 3 = some b ∧ leAt b 8 2 ≠ 0 ∧ gwyRec State.reset.recs 5 3 = none) := by decide

/-- MVB channel 1 with DEV_ADDR 7 and this ROLE; port 4095 is a source or a sink of FCODE 1; the master list names device 9. -/
def lineS (cfg : Nat) (f : MvbChan → MvbChan) : State :=
  let s : State := { mvbS 1 f with img := { State.reset.img with conf := some { recs := [⟨0x0C, 1, 0x1FFF, leBytes 4 cfg⟩, ⟨0x0C, 1, 0x3000, leBytes 4 9⟩] } } }
  s.wr .mvb (mvbReg 1 0) (word (2 ^ 31 + 7 * 4096))

set_option maxRecDepth 20000 in
theorem witness_MvbChannelsFollowStateTable :
    (∀ k ∈ [MvbKind.init, .backup, .master, .device, .standby, .roadworks], ((lineS 0 ({ · with kind := k })).mvbChan 1).kind = k) ∧ ((lineS 0 id).mvbChan 1).kind = .absent ∧ (lineS 0 id).mvbRole 1 = 2 ∧
    ((lineS 0 id).wr .mvb (mvbReg 1 0) 0x40007000).mvbRole 1 = 1 ∧ (lineS 0 id).mvbAddr 1 = 7 ∧
    (let s := lineS 0xC1000000 id; let cfg := s.mvbPortCfg 1 4095; mvbIsSource cfg = true ∧ field cfg 26 24 = (1 : Fin 16).val ∧ mvbSize cfg = 4 ∧ targetOf s.recs 2 1 4095 = none ∧ mvbIsSource (s.mvbPortCfg 1 0) = false) ∧
    (let s := lineS 0x81000000 id; mvbIsSink (s.mvbPortCfg 1 4095) = true ∧ [(0 : Byte), 0, 0, 0].length = mvbSize (s.mvbPortCfg 1 4095)) ∧
    (let s := lineS 0 ({ · with kind := .backup, mdTx := [[1]], mdRx := [{}], polls := [(1, 4095)] }); (s.mvbChan 1).mdTx = [[1]] ∧ (s.mvbChan 1).mdRx = [{}] ∧ (s.mvbChan 1).polls = [(1, 4095)] ∧ (s.mvbChan 1).mdTx.length < 64) ∧
    (64 ≤ ((lineS 0 ({ · with mdTx := List.replicate 64 [], mdRx := List.replicate 64 {} })).mvbChan 1).mdTx.length ∧ 64 ≤ ((lineS 0 ({ · with mdRx := List.replicate 64 {} })).mvbChan 1).mdRx.length) ∧
    (let s := lineS 0 ({ · with kind := .master }); let ms := s.mvbMasters 1; ms = [9] ∧ ms[((ms.findIdx? (fun a => a == s.mvbAddr 1)).getD 0 + 1) % Nat.max 1 ms.length]? = some 9 ∧ 9 ≠ s.mvbAddr 1 ∧ (s.mvbChan 1).offer = none) ∧
    (∀ f ∈ [(9 : Fin 16), 13, 14], f.val ∈ [9, 13, 14]) ∧ (lineS 0 id).img.works.contains (.mvb 1) = false ∧
    (((lineS 0 ({ · with kind := .master, offer := some (9, 1) })).mvbChan 1).offer = some (9, 1)) ∧ (lineS 0 id).lmp.held = false ∧
    (∀ t ∈ [0, 1, 2, 3], ((lineS 0 id).wr .mvb (portReg .host 1 0x100) (word (2 ^ 30 * t))).portTarget .host 1 = t) := by decide

/-- Flume 1535 is present with 32 slots, ROLE 2, MAX_ITEM 4, ALLOT 8, the host as consumer and TIMEOUT_MS 1; `fl` is its state. -/
def flumeS (fl : Flume) : State :=
  let s : State := { State.reset with flm := { flume := [(1535, fl)] } }
  ((s.wr .flm (flumeReg 1535 0) 0x82000001).wr .flm (flumeReg 1535 4) 0x00080004).wr .flm (flumeReg 1535 8) 1
/-- A flume that holds one item of 4 slots, with 4 slots of credit left to producer 0. -/
def oneItem : Flume := { items := [⟨0, 4, 0, List.replicate 128 7⟩], wr := 4, wr2 := 4, credit := [(0, 4)] }

theorem reset_flumes_sound : ∀ g, (State.reset.flume g).sound (State.reset.flumeSlots g) := by
  intro g; show (({} : Flume)).sound _
  refine ⟨by decide, rfl, by decide, by decide, by decide, Or.inl rfl, Or.inl rfl, ⟨rfl, rfl, rfl, rfl⟩, by decide, ?_⟩
  show 0 ≤ _; exact Nat.zero_le _

theorem oneItem_sound : oneItem.sound ((flumeS oneItem).flumeSlots 1535) :=
  ⟨by decide, ⟨rfl, by decide, rfl⟩, by decide, by decide, by decide, Or.inr ⟨_, List.mem_cons_self, rfl⟩, Or.inr ⟨_, List.mem_cons_self, rfl⟩, ⟨rfl, rfl, rfl, rfl⟩, by decide, by decide⟩

theorem witness_FlumesNeverOverfill :
    (let s := flumeS oneItem; s.flumePresent 1535 = true ∧ (0 : Fin 3).val < roleProducers (s.flumeRole 1535) ∧ roleProducers (s.flumeRole 1535) ≤ (1 : Fin 3).val ∧ slotsOf 128 = 4 ∧ slotsOf 129 = 5 ∧ s.flumeMaxItem 1535 = 4 ∧
      (s.flume 1535).creditOf 0 = 4 ∧ s.grantDue 1535 0 = true ∧ s.flumeAllot 1535 ≤ s.flumeFree 1535 ∧ s.flumeRole 1535 ≠ 1 ∧ s.flumeConsumer 1535 = pathIndex .host ∧ s.flumeConsumer 1535 ≠ pathIndex (.core 0) ∧
        (s.flume 1535).head = some ⟨0, 4, 0, List.replicate 128 7⟩ ∧ s.flumeTimeout 1535 ≠ 0 ∧ (s.flume 1535).rd ≠ (s.flume 1535).wr ∧ (s.flume 1535).staleArmed = true ∧ s.lmp.held = false) ∧
    (State.reset.flumePresent 1535 = false ∧ (flumeS { credit := [(0, 8)] }).grantDue 1535 0 = false ∧ (flumeS {}).flume 1535 = {} ∧ ((flumeS {}).flume 1535).head = none) ∧
    (let s := flumeS { rl := 0, wr := 28, wr2 := 28 }; s.flumeFree 1535 < s.flumeAllot 1535) ∧ ([oneItem.wr, oneItem.rd, oneItem.mark, oneItem.rl].getD (0 : Fin 4).val 0 ≠ (5 : Word).toNat) := by decide

/-- The host link is UP; window 15 is enabled with this WIN_CFG over 4 KiB at 0x480000; `f` sets the bridge. -/
def hostS (cfg : Nat) (f : HbrState → HbrState) : State :=
  let s : State := { State.reset with hbr := f { link := .up } }
  (s.wr .hbr (0x100 + 0x10 * 15) (word (cfg + 12))).wr .hbr (0x104 + 0x10 * 15) 0x480000

theorem witness_HostWritesThroughWindows :
    State.reset.lmp.held = false ∧ State.reset.hbr.link = .down ∧
    (let s := hostS 0xA0000000 id; s.hbr.link ≠ .down ∧ s.hbr.held.length < 64 ∧ s.winFlag 15 31 = true ∧ s.winFlag 15 30 = false ∧ s.winFlag 15 29 = true ∧ s.winSize 15 = 4096 ∧ 4095 < s.winSize 15 ∧
      s.winSize 15 ≤ (4096 : Fin 1048576).val ∧ s.winTarget 15 4092 = 0x480FFC) ∧
    (hostS 0x80000000 id).winFlag 15 29 = false ∧ (hostS 0 id).winFlag 15 31 = false ∧
    (let s := hostS 0xE0000000 id; s.winFlag 15 30 = true ∧ s.hbr.ack = none ∧ (hostS 0xE0000000 ({ · with ack := some ⟨0x480000, 1, false⟩ })).hbr.ack = some ⟨0x480000, 1, false⟩ ∧
      (hostS 0xE0000000 ({ · with held := [⟨0x480000, 0, true⟩] })).hbr.held = [⟨0x480000, 0, true⟩]) := by decide

theorem witness_HostLinkFollowsStateTable :
    State.reset.hbr.link = .down ∧ (hostS 0 id).hbr.link ≠ .down ∧ (hostS 0 ({ · with link := .hold })).hbr.link = .hold ∧ (hostS 0 ({ · with link := .down, holdoff := true })).hbr.holdoff = true ∧
    PcieDown.perst ≠ .dataLink ∧ (let s : State := { hostS 0 id with cis := { copies := [⟨5, 1, 4, 21, 2, .host 0, false, none, 0, false⟩] } }; s.cis.copies.filter (fun c => c.outLane == 21) ≠ []) := by decide

/-- Flume 3 has ROLE 3, one item of 256 bytes may go, firmware runs; a request of TYPE 0x01, 0x10, 0x11 or 0x12 at its head, with good and with bad fields. -/
def mbxS (req : List Byte) : State :=
  let s : State := { mgtS ({ · with state := .running }) with flm := { flume := [(3, { items := [⟨0, 1, 0, req⟩], wr := 1, wr2 := 1, credit := [(0, 8)] })] } }
  (s.wr .flm (flumeReg 3 0) 0x83000001).wr .flm (flumeReg 3 4) 0x00080008
/-- A request: TYPE, LENGTH, TAG and LINK_EPOCH of 0, then its words. -/
def reqOf (type : Nat) (ws : List Nat) : List Byte := leBytes 2 type ++ (leBytes 2 (16 + 4 * ws.length) ++ (List.replicate 12 0 ++ ws.flatMap (leBytes 4)))

set_option maxRecDepth 20000 in
theorem witness_MailboxSendsAndFirmwareAnswers :
    (let s := mbxS (reqOf 1 []); s.lmp.held = false ∧ s.flumeWithRole 3 = some 3 ∧ s.mgt.state = .running ∧ (s.flume 3).head = some ⟨0, 1, 0, reqOf 1 []⟩ ∧ slotsOf 256 = 8 ∧ slotsOf 256 ≤ s.flumeMaxItem 3 ∧ slotsOf 256 ≤ (s.flume 3).creditOf 0) ∧
    State.reset.mgt.state ≠ .running ∧ field 0x10000100 31 28 = 1 ∧ field 0x10000100 8 0 = 256 ∧ field 0x1000000C 8 0 < 16 ∧ field 0 31 28 ≠ 1 ∧
    (let r := reqOf 1 []; leAt r 0 2 = 1 ∧ leAt r 2 2 = 16 ∧ r.length = 16) ∧ (let r := reqOf 0x10 [0x400000, 0x10000]; leAt r 0 2 = 0x10 ∧ leAt r 2 2 = 24 ∧ r.length = 24 ∧ leAt r 16 4 % 0x10000 = 0 ∧ leAt r 20 4 % 0x10000 = 0 ∧
      (mbxS r).rangeStatus 0x400000 0x10000 true = 0 ∧ (mbxS r).rangeStatus 0 0x10000 true = 5) ∧
    (let r := reqOf 0x11 [0x400000, 0, 5]; leAt r 0 2 = 0x11 ∧ leAt r 2 2 = r.length ∧ r.length = 28 ∧ (mbxS r).rangeStatus 0x400000 4 true = 0) ∧
    (let r := reqOf 0x12 [0x3FFFF18, 232]; leAt r 0 2 = 0x12 ∧ leAt r 2 2 = 24 ∧ leAt r 20 4 = 232 ∧ (mbxS r).rangeStatus 0x3FFFF18 232 false = 0 ∧ (mbxS r).rangeStatus 0x3FFFF1C 232 false = 3) ∧
    (let s := mbxS []; s.img.state ≠ .staging ∧ 0x400000 + 0x1000000 ≤ 0x4000000 ∧ ¬(0x400000 < 0x1400000 ∧ 0x1400000 < 0x400000 + 0x1000000) ∧ s.rangeStatus 0x1400000 0x1000000 true = 0) := by decide

/-- The host link is UP; queue pair 1023 has this QP_CFG, rings of 8 entries and so many transmit and receive entries posted, in district 7; a frame for it waits in lane 21, whole or failed. -/
def qpS (cfg tails : Nat) (p : QueuePair) (failed : Bool) : State :=
  let c : Conf := { recs := [⟨6, 0xFFFF, 7, List.replicate 14 0 ++ [0, 4]⟩] }
  let s : State := { State.reset with hbr := { link := .up, qp := [(1023, p)] }, img := { State.reset.img with conf := some c }, cis := { held := [{ frame := { id := 1, bytes := List.replicate 60 0, rxLen := 64 }, banks := [0], failed := failed }], copies := [⟨5, 1, 4, 21, 2, .host 1023, false, none, 1, false⟩] } }
  (((s.wr .hbr (qpReg 1023 0) (word cfg)).wr .hbr (qpReg 1023 0x20) 0x33).wr .hbr (qpReg 1023 0x28) (word tails)).wr .hbr (qpReg 1023 0x30) (word tails)

set_option maxRecDepth 20000 in
theorem witness_QueuePairsMoveEntries :
    (let s := qpS 0 0 {} false; s.lmp.held = false ∧ s.hbr.link = .up ∧ s.flag .hbr (qpReg 1023 0) 31 = false ∧ s.rd64 .hbr (qpReg 1023 8) % 64 = 0 ∧ 3 ≤ s.fld .hbr (qpReg 1023 0x20) 3 0 ∧ 3 ≤ s.fld .hbr (qpReg 1023 0x20) 7 4 ∧
      s.queueDistrict 1023 = some 7 ∧ State.reset.queueDistrict 1023 = none ∧ s.qpSize 1023 true = 8 ∧ field 7 14 0 < s.qpSize 1023 true ∧ s.qpSize 1023 true ≤ field 8 14 0) ∧
    (let s : State := { State.reset with hbr := { link := .hold } }; s.hbr.link = .hold) ∧ (qpS 0x80000000 0 {} false).flag .hbr (qpReg 1023 0) 31 = true ∧
    (let s := qpS 0x80000000 7 { tx := .running, rx := true, fresh := 1 } false; s.contends 1023 = true ∧ s.posted 1023 true = 7 ∧ s.posted 1023 false = 7 ∧ s.qpHead 1023 true < s.qpSize 1023 true ∧ s.fetchNext = some 1023 ∧
      (s.qp 1023).rx = true ∧ s.qpMode 1023 = 0 ∧ s.cis.copies.find? (fun c => c.outLane == 21 && s.crossed c) = some ⟨5, 1, 4, 21, 2, .host 1023, false, none, 1, false⟩ ∧ (s.frameOf ⟨5, 1, 4, 21, 2, .host 1023, false, none, 1, false⟩).failed = false ∧
        0 < (s.qp 1023).fresh ∧ field ((s.wr .hbr (qpReg 1023 0x24) 0x100005).rd .hbr (qpReg 1023 0x24)) 11 0 ≠ 0 ∧ bit ((s.wr .hbr (qpReg 1023 0x24) 0x100005).rd .hbr (qpReg 1023 0x24)) 20 = true) ∧
    ((qpS 0x80000000 7 { tx := .running } true).frameOf ⟨5, 1, 4, 21, 2, .host 1023, false, none, 1, false⟩).failed = true ∧ State.reset.fetchNext = none ∧ (State.reset.qp 1023).rx = false ∧
    (let d : TxDesc := ⟨9216, 1, 7, true, some []⟩; d.clean = true ∧ 1 ≤ d.len.val ∧ d.len.val ≤ 9216 ∧ d.flags.toNat < 4 ∧ d.cls.toNat < 8 ∧ d.flags.toNat.testBit 0 = true ∧ d.data.isSome = true ∧ 14 ≤ ([d].map (fun x => x.len.val)).sum ∧
      ([d].map (fun x => x.len.val)).sum ≤ 9216 ∧ [d].take ((qpS 0x80000000 7 {} false).posted 1023 true) = [d]) ∧
    (let d : RxDesc := ⟨0x1000, 64⟩; 64 ≤ d.len.val ∧ d.len.val ≤ 16384 ∧ d.len.val % 64 = 0 ∧ 60 ≤ ([d].map (fun x => x.len.val)).sum) ∧
    (let s0 := (qpS 0xA0000003 7 { rx := true } false).wr .flm (flumeReg 3 0) 0x81500001; let s : State := { s0 with flm := { flume := [(3, { items := [⟨0, 1, 0, [9]⟩], wr := 1, wr2 := 1 })] } }; (s.qp 1023).rx = true ∧ s.qpMode 1023 = 1 ∧
      s.posted 1023 false ≠ 0 ∧ s.flumeConsumer (s.qpFlume 1023) = 5 ∧ (s.flume (s.qpFlume 1023)).head = some ⟨0, 1, 0, [9]⟩ ∧ (qpS 0xC0000003 7 {} false).qpMode 1023 = 2) := by decide

/-- The tandem is enabled, and `f` sets its controller. -/
def tdmOn (f : TdmState → TdmState) : State := (tdmS f).wr .tdm 0 0xC0140064
/-- A partner with pairing identifier 7. -/
def partnerS (f : Partner → Partner) : Option Partner := some (f { pairId := 7 })
/-- A standby in this state that has applied mirror record 9. -/
def standbyS (k : TdmKind) : State := tdmOn ({ · with state := k, active := false, partner := partnerS id, applied := some 9 })
/-- A body with COUNT `n` and entries of `size` bytes that begin with the numbers 0 to n - 1. -/
def entriesOf (size n : Nat) : List Byte := beBytes 2 n ++ ([0, 0] ++ (List.range n).flatMap (fun i => beBytes 2 i ++ List.replicate (size - 2) 0))
/-- A LEARN entry: OP, port 28, district 4095, VLAN 5, a station address, an age of 2 s. -/
def learnS (op : Nat) : List Byte := beBytes 1 op ++ (beBytes 1 28 ++ (beBytes 2 4095 ++ (beBytes 2 5 ++ ([2, 0, 0, 0, 0, 9] ++ beBytes 4 (2 * 65536)))))
/-- The learning table holds the station of `learnS`. -/
def learntS (fixed : Bool) : State := State.reset.setTable 0 [{ index := 0, district := 4095, key := learnKey [2, 0, 0, 0, 0, 9] 5, result := [byte 3], fixed := fixed }]

set_option maxRecDepth 40000 in
theorem witness_TandemRecordsCheckedAndApplied :
    (heldS.lmp.held = true ∧ State.reset.tdmEn = false ∧ (tdmOn id).lmp.held = false ∧ (tdmOn id).tdmEn = true ∧ (tdmOn id).tdm.partner = none) ∧
    (impliedLength 1 (List.replicate 67 0) ≠ some 67 ∧ impliedLength 0x20 (entriesOf 20 0) ≠ some 4 ∧ impliedLength 1 (List.replicate 68 0) = some 68 ∧ impliedLength 2 (List.replicate 20 0) = some 20 ∧ impliedLength 3 (List.replicate 64 0) = some 64 ∧
      impliedLength 4 (List.replicate 4 0) = some 4 ∧ impliedLength 5 (List.replicate 8 0) = some 8 ∧ impliedLength 6 [] = some 0 ∧ impliedLength 7 [] = some 0) ∧
    (let b := entriesOf 16 0 ++ []; impliedLength 0x10 b = some b.length ∧ inRanges 0x10 b = true) ∧ (let b := beBytes 2 1 ++ ([0, 0] ++ learnS 1); impliedLength 0x10 b = some b.length ∧ inRanges 0x10 b = true) ∧
    (let b := entriesOf 12 2; impliedLength 0x11 b = some b.length ∧ inRanges 0x11 b = true ∧ ((recordEntries 12 b).map (fun e => beAt e 0 2)).Nodup) ∧
    (let b := [0, 1, 0, 0] ++ (beBytes 2 1024 ++ List.replicate 10 0); impliedLength 0x11 b = some b.length ∧ inRanges 0x11 b = false) ∧
    (let b := byte 3 :: List.replicate 39 0; impliedLength 0x12 b = some b.length ∧ inRanges 0x12 b = true ∧ inRanges 0x12 (byte 4 :: List.replicate 39 0) = false) ∧
    (let b := entriesOf 20 2; impliedLength 0x13 b = some b.length ∧ inRanges 0x13 b = true ∧ ((recordEntries 20 b).map (fun e => beAt e 0 2)).Nodup) ∧
    (let b := entriesOf 24 2; impliedLength 0x14 b = some b.length ∧ inRanges 0x14 b = true ∧ ((recordEntries 24 b).map (fun e => beAt e 0 2)).Nodup) ∧
    (impliedLength 0x15 [0, 0, 0, 0] = some 4 ∧ impliedLength 0x16 [0, 0, 0, 0] = some 4) ∧
    (let s := standbyS .paired; s.tdm.active = false ∧ s.tdm.state = .paired ∧ (∀ p, s.tdm.partner = some p → 7 = p.pairId) ∧ s.tdm.applied = some 9 ∧ (10 : Word).toNat = (9 + 1) % 2 ^ 32 ∧ (11 : Word).toNat ≠ (9 + 1) % 2 ^ 32) ∧
    (let s := tdmOn ({ · with state := .resolving, active := false, partner := partnerS id, applied := some 9, resolution := some ⟨.heartbeat, 0, none, none, false, false⟩ }); s.resolvingMirror = true ∧ s.tdm.active = false ∧ s.tdm.state = .resolving ∧ s.tdm.applied = some 9) ∧
    (standbyS .resync).tdm.state = .resync ∧ (tdmOn ({ · with state := .resync, active := false, partner := partnerS id })).tdm.applied = none ∧ (standbyS .frozen).tdm.state ≠ .paired := by decide

set_option maxRecDepth 40000 in
theorem witness_TandemRecordsCheckedAndApplied_stations :
    (byteAt (learnS 1) 0 = 1 ∧ byteAt (learnS 2) 0 = 2 ∧ byteAt (learnS 3) 0 = 3 ∧ byteAt (learnS 4) 0 = 4) ∧
    (let e := learnS 1; ((learntS true).station (beAt e 2 2) (beAt e 4 2) (slice e 6 6)).map (fun x => x.fixed) = some true ∧ ((learntS false).station (beAt e 2 2) (beAt e 4 2) (slice e 6 6)).map (fun x => x.fixed) = some false ∧
      State.reset.station (beAt e 2 2) (beAt e 4 2) (slice e 6 6) = none ∧ freeIndex (State.reset.table 0) learnSize = some 0) := by decide

/-- DIGEST, ARM and ABORT records. That the digests are equal, or differ, is a matter of SHA-384, too long to evaluate here. -/
theorem witness_TandemRecordsCheckedAndApplied_digests :
    (let b : List Byte := List.replicate 24 0; impliedLength 0x20 b = some b.length ∧ inRanges 0x20 b = true) ∧ (standbyS .paired).tdm.active = false ∧ (tdmOn ({ · with partner := partnerS id })).tdm.active = true ∧
    (standbyS .paired).cfgDiffers = true ∧ (let s := tdmOn ({ · with state := .paired, active := false, synced := true, mmRun := 7, partner := partnerS ({ · with digest := List.replicate 8 0 }) })
      (beAt (List.replicate 24 0) 2 2).testBit 0 = false ∧ beAt (List.replicate 24 0) 8 4 = s.epoch ∧ s.cfgDiffers = false ∧ s.tdm.synced = true ∧ s.tdm.state ≠ .frozen ∧ Nat.min 8 (s.tdm.mmRun + 1) = 8 ∧ s.tdm.state.triggerable = true) ∧
    (let s : State := { standbyS .paired with img := { State.reset.img with partner := some ⟨5, 100, [], 0⟩ } }; s.img.partner.map (fun a => a.epoch) = some (beAt [0, 0, 0, 5] 0 4)) ∧ (standbyS .paired).img.partner = none ∧ (standbyS .paired).img.armed = none := by decide

/-- A resolution of a member in this state: trigger, result of its own check, the partner's, whether RESOLVE_TO has run out. -/
def resolvingS (own : Option (Bool × Nat)) (partner : Option Bool) (expired : Bool) (f : TdmState → TdmState) : State :=
  tdmOn (fun t => f { t with state := .resolving, tfailOk := true, partner := partnerS id, resolution := some ⟨.heartbeat, 0, own, partner, expired, false⟩ })

set_option maxRecDepth 40000 in
theorem witness_TakeoverPairingAndVerdict :
    (let s := standbyS .paired; s.tdm.active = false ∧ s.tdm.synced = false ∧ Sparse.canon (fun _ => none) s.tdm.flume = true ∧ Sparse.canon (fun _ => none) s.tdm.cb = true ∧ Sparse.canon (fun _ => none) s.tdm.gw = true) ∧
    (let s : State := { tdmOn ({ · with active := false, flume := [(1535, some ⟨5, 4, 3, 2⟩)], cb := [(1023, some ⟨true, 7, 8, 3⟩)], gw := [(8191, some ⟨1, 5, 9⟩)] }) with img := { State.reset.img with conf := some { recs := [⟨0x0D, 0xFFFF, 2 ^ 29 + 8191, List.replicate 40 0⟩] } } };
      Sparse.canon (fun _ => none) s.tdm.flume = true ∧ Sparse.get (fun _ => none) s.tdm.flume 1535 = some ⟨5, 4, 3, 2⟩ ∧ Sparse.canon (fun _ => none) s.tdm.cb = true ∧ Sparse.get (fun _ => none) s.tdm.cb 1023 = some ⟨true, 7, 8, 3⟩ ∧
      Sparse.canon (fun _ => none) s.tdm.gw = true ∧ Sparse.get (fun _ => none) s.tdm.gw 8191 = some ⟨1, 5, 9⟩ ∧ gwyRec s.recs 2 8191 = some (List.replicate 40 0)) ∧
    State.reset.tdm.nextSeq < 2 ^ 32 ∧ (let t := State.reset.setTable 30 [{ index := 1023, result := List.replicate 16 1 }]; t.streamEntry 1023 ≠ [] ∧ t.cbGuard ≠ 0) ∧ ((tdmOn id).wr .tdm 4 0).cbGuard = 0 ∧
    (let t := tdmOn ({ · with state := .alone }); t.tdm.active = true ∧ t.tdm.state = .alone ∧ t.tdm.position = 0) ∧ (let i : Identity := ⟨7, 0, 2, true, 0, 0, 0, []⟩; i.active = true ∧ i.state = 2 ∧ State.reset.tdm.position = i.position ∧ (standbyS .wait).tdm.active = false) ∧
    ((standbyS .paired).tdm.state = .paired ∧ (standbyS .wait).tdm.state = .wait) ∧
    (State.reset.tdm.resolution = none ∧ (let s := resolvingS none none false id; s.tdm.resolution = some ⟨.heartbeat, 0, none, none, false, false⟩ ∧ s.tdm.state = .resolving)) ∧
    (let s := resolvingS (some (true, 0)) none false id; s.tdm.resolution = some ⟨.heartbeat, 0, some (true, 0), none, false, false⟩ ∧ s.tdm.state = .resolving ∧ s.tfailEn = true ∧ s.tdm.tfailOk = true ∧ s.tdm.hbLost = false ∧ s.tdm.partner ≠ none) ∧
    (let s := resolvingS (some (false, 3)) (some false) true ({ · with tfailOk := false, active := false }); s.tdm.resolution = some ⟨.heartbeat, 0, some (false, 3), some false, true, false⟩ ∧ s.tfailEn = true ∧ s.tdm.tfailOk = false ∧ s.tdm.active = false) ∧
    (let s := resolvingS (some (true, 0)) (some true) false ({ · with hbLost := true }); s.tdm.resolution = some ⟨.heartbeat, 0, some (true, 0), some true, false, false⟩ ∧ s.tdm.hbLost = true ∧ s.tdm.tfailOk = true ∧ s.tfailEn = true) := by decide

/-- Enabled and disabled, with and without a partner: each record, pin, timer and command of the state table. -/
theorem witness_TandemFollowsStateTable_records :
    ((tdmOn id).lmp.held = false ∧ (tdmOn id).tdmEn = true ∧ State.reset.tdmEn = false) ∧
    (let b : List Byte := List.replicate 68 0; impliedLength 1 b = some b.length ∧ inRanges 1 b = true ∧ byteAt b 1 ≠ 9 ∧ byteAt (b.set 1 9) 1 = 9 ∧ (b.set 1 9).length = 68) ∧
    (let b : List Byte := List.replicate 20 0; impliedLength 2 b = some b.length ∧ inRanges 2 b = true ∧ byteAt b 0 ≠ 9 ∧ byteAt (b.set 0 9) 0 = 9 ∧ beAt b 4 4 = (tdmOn id).epoch ∧ beAt (b.set 7 1) 4 4 ≠ (tdmOn id).epoch) ∧
    ((tdmOn ({ · with state := .wait })).tdm.partner = none ∧ (tdmOn ({ · with state := .alone, holdoff := true })).tdm.holdoff = true ∧ (tdmOn ({ · with state := .isolated })).tdm.holdoff = false) ∧
    (let s := standbyS .paired; s.tdm.partner = some { pairId := 7 } ∧ s.tdm.active = false ∧ s.tdm.state = .paired ∧ s.tdm.applied = some 9 ∧ 9 ≠ (8 : Word).toNat) ∧
    (let b : List Byte := [1, 0, 2, 0, 0, 0, 0, 0]; impliedLength 5 b = some b.length ∧ inRanges 5 b = true ∧ byteAt b 0 = 1) ∧
    (let b : List Byte := [2, 1, 2, 0, 0, 0, 0, 0]; impliedLength 5 b = some b.length ∧ byteAt b 0 = 2 ∧ (resolvingS none none false id).tdm.resolution = some ⟨.heartbeat, 0, none, none, false, false⟩ ∧ (tdmOn id).tdm.resolution = none) ∧
    (impliedLength 6 [] = some 0 ∧ impliedLength 7 [] = some 0 ∧ inRanges 6 [] = true ∧ inRanges 7 [] = true) ∧
    (let s := tdmOn ({ · with state := .paired, partner := partnerS id }); s.tdm.active = true ∧ s.tdm.state = .paired ∧ (tdmOn ({ · with state := .frozen, partner := partnerS id })).tdm.state = .frozen) := by decide

theorem witness_TandemFollowsStateTable_timers :
    (let s := tdmOn ({ · with tfailOk := true, tfailRun := 3 }); s.lmp.held = false ∧ s.tfailEn = true ∧ s.tdmEn = true ∧ s.tdm.tfailOk = true ∧ 3 ≤ s.tdm.tfailRun) ∧ (tdmOn id).tdm.tfailOk = false ∧ ((tdmOn id).wr .tdm 0 0x80140064).tfailEn = false ∧
    (State.reset.tdm.state = .solo ∧ (tdmOn ({ · with state := .wait })).tdm.state = .wait ∧ (tdmOn ({ · with state := .alone })).tdm.state = .alone) ∧
    ((tdmOn id).tdm.partner = none ∧ (standbyS .paired).tdm.partner ≠ none ∧ (standbyS .paired).tdm.hbLost = false) ∧
    (let s := tdmOn ({ · with state := .wait, tfailOk := true }); s.tfailEn = true ∧ s.tdm.tfailOk = true ∧ s.tdm.position = 0 ∧ (tdmOn ({ · with state := .wait, tfailOk := true, position := 1 })).tdm.position ≠ 0) ∧
    (let s := tdmOn ({ · with state := .paired, active := false, partner := partnerS ({ · with epoch := 5 }) }); (s.tdm.partner.map (fun p => p.epoch)) = some 5 ∧ 5 ≠ s.epoch ∧ s.tdm.active = false) ∧
    (let r : Resolution := ⟨.heartbeat, 0, some (true, 0), none, false, false⟩; (resolvingS (some (true, 0)) none false id).tdm.resolution = some r ∧ r.own ≠ none) ∧ (resolvingS none none false id).tdm.resolution.map (fun r => r.own) = some none := by decide

theorem witness_TandemFollowsStateTable_commands :
    State.reset.lmp.held = false ∧ State.reset.tdm.state = .solo ∧ (standbyS .paired).tdm.state ≠ .solo ∧
    (let s := tdmOn ({ · with state := .paired, partner := partnerS ({ · with synced := true }) }); s.tdm.active = true ∧ s.tdm.state = .paired ∧ s.tdm.partner = some { pairId := 7, synced := true }) ∧
    (let s := tdmOn ({ · with state := .frozen, partner := partnerS id, wantBulk := true }); s.tdm.active = true ∧ s.tdm.state = .frozen ∧ s.tdm.wantBulk = true ∧ s.tdm.partner = some { pairId := 7 }) ∧ (standbyS .frozen).tdm.active = false ∧
    (let s := tdmOn ({ · with state := .faulty, active := false }); s.tdm.state = .faulty ∧ s.rngOk = false ∧ ({ s with key := { s.key with rng := .ok } } : State).rngOk = true) := by decide

theorem witness_TandemFollowsStateTable_mirror :
    (let s := tdmOn ({ · with state := .paired, dirtyCb := [1023], dirtyFlume := [1535], dirtyGw := [8191] }); s.tdm.active = true ∧ s.tdm.state = .paired ∧ s.tdm.dirtyCb.contains (1023 : Fin 1024).val = true ∧ s.tdm.dirtyFlume.contains (1535 : Fin 1536).val = true ∧
      s.tdm.dirtyGw.contains (8191 : Fin 8192).val = true ∧ (s.tdm.tx.map (fun r => if r.bulk then 0 else 16 + r.body.length)).sum + 16 + ([0, 1, 0, 0] ++ s.cbEntry 1023).length ≤ 262144) ∧
    ((ringS { kind := .normal }).ringOf 0).kind ≠ .off := by decide

/-- A test of the spare lane is accepted, the 28th lane is the last index, and a request beyond it is refused with 8. -/
theorem witness_RoadworksEngineAndReturn_engine :
    State.reset.lmp.held = false ∧ rwCount 2 = 28 ∧ State.reset.rwRefusal 2 27 0 = 0 ∧ State.reset.rwRefusal 2 28 0 = 8 ∧ State.reset.rwRefusal 2 27 2 = 8 ∧ (rwS .testing 2 27).rwRefusal 2 27 0 = 6 ∧
    State.reset.rwRefusal 0 0 0 = 4 ∧ (laneS 3 { state := .out }).rwRefusal 2 3 0 = 2 ∧ State.reset.rwRefusal 3 63 1 = 0 ∧ (rwS .testing 0 3).mgt.rw.state = .testing ∧ (rwS .held 0 3).mgt.rw.state ≠ .testing := by
  decide

theorem witness_RoadworksEngineAndReturn_end :
    (∀ kind ∈ [0, 1, 2, 3, 4], (rwS .testing kind 3).rwServes kind 3 = true ∧ (rwS .testing kind 3).mgt.rw.state = .testing ∧ (rwS .idle kind 3).rwServes kind 3 = false) ∧
    ((portS 28 ({ · with state := .roadworks })).port 28).state = .roadworks ∧ ((chanS 31 ({ · with kind := .roadworks })).chan 31).kind = .roadworks ∧
    ((mvbS 1 ({ · with kind := .roadworks })).mvbChan 1).kind = .roadworks ∧ ((mvbS 1 id).mvbChan 1).kind ≠ .roadworks ∧
    (let s : State := { State.reset with img := { State.reset.img with works := [.can 31] } }; s.img.works.contains (.can 31) = true ∧ s.img.works.contains (.can 30) = false) ∧
    (let s : State := { State.reset with tbl := { works := [30] } }; s.rwServes 4 30 = false ∧ s.tbl.works.contains 30 = true) ∧
    (let s := bankS 63 { state := .retiring true, stopped := true }; (s.bank 63).state = .retiring true ∧ (s.bank 63).stopped = true) ∧
    ((laneS 26 { state := .roadworksOnSpare }).lane 26).state = .roadworksOnSpare ∧ ((bankS 63 { state := .roadworks }).bank 63).state = .roadworks := by decide

/-- The reset state is canonical, and a step from it answers a next state. -/
theorem witness_StorageStaysCanonical : State.reset.stored ∧ step State.reset = .next State.reset.tick := by
  refine ⟨⟨by decide, fun b => ⟨by cases b <;> decide, by cases b <;> decide⟩⟩, rfl⟩

/-- A step from a state with the rollback floor at 1 answers a next state. -/
theorem witness_FusesOnlyBlow : (let s : State := { State.reset with fuses := { State.reset.fuses with rollback := 1 } }; step s = .next s.tick) := rfl

/-- Nothing waits after reset; a record of event 7 without a route; one whose hold is taken; one for the present flume 3 with and without credit. -/
theorem witness_SettleDeliversRecords :
    State.reset.evt.offered = [] ∧ State.reset.tdm.tx = [] ∧
    (let s : State := { State.reset.wr .evt 4 1 with evt := { offered := [⟨{}, 7, 0, []⟩] } }; s.routeFlumes 7 = [] ∧ s.routeCulvert 7 = none ∧ s.flag .evt 4 0 = true ∧ s.count .evt 0x400 < 2 ^ 39 - 1 ∧ s.count .evt 0x418 < 2 ^ 39 - 1) ∧
    (let s : State := { State.reset with evt := { hold := [(holdKey 3 7, some ⟨{}, 7, 0, []⟩)] } }; (s.hold 3 7).isSome = true ∧ (State.reset.hold 3 7) = none) ∧
    (let s0 := (State.reset.wr .flm (flumeReg 3 0) 0x81000001).wr .flm (flumeReg 3 4) 0x00080008; let s : State := { s0 with flm := { flume := [(3, { credit := [(0, 2), (1, 2), (2, 2)] })] } }; let r : EventRec := ⟨{}, 7, 0, List.replicate 16 0⟩;
      s.flumePresent 3 = true ∧ 1 ≤ slotsOf r.bytes.length ∧ slotsOf r.bytes.length ≤ s.flumeMaxItem 3 ∧ slotsOf r.bytes.length ≤ (s.flume 3).creditOf (producerOf 7) ∧ (s0.flume 3).creditOf (producerOf 7) = 0) := by decide

/-- A pair of halves; a plain register that software writes; an address of no block and one without a row; a register beside a pair. -/
theorem witness_WritesStoreByWidthAndAccessCode_rows :
    (State.reset.widePair .tkp 0x20 ∧ State.reset.widePair .lmp 0x48 ∧ State.reset.widePair .eth (ethReg 20 0x70) ∧ State.reset.widePair .hbr (qpReg 1023 0x18)) ∧
    State.reset.lmp.held = false ∧ (0x1000000 < mirrorBase ∧ 0x1000000 % 4 = 0 ∧ State.reset.serves .host .xbr 0 = true ∧ actsOnWrite .xbr 0 = false ∧
      wideLow .xbr 0 = false ∧ wideHigh .xbr 0 = false) := by
  refine ⟨⟨.inl rfl, .inr (.inl rfl), .inr (.inr (.inl ⟨20, by decide, .inr rfl⟩)), .inr (.inr (.inr ⟨1023, 0x18, by decide, by decide, by decide, rfl⟩))⟩, by decide, by decide⟩

/-- Each rail at or above its rising threshold after reset; one below its falling threshold, and below its rising one. -/
theorem witness_DeviceResetPinsAndSensors_rails :
    (∀ r, railRising r ≤ State.reset.rail r) ∧ (0 < railFalling .vcore ∧ railFalling .vcore ≤ 680) ∧ (heldS.lmp.held = true ∧ heldS.lmp.kind = .run ∧ heldS.lmp.cause < 16) ∧
    (∀ r, railRising r ≤ heldS.rail r) ∧ (heldS.setRail .vcore 699).rail .vcore < railRising .vcore := by
  have typical : ∀ r, railRising r ≤ railTypical r := by
    intro r; cases r with
    | vio n => unfold railRising railTypical railLevels; dsimp only; split <;> decide
    | _ => decide
  exact ⟨typical, by decide, by decide, typical, by decide⟩

/-- The instant of PPS out lies in the present period, or past it; its width has passed, or has not. -/
theorem witness_PpsStampsAndDisciplines_out :
    (let s := regS .tkp 0x34 1; s.ppsDue = true) ∧ (let s := (regS .tkp 0x34 1).setDom 0 { time := 41 * 2 ^ 32 }; s.ppsDue = false) ∧
    (let a : PpsState := { outSince := some 0 }; let s : State := { (regS .tkp 0x38 40).setDom 0 { time := 100 * 2 ^ 32 } with tkp := { ((regS .tkp 0x38 40).setDom 0 { time := 100 * 2 ^ 32 }).tkp with pps := a } };
      s.tkp.pps.outSince = some 0 ∧ 0 + (s.rd .tkp 0x38).toNat * 2 ^ 32 < s.now + 40 * 2 ^ 32) ∧
    (let a : PpsState := { outSince := some 0 }; let s : State := { regS .tkp 0x38 40 with tkp := { State.reset.tkp with pps := a } }; s.tkp.pps.outSince = some 0 ∧ s.now + 40 * 2 ^ 32 ≤ 0 + (s.rd .tkp 0x38).toNat * 2 ^ 32) ∧
    (let s : State := { regS .tkp 0x30 2 with tkp := { State.reset.tkp with pps := { lost := true } } }; s.tkp.pps.lost = true) := by decide

/-- Verification times out on a port that is UP, and on one in STANDBY. -/
theorem witness_MergeVerificationAndSecurityRegisters_states :
    (let s := portS 3 ({ · with verify := .verifying, state := .up }); (s.port 3).verify = .verifying ∧ (s.port 3).state = .up) ∧ (let s := portS 3 ({ · with verify := .verifying, state := .standby }); (s.port 3).state ≠ .up) := by decide

/-- Port 21 with a frame in the S-lane buffer: the frame that collided before is due again or not; the port may begin one, with a turn of its own under PLCA, without PLCA, or not; a 16th attempt. -/
theorem witness_MultidropAndFecAlarm_retries :
    (let c : Copy := ⟨5, 1, 21, 21, 3, .port 21, false, none, 1, false⟩; let s (f : EthPort → EthPort) (g : EgrPort) : State := { (regS .eth (ethReg 21 0x80) 0) with net := { eth := [(21, f { state := .up, speed := 1 })], egr := [(21, g)], sbuf := [⟨5, 0⟩] }, cis := { copies := [c], held := [{ frame := { id := 1 } }] } };
      (s ({ · with backoff := true }) { attempts := 3, tried := 5 }).retryNext 21 = some c ∧ (s ({ · with backoff := true }) {}).retryNext 21 = none ∧ (s id {}).plcaMaySend 21 = true ∧ (s id {}).mayBegin 21 = true ∧ (s id {}).retryNext 21 = none ∧
      (s id { attempts := 3, tried := 5 }).mayBegin 21 = true ∧ (s id { attempts := 3, tried := 5 }).retryNext 21 = some c ∧ (s ({ · with backoff := true }) { attempts := 3, tried := 5 }).mayBegin 21 = false ∧ (s id { wire := [{ copy := 5, cls := 3, express := true, bytes := [], start := 0 }] }).mayBegin 21 = false ∧
      ((s id { attempts := 15, tried := 5 }).egress 21).triedOf 5 + 1 = 16 ∧ ((s id { attempts := 15, tried := 4 }).egress 21).triedOf 5 + 1 = 1) ∧
    (let s : State := (portS 21 ({ · with state := .up, turn := true, plca := true })).wr .eth (ethReg 21 0x80) 0x80000800; s.mayBegin 21 = true ∧ s.plcaRuns 21 = true ∧ s.net.sbuf = []) ∧
    (let s : State := (portS 21 ({ · with state := .up, plca := true })).wr .eth (ethReg 21 0x80) 0x80000800; s.mayBegin 21 = false) ∧ ((portS 21 ({ · with state := .standby })).port 21).state ≠ .up := by decide

/-- The first frame of lane 3 waits alone; one with the same R-TAG and stamp waits on lane 2 beside it. -/
theorem witness_FramesMeetPolicies_ties :
    (let s := prsS 10 14 (List.replicate 60 0) []; let f : Frame := { id := 1, bytes := List.replicate 60 0, lane := 3 }; s.waiting 3 = some f ∧ s.waiting 4 = none ∧ s.tied f = []) := by decide

/-- Banks 62 and 63 stop since one instant, or since two. -/
theorem witness_CisternAdmitsWithinLimits_banks :
    (let s : State := { State.reset with cis := { bank := [(62, { state := .retiring false, since := 5 }), (63, { state := .retiring false, since := 5 })] } }; s.stopping 62 = true ∧ s.stopping 63 = true ∧
      (s.bank 62).since = (s.bank 63).since) ∧
    (let s : State := { State.reset with cis := { bank := [(62, { state := .retiring false, since := 4 }), (63, { state := .retiring false, since := 5 })] } }; s.stopping 63 = true ∧ (∀ k, k < 63 → s.stopping k = true → (s.bank k).since ≠ (s.bank 63).since)) ∧
    (bankS 63 { state := .retiring false, stopped := true }).stopping 63 = false ∧ State.reset.stopping 0 = false := by decide

/-- A port takes one-step Syncs or not. -/
theorem witness_TimeMessagesAndPeerDelay_one_step : ((ptpS .locked 2 0).wr .tkp (tkpPort 3 0) 0).flag .tkp (tkpPort 3 0) 16 = false ∧ ((ptpS .locked 2 0).wr .tkp (tkpPort 3 0) 0x10000).flag .tkp (tkpPort 3 0) 16 = true ∧
    State.reset.servesGm 1 = false ∧ ((ptpS .grandmaster 0 0).wr .tkp (domReg 0 0) 5).servesGm 0 = true := by decide

/-- No lane is OUT, and the one copy goes to its port's own lane, in a build. -/
theorem witness_RoundaboutMovesCells_lanes : (∀ l ∈ List.range 27, ((cisS 0).lane l).state ≠ .out) ∧ (∀ c ∈ (cisS 0).cis.copies, c.outLane = c.dest.lane ∧ ∀ p, c.dest = .port p → (cisS 0).buildMode p ≠ 0) := by
  refine ⟨by decide, fun c hc => ?_⟩
  rw [show (cisS 0).cis.copies = [⟨5, 1, 4, 3, 2, .port 3, false, none, 0, false⟩] from rfl] at hc
  cases List.mem_singleton.1 hc
  exact ⟨rfl, fun p hp => by cases hp; decide⟩

set_option maxRecDepth 20000 in
/-- An idle port may select for either kind, one with a long express frame on the wire for neither, one with a suspended frame only express; nothing unfit waits; a gate about to close upon a preemptable frame,
and one open without end; the suspended frame may go on, or not. -/
theorem witness_SluicesGateAndSelect_wire :
    (let e : OnWire := { copy := 6, cls := 1, express := true, bytes := List.replicate 2000 0, start := 0 }; let w : OnWire := { e with express := false, suspended := true }; let m := fun (l : List OnWire) => wireS 0 ({ · with wire := l });
      (m []).maySelect 3 true = true ∧ (m []).maySelect 3 false = true ∧ (m [e]).maySelect 3 true = false ∧ (m [w]).maySelect 3 true = true ∧ (m [w]).maySelect 3 false = false ∧ (m []).stagedNow 3 = [{ cls := 2, express := true, copy := some 5 }] ∧
        (m [{ e with express := false }]).closePreempts 3 { e with express := false } = false ∧ (m [w]).mayResume 3 w = true ∧ (wireS 0 ({ · with wire := [w], hold := true })).mayResume 3 w = false) ∧
    (let w : OnWire := { copy := 6, cls := 2, express := false, bytes := List.replicate 2000 0, start := 0 }; let s0 := (gateS 1 ({ · with wire := [w] })).wr .eth (ethReg 3 0x50) 1; let s : State := { s0 with net := { s0.net with eth := [(3, { state := .up, speed := 6, verify := .succeeded })] }, tkp := { State.reset.tkp with dom := [(0, { time := 390 * 2 ^ 32 })] } };
      (s.egress 3).wire = [w] ∧ s.preempting 3 = true ∧ s.mayPreempt 3 w = true ∧ s.closePreempts 3 w = true ∧ s.controlDue 3 = false) ∧
    (∀ c < 8, (State.reset.dropUnfit 3 c 64) = State.reset) := by decide

set_option maxRecDepth 20000 in
/-- A MAC control frame is due, or not; no staged selection waits behind a pause; one does and is not noted yet; a suspended frame that may go on, with an express frame of its own class staged; a copy lost on its way. -/
theorem witness_FramesCrossTheWire_turns :
    (let s : State := { ((portR 3 0x40 0x6000).wr .eth (ethReg 3 0x18) 1).wr .eth (ethReg 3 0x1C) 1 with cis := { xoff := [(3, 4)] } }; s.controlDue 3 = true ∧ (s.egress 3).staged = []) ∧ (wireS 1 id).controlDue 3 = false ∧
    (∀ x ∈ ((wireS 1 id).egress 3).staged, (wireS 1 id).stagedBlocked 3 x = true → x.held = true) ∧
    (let s0 := wireS 1 id; let x : Staged := { cls := 2, express := true, copy := some 5 }; let s : State := { s0 with net := { s0.net with eth := [(3, { state := .up, linkPaused := true, linkSince := 0 })] }, tkp := { State.reset.tkp with dom := [(0, { time := 101 * 2 ^ 32 })] } };
      (s.egress 3).staged = [x] ∧ (s.egress 3).wire = [] ∧ (x.copy.bind s.copyOf).isSome = true ∧ s.stagedBlocked 3 x = true ∧ x.held = false) ∧
    (let w : OnWire := { copy := 6, cls := 2, express := false, bytes := List.replicate 2000 0, start := 0, suspended := true }; let s := wireS 1 ({ · with wire := [w] }); (s.egress 3).active = none ∧ s.mayResume 3 w = true ∧
      (s.stagedReady 3 true).map (fun y => y.2.cls) = some w.cls ∧ s.mayResume 3 { w with cls := 1 } = false) ∧
    (let c : Copy := ⟨5, 1, 4, 3, 2, .port 3, false, none, 1, false⟩; (wireS 1 id).broken c = false ∧ (wireS 1 id).broken { c with lost := true } = true) ∧ (portS 21 ({ · with burst := 1 })).port 21 ≠ (portS 21 id).port 21 := by decide

/-- The delay of 100 with an offset of 28 is out of range, with one of 27 it is not; a channel that may send its reference message, and one whose build lacks FD. -/
theorem witness_CanFramesAndErrors_delay :
    (let s := (canS 2 0 id).wr .can (canReg 31 0x14) 0x8000001C; s.tdcOn 31 { fdf := true } = true ∧ s.tdcOn 31 {} = false ∧ s.tdcOver 31 100 = true ∧ s.tdcOver 31 99 = false ∧ s.canOp 31 = 0) ∧
    ((canS 2 0 id).refMay 31 = true ∧ ((canS 2 0 id).wr .can (canReg 31 0x80) 0x20000000).refMay 31 = false) := by decide

/-- A stream that keeps the epoch of its first message; lane 22 out of service. -/
theorem witness_SignalsAndStreams_lanes :
    (({ gwyS 6 [] with gwy := { acf := [(3, { msgs := [[1]], epoch := some 7 })] } } : State).acf 3).epoch.getD 0 = 7 ∧ (gwyS 6 []).laneServed 22 = true ∧ (laneS 22 { state := .out }).laneServed 22 = false ∧ (gwyS 6 []).prs.roadworks = false := by decide

/-- A target channel that is absent, and one that is there; lanes 22 and 26 carry frames; a frame that ends with its bytes. -/
theorem witness_CulvertsCheckAndWrap_targets :
    (let t := fun (k n : Byte) => padTo 8 [k, n]; State.reset.targetAbsent (t 1 31) = true ∧ (canS 2 0 id).targetAbsent (t 1 31) = false ∧ State.reset.targetAbsent (t 2 1) = true ∧ State.reset.targetAbsent (t 0 0) = false) ∧
    State.reset.laneServed 26 = true ∧ State.reset.laneServed 22 = true ∧ (laneS 26 { state := .remapping }).laneServed 26 = false ∧ State.reset.prs.roadworks = false ∧ State.reset.frameEnd culFrame = culFrame.bytes.length := by decide

/-- Roadworks are due at channel 1 with a commit, or not; the last poll is answered. -/
theorem witness_MvbChannelsFollowStateTable_works :
    (let s : State := { lineS 0 ({ · with kind := .master, polls := [(1, 4095)] }) with img := { (lineS 0 id).img with works := [.mvb 1] } }; (s.mvbChan 1).kind = .master ∧ s.img.works.contains (.mvb 1) = true ∧
      (s.mvbChan 1).polls.erase ((1 : Fin 16).val, (4095 : Fin 4096).val) = []) ∧ (lineS 0 id).img.works.contains (.mvb 1) = false := by decide

/-- Lane 21 carries the host's frames, or not. -/
theorem witness_QueuePairsMoveEntries_lanes : State.reset.laneServed 21 = true ∧ (laneS 21 { state := .out }).laneServed 21 = false ∧ (({ State.reset with prs := { roadworks := true } } : State).prs.roadworks = true) := by decide

/-! ### Ill-formed commands: one for each check of WellFormed.lean -/

/-- A classical frame with these changes. -/
def fr (f : CanFrame → CanFrame) : Instr := .canFrameRx 0 (f {})

theorem test_ill_formed_accesses :
    Instr.wf (.loReadLatch .host 0x4000000) = false ∧ Instr.wf (.loReadLatch (.core 0) 0 (some 0)) = false ∧ Instr.wf (.loReadLatch .host 0x100000 (some 0)) = false ∧ Instr.wf (.loWriteStage .host 0x4000000 0) = false ∧ Instr.wf (.hiWriteStore .host 0x4000000 0) = false ∧ Instr.wf (.registerWrite .host 0x4000000 0) = false ∧
    Instr.wf (.regAccess true 0x4000000 0) = false ∧ Instr.wf (.misalignedAccess .host 8 4 true) = false ∧ Instr.wf (.misalignedAccess .host 0x4000000 2 true) = false ∧
    Instr.wf (.aliasWrite .host 0x1FFFFFC 0) = false ∧ Instr.wf (.aliasWrite .host 0x4000000 0) = false := by decide

theorem test_ill_formed_frames :
    Instr.wf (.frameReceive 0 (.whole ⟨List.replicate 17 0, false⟩)) = false ∧ Instr.wf (.frameReceive 0 (.first ⟨List.replicate 100 0, false⟩ 63)) = false ∧ Instr.wf (.frameReceive 0 (.first ⟨List.replicate 100 0, false⟩ 101)) = false ∧
    Instr.wf (.frameReceive 0 (.fragment ⟨true, 0, 0, [], [0, 0, 0], true, false⟩)) = false ∧ Instr.wf (.pauseFrameRx 0 true (2 ^ 48) 0) = false ∧ Instr.wf (.pfcFrameRx 0 true (2 ^ 48) 0 (List.replicate 8 0)) = false ∧
    Instr.wf (.pfcFrameRx 0 true 0 0 (List.replicate 7 0)) = false ∧ Instr.wf (.pfcFrameRx 0 true 0 0 (List.replicate 8 65536)) = false := by decide

theorem test_ill_formed_can_frames :
    (fr ({ · with id := 2048 })).wf = false ∧ (fr ({ · with ide := true, id := 2 ^ 29 })).wf = false ∧ (fr ({ · with data := List.replicate 9 0 })).wf = false ∧ (fr ({ · with fdf := true, data := List.replicate 65 0 })).wf = false ∧
    (fr ({ · with sdt := 256 })).wf = false ∧ (fr ({ · with vcid := 256 })).wf = false ∧ (fr ({ · with af := 2 ^ 32 })).wf = false ∧ (fr ({ · with rlen := 16 })).wf = false ∧
    (fr ({ · with rtr := true, fdf := true })).wf = false ∧ (fr ({ · with rtr := true, xlf := true })).wf = false ∧ Instr.wf (.wakeFrameMatch 0 (some { id := 2048 })) = false := by decide

theorem test_ill_formed_lists :
    Instr.wf (.bootSelect [⟨.b, 0, 0⟩]) = false ∧ Instr.wf (.imgStage [⟨.b, 0, 0⟩]) = false ∧ Instr.wf (.mvbTelegramRx 0 0 0 (List.replicate 33 0) true ⟨true, false⟩) = false ∧ Instr.wf (.flumeItemHandoff 0 0 []) = false ∧
    Instr.wf (.dmaTxFetch 0 []) = false ∧ Instr.wf (.dbgResponse (List.replicate 99 0)) = false := by decide

theorem test_well_formed : Instr.wf (.registerWrite .host 0x3FFFFFC 0) = true ∧ Instr.wf (.misalignedAccess .host 2 4 true) = true ∧ Instr.wf (fr ({ · with id := 2047, data := List.replicate 8 0 })) = true ∧
    Instr.wf (.frameReceive 0 (.whole ⟨List.replicate 64 0, false⟩)) = true ∧ Instr.wf (.dbgResponse (List.replicate 100 0)) = true := by decide

/-- No word spells a command (Decode.lean), so none is placed. -/
theorem test_no_word_spells_a_command : decodeTableWord 32 0xFFFFFFFF = none ∧ (State.reset.withFetchWord 32 0xFFFFFFFF).pending = [] := by decide

/-! ### Examples that the spec works out -/

/-- Guard lengths of the worked example in 07_egress_scheduling.md: port U0 with MACsec on, TX_SCI set and PFC generation on; 1,514 and 60 stored bytes need 1,654 and 200 bytes. -/
def guardS (n : Nat) : State :=
  (((({ State.reset with cis := { held := [{ frame := { id := 1, bytes := List.replicate n 0, rxLen := n + 4 } }] } }).wr .eth (ethReg 0 0) 0x80).wr .eth (ethReg 0 0x44) 0xC000).wr .eth (ethReg 0 0x60) 0x200).wr .eth (ethReg 0 0x64) 0x10
set_option maxRecDepth 20000 in
theorem test_guard_lengths : (guardS 1514).guardLen 0 ⟨5, 1, 4, 0, 3, .port 0, false, none, 1, false⟩ = 1654 ∧ (guardS 60).guardLen 0 ⟨5, 1, 4, 0, 3, .port 0, false, none, 1, false⟩ = 200 := by decide

/-- Appendix of the spec: RING_CFG 0x8404_0010 makes identifier 0x410. -/
theorem test_ring_identifier : ((State.reset.wr .lmp 0x700 0x84040010).ringFrameOut 0 .alive 0).id = 0x410 := by decide

/-- A 1,500-byte frame takes 24 cells of 64 bytes; an event record of 33 bytes takes two flume slots of 32. -/
theorem test_cells_and_slots : cellsOf 1500 = 24 ∧ slotsOf 33 = 2 := by decide

end Sys2Proof.Machine
end

section
/-!
Register accesses (00_scope.md R4, R9-R11, R13, R14): what a read returns and latches, what a stray access leaves, and the statement that they make up.
-/
namespace Sys2Proof.Machine

/-! ### The commands, while device reset is not held -/

/-- A command that acts outside device reset runs as the operation it calls. -/
theorem runs_of_awake {c : Instr} {s : State} {f : State → State} {P : State → Prop} (hc : exec c s = (s.awake f).done) (hs : s.lmp.held = false) (h : P (f s)) :
    Runs c s P :=
  ⟨f s, by rw [hc, State.awake_of s f hs]; rfl, h⟩

theorem runs_loReadLatch {s : State} {path : Path} {addr : Nat} {P : State → Prop} (hs : s.lmp.held = false) (h : P (s.accessRead path addr)) :
    Runs (.loReadLatch path addr) s P :=
  runs_of_awake (f := fun t => t.accessRead path addr) rfl hs h

theorem runs_misalignedAccess {s : State} {path : Path} {addr size : Nat} {write : Bool} {P : State → Prop} (hs : s.lmp.held = false)
    (h : P (s.badAccess path addr write)) : Runs (.misalignedAccess path addr size write) s P :=
  runs_of_awake (f := fun t => t.badAccess path addr write) rfl hs h

theorem runs_aliasWrite {s : State} {path : Path} {addr : Nat} {v : Word} {P : State → Prop} (hs : s.lmp.held = false) (ha : inAlias addr = true)
    (h : P (s.aliasWritten path addr)) : Runs (.aliasWrite path addr v) s P :=
  runs_of_awake (f := fun t => if inAlias addr then t.aliasWritten path addr else t) rfl hs (by rw [if_pos ha]; exact h)

/-! ### What a path holds -/

theorem State.path_setPath_ne (s : State) {p q : Path} (v : PathState) (h : q ≠ p) : (s.setPath p v).path q = s.path q := by
  rw [State.path_setPath, if_neg h.symm]
@[simp] theorem State.path_readAs_same (s : State) (p : Path) (v : Word) : (s.readAs p v).path p = { s.path p with lastRead := v } :=
  s.path_setPath_same p _
theorem State.path_readAs_ne (s : State) {p q : Path} (v : Word) (h : q ≠ p) : (s.readAs p v).path q = s.path q :=
  s.path_setPath_ne _ h
theorem State.setPath_only (s : State) (p : Path) (v : PathState) : Only [.paths] s (s.setPath p v) := by
  rw [only_iff_agree]; simp [maskOf, Part.index]
theorem State.readAs_only (s : State) (p : Path) (v : Word) : Only [.paths] s (s.readAs p v) := s.setPath_only p _

/-- A read of `v` that latches nothing answers `v`, and leaves the latch, the stage and every other path. -/
theorem State.readAs_reads (s : State) (path : Path) (v : Word) : let u := s.readAs path v
    (u.path path).lastRead = v ∧ (u.path path).latch = (s.path path).latch ∧ (u.path path).stage = (s.path path).stage ∧
      (∀ q, q ≠ path → u.path q = s.path q) ∧ Only [.paths] s u := by
  refine ⟨?_, ?_, ?_, fun q hq => s.path_readAs_ne v hq, s.readAs_only path v⟩ <;> rw [State.path_readAs_same]

/-! ### Reads, by address (R4, R13) and by register (R9-R11) -/

theorem State.accessRead_live (s : State) (path : Path) {addr : Nat} {b : Block} {off : Nat} (ha : addr % 4 = 0) (hm : addr < mirrorBase)
    (hl : locate addr = some (b, off)) : s.accessRead path addr = s.readLive path addr b off := by
  unfold State.accessRead; simp [ha, hm, hl]

theorem State.accessRead_alias (s : State) (path : Path) {addr : Nat} (ha : addr % 4 = 0) (hl : mirrorBase ≤ addr) (hm : addr < 2 * mirrorBase) :
    s.accessRead path addr = s.readAs path (s.lookAt path (addr - mirrorBase)) := by
  unfold State.accessRead; simp [ha, Nat.not_lt.2 hl, hm]

/-- A read of a _LO register answers the low half and latches its address, the high half and the fraction, if one follows. -/
theorem State.readLive_low (s : State) {path : Path} (addr : Nat) {b : Block} {off : Nat} (hs : s.serves path b off = true) (hw : wideLow b off = true) :
    s.readLive path addr b off = s.setPath path { s.path path with
      latch := some (addr, s.look path b (off + 4), if wideFrac b (off + 8) then s.look path b (off + 8) else 0), lastRead := s.look path b off } := by
  unfold State.readLive; simp [hs, hw]

/-- A read of a _HI register answers the path's latched half, and the live one where nothing is latched. -/
theorem State.readLive_high (s : State) {path : Path} (addr : Nat) {b : Block} {off : Nat} (hs : s.serves path b off = true) (hl : wideLow b off = false)
    (hh : wideHigh b off = true) : s.readLive path addr b off = s.readAs path (((s.path path).latch.map (fun l => l.2.1)).getD (s.look path b off)) := by
  unfold State.readLive State.latchOf; simp [hs, hl, hh]

/-! ### Stray accesses (R4, R14) -/

theorem State.badAccess_read (s : State) (path : Path) (addr : Nat) : s.badAccess path addr false = s.readAs path 0xFFFFFFFF := rfl

theorem State.badAccess_write_alias (s : State) (path : Path) {addr : Nat} (h : inAlias addr = true) : s.badAccess path addr true = s.aliasWritten path addr := by
  unfold State.badAccess; simp [h]

theorem State.badAccess_write_below (s : State) (path : Path) {addr : Nat} (h : addr < mirrorBase) : s.badAccess path addr true = s := by
  unfold State.badAccess inAlias; simp [Nat.not_le.2 h]

/-- A write through the inspection mirror raises E1603 and counts once, in the management counter of such writes; no register changes. -/
theorem State.aliasWritten_stray (s : State) (path : Path) (addr : Nat) : let u := s.aliasWritten path addr
    Raised 1603 (p1 (pathIndex path) ++ p4 addr) s u ∧ Kept [] s u ∧ Counted [(.mgt, 0x450)] s u ∧ Only [.regs .mgt, .seq, .evt] s u := by
  refine ⟨?_, ?_, ?_, ?_⟩
  · exact Raised.emit (s.bump_grows ..) (s.stamp_bump ..) _ _
  · exact ((Kept.refl [] s).bump _ _).emit _ _
  · exact ((Counted.refl s).bump _ _).emit _ _
  · rw [only_iff_agree]; simp [maskOf, Part.index, Block.index]

/-- Settles O8: a read is one of the three cases of `accessRead`, a stray access is either a read of all ones, nothing, or a write through the mirror. -/
theorem readsAndStrayAccesses : Obligations.ReadsAndStrayAccesses := by
  unfold Obligations.ReadsAndStrayAccesses
  refine ⟨fun s path addr hs ha => ⟨fun hm b off hl hsv => ⟨fun hw => ?low, fun hlo hhi => ?high⟩, fun hlo hm => ?aliasRead⟩,
    fun s path addr size v hs => ⟨?badRead, fun hm => ?badWrite, fun hin => ?aliasWrite⟩⟩
  case low =>
    refine runs_loReadLatch hs ?_
    rw [s.accessRead_live path ha hm hl, s.readLive_low addr hsv hw, State.path_setPath_same]
    exact ⟨rfl, rfl, rfl, fun q hq => s.path_setPath_ne _ hq, s.setPath_only path _⟩
  case high =>
    refine runs_loReadLatch hs ?_
    rw [s.accessRead_live path ha hm hl, s.readLive_high addr hsv hlo hhi]
    obtain ⟨hread, hkept⟩ := s.readAs_reads path (((s.path path).latch.map (fun l => l.2.1)).getD (s.look path b off))
    exact ⟨fun l h => by rw [hread, h]; rfl, fun h => by rw [hread, h]; rfl, hkept⟩
  case aliasRead =>
    refine runs_loReadLatch hs ?_
    rw [s.accessRead_alias path ha hlo hm]
    exact s.readAs_reads path _
  case badRead =>
    refine runs_misalignedAccess hs ?_
    rw [State.badAccess_read]
    obtain ⟨hread, hlatch, -, hothers, honly⟩ := s.readAs_reads path 0xFFFFFFFF
    exact ⟨hread, hlatch, hothers, honly⟩
  case badWrite => exact runs_misalignedAccess hs (s.badAccess_write_below path hm)
  case aliasWrite =>
    have stray := s.aliasWritten_stray path addr
    exact ⟨runs_misalignedAccess hs (by rw [s.badAccess_write_alias path hin]; exact stray), runs_aliasWrite hs hin stray⟩

end Sys2Proof.Machine
end

section
/-!
The staging of the image loader (02_ikiem_images.md R73-R75, R101, R102): what a write of its registers stores, what STAGE and the end of a staging leave, and the
statement that they make up.
-/
namespace Sys2Proof.Machine

/-! ### Writes through a register's mask -/

/-- A field that lies within the writable bits takes what is written. -/
theorem field_masked (old v m : Word) {hi lo : Nat} (hm : ∀ i ≤ hi, lo ≤ i → bit m i = true) : field (old &&& ~~~ m ||| v &&& m) hi lo = field v hi lo := by
  unfold field
  refine Nat.eq_of_testBit_eq fun i => ?_
  simp only [Nat.testBit_mod_two_pow, Nat.testBit_div_two_pow, BitVec.testBit_toNat, BitVec.getLsbD_or, BitVec.getLsbD_and, BitVec.getLsbD_not]
  by_cases hin : i < hi + 1 - lo
  · have hbit : m.getLsbD (i + lo) = true := hm (i + lo) (by omega) (by omega)
    simp [hbit]
  · simp [hin]

/-- A write of a register all of whose bits are writable stores the word written. -/
theorem State.store_whole (s : State) (p : Path) {b : Block} {off : Nat} (v : Word) (row : RegRow) (h : rowAt b off = some row) (hp : row.perPath = false) (hw : row.w1c = 0)
    (hrw : row.rw = 0xFFFFFFFF) (hs : ∀ w, storedAs b row.off w = w) : s.store p b off v = s.wr b off v := by
  have hall : word 0xFFFFFFFF = BitVec.allOnes 32 := rfl
  rw [s.store_plain p b off v row h hp hw hs, hrw, hall, BitVec.not_allOnes, BitVec.and_zero, BitVec.zero_or, BitVec.and_allOnes]

theorem State.store_only (s : State) (p : Path) (b : Block) (off : Nat) (v : Word) : Only [.regs b] s (s.store p b off v) := by
  rw [only_iff_agree]; cases b <;> simp [maskOf, Part.index, Block.index]

theorem State.rd_unstage (s : State) (p : Path) (addr : Nat) (b : Block) (a : Nat) : (s.unstage p addr).rd b a = s.rd b a :=
  Agree.rd (m := 1048576) ((State.unstage_agree s p addr (by decide)).2 (Agree.refl _ s)) b (by cases b <;> decide) a

/-- The write of the high half of a value whose halves are writable as a whole stores it, with the low half of R12 (00_scope.md). -/
theorem State.storeHigh_whole (s : State) (p : Path) {b : Block} {off : Nat} (v : Word) (low : ∀ (t : State) w, t.store p b off w = t.wr b off w)
    (high : ∀ (t : State) w, t.store p b (off + 4) w = t.wr b (off + 4) w) : let u := s.storeHigh p b off v
    u.rd b (off + 4) = v ∧ u.rd b off = s.lowFor p (b.base + off) (s.rd b off) ∧ Kept [(b, off), (b, off + 4)] s u := by
  intro u
  have hu : u = ((s.wr b off (s.lowFor p (b.base + off) (s.rd b off))).unstage p (b.base + off)).wr b (off + 4) v := by
    show State.storeHigh .. = _
    unfold State.storeHigh; dsimp only; rw [low, high]
  refine ⟨?_, ?_, ?_⟩
  · rw [hu, State.rd_wr_same]
  · rw [hu, State.rd_wr, if_neg (by omega), State.rd_unstage, State.rd_wr_same]
  · rw [hu]
    exact (((Kept.refl _ s).wr (by simp) _).of_rd fun c a _ => State.rd_unstage _ p _ c a).wr (by simp) v

/-! ### The staging registers (R101, R102) -/

theorem State.store_stageSrc (s : State) (p : Path) (v : Word) :
    s.store p .img 0x20 v = s.wr .img 0x20 (s.rd .img 0x20 &&& ~~~ word 0xFFFF0003 ||| v &&& word 0xFFFF0003) :=
  s.store_plain p .img 0x20 v ⟨0x20, [], 3, 0xFFFF0003, 0, false⟩ (by decide) rfl rfl fun _ => rfl

theorem State.store_commitTimeLo (s : State) (p : Path) (v : Word) : s.store p .img 0x28 v = s.wr .img 0x28 v :=
  s.store_whole p v ⟨0x28, [], 0, 0xFFFFFFFF, 0, false⟩ (by decide) rfl rfl rfl fun _ => rfl

theorem State.store_commitTimeHi (s : State) (p : Path) (v : Word) : s.store p .img 0x2C v = s.wr .img 0x2C v :=
  s.store_whole p v ⟨0x2C, [], 0, 0xFFFFFFFF, 0, false⟩ (by decide) rfl rfl rfl fun _ => rfl

theorem State.store_commitEpoch (s : State) (p : Path) (v : Word) : s.store p .img 0x30 v = s.wr .img 0x30 v :=
  s.store_whole p v ⟨0x30, [], 0, 0xFFFFFFFF, 0, false⟩ (by decide) rfl rfl rfl fun _ => rfl

theorem State.doConfigWrite_busy (s : State) (p : Path) (reg : StageReg) (v : Word) (h : s.img.state = .staging ∨ s.img.state = .armed ∨ s.img.state = .committing) :
    s.doConfigWrite p reg v = s.imgBusy := by
  unfold State.doConfigWrite; exact if_pos h

theorem State.doConfigWrite_open (s : State) (p : Path) (v : Word) (h : ¬ (s.img.state = .staging ∨ s.img.state = .armed ∨ s.img.state = .committing)) :
    s.doConfigWrite p .stageSrc v = s.store p .img 0x20 v ∧ s.doConfigWrite p .commitEpoch v = s.store p .img 0x30 v ∧
      s.doConfigWrite p .commitTimeLo v = s.stageLow p (Block.base .img + 0x28) v ∧ s.doConfigWrite p .commitTimeHi v = s.storeHigh p .img 0x28 v := by
  unfold State.doConfigWrite; exact ⟨if_neg h, if_neg h, if_neg h, if_neg h⟩

theorem State.stageSrc_written (s : State) (p : Path) (v : Word) : let u := s.store p .img 0x20 v
    u.fld .img 0x20 31 16 = field v 31 16 ∧ u.fld .img 0x20 1 0 = field v 1 0 ∧ Kept [(.img, 0x20)] s u ∧ Only [.regs .img] s u := by
  intro u
  refine ⟨?_, ?_, ?_, ?_⟩
  · simp only [u, State.store_stageSrc, State.fld, State.rd_wr_same]; exact field_masked _ v _ (by decide)
  · simp only [u, State.store_stageSrc, State.fld, State.rd_wr_same]; exact field_masked _ v _ (by decide)
  · simp only [u, State.store_stageSrc]; exact (Kept.refl _ s).wr (by simp) _
  · exact s.store_only p .img 0x20 v

theorem State.commitEpoch_written (s : State) (p : Path) (v : Word) : let u := s.store p .img 0x30 v
    u.rd .img 0x30 = v ∧ Kept [(.img, 0x30)] s u ∧ Only [.regs .img] s u := by
  intro u
  refine ⟨?_, ?_, ?_⟩
  · simp only [u, State.store_commitEpoch, State.rd_wr_same]
  · simp only [u, State.store_commitEpoch]; exact (Kept.refl _ s).wr (by simp) v
  · exact s.store_only p .img 0x30 v

theorem State.stageLow_staged (s : State) (p : Path) (addr : Nat) (v : Word) : let u := s.stageLow p addr v
    (u.path p).stage = some (addr, v) ∧ (∀ q, q ≠ p → u.path q = s.path q) ∧ Only [.paths] s u :=
  ⟨by rw [State.stageLow, State.path_setPath_same], fun _ hq => s.path_setPath_ne _ hq, s.setPath_only p _⟩

theorem State.commitTimeHi_written (s : State) (p : Path) (v : Word) : let u := s.storeHigh p .img 0x28 v
    u.rd .img 0x2C = v ∧ u.rd .img 0x28 = s.lowFor p (Block.base .img + 0x28) (s.rd .img 0x28) ∧ Kept [(.img, 0x28), (.img, 0x2C)] s u ∧ Only [.regs .img, .paths] s u := by
  intro u
  obtain ⟨hhigh, hlow, hkept⟩ := s.storeHigh_whole p v (fun t w => t.store_commitTimeLo p w) (fun t w => t.store_commitTimeHi p w)
  refine ⟨hhigh, hlow, hkept, ?_⟩
  rw [only_iff_agree]; simp [u, maskOf, Part.index, Block.index]

/-- A command that the state table does not list sets LAST_ERR 0xC and nothing else (R73). -/
theorem State.imgBusy_refuses (s : State) : s.imgBusy.fld .img 4 11 8 = 0xC ∧ Kept [(.img, 4)] s s.imgBusy ∧ Only [.regs .img] s s.imgBusy := by
  refine ⟨lastErr_fld s 0xC, lastErr_kept s 0xC, ?_⟩
  rw [only_iff_agree]; simp [maskOf, Part.index, Block.index]

/-! ### STAGE (R73-R75) -/

theorem State.lastErr_img (s : State) (e : Nat) : (s.lastErr e).img = s.img := rfl

theorem State.lastErr_agree_self (s : State) (e : Nat) : Agree 2 s (s.lastErr e) := (State.lastErr_agree s e (by decide)).2 (Agree.refl _ s)

theorem State.rd_lastErr (s : State) (e : Nat) {a : Nat} (h : a ≠ 4) : (s.lastErr e).rd .img a = s.rd .img a := lastErr_kept s e .img a (by simpa using h)

/-- LAST_ERR is no part of what names and authenticates the source. -/
theorem State.stageSlot_lastErr (s : State) (e : Nat) : (s.lastErr e).stageSlot = s.stageSlot := by
  have hsrc : (s.lastErr e).fld .img 0x20 1 0 = s.fld .img 0x20 1 0 := State.fld_of_rd (s.rd_lastErr e (by decide)) 1 0
  have hdigest : (s.lastErr e).rds .img 0x80 12 = s.rds .img 0x80 12 := List.map_congr_left fun i _ => s.rd_lastErr e (by omega)
  unfold State.stageSlot
  rw [hsrc, hdigest, State.lastErr_img]
  simp only [State.signedDigest_of (s := s) (t := s.lastErr e) rfl]

theorem State.slotReason_lastErr (s : State) (e : Nat) (sl : Slot) : (s.lastErr e).slotReason sl = s.slotReason sl :=
  (s.lastErr_agree_self e).slotReason (by decide) (by decide) (by decide) sl

theorem State.primary_lastErr (s : State) (e : Nat) : (s.lastErr e).primary = s.primary :=
  State.fld_of_rd ((s.lastErr_agree_self e).rd .tkp (by decide) 0) 1 0

/-- The admission check writes its three result registers only. -/
theorem State.admitConf_kept (s : State) (rs : List Rec) : Kept [(.img, 0x34), (.img, 0x38), (.img, 0x3C)] s (s.admitConf rs).1 := by
  unfold State.admitConf State.admitAt
  exact (((Kept.refl _ s).wr (by simp) _).wr (by simp) _).wr (by simp) _

theorem State.stageResult_kept (t : State) (gs : List ReadGlitch) : Kept [(.img, 0x34), (.img, 0x38), (.img, 0x3C)] t (t.stageResult gs).1 := by
  have loaded : ∀ sl mask, Kept [(.img, 0x34), (.img, 0x38), (.img, 0x3C)] t (t.loadSlot sl mask gs).state := fun sl mask b a _ => loadSlot_rd t sl mask gs b a
  have admitted : ∀ sl mask rs, Kept [(.img, 0x34), (.img, 0x38), (.img, 0x3C)] t ((t.loadSlot sl mask gs).state.admitConf rs).1 :=
    fun sl mask rs => (loaded sl mask).of_rd (State.admitConf_kept _ rs)
  unfold State.stageResult
  cases t.stageSlot with
  | none => exact Kept.refl _ t
  | some sl =>
    dsimp only
    by_cases hr : t.slotReason sl ≠ 0
    · rw [if_pos hr]; exact Kept.refl _ t
    · rw [if_neg hr]
      cases (t.loadSlot sl (t.fld .img 0x20 31 16) gs).conf with
      | none => exact loaded _ _
      | some c =>
        dsimp only
        split
        · exact loaded _ _
        · split <;> exact admitted _ _ _

theorem State.stageResult_img (t : State) (gs : List ReadGlitch) : (t.stageResult gs).1.img = t.img :=
  Agree.img (m := 35651586) ((State.stageResult_agree t gs (by decide)).2 (Agree.refl _ t)) (by decide)

theorem State.doStage_listed (s : State) (gs : List ReadGlitch) (h : s.img.state = .running ∨ s.img.state = .noImage) :
    s.doStage gs = { ((s.lastErr 0).stageResult gs).1 with img := { s.img with state := .staging, outcome := some ((s.lastErr 0).stageResult gs).2 } } := by
  unfold State.doStage State.setLoader
  rw [if_pos h]; dsimp only; rw [State.stageResult_img, State.lastErr_img]

theorem State.doStage_unlisted (s : State) (gs : List ReadGlitch) (h : ¬ (s.img.state = .running ∨ s.img.state = .noImage)) : s.doStage gs = s.imgBusy := by
  unfold State.doStage; exact if_neg h

/-- What a staging that STAGE starts ends with: LAST_ERR, and the configuration where the source gives a legal one. -/
def State.settles (s : State) (e : Nat) (oc : Option Conf) : Prop :=
  (s.stageSlot = none → e = 3 ∧ oc = none) ∧ (∀ sl, s.stageSlot = some sl → s.slotReason sl ≠ 0 → e = reasonError (s.slotReason sl) ∧ oc = none) ∧ (oc = none → e ≠ 0) ∧
    (∀ c, oc = some c → e = 0 ∧ confLegal s.primary c.recs = true ∧ s.stageSlot = some c.slot ∧ s.slotReason c.slot = 0 ∧ c.overlays = s.fld .img 0x20 31 16)

theorem State.stageResult_settles (s : State) (gs : List ReadGlitch) : s.settles (s.stageResult gs).2.1 (s.stageResult gs).2.2 := by
  obtain ⟨-, hnone, hreason, hconf, herr⟩ := stageResult_parts s gs
  exact ⟨fun h => by rw [hnone h]; exact ⟨rfl, rfl⟩, fun sl h hr => by rw [hreason sl h hr]; exact ⟨rfl, rfl⟩, herr, hconf⟩

theorem State.settles_lastErr {s : State} {k e : Nat} {oc : Option Conf} : (s.lastErr k).settles e oc ↔ s.settles e oc := by
  unfold State.settles
  rw [State.fld_of_rd (s.rd_lastErr k (by decide))]
  simp only [State.stageSlot_lastErr, State.slotReason_lastErr, State.primary_lastErr]

/-- STAGE from RUNNING or NO_IMAGE clears LAST_ERR and settles what the staging ends with. -/
theorem State.doStage_stages (s : State) (gs : List ReadGlitch) (h : s.img.state = .running ∨ s.img.state = .noImage) : let u := s.doStage gs
    u.img.state = .staging ∧ u.fld .img 4 11 8 = 0 ∧ (∃ e oc, u.img = { s.img with state := .staging, outcome := some (e, oc) } ∧ s.settles e oc) ∧
      Kept [(.img, 4), (.img, 0x34), (.img, 0x38), (.img, 0x3C)] s u ∧ Only [.regs .img, .img, .seq, .evt] s u := by
  intro u
  have himg : u.img = { s.img with state := .staging, outcome := some ((s.lastErr 0).stageResult gs).2 } := by simp only [u, s.doStage_listed gs h]
  have hrd : ∀ b a, u.rd b a = ((s.lastErr 0).stageResult gs).1.rd b a := State.rd_of_regs (by simp only [u, s.doStage_listed gs h])
  refine ⟨by rw [himg], ?_, ⟨_, _, himg, State.settles_lastErr.1 (State.stageResult_settles _ gs)⟩, ?_, ?_⟩
  · rw [State.fld_of_rd (hrd .img 4), (stageResult_parts (s.lastErr 0) gs).1]; exact lastErr_fld s 0
  · intro b a hm
    simp only [List.mem_cons, not_or] at hm
    rw [hrd, State.stageResult_kept _ gs b a (by simpa using hm.2), lastErr_kept s 0 b a (by simpa using hm.1)]
  · rw [only_iff_agree]; simp [u, maskOf, Part.index, Block.index]

/-! ### The end of a staging (R73, R75, R101) -/

theorem State.doStaged_conf {s : State} {e : Nat} {c : Conf} (hs : s.img.state = .staging) (ho : s.img.outcome = some (e, some c)) : s.doStaged =
    ((((({ s with img := { s.img with outcome := none, staged := some c } } : State).showStaged c.overlays c.digest).bump .img 0x100).setLoader .staged).emit 9
      (p1 (slotCode c.slot) ++ (p2 c.overlays ++ c.digest.take 8))) := by
  unfold State.doStaged; rw [hs, ho]

theorem State.doStaged_error {s : State} {e : Nat} (hs : s.img.state = .staging) (ho : s.img.outcome = some (e, none)) : s.doStaged =
    let t := ((({ s with img := { s.img with outcome := none } } : State).lastErr e).bump .img 0x108).setLoader s.imgBase
    if e = 6 then t.emit 11 (p4 (t.rd .img 0x34).toNat ++ p4 (t.rd .img 0x38).toNat) else t.emit 10 (p1 e) := by
  unfold State.doStaged; rw [hs, ho]

theorem State.showStaged_evt (s : State) (mask : Nat) (d : List Byte) : (s.showStaged mask d).evt = s.evt := s.setFld .img 0x1C 31 16 mask |>.wrs_evt ..
theorem State.showStaged_img (s : State) (mask : Nat) (d : List Byte) : (s.showStaged mask d).img = s.img := s.setFld .img 0x1C 31 16 mask |>.wrs_img ..
theorem State.showStaged_stamp (s : State) (mask : Nat) (d : List Byte) : (s.showStaged mask d).stamp = s.stamp :=
  Agree.stamp (m := 2) ((State.showStaged_agree s mask d (by decide)).2 (Agree.refl _ s)) (by decide) (by decide)
theorem State.count_showStaged (s : State) (mask : Nat) (d : List Byte) (b : Block) (a : Nat) : (s.showStaged mask d).count b a = s.count b a := by
  unfold State.showStaged; rw [State.count_wrs, State.count_setFld]

/-- IMG_OVL.STAGED shows the mask and IMG_STAGED_DIGEST the digest. -/
theorem State.showStaged_shows (s : State) (mask : Nat) (d : List Byte) : let u := s.showStaged mask d
    u.fld .img 0x1C 31 16 = mask % 65536 ∧ ∀ i, i < 12 → u.rd .img (0xC0 + 4 * i) = (wordsOf (padTo 48 d)).getD i 0 := by
  have hlen : (wordsOf (padTo 48 d)).length = 12 := wordsOf_exact 12 _ (padTo_length ..)
  have hovl : (s.showStaged mask d).rd .img 0x1C = (s.setFld .img 0x1C 31 16 mask).rd .img 0x1C := by
    rw [State.showStaged, State.rd_wrs, if_neg (by omega)]
  refine ⟨?_, fun i hi => ?_⟩
  · rw [State.fld_of_rd hovl]; exact s.fld_setFld .img 0x1C mask (by decide) (by decide)
  · rw [State.showStaged, State.rd_wrs, if_pos ⟨rfl, by omega, by omega, by omega⟩]
    congr 1; omega

/-- A staging that ends with a configuration shows it, with E9. -/
theorem State.doStaged_shows {s : State} {e : Nat} {c : Conf} (hs : s.img.state = .staging) (ho : s.img.outcome = some (e, some c)) : let u := s.doStaged
    u.img = { s.img with state := .staged, outcome := none, staged := some c } ∧ u.fld .img 0x1C 31 16 = c.overlays % 65536 ∧
      (∀ i, i < 12 → u.rd .img (0xC0 + 4 * i) = (wordsOf (padTo 48 c.digest)).getD i 0) ∧ Raised 9 (p1 (slotCode c.slot) ++ (p2 c.overlays ++ c.digest.take 8)) s u ∧
        Counted [(.img, 0x100)] s u ∧ Only [.regs .img, .img, .seq, .evt] s u := by
  intro u
  obtain ⟨t, ht⟩ : ∃ t : State, t = { s with img := { s.img with outcome := none, staged := some c } } := ⟨_, rfl⟩
  obtain ⟨w, hw⟩ : ∃ w : State, w = ((t.showStaged c.overlays c.digest).bump .img 0x100).setLoader .staged := ⟨_, rfl⟩
  have hu : u = w.emit 9 (p1 (slotCode c.slot) ++ (p2 c.overlays ++ c.digest.take 8)) := by rw [hw, ht]; exact State.doStaged_conf hs ho
  have hrd : ∀ a, u.rd .img a = (t.showStaged c.overlays c.digest).rd .img a := fun a => by rw [hu, State.rd_emit, hw]; exact State.rd_bump ..
  obtain ⟨hmask, hdigest⟩ := t.showStaged_shows c.overlays c.digest
  have honly : Only [.regs .img, .img, .seq, .evt] s u := by rw [only_iff_agree]; simp [u, maskOf, Part.index, Block.index]
  refine ⟨?_, ?_, fun i hi => by rw [hrd, hdigest i hi], ?_, ?_, honly⟩
  · rw [hu, State.emit_img, hw, State.setLoader]; dsimp only; rw [State.bump_img, State.showStaged_img, ht]
  · rw [State.fld_of_rd (hrd 0x1C), hmask]
  · have hgrows : Grows s w := by
      rw [hw]
      exact ((Grows.refl s).of_evt (u := t.showStaged c.overlays c.digest) (by rw [State.showStaged_evt, ht])).trans (State.bump_grows _ .img 0x100)
    have hstamp : w.stamp = s.stamp := by
      rw [hw, ht]; exact (State.stamp_bump _ .img 0x100).trans (State.showStaged_stamp ..)
    rw [hu]; exact Raised.emit hgrows hstamp 9 _
  · have hcount : Counted [] s (t.showStaged c.overlays c.digest) := (Counted.refl s).of_count fun b a => by rw [State.count_showStaged, ht]; rfl
    rw [hu, hw]; exact ((hcount.bump .img 0x100).of_count fun _ _ => rfl).emit 9 (p1 (slotCode c.slot) ++ (p2 c.overlays ++ c.digest.take 8))

/-- A staging that ends without one returns with its LAST_ERR and E10, or E11 where admission failed. -/
theorem State.doStaged_returns {s : State} {e : Nat} (hs : s.img.state = .staging) (ho : s.img.outcome = some (e, none)) : let u := s.doStaged
    u.img = { s.img with state := s.imgBase, outcome := none } ∧ u.fld .img 4 11 8 = e % 16 ∧ Counted [(.img, 0x108)] s u ∧ (e ≠ 6 → Raised 10 (p1 e) s u) ∧
      (e = 6 → Raised 11 (p4 (s.rd .img 0x34).toNat ++ p4 (s.rd .img 0x38).toNat) s u) ∧ Kept [(.img, 4)] s u ∧ Only [.regs .img, .img, .seq, .evt] s u := by
  intro u
  obtain ⟨t, ht⟩ : ∃ t : State, t = ({ s with img := { s.img with outcome := none } } : State).lastErr e := ⟨_, rfl⟩
  obtain ⟨w, hw⟩ : ∃ w : State, w = (t.bump .img 0x108).setLoader s.imgBase := ⟨_, rfl⟩
  have hkept : Kept [(.img, 4)] s w := by
    rw [hw]
    exact (((Kept.same rfl _ : Kept [(.img, 4)] s _).of_rd (ht ▸ lastErr_kept _ e)).bump .img 0x108).of_rd fun _ _ _ => rfl
  have hu : u = if e = 6 then w.emit 11 (p4 (s.rd .img 0x34).toNat ++ p4 (s.rd .img 0x38).toNat) else w.emit 10 (p1 e) := by
    rw [← hkept .img 0x34 (by decide), ← hkept .img 0x38 (by decide), hw, ht]; exact State.doStaged_error hs ho
  obtain ⟨n, p, hn⟩ : ∃ n p, u = w.emit n p := by rw [hu]; split <;> exact ⟨_, _, rfl⟩
  have hgrows : Grows s w := by rw [hw, ht]; exact State.bump_grows ..
  have hstamp : w.stamp = s.stamp := by
    rw [hw, ht]; exact (State.stamp_bump _ .img 0x108).trans (State.stamp_setFld _ .img 4 11 8 e (by decide))
  have honly : Only [.regs .img, .img, .seq, .evt] s u := by rw [only_iff_agree]; simp [u, maskOf, Part.index, Block.index]
  refine ⟨?_, ?_, ?_, fun h => ?_, fun h => ?_, ?_, honly⟩
  · rw [hn, State.emit_img, hw, State.setLoader]; dsimp only; rw [State.bump_img, ht]; rfl
  · rw [State.fld_of_rd (t := u) (s := t) (by rw [hn, State.rd_emit, hw]; exact State.rd_bump ..), ht, lastErr_fld]
  · have hcount : Counted [] s t := (Counted.refl s).of_count fun b a => by rw [ht]; exact State.count_setFld ..
    rw [hn, hw]; exact ((hcount.bump .img 0x108).of_count fun _ _ => rfl).emit n p
  · rw [hu, if_neg h]; exact Raised.emit hgrows hstamp 10 _
  · rw [hu, if_pos h]; exact Raised.emit hgrows hstamp 11 _
  · rw [hn]; exact hkept.emit n p

/-! ### The commands -/

theorem runs_imgStage {s : State} {gs : List ReadGlitch} {P : State → Prop} (hs : s.lmp.held = false) (h : P (s.doStage gs)) : Runs (.imgStage gs) s P :=
  runs_of_awake (f := fun t => t.doStage gs) rfl hs h

theorem runs_stagingComplete {s : State} {P : State → Prop} (h : P s.doStaged) : Runs .stagingComplete s P := ⟨s.doStaged, rfl, h⟩

theorem runs_imgConfigWrite {s : State} {path : Path} {reg : StageReg} {v : Word} {P : State → Prop} (hs : s.lmp.held = false) (h : P (s.doConfigWrite path reg v)) :
    Runs (.imgConfigWrite path reg v) s P :=
  runs_of_awake (f := fun t => t.doConfigWrite path reg v) rfl hs h

/-- Settles O25: STAGE and the register writes either are listed by the state table or run into `imgBusy`; STAGING_COMPLETE ends with what STAGE settled. -/
theorem stagingFollowsStateTable : Obligations.StagingFollowsStateTable := by
  unfold Obligations.StagingFollowsStateTable
  intro s gs path reg v busy
  refine ⟨fun hs hlisted => runs_imgStage hs (s.doStage_stages gs hlisted), fun hs hrun hno => runs_imgStage hs ?unlisted,
    fun c e hst ho => runs_stagingComplete (State.doStaged_shows hst ho), fun e hst ho => runs_stagingComplete (State.doStaged_returns hst ho),
    fun hs hbusy => runs_imgConfigWrite hs ?busy, fun hs hstaging harmed hcommitting => ?registers⟩
  case unlisted => rw [s.doStage_unlisted gs (not_or.2 ⟨hrun, hno⟩)]; exact s.imgBusy_refuses
  case busy => rw [s.doConfigWrite_busy path reg v hbusy]; exact s.imgBusy_refuses
  case registers =>
    obtain ⟨hsrc, hepoch, hlow, hhigh⟩ := s.doConfigWrite_open path v (by simp [hstaging, harmed, hcommitting])
    exact ⟨runs_imgConfigWrite hs (by rw [hsrc]; exact s.stageSrc_written path v), runs_imgConfigWrite hs (by rw [hepoch]; exact s.commitEpoch_written path v),
      runs_imgConfigWrite hs (by rw [hlow]; exact s.stageLow_staged path _ v), runs_imgConfigWrite hs (by rw [hhigh]; exact s.commitTimeHi_written path v)⟩

end Sys2Proof.Machine
end

section
/-!
Admission to the cistern (06_switch_core.md R256-R259): what an admitted frame is charged to and backed by.
-/
namespace Sys2Proof.Machine

/-- The copies of a frame that the fixed pools of their output lanes take (R257). -/
def State.fixedCopies (s : State) (f : Frame) (reqs : List CopyReq) : List (CopyReq × Option Acct) :=
  (reqs.filter (fun r => match fixedPool r.lane with
    | some cap => decide (s.fixedUsed r.lane + chargeOf f ≤ cap)
    | none => false)).map (fun r => (r, none))

/-- The copies of a frame that their egress accounts take (R259). -/
def State.accountCopies (s : State) (f : Frame) (district : Nat) (reqs : List CopyReq) : List (CopyReq × Option Acct) :=
  ((reqs.filter (fun r => (fixedPool r.lane).isNone)).map (fun r => (r, some (s.acctFor true r.lane r.cls district)))).filter
    (fun e => match e.2 with
      | some a => decide (s.acctUsed a + chargeOf f ≤ (s.limitsOf a).max)
      | none => false)

/-- The cells of `n` that the reserve of an account backs: none of a drop-eligible frame's. -/
def State.reserved (s : State) (de : Bool) (n : Nat) (a : Acct) : Nat := if de then 0 else Nat.min n ((s.limitsOf a).min - s.acctRes a)

theorem State.reserved_eq (s : State) (de : Bool) (n : Nat) (a : Acct) :
    s.reserved de n a = if de then 0 else Nat.min n ((s.limitsOf a).min - s.acctRes a) := rfl

theorem State.mem_fixedCopies {s : State} {f : Frame} {reqs : List CopyReq} {x : CopyReq × Option Acct} (h : x ∈ s.fixedCopies f reqs) :
    x.1 ∈ reqs ∧ x.2 = none ∧ ∃ cap, fixedPool x.1.lane = some cap ∧ s.fixedUsed x.1.lane + chargeOf f ≤ cap := by
  obtain ⟨r, hr, rfl⟩ := List.mem_map.1 h
  obtain ⟨hmem, hfits⟩ := List.mem_filter.1 hr
  refine ⟨hmem, rfl, ?_⟩
  split at hfits
  · exact ⟨_, ‹_›, of_decide_eq_true hfits⟩
  · cases hfits

theorem State.mem_accountCopies {s : State} {f : Frame} {district : Nat} {reqs : List CopyReq} {x : CopyReq × Option Acct} (h : x ∈ s.accountCopies f district reqs) :
    x.1 ∈ reqs ∧ ∃ a, x.2 = some a ∧ s.acctUsed a + chargeOf f ≤ (s.limitsOf a).max := by
  obtain ⟨hmap, hfits⟩ := List.mem_filter.1 h
  obtain ⟨r, hr, rfl⟩ := List.mem_map.1 hmap
  exact ⟨(List.mem_filter.1 hr).1, _, rfl, of_decide_eq_true hfits⟩

theorem State.reserved_le (s : State) (de : Bool) (n : Nat) (a : Acct) : s.reserved de n a ≤ n := by
  unfold State.reserved; split
  · exact Nat.zero_le n
  · exact Nat.min_le_left ..

/-- What a reserve backs fits into the minimum of its account. -/
theorem State.acctRes_add_reserved_le (s : State) {de : Bool} {n : Nat} {a : Acct} (h : s.reserved de n a ≠ 0) :
    s.acctRes a + s.reserved de n a ≤ (s.limitsOf a).min := by
  have hroom : s.reserved de n a ≤ (s.limitsOf a).min - s.acctRes a := by
    unfold State.reserved; split
    · exact Nat.zero_le _
    · exact Nat.min_le_right ..
  omega

@[simp] theorem State.reserved_dropEligible (s : State) (n : Nat) (a : Acct) : s.reserved true n a = 0 := rfl

/-- A check that refuses was passed by what is admitted. -/
theorem Admission.check_passed {c : Prop} [Decidable c] {n : Nat} {x : Admission} {keep : List (CopyReq × Option Acct)} {bIn bEg bSh : Nat} {i e : Option Acct}
    (h : (if c then .refused n else x) = Admission.admitted keep bIn bEg bSh i e) : ¬ c ∧ x = .admitted keep bIn bEg bSh i e := by
  split at h
  · cases h
  · exact ⟨‹_›, h⟩

/-- An admitted frame goes to fixed pools alone, or passes every check of R259 with the copies that its egress accounts take. -/
theorem State.admission_cases {s : State} {f : Frame} {D cls : Nat} {de : Bool} {reqs : List CopyReq} {keep : List (CopyReq × Option Acct)} {bIn bEg bSh : Nat}
    {i e : Option Acct} (h : s.admission f D cls de reqs = .admitted keep bIn bEg bSh i e) :
    s.cis.copies.length + reqs.length ≤ descriptors ∧ keep ≠ [] ∧
      ((keep = s.fixedCopies f reqs ∧ (bIn, bEg, bSh, i, e) = (0, 0, 0, none, none)) ∨
        ∃ a b, keep = s.accountCopies f D reqs ++ s.fixedCopies f reqs ∧ (i, e) = (some a, some b) ∧ s.acctUsed a + chargeOf f ≤ (s.limitsOf a).max ∧
          bIn = s.reserved de (chargeOf f) a ∧ bEg = s.reserved de (chargeOf f - bIn) b ∧ bSh = chargeOf f - bIn - bEg ∧ s.poolUsed + bSh ≤ s.poolSize ∧
            (de = true → s.poolUsed + chargeOf f ≤ s.poolSize * s.fld .cis 0 31 25 / 100)) := by
  unfold State.admission at h
  simp only [← State.reserved_eq] at h
  obtain ⟨hdesc, h⟩ := Admission.check_passed h
  refine ⟨Nat.le_of_not_lt hdesc, ?_⟩
  split at h
  · obtain ⟨hsome, h⟩ := Admission.check_passed h
    cases h
    exact ⟨by simpa using hsome, .inl ⟨rfl, rfl⟩⟩
  · obtain ⟨hin, h⟩ := Admission.check_passed h
    split at h
    · cases h
    · rename_i r a rest hkeep
      have hacct : s.accountCopies f D reqs = (r, a) :: rest := hkeep
      obtain ⟨hcolour, h⟩ := Admission.check_passed h
      obtain ⟨hpool, h⟩ := Admission.check_passed h
      cases h
      exact ⟨by simp, .inr ⟨_, _, by rw [hacct]; rfl, rfl, Nat.le_of_not_lt hin, rfl, rfl, rfl, Nat.le_of_not_lt hpool, fun hde => by simpa [hde] using hcolour⟩⟩

/-- An admitted frame keeps every account, reserve and pool within its limit, and its backing adds up to its charge. -/
theorem State.admission_within_limits {s : State} {f : Frame} {D cls : Nat} {de : Bool} {reqs : List CopyReq} {keep : List (CopyReq × Option Acct)}
    {bIn bEg bSh : Nat} {i e : Option Acct} (h : s.admission f D cls de reqs = .admitted keep bIn bEg bSh i e) :
    s.cis.copies.length + reqs.length ≤ descriptors ∧ keep ≠ [] ∧ (∀ x ∈ keep, x.1 ∈ reqs ∧ (∀ a, x.2 = some a → s.acctUsed a + chargeOf f ≤ (s.limitsOf a).max) ∧
        (x.2 = none → ∃ cap, fixedPool x.1.lane = some cap ∧ s.fixedUsed x.1.lane + chargeOf f ≤ cap)) ∧
      (i = none → bIn = 0 ∧ bEg = 0 ∧ bSh = 0 ∧ ∀ x ∈ keep, x.2 = none) ∧ (∀ a, i = some a → bIn + bEg + bSh = chargeOf f ∧ s.acctUsed a + chargeOf f ≤ (s.limitsOf a).max ∧
        (bIn ≠ 0 → s.acctRes a + bIn ≤ (s.limitsOf a).min) ∧ s.poolUsed + bSh ≤ s.poolSize ∧
          (de = true → bSh = chargeOf f ∧ s.poolUsed + chargeOf f ≤ s.poolSize * s.fld .cis 0 31 25 / 100)) ∧ (∀ a, e = some a → bEg ≠ 0 → s.acctRes a + bEg ≤ (s.limitsOf a).min) := by
  have fixed : ∀ x ∈ s.fixedCopies f reqs, x.1 ∈ reqs ∧ (∀ a, x.2 = some a → s.acctUsed a + chargeOf f ≤ (s.limitsOf a).max) ∧
      (x.2 = none → ∃ cap, fixedPool x.1.lane = some cap ∧ s.fixedUsed x.1.lane + chargeOf f ≤ cap) := fun x hx => by
    obtain ⟨hreq, hnone, hcap⟩ := State.mem_fixedCopies hx
    exact ⟨hreq, fun a ha => by simp [hnone] at ha, fun _ => hcap⟩
  obtain ⟨hdesc, hne, ⟨rfl, hback⟩ | ⟨a, b, rfl, hacct, hmax, rfl, rfl, rfl, hpool, hcolour⟩⟩ := State.admission_cases h
  · cases hback
    exact ⟨hdesc, hne, fixed, fun _ => ⟨rfl, rfl, rfl, fun x hx => (State.mem_fixedCopies hx).2.1⟩, fun _ ha => (by cases ha), fun _ ha => (by cases ha)⟩
  · cases hacct
    refine ⟨hdesc, hne, fun x hx => ?_, fun hi => (by cases hi), fun c hc => ?_, fun c hc hres => ?_⟩
    · rcases List.mem_append.1 hx with hx | hx
      · obtain ⟨hreq, c, hc, hfits⟩ := State.mem_accountCopies hx
        exact ⟨hreq, fun d hd => by rw [hc] at hd; cases hd; exact hfits, fun hn => by simp [hc] at hn⟩
      · exact fixed x hx
    · cases hc
      have hin := s.reserved_le de (chargeOf f) a
      have heg := s.reserved_le de (chargeOf f - s.reserved de (chargeOf f) a) b
      exact ⟨by omega, hmax, s.acctRes_add_reserved_le, hpool, fun hde => ⟨by simp [hde], hcolour hde⟩⟩
    · cases hc; exact s.acctRes_add_reserved_le hres

end Sys2Proof.Machine
end

section
/-!
Reservations that shrink with the usable cells (06_switch_core.md R263, R268, R269; 02_ikiem_images.md R94, R95): the minima, the backing of held cells, and a bank
whose allocation stops.
-/
namespace Sys2Proof.Machine

/-! ### Minima and maxima -/

theorem insertBy_perm {α : Type} (le : α → α → Bool) (x : α) (xs : List α) : (insertBy le x xs).Perm (x :: xs) := by
  induction xs with
  | nil => exact .refl _
  | cons y ys ih =>
    unfold insertBy; split
    · exact .refl _
    · exact (ih.cons y).trans (.swap x y ys)

theorem sortBy_perm {α : Type} (le : α → α → Bool) (xs : List α) : (sortBy le xs).Perm xs := by
  induction xs with
  | nil => exact .refl _
  | cons x xs ih => exact (insertBy_perm le x _).trans (ih.cons x)

@[simp] theorem minSum_cons (e : Acct × Limits) (ls : List (Acct × Limits)) : minSum (e :: ls) = e.2.min + minSum ls := List.sum_cons

theorem minSum_perm {xs ys : List (Acct × Limits)} (h : xs.Perm ys) : minSum xs = minSum ys := (h.map _).sum_eq

theorem minSum_shrinkBy (n : Nat) (ls : List (Acct × Limits)) : minSum (shrinkBy n ls) = minSum ls - n := by
  induction ls generalizing n with
  | nil => simp [shrinkBy, minSum]
  | cons e ls ih => obtain ⟨a, l⟩ := e; simp only [shrinkBy, minSum_cons, ih]; omega

theorem max_of_mem_shrinkBy {n : Nat} {ls : List (Acct × Limits)} {e : Acct × Limits} (h : e ∈ shrinkBy n ls) : ∃ d ∈ ls, e.2.max = d.2.max := by
  induction ls generalizing n with
  | nil => simp [shrinkBy] at h
  | cons d ls ih =>
    obtain ⟨a, l⟩ := d
    rcases List.mem_cons.1 h with rfl | h
    · exact ⟨_, List.mem_cons_self, rfl⟩
    · obtain ⟨d, hd, hmax⟩ := ih h
      exact ⟨d, List.mem_cons_of_mem _ hd, hmax⟩

/-- The limits in force with no maximum above the usable cells (02_ikiem_images.md R94). -/
def State.cappedLimits (s : State) : List (Acct × Limits) := s.cis.limits.map (fun e => (e.1, { e.2 with max := Nat.min e.2.max s.usable }))

/-- The cells by which the minima exceed the usable cells. -/
def State.minExcess (s : State) : Nat := minSum s.cis.limits - s.usable

/-- The limits that the usable cells leave. -/
def State.shrunkLimits (s : State) : List (Acct × Limits) :=
  if s.minExcess = 0 then s.cappedLimits else shrinkBy s.minExcess (sortBy giveOrder s.cappedLimits)

theorem State.minSum_cappedLimits (s : State) : minSum s.cappedLimits = minSum s.cis.limits := by
  unfold minSum State.cappedLimits; rw [List.map_map]; rfl

theorem State.max_le_of_mem_cappedLimits {s : State} {e : Acct × Limits} (h : e ∈ s.cappedLimits) : e.2.max ≤ s.usable := by
  obtain ⟨d, -, rfl⟩ := List.mem_map.1 h
  exact Nat.min_le_right ..

theorem State.minSum_shrunkLimits (s : State) : minSum s.shrunkLimits = minSum s.cis.limits - s.minExcess := by
  unfold State.shrunkLimits; split
  · rename_i h; rw [h, State.minSum_cappedLimits, Nat.sub_zero]
  · rw [minSum_shrinkBy, minSum_perm (sortBy_perm ..), State.minSum_cappedLimits]

theorem State.max_le_of_mem_shrunkLimits {s : State} {e : Acct × Limits} (h : e ∈ s.shrunkLimits) : e.2.max ≤ s.usable := by
  unfold State.shrunkLimits at h; split at h
  · exact State.max_le_of_mem_cappedLimits h
  · obtain ⟨d, hd, hmax⟩ := max_of_mem_shrinkBy h
    exact hmax ▸ State.max_le_of_mem_cappedLimits ((sortBy_perm ..).mem_iff.1 hd)

/-! ### Held cells are backed anew (R263) -/

/-- A held frame, its charge and what backs it in all. -/
def Held.charged (h : Held) : Frame × Nat × Nat := (h.frame, h.charge, h.bIn + h.bEg + h.bSh)

theorem map_charged_rebacked (limits : Acct → Limits) (hs : List Held) (usedIn usedEg : Sparse Nat) (key : Acct → Nat) :
    (rebacked limits hs usedIn usedEg key).map Held.charged = hs.map Held.charged := by
  induction hs generalizing usedIn usedEg with
  | nil => rfl
  | cons h hs ih =>
    simp only [rebacked, List.map_cons, ih, Held.charged]
    have moved : ∀ x y, x ≤ h.bIn → y ≤ h.bEg → x + y + (h.bSh + (h.bIn - x) + (h.bEg - y)) = h.bIn + h.bEg + h.bSh := by omega
    rw [moved _ _ (Nat.min_le_left ..) (Nat.min_le_left ..)]

theorem State.setLimits_cis (s : State) (ls : List (Acct × Limits)) :
    ∃ limits, (s.setLimits ls).cis = { s.cis with limits := ls, held := rebacked limits s.cis.held [] [] acctKey } := by
  have hcis : (s.settleBuckets.startBuckets ls).cis = s.cis :=
    Agree.cis (m := 536870912) ((State.startBuckets_agree _ ls (by decide)).2 ((State.settleBuckets_agree s (by decide)).2 (Agree.refl _ s))) (by decide)
  unfold State.setLimits; dsimp only; rw [hcis]; exact ⟨_, rfl⟩

theorem State.setLimits_frame (s : State) (ls : List (Acct × Limits)) : Agree 1610612736 s (s.setLimits ls) :=
  (State.setLimits_agree s ls (by decide)).2 (Agree.refl _ s)

/-! ### Reservations shrink (02_ikiem_images.md R94, R95) -/

/-- Where cells are cut from the minima, IMG_SHRUNK counts them and SHRUNK is set. -/
theorem State.shrink_eq (s : State) : s.shrink = (if s.minExcess = 0 then s.setLimits s.shrunkLimits
    else ((s.setLimits s.shrunkLimits).wr .img 0x40 (word ((s.rd .img 0x40).toNat + s.minExcess))).setFld .img 4 17 17 1, s.minExcess) := by
  have hexcess : minSum s.cappedLimits - s.usable = s.minExcess := by rw [State.minSum_cappedLimits]; rfl
  unfold State.shrink State.shrunkLimits
  simp only [show s.cis.limits.map (fun e => (e.1, { e.2 with max := Nat.min e.2.max s.usable })) = s.cappedLimits from rfl, hexcess]
  by_cases h : s.minExcess = 0 <;> simp only [h, if_true, if_false]

@[simp] theorem State.shrink_cut (s : State) : s.shrink.2 = s.minExcess := by rw [State.shrink_eq]

theorem State.shrink_cis (s : State) : s.shrink.1.cis = (s.setLimits s.shrunkLimits).cis := by
  rw [State.shrink_eq]; dsimp only; split <;> rfl

theorem State.shrink_frame (s : State) : Agree 1610612738 s s.shrink.1 := (State.shrink_agree s (by decide)).2 (Agree.refl _ s)

theorem State.shrink_shrunkCount (s : State) : s.shrink.1.rd .img 0x40 = s.rd .img 0x40 + word s.minExcess := by
  have hlimits := (s.setLimits_frame s.shrunkLimits).rd .img (by decide) 0x40
  rw [State.shrink_eq]; dsimp only; split
  · rename_i h; rw [hlimits, h]; simp [word]
  · rw [State.rd_setFld, if_neg (by decide), State.rd_wr_same]
    simp [word, BitVec.ofNat_add]

theorem State.shrink_shrunkFlag (s : State) : s.shrink.1.flag .img 4 17 = (s.flag .img 4 17 || decide (s.minExcess ≠ 0)) := by
  have hlimits := (s.setLimits_frame s.shrunkLimits).rd .img (by decide) 4
  rw [State.shrink_eq]; dsimp only; split
  · rename_i h; simp [State.flag, hlimits, h]
  · rename_i h
    rw [show ∀ t : State, t.setFld .img 4 17 17 1 = t.setFld .img 4 17 17 true.toNat from fun _ => rfl, State.flag_setFld _ _ _ _ (by decide)]
    simp [h]

theorem State.shrink_kept (s : State) : Kept [(.img, 0x40), (.img, 4)] s s.shrink.1 := by
  have hlimits := Kept.agree (s.setLimits_frame s.shrunkLimits) (by decide) [(.img, 0x40), (.img, 4)]
  rw [State.shrink_eq]; dsimp only; split
  · exact hlimits
  · exact (hlimits.wr (by simp) _).setFld (by simp) _ _ _

theorem State.shrink_counted (s : State) : Counted [] s s.shrink.1 := by
  have hlimits := Counted.agree (s.setLimits_frame s.shrunkLimits) (by decide)
  rw [State.shrink_eq]; dsimp only; split
  · exact hlimits
  · exact (hlimits.wr _ _ _).wr _ _ _

/-! ### Banks and usable cells -/

theorem State.bank_setBank (s : State) (b k : Nat) (v : Bank) : (s.setBank b v).bank k = if b = k then v else s.bank k := Sparse.get_put ..

theorem State.bank_of_cis {s t : State} (h : t.cis.bank = s.cis.bank) (k : Nat) : t.bank k = s.bank k := by unfold State.bank; rw [h]

theorem State.usable_of_bank {s t : State} (h : t.cis.bank = s.cis.bank) : t.usable = s.usable := by
  unfold State.usable; simp only [State.bank_of_cis h]

theorem State.shrink_bank (s : State) : s.shrink.1.cis.bank = s.cis.bank := by
  obtain ⟨limits, h⟩ := s.setLimits_cis s.shrunkLimits
  rw [State.shrink_cis, h]

/-- A bank has 8,192 cells, and they leave the usable cells when its allocation stops. -/
theorem State.usable_setBank_stopped (s : State) {b : Nat} {v : Bank} (hb : b < 64) (h : (s.bank b).stopped = false) (hv : v.stopped = true) :
    (s.setBank b v).usable = s.usable - 8192 := by
  have hperm : ((List.range 64).filter (fun k => ((s.setBank b v).bank k).stopped)).Perm (b :: (List.range 64).filter (fun k => (s.bank k).stopped)) := by
    refine (List.perm_ext_iff_of_nodup (List.nodup_range.filter _) (List.nodup_cons.2 ⟨by simp [h], List.nodup_range.filter _⟩)).2 fun k => ?_
    simp only [List.mem_cons, List.mem_filter, List.mem_range, State.bank_setBank]
    by_cases hk : b = k
    · subst hk; simp [hb, hv]
    · simp [hk, Ne.symm hk]
  have hlength := hperm.length_eq
  rw [List.length_cons] at hlength
  unfold State.usable
  rw [hlength]; omega

/-! ### Allocation in a bank stops (R268, R269) -/

/-- The state in which a bank takes no cells any more, before reservations shrink. -/
def State.bankStopped (s : State) (b : Nat) : State := s.setBank b { s.bank b with stopped := true }

theorem State.stopAlloc_eq (s : State) (b : Nat) : s.stopAlloc b = (s.bankStopped b).shrink.1.emit 540
    (p2 b ++ (p4 (s.bankStopped b).usable ++ p4 (s.bankStopped b).minExcess)) := by
  rw [← State.shrink_cut, ← State.usable_of_bank (s.bankStopped b).shrink_bank]; rfl

theorem State.stopAlloc_cisBank (s : State) (b : Nat) : (s.stopAlloc b).cis.bank = (s.bankStopped b).cis.bank := by
  rw [State.stopAlloc_eq, State.emit_cis, State.shrink_bank]

theorem State.bank_stopAlloc (s : State) (b k : Nat) : (s.stopAlloc b).bank k = if b = k then { s.bank b with stopped := true } else s.bank k := by
  rw [State.bank_of_cis (s.stopAlloc_cisBank b)]; exact s.bank_setBank b k _

theorem State.stopped_foldl_stopAlloc (s : State) (bs : List Nat) (k : Nat) :
    ((bs.foldl (fun (t : State) b => t.stopAlloc b) s).bank k).stopped = ((s.bank k).stopped || decide (k ∈ bs)) := by
  induction bs generalizing s with
  | nil => simp
  | cons b bs ih =>
    rw [List.foldl_cons, ih, State.bank_stopAlloc]
    by_cases h : b = k
    · subst h; simp
    · simp [h, Ne.symm h]

theorem State.stopped_of_stopping {s : State} {b : Nat} (h : s.stopping b = true) : (s.bank b).stopped = false := by
  unfold State.stopping at h; split at h
  · simpa using h
  · cases h

theorem State.allocStopped_idle {s : State} {b : Nat} (h : s.stopping b = false) : s.allocStopped b = s := by unfold State.allocStopped; simp [h]

/-- A bank stops with every lower one that began to retire with it. -/
theorem State.stopped_allocStopped {s : State} {b : Nat} (h : s.stopping b = true) (k : Nat) :
    ((s.allocStopped b).bank k).stopped = ((s.bank k).stopped || (decide (k ≤ b) && (s.stopping k && (s.bank k).since == (s.bank b).since))) := by
  unfold State.allocStopped
  rw [if_pos h, State.stopped_foldl_stopAlloc, Bool.eq_iff_iff]
  simp [List.mem_filter]

/-- A bank with which no lower one began to retire stops alone. -/
theorem State.allocStopped_alone {s : State} {b : Nat} (h : s.stopping b = true) (hlow : ∀ k, k < b → s.stopping k = true → (s.bank k).since ≠ (s.bank b).since) :
    s.allocStopped b = s.stopAlloc b := by
  have hnone : (List.range b).filter (fun k => s.stopping k && (s.bank k).since == (s.bank b).since) = [] :=
    List.filter_eq_nil_iff.2 fun k hk => by simpa using hlow k (List.mem_range.1 hk)
  unfold State.allocStopped
  simp [h, List.range_succ, hnone]

/-- The usable cells fall by a bank, the minima shrink to them, and held cells stay charged. -/
theorem State.stopAlloc_shrinks {s : State} {b : Nat} (hb : b < 64) (h : s.stopping b = true) : let u := s.stopAlloc b; let cut := minSum s.cis.limits - u.usable
    u.bank b = { s.bank b with stopped := true } ∧ (∀ k, k ≠ b → u.bank k = s.bank k) ∧ u.usable = s.usable - 8192 ∧ minSum u.cis.limits = minSum s.cis.limits - cut ∧
      (∀ e ∈ u.cis.limits, e.2.max ≤ u.usable) ∧ u.cis.held.map Held.charged = s.cis.held.map Held.charged ∧ u.cis.copies = s.cis.copies ∧
        u.rd .img 0x40 = s.rd .img 0x40 + word cut ∧ u.flag .img 4 17 = (s.flag .img 4 17 || decide (cut ≠ 0)) ∧ Raised 540 (p2 b ++ (p4 u.usable ++ p4 cut)) s u ∧
          Kept [(.img, 0x40), (.img, 4)] s u ∧ Counted [] s u ∧ Only [.regs .img, .seq, .evt, .xbr, .cis] s u := by
  intro u cut
  obtain ⟨w, hw⟩ : ∃ w, w = s.bankStopped b := ⟨_, rfl⟩
  have husable : u.usable = w.usable := by rw [hw]; exact State.usable_of_bank (s.stopAlloc_cisBank b)
  have hcut : cut = w.minExcess := by rw [State.minExcess, ← husable, hw]; rfl
  have hu : u = w.shrink.1.emit 540 (p2 b ++ (p4 u.usable ++ p4 cut)) := by rw [husable, hcut, hw]; exact s.stopAlloc_eq b
  obtain ⟨limits, hlimits⟩ := w.setLimits_cis w.shrunkLimits
  have hcis : u.cis = { w.cis with limits := w.shrunkLimits, held := rebacked limits w.cis.held [] [] acctKey } := by
    rw [hu, State.emit_cis, State.shrink_cis, hlimits]
  have hregs : w.regs = s.regs := by rw [hw]; rfl
  have hcounted : Counted [] s w.shrink.1 := fun b a => State.count_of_regs hregs b a ▸ w.shrink_counted b a
  have hgrows : Grows s w.shrink.1 := ((Grows.refl s).of_evt (by rw [hw]; rfl)).trans (Grows.agree w.shrink_frame (by decide))
  have hstamp : w.shrink.1.stamp = s.stamp := (Agree.stamp w.shrink_frame (by decide) (by decide)).trans (by rw [hw]; rfl)
  refine ⟨?bank, ?banks, ?usable, ?minima, ?maxima, ?held, ?copies, ?count, ?flag, ?raised, ?kept, ?counted, ?only⟩
  case bank => exact (s.bank_stopAlloc b b).trans (if_pos rfl)
  case banks => exact fun k hk => (s.bank_stopAlloc b k).trans (if_neg hk.symm)
  case usable => rw [husable, hw]; exact s.usable_setBank_stopped hb (State.stopped_of_stopping h) rfl
  case minima => rw [hcis, hcut]; dsimp only; rw [State.minSum_shrunkLimits, hw]; rfl
  case maxima => rw [hcis, husable]; exact fun e he => State.max_le_of_mem_shrunkLimits he
  case held => rw [hcis]; dsimp only; rw [map_charged_rebacked, hw]; rfl
  case copies => rw [hcis, hw]; rfl
  case count => rw [hu, State.rd_emit, State.shrink_shrunkCount, ← hcut, State.rd_of_regs hregs]
  case flag => rw [hcut, State.flag, hu, State.rd_emit, ← State.flag, State.shrink_shrunkFlag, State.flag, State.rd_of_regs hregs, ← State.flag]
  case raised => have hraised := Raised.emit hgrows hstamp 540 (p2 b ++ (p4 u.usable ++ p4 cut)); rwa [← hu] at hraised
  case kept => rw [hu]; exact ((Kept.same hregs _).of_rd w.shrink_kept).emit _ _
  case counted => rw [hu]; exact hcounted.emit _ _
  case only => rw [only_iff_agree]; simp [u, maskOf, Part.index, Block.index]

end Sys2Proof.Machine
end

section
/-!
CIS_ACCT_SEL (06_switch_core.md R284, R285): what a write of it stores and latches, and the statement about the cistern.
-/
namespace Sys2Proof.Machine

theorem State.store_acctSel (s : State) (p : Path) (v : Word) :
    s.store p .cis 0x30 v = s.wr .cis 0x30 (s.rd .cis 0x30 &&& ~~~ word 0xFFF19F07 ||| v &&& word 0xFFF19F07) :=
  s.store_plain p .cis 0x30 v ⟨0x30, [], 0, 0xFFF19F07, 0, false⟩ (by decide) rfl rfl fun _ => rfl

/-- A bit that is writable takes what is written. -/
theorem bit_masked (old v m : Word) {i : Nat} (hm : bit m i = true) : bit (old &&& ~~~ m ||| v &&& m) i = bit v i := by
  have hbit : m.getLsbD i = true := hm
  simp only [bit, BitVec.testBit_toNat, BitVec.getLsbD_or, BitVec.getLsbD_and, BitVec.getLsbD_not]
  simp [hbit]

theorem State.acctWords_length (s : State) (sel : Word) : (s.acctWords sel).length = 5 := by
  unfold State.acctWords; dsimp only; split
  · rfl
  · rw [apply_ite List.length]; exact ite_self 5

/-- The words of an account do not depend on the register that selects one. -/
theorem State.acctWords_wr_acctSel (s : State) (w sel : Word) : (s.wr .cis 0x30 w).acctWords sel = s.acctWords sel := by
  have hlimits : (s.wr .cis 0x30 w).limitsOf = s.limitsOf := funext fun a => by
    unfold State.limitsOf State.fld; rw [State.rd_wr, if_neg (by decide)]; rfl
  unfold State.acctWords; rw [hlimits]; rfl

/-- A write of CIS_ACCT_SEL stores its fields and latches the selected account's five words for the writing path only. -/
theorem State.selectAcct_latches (s : State) (p : Path) (v : Word) : let u := s.selectAcct p v; let sel := u.rd .cis 0x30; let base := onPath p 0x34
    field sel 31 20 = field v 31 20 ∧ bit sel 16 = bit v 16 ∧ bit sel 15 = bit v 15 ∧ field sel 12 8 = field v 12 8 ∧ field sel 2 0 = field v 2 0 ∧
      (∀ i, i < 5 → u.rd .cis (base + 4 * i) = (s.acctWords sel).getD i 0) ∧ Kept ((.cis, 0x30) :: (List.range 5).map (fun i => (Block.cis, base + 4 * i))) s u ∧
        Counted [] s u ∧ Only [.regs .cis] s u := by
  intro u sel base
  obtain ⟨w, hw⟩ : ∃ w, w = s.rd .cis 0x30 &&& ~~~ word 0xFFF19F07 ||| v &&& word 0xFFF19F07 := ⟨_, rfl⟩
  have hbase : 0x34 ≤ base := Nat.le_add_right ..
  have hu : u = (s.wr .cis 0x30 w).wrs .cis base (s.acctWords w) := by
    show State.selectAcct .. = _
    unfold State.selectAcct; dsimp only; rw [State.store_acctSel, ← hw, State.rd_wr_same, State.acctWords_wr_acctSel]
  have hsel : sel = w := by
    show u.rd .cis 0x30 = w
    rw [hu, State.rd_wrs, if_neg (by omega), State.rd_wr_same]
  refine ⟨?_, ?_, ?_, ?_, ?_, ?latched, ?kept, ?counted, ?only⟩
  · rw [hsel, hw]; exact field_masked _ v _ (by decide)
  · rw [hsel, hw]; exact bit_masked _ v _ (by decide)
  · rw [hsel, hw]; exact bit_masked _ v _ (by decide)
  · rw [hsel, hw]; exact field_masked _ v _ (by decide)
  · rw [hsel, hw]; exact field_masked _ v _ (by decide)
  case latched =>
    intro i hi
    rw [hsel, hu, State.rd_wrs, State.acctWords_length, if_pos ⟨rfl, by omega⟩]
    congr 1; omega
  case kept =>
    intro b a hm
    simp only [List.mem_cons, List.mem_map, List.mem_range, Prod.mk.injEq, not_or, not_exists, not_and] at hm
    obtain ⟨hsel, hwords⟩ := hm
    rw [hu, State.rd_wrs, State.acctWords_length, if_neg, State.rd_wr, if_neg fun h => hsel h.1.symm h.2.symm]
    rintro ⟨rfl, hlo, hhi, hmod⟩
    exact hwords ((a - base) / 4) (by omega) rfl (by omega)
  case counted => rw [hu]; exact ((Counted.refl s).wr _ _ _).of_count fun b a => State.count_wrs _ _ _ _ _ _
  case only => rw [only_iff_agree]; simp [u, maskOf, Part.index, Block.index]

/-- A reservation in force reads back its limits with FOUND, and the cells it holds. -/
theorem State.acctWords_found (s : State) {sel : Word} {a : Acct} {l : Limits} (hdist : bit sel 16 = false)
    (ha : a = ⟨bit sel 15, field sel 12 8, field sel 2 0, some (field sel 31 20)⟩) (hlane : a.lane < 28) (hpool : a.egress = false ∨ fixedPool a.lane = none)
    (hfind : s.cis.limits.find? (fun e => e.1 == a) = some (a, l)) :
    s.acctWords sel = [word (2 ^ 31 + l.min), word l.max, word (s.acctUsed a), word (s.acctRes a), word l.guar] := by
  have hlimits : s.limitsOf a = l := by unfold State.limitsOf; rw [hfind, ha]; rfl
  have hany : s.cis.limits.any (fun e => e.1 == a) = true := List.any_eq_true.2 ⟨_, List.mem_of_find?_eq_some hfind, by simp⟩
  unfold State.acctWords
  subst ha
  dsimp only at hlane hpool ⊢
  split
  · rename_i cap hegress hcap
    rcases hpool with hpool | hpool
    · rw [hegress] at hpool; cases hpool
    · rw [hcap] at hpool; cases hpool
  · simp [hdist, hlane, hany, hlimits]

/-! ### The commands -/

theorem runs_bankAllocStopped {s : State} {bank : Fin 64} {P : State → Prop} (h : P (s.allocStopped bank.val)) : Runs (.bankAllocStopped bank) s P :=
  ⟨s.allocStopped bank.val, rfl, h⟩

theorem runs_cisAcctSelWrite {s : State} {p : Path} {v : Word} {P : State → Prop} (hs : s.lmp.held = false) (h : P (s.selectAcct p v)) :
    Runs (.cisAcctSelWrite p v) s P :=
  runs_of_awake (f := fun t => t.selectAcct p v) rfl hs h

/-- Settles O45: an admitted frame has passed the checks of R259; a bank that stops shrinks the limits, which backs held cells anew; CIS_ACCT_SEL latches five words. -/
theorem cisternAdmitsWithinLimits : Obligations.CisternAdmitsWithinLimits := by
  unfold Obligations.CisternAdmitsWithinLimits
  intro s
  refine ⟨fun f D cls de reqs keep bIn bEg bSh i e h => State.admission_within_limits h, fun bank => ⟨fun h => ?together, fun h hlow => ?alone, fun h => ?idle⟩,
    fun hs p v => runs_cisAcctSelWrite hs (s.selectAcct_latches p v), fun sel a l hdist ha hlane hpool hfind => s.acctWords_found hdist ha hlane hpool hfind⟩
  case together => exact runs_bankAllocStopped fun k _ => State.stopped_allocStopped h k
  case alone =>
    refine runs_bankAllocStopped ?_
    rw [State.allocStopped_alone h hlow]
    exact State.stopAlloc_shrinks bank.isLt h
  case idle => exact runs_bankAllocStopped (State.allocStopped_idle h)

end Sys2Proof.Machine
end

section
/-!
Host accesses through BAR0 and the address windows (11_host_bridge.md R427-R434, R455): what a window turns away, what it forwards or holds, what the end of the
outstanding acknowledged write releases, and the statement that they make up.
-/
namespace Sys2Proof.Machine

/-! ### The commands, while device reset is not held -/

/-- A command that may change a link and acts outside device reset runs as the operation it calls. -/
theorem runsLink_of_awake {c : Instr} {s : State} {f : State → State} {P : State → Prop} (hc : exec c s = (s.awake f).linkDone s) (hs : s.lmp.held = false) (h : P (f s)) :
    RunsLink c s P :=
  ⟨f s, by rw [hc, State.awake_of s f hs]; rfl, h⟩

theorem runsLink_postedWrite {s : State} {via : HostVia} {v : Word} {P : State → Prop} (hs : s.lmp.held = false) (h : P (s.postWrite via v)) :
    RunsLink (.postedWrite via v) s P :=
  runsLink_of_awake (f := fun t => t.postWrite via v) rfl hs h

theorem runs_ackWindowWrite {s : State} {w : Fin 16} {off : Fin 1048576} {v : Word} {P : State → Prop} (hs : s.lmp.held = false) (h : P (s.ackWrite w.val off.val v)) :
    Runs (.ackWindowWrite w off v) s P :=
  runs_of_awake (f := fun t => t.ackWrite w.val off.val v) rfl hs h

theorem runs_windowRead {s : State} {w : Fin 16} {off : Nat} {P : State → Prop} (hs : s.lmp.held = false) (h : P (s.windowRead w.val off)) :
    Runs (.loReadLatch .host off (some w)) s P :=
  runs_of_awake (f := fun t => t.windowRead w.val off) rfl hs h

theorem runsLink_ackWriteComplete {s : State} {P : State → Prop} (hs : s.lmp.held = false) (h : P s.ackDone) : RunsLink .ackWriteComplete s P :=
  runsLink_of_awake (f := fun t => t.ackDone) rfl hs h

theorem runs_ackTimeout {s : State} {P : State → Prop} (hs : s.lmp.held = false) (h : P s.ackTimedOut) : Runs .ackTimeout s P :=
  runs_of_awake (f := fun t => t.ackTimedOut) rfl hs h

theorem runsLink_ackLong {s : State} {P : State → Prop} (hs : s.lmp.held = false) (h : P s.ackTooLong) : RunsLink .ackLong s P :=
  runsLink_of_awake (f := fun t => t.ackTooLong) rfl hs h

/-! ### Errors of the bridge (R455) -/

/-- An HBR_ERR bit set in a state that has only raised events since `s` is flagged as of `s`. -/
theorem HbrFlagged.hbrErr {s t : State} (g : Grows s t) (hstamp : t.stamp = s.stamp) (hrd : t.rd .hbr 8 = s.rd .hbr 8) {i : Nat} (hi : i < 32) : HbrFlagged i s (t.hbrErr i) :=
  ⟨t.flag_setErr .hbr 8 (1280 + i) [] hi, fun hclear => Raised.setErr g hstamp (by decide) (by rw [State.flag, hrd]; exact hclear) _ _⟩

theorem HbrFlagged.trans {i : Nat} {s t u : State} (h : HbrFlagged i s t) (hrd : u.rd .hbr 8 = t.rd .hbr 8) (g : Grows t u) : HbrFlagged i s u :=
  ⟨by rw [State.flag, hrd]; exact h.1, fun hclear => (h.2 hclear).grows g⟩

/-- An access that is turned away is counted and flagged, and no more. -/
theorem State.winRefused (s : State) (k : Nat) {i : Nat} (hi : i < 32) : WinRefused k i s ((s.bump .hbr k).hbrErr i) := by
  refine ⟨((Counted.refl s).bump .hbr k).setErr .hbr 8 i _ _, HbrFlagged.hbrErr (s.bump_grows ..) (s.stamp_bump ..) (s.rd_bump ..) hi,
    ((Kept.refl _ s).bump .hbr k).setErr (by simp) i _ _, ?_⟩
  rw [only_iff_agree]; simp [maskOf, Part.index, Block.index]

/-- A read that misses answers all ones besides. -/
theorem State.winRefused_readAs (s : State) (k : Nat) {i : Nat} (hi : i < 32) (v : Word) : let u := ((s.bump .hbr k).hbrErr i).readAs .host v
    (u.path .host).lastRead = v ∧ Counted [(.hbr, k)] s u ∧ HbrFlagged i s u ∧ Kept [(.hbr, 8)] s u ∧ Only [.regs .hbr, .seq, .evt, .paths] s u := by
  intro u
  obtain ⟨hcounted, hflagged, hkept, -⟩ := s.winRefused k hi
  refine ⟨by rw [State.path_readAs_same], hcounted.of_count fun _ _ => rfl, hflagged.trans rfl (Grows.same rfl), hkept.of_rd fun _ _ _ => rfl, ?_⟩
  rw [only_iff_agree]; simp [u, maskOf, Part.index, Block.index]

/-! ### Windows (R427, R428) -/

/-- The target keeps the offset below the window's size, and the base above it. -/
theorem State.winTarget_parts (s : State) {w off : Nat} (h : off < s.winSize w) :
    s.winTarget w off % s.winSize w = off ∧ s.winTarget w off / s.winSize w = s.fld .hbr (0x104 + 0x10 * w) 25 0 / s.winSize w := by
  have hsplit : s.winTarget w off = off + s.winSize w * (s.fld .hbr (0x104 + 0x10 * w) 25 0 / s.winSize w) := by
    have hbase := Nat.div_add_mod (s.fld .hbr (0x104 + 0x10 * w) 25 0) (s.winSize w)
    unfold State.winTarget; dsimp only; omega
  rw [hsplit, Nat.add_mul_mod_self_left, Nat.mod_eq_of_lt h, Nat.add_mul_div_left _ _ (by omega), Nat.div_eq_of_lt h, Nat.zero_add]
  exact ⟨rfl, rfl⟩

theorem State.hostReaches_iff {s : State} : s.hostReaches = true ↔ s.hbr.link ≠ .down ∧ s.hbr.held.length < 64 := by
  simp [State.hostReaches]

theorem State.windowMisses_iff {s : State} {w off : Nat} : s.windowMisses w off = true ↔ s.winFlag w 31 = false ∨ s.winSize w ≤ off := by
  simp [State.windowMisses]

theorem State.windowWrite_miss {s : State} {w off : Nat} (run : State → Nat → State) (h : s.windowMisses w off = true) :
    WinRefused 0x418 2 s (s.windowWrite w off run) := by
  unfold State.windowWrite; rw [if_pos h]; exact s.winRefused 0x418 (by decide)

theorem State.windowWrite_readOnly {s : State} {w off : Nat} (run : State → Nat → State) (h : ¬ s.windowMisses w off = true) (hw : s.winFlag w 29 = false) :
    WinRefused 0x420 3 s (s.windowWrite w off run) := by
  unfold State.windowWrite; rw [if_neg h, hw]; exact s.winRefused 0x420 (by decide)

theorem State.windowWrite_hit {s : State} {w off : Nat} (run : State → Nat → State) (h : ¬ s.windowMisses w off = true) (hw : s.winFlag w 29 = true) :
    s.windowWrite w off run = run s (s.winTarget w off) := by
  unfold State.windowWrite; rw [if_neg h, hw]; rfl

/-! ### Posted and acknowledged writes, and reads (R430, R431) -/

theorem State.postWrite_unreached {s : State} (via : HostVia) (v : Word) (h : ¬ s.hostReaches = true) : s.postWrite via v = s := by
  simp [State.postWrite, h]

theorem State.postWrite_bar0 {s : State} (addr : Fin 67108864) (v : Word) (h : s.hostReaches = true) : s.postWrite (.bar0 addr) v = s.accessWrite .host addr.val v := by
  simp [State.postWrite, h]

theorem State.postWrite_acknowledged {s : State} {w : Fin 16} (off : Fin 1048576) (v : Word) (h : s.winFlag w.val 30 = true) : s.postWrite (.window w off) v = s := by
  simp [State.postWrite, h]

theorem State.postWrite_window {s : State} {w : Fin 16} (off : Fin 1048576) (v : Word) (h : s.hostReaches = true) (hw : s.winFlag w.val 30 = false) :
    s.postWrite (.window w off) v = s.windowWrite w.val off.val (fun (t : State) a => t.accessWrite .host a v) := by
  simp [State.postWrite, h, hw]

theorem State.ackWrite_ignored {s : State} {w : Nat} (off : Nat) (v : Word) (h : ¬ s.hostReaches = true ∨ s.winFlag w 30 = false) : s.ackWrite w off v = s := by
  unfold State.ackWrite; rw [if_pos (by simpa using h)]

theorem State.ackWrite_window {s : State} {w : Nat} (off : Nat) (v : Word) (h : s.hostReaches = true) (hw : s.winFlag w 30 = true) :
    s.ackWrite w off v = s.windowWrite w off (fun (t : State) a =>
      if t.hbr.ack.isSome then { t with hbr := { t.hbr with held := t.hbr.held ++ [⟨a, v, false⟩] } } else t.forwardAck ⟨a, v, false⟩) := by
  unfold State.ackWrite; rw [if_neg (by simp [h, hw])]

theorem State.windowRead_unreached {s : State} (w off : Nat) (h : ¬ s.hostReaches = true) : s.windowRead w off = s := by
  simp [State.windowRead, h]

theorem State.windowRead_miss {s : State} {w off : Nat} (h : s.hostReaches = true) (hm : s.windowMisses w off = true) :
    s.windowRead w off = ((s.bump .hbr 0x418).hbrErr 2).readAs .host 0xFFFFFFFF := by
  simp [State.windowRead, h, hm]

theorem State.windowRead_waits {s : State} {w off : Nat} (h : s.hostReaches = true) (hm : ¬ s.windowMisses w off = true) (hw : s.winFlag w 30 = true ∧ s.hbr.ack ≠ none) :
    s.windowRead w off = { s with hbr := { s.hbr with held := s.hbr.held ++ [⟨s.winTarget w off, 0, true⟩] } } := by
  simp [State.windowRead, h, hm, hw.1, Option.isSome_iff_ne_none.2 hw.2]

theorem State.windowRead_reads {s : State} {w off : Nat} (h : s.hostReaches = true) (hm : ¬ s.windowMisses w off = true) (hw : ¬ (s.winFlag w 30 = true ∧ s.hbr.ack ≠ none)) :
    s.windowRead w off = s.accessRead .host (s.winTarget w off) := by
  unfold State.windowRead
  rw [if_neg (by simp [h]), if_neg hm, if_neg (by simpa [Option.isSome_iff_ne_none] using hw)]

/-! ### Forwarded and held transactions (R431) -/

theorem State.forwardAck_hbr (s : State) (x : AckWrite) : (s.forwardAck x).hbr = { s.hbr with ack := some x } := State.bump_hbr ..
theorem State.rd_forwardAck (s : State) (x : AckWrite) (b : Block) (a : Nat) : (s.forwardAck x).rd b a = s.rd b a := State.rd_bump ..
theorem State.forwardAck_paths (s : State) (x : AckWrite) : (s.forwardAck x).paths = s.paths := State.bump_paths ..
theorem State.forwardAck_grows (s : State) (x : AckWrite) : Grows s (s.forwardAck x) :=
  (Grows.same rfl).trans (State.bump_grows { s with hbr := { s.hbr with ack := some x } } .hbr 0x400)

theorem State.forwardAck_counted (s : State) (x : AckWrite) : Counted [(.hbr, 0x400)] s (s.forwardAck x) :=
  Counted.bump (t := { s with hbr := { s.hbr with ack := some x } }) (Counted.same rfl) .hbr 0x400

/-- An acknowledged write that is forwarded is outstanding and counts. -/
theorem State.forwardAck_forwards (s : State) (x : AckWrite) : let u := s.forwardAck x
    u.hbr = { s.hbr with ack := some x } ∧ Counted [(.hbr, 0x400)] s u ∧ Kept [] s u ∧ Only [.regs .hbr, .seq, .evt, .hbr] s u := by
  intro u
  refine ⟨s.forwardAck_hbr x, s.forwardAck_counted x, fun b a _ => s.rd_forwardAck x b a, ?_⟩
  rw [only_iff_agree]; simp [u, maskOf, Part.index, Block.index]

/-- A transaction that is held changes the bridge alone. -/
theorem State.putHbr_only (s : State) (h : HbrState) : let u : State := { s with hbr := h }
    u.hbr = h ∧ Counted [] s u ∧ Kept [] s u ∧ Only [.hbr] s u := by
  intro u
  refine ⟨rfl, Counted.same rfl, Kept.same rfl _, ?_⟩
  rw [only_iff_agree]; simp [u, maskOf, Part.index]

/-! ### Reads of the host leave the bridge, the counters and the other paths alone -/

/-- From `s` to `u` the host has read: its own path has changed, and the pins' register that a read clears, nothing else. -/
structure HostRead (s u : State) : Prop where
  agree : Agree 1572864 s u
  count : ∀ b a, u.count b a = s.count b a
  path : ∀ p, p ≠ Path.host → u.path p = s.path p

theorem HostRead.refl (s : State) : HostRead s s := ⟨Agree.refl _ s, fun _ _ => rfl, fun _ _ => rfl⟩
theorem HostRead.trans {s t u : State} (h : HostRead s t) (k : HostRead t u) : HostRead s u :=
  ⟨h.agree.trans k.agree, fun b a => (k.count b a).trans (h.count b a), fun p hp => (k.path p hp).trans (h.path p hp)⟩

theorem HostRead.setPath (s : State) (v : PathState) : HostRead s (s.setPath .host v) :=
  ⟨(State.setPath_agree s .host v (by decide)).2 (Agree.refl _ s), fun _ _ => rfl, fun _ hp => s.path_setPath_ne v hp⟩

theorem State.vcoreMinRead_hostRead (s : State) : HostRead s (s.vcoreMinRead .host) := by
  refine ⟨(State.vcoreMinRead_agree s .host (by decide)).2 (Agree.refl _ s), fun b a => ?_, fun p hp => ?_⟩ <;> unfold State.vcoreMinRead <;> split
  · rfl
  · rw [State.count_wr, State.count_setPath]
  · rfl
  · rw [State.path_wr, s.path_setPath_ne _ hp]

theorem State.readLive_hostRead (s : State) (addr : Nat) (b : Block) (off : Nat) : HostRead s (s.readLive .host addr b off) := by
  unfold State.readLive; dsimp only
  split_ifs
  any_goals exact HostRead.setPath s _
  exact s.vcoreMinRead_hostRead

theorem State.accessRead_hostRead (s : State) (addr : Nat) : HostRead s (s.accessRead .host addr) := by
  unfold State.accessRead
  split_ifs
  any_goals exact HostRead.setPath s _
  split
  · exact s.readLive_hostRead ..
  · exact HostRead.setPath s _

theorem State.accessReads_hostRead (l : List AckWrite) (s : State) : HostRead s (l.foldl (fun (t : State) x => t.accessRead .host x.addr) s) := by
  induction l generalizing s with
  | nil => exact HostRead.refl s
  | cons x l ih => exact (s.accessRead_hostRead x.addr).trans (ih _)

/-! ### The outstanding write is over (R431) -/

/-- What is held from the first write on. -/
def State.heldLater (s : State) : List AckWrite := s.hbr.held.dropWhile (·.read)

/-- The state in which nothing is outstanding and the reads before the first held write have taken place. -/
def State.heldReads (s : State) : State :=
  (s.hbr.held.takeWhile (·.read)).foldl (fun (t : State) x => t.accessRead .host x.addr) { s with hbr := { s.hbr with ack := none, held := s.heldLater } }

theorem State.heldReads_hostRead (s : State) : HostRead { s with hbr := { s.hbr with ack := none, held := s.heldLater } } s.heldReads := State.accessReads_hostRead ..

theorem State.heldReads_hbr (s : State) : s.heldReads.hbr = { s.hbr with ack := none, held := s.heldLater } := s.heldReads_hostRead.agree.hbr (by decide)

theorem State.rd_heldReads (s : State) (a : Nat) : s.heldReads.rd .hbr a = s.rd .hbr a := s.heldReads_hostRead.agree.rd .hbr (by decide) a

theorem State.heldReads_counted (s : State) : Counted [] s s.heldReads := (Counted.refl s).of_count s.heldReads_hostRead.count

theorem State.releaseHeld_last {s : State} (h : s.heldLater = []) : s.releaseHeld = s.heldReads := by
  unfold State.releaseHeld; dsimp only; unfold State.heldLater at h; unfold State.heldReads State.heldLater; rw [h]

theorem State.releaseHeld_next {s : State} {x : AckWrite} {xs : List AckWrite} (h : s.heldLater = x :: xs) :
    s.releaseHeld = ({ s.heldReads with hbr := { s.heldReads.hbr with held := xs } } : State).forwardAck x := by
  unfold State.releaseHeld; dsimp only; unfold State.heldLater at h; unfold State.heldReads State.heldLater; rw [h]


/-- Where no read is held before the next write, none takes place. -/
theorem State.heldReads_none {s : State} (h : s.heldLater = s.hbr.held) : s.heldReads = { s with hbr := { s.hbr with ack := none, held := s.heldLater } } := by
  have hsplit := List.takeWhile_append_dropWhile (p := fun x : AckWrite => x.read) (l := s.hbr.held)
  have hnone : s.hbr.held.takeWhile (·.read) = [] := by
    rw [show s.hbr.held.dropWhile (·.read) = s.hbr.held from h] at hsplit
    exact List.append_left_eq_self.1 hsplit
  unfold State.heldReads; rw [hnone]; rfl

theorem State.releaseHeld_grows (s : State) : Grows s s.releaseHeld := by
  have hreads : Grows s s.heldReads := Grows.same (s.heldReads_hostRead.agree.evt (by decide))
  cases hl : s.heldLater with
  | nil => rw [State.releaseHeld_last hl]; exact hreads
  | cons x xs => rw [State.releaseHeld_next hl]; exact (hreads.of_evt rfl).trans (State.forwardAck_grows _ x)

theorem State.rd_releaseHeld (s : State) (a : Nat) : s.releaseHeld.rd .hbr a = s.rd .hbr a := by
  cases hl : s.heldLater with
  | nil => rw [State.releaseHeld_last hl, State.rd_heldReads]
  | cons x xs => rw [State.releaseHeld_next hl, State.rd_forwardAck]; exact s.rd_heldReads a

theorem State.releaseHeld_hbr (s : State) : s.releaseHeld.hbr = { s.hbr with ack := s.heldLater.head?, held := s.heldLater.tail } := by
  cases hl : s.heldLater with
  | nil => rw [State.releaseHeld_last hl, State.heldReads_hbr, hl]; rfl
  | cons x xs => rw [State.releaseHeld_next hl, State.forwardAck_hbr]; dsimp only; rw [State.heldReads_hbr]; rfl

theorem State.path_releaseHeld (s : State) {p : Path} (hp : p ≠ .host) : s.releaseHeld.path p = s.path p := by
  have hreads : s.heldReads.path p = s.path p := s.heldReads_hostRead.path p hp
  cases hl : s.heldLater with
  | nil => rw [State.releaseHeld_last hl, hreads]
  | cons x xs => rw [State.releaseHeld_next hl, State.path, State.forwardAck_paths]; exact hreads

theorem State.releaseHeld_counted (s : State) : Counted (if s.heldLater = [] then [] else [(.hbr, 0x400)]) s s.releaseHeld := by
  cases hl : s.heldLater with
  | nil => rw [State.releaseHeld_last hl]; exact s.heldReads_counted
  | cons x xs =>
    rw [State.releaseHeld_next hl]
    exact (s.heldReads_counted.of_count fun _ _ => rfl).bump (t := { s.heldReads with hbr := { s.heldReads.hbr with held := xs, ack := some x } }) .hbr 0x400

/-- Where no read is held before the next write, the registers stay. -/
theorem State.releaseHeld_kept {s : State} (h : s.heldLater = s.hbr.held) : Kept [] s s.releaseHeld ∧ Only [.regs .hbr, .seq, .evt, .hbr] s s.releaseHeld := by
  have hreads := State.heldReads_none h
  cases hl : s.heldLater with
  | nil =>
    rw [State.releaseHeld_last hl, hreads, only_iff_agree]
    exact ⟨Kept.same rfl _, by simp [maskOf, Part.index, Block.index]⟩
  | cons x xs =>
    rw [State.releaseHeld_next hl, hreads, only_iff_agree]
    exact ⟨(Kept.same rfl _).of_rd fun b a _ => State.rd_forwardAck _ x b a, by simp [maskOf, Part.index, Block.index]⟩

/-- The end of the outstanding write, where nothing else has happened since. -/
theorem State.releaseHeld_releases (s : State) : AckReleased [] [] s s.releaseHeld := by
  refine ⟨s.releaseHeld_hbr, ?_, fun a _ => s.rd_releaseHeld a, ?_, fun h => State.releaseHeld_kept h, fun p hp => s.path_releaseHeld hp⟩
  · rw [List.nil_append, apply_ite (List.map _)]; exact s.releaseHeld_counted
  · rw [only_iff_agree]; simp [maskOf, Part.index, Block.index]

theorem Counted.trans {ks ls : List (Block × Nat)} {s t u : State} (h : Counted ks s t) (k : Counted ls t u) : Counted (ks ++ ls) s u := fun b a => by
  rw [k b a, h b a, Nat.mod_add_mod, List.count_append, Nat.add_assoc]

theorem Only.trans {ps qs : List Part} {s t u : State} (h : Only ps s t) (hsub : ps ⊆ qs) (k : Only qs t u) : Only qs s u :=
  (only_iff_agree ..).2 (((only_iff_agree ..).1 fun p hp => h p (mt (@hsub p) hp)).trans ((only_iff_agree ..).1 k))

/-- The release after the counters at `ks` and the words at `ws` have changed. -/
theorem AckReleased.after {ks ws : List Nat} {t w u : State} (h : AckReleased [] [] w u) (hhbr : w.hbr = t.hbr) (hcounted : Counted (ks.map (fun k => (.hbr, k))) t w)
    (hkept : Kept (ws.map (fun a => (.hbr, a))) t w) (honly : Only [.regs .hbr, .seq, .evt] t w) : AckReleased ks ws t u := by
  obtain ⟨uhbr, ucounted, urd, uonly, unone, upath⟩ := h
  rw [hhbr] at uhbr ucounted unone
  have hpath : ∀ p, w.path p = t.path p := fun p => by unfold State.path; rw [honly .paths (by simp)]
  refine ⟨uhbr, ?_, fun a ha => ?_, honly.trans (by simp) uonly, fun hl => ?_, fun p hp => (upath p hp).trans (hpath p)⟩
  · rw [List.map_append]; exact hcounted.trans ucounted
  · rw [urd a (by simp)]; exact hkept .hbr a (by simpa using ha)
  · obtain ⟨ukept, uonly⟩ := unone hl
    exact ⟨hkept.of_rd fun b a _ => ukept b a (by simp), honly.trans (by simp) uonly⟩

/-- An acknowledged write that is withdrawn, or that takes too long: counted at `k`, its address kept in HBR_ACK_LAST, bit `i` of HBR_ERR set (R433, R434, R458). -/
def State.ackMarked (s : State) (k i addr : Nat) : State := ((s.bump .hbr k).ackLast addr).hbrErr i

theorem State.ackMarked_hbr (s : State) (k i addr : Nat) : (s.ackMarked k i addr).hbr = s.hbr := by
  unfold State.ackMarked State.hbrErr State.ackLast; rw [State.setErr_hbr, State.wr_hbr, State.bump_hbr]

theorem State.ackMarked_last (s : State) (k i addr : Nat) : (s.ackMarked k i addr).rd .hbr 0x10 = word addr := by
  unfold State.ackMarked State.hbrErr State.ackLast; rw [State.rd_setErr, if_neg (by omega), State.rd_wr_same]

theorem State.ackMarked_flagged (s : State) (k addr : Nat) {i : Nat} (hi : i < 32) : HbrFlagged i s (s.ackMarked k i addr) := by
  refine HbrFlagged.hbrErr (t := (s.bump .hbr k).ackLast addr) ((s.bump_grows ..).of_evt rfl) ?_ ?_ hi
  · exact (State.stamp_wr _ .hbr 0x10 _ (by decide)).trans (s.stamp_bump ..)
  · rw [State.ackLast, State.rd_wr, if_neg (by omega), State.rd_bump]

/-- An acknowledged write that is withdrawn or takes too long is marked, and what is held is released. -/
theorem State.ackMarked_releases (s : State) (k addr : Nat) {i : Nat} (hi : i < 32) : let u := (s.ackMarked k i addr).releaseHeld
    AckReleased [k] [8, 0x10] s u ∧ u.rd .hbr 0x10 = word addr ∧ HbrFlagged i s u := by
  refine ⟨(State.releaseHeld_releases _).after (s.ackMarked_hbr ..) ?_ ?_ ?_, ?_, ?_⟩
  · exact (((Counted.refl s).bump .hbr k).wr .hbr 0x10 _).setErr .hbr 8 i _ _
  · exact (((Kept.refl _ s).bump .hbr k).wr (by simp) _).setErr (by simp) i _ _
  · rw [only_iff_agree]; simp [State.ackMarked, maskOf, Part.index, Block.index]
  · rw [State.rd_releaseHeld, State.ackMarked_last]
  · exact (s.ackMarked_flagged k addr hi).trans (State.rd_releaseHeld ..) (State.releaseHeld_grows _)

/-- A read that waits alone takes place. -/
theorem State.releaseHeld_oneRead {s : State} {y : AckWrite} (h : s.hbr.held = [y]) (hy : y.read = true) :
    s.releaseHeld = ({ s with hbr := { s.hbr with ack := none, held := [] } } : State).accessRead .host y.addr := by
  have hl : s.heldLater = [] := by simp [State.heldLater, h, hy]
  rw [State.releaseHeld_last hl, State.heldReads, hl]; simp [h, hy]

/-! ### The three ends of the outstanding write (R431, R433, R434) -/

/-- Without an outstanding write none of its ends does anything. -/
theorem State.ackEnds_idle {s : State} (h : s.hbr.ack = none) : s.ackDone = s ∧ s.ackTimedOut = s ∧ s.ackTooLong = s := by
  unfold State.ackDone State.ackTimedOut State.ackTooLong; rw [h]; exact ⟨rfl, rfl, rfl⟩

theorem State.ackEnds_outstanding {s : State} {x : AckWrite} (h : s.hbr.ack = some x) : s.ackDone = (s.accessWrite .host x.addr x.value).releaseHeld ∧
    s.ackTimedOut = (s.ackMarked 0x408 0 x.addr).releaseHeld ∧ s.ackTooLong = ((s.accessWrite .host x.addr x.value).ackMarked 0x410 1 x.addr).releaseHeld := by
  unfold State.ackDone State.ackTimedOut State.ackTooLong; rw [h]; exact ⟨rfl, rfl, rfl⟩

/-- Settles O54: a write or read through a window is refused, forwarded or held as its equations say; each end of an acknowledged write releases what is held. -/
theorem hostWritesThroughWindows : Obligations.HostWritesThroughWindows := by
  unfold Obligations.HostWritesThroughWindows
  intro s hs reaches
  have hreach : reaches ↔ s.hostReaches = true := State.hostReaches_iff.symm
  refine ⟨fun w off => ?target, fun v addr => ⟨fun hr => ?bar0Lost, fun hr => ?bar0⟩, fun v w off => ?writes, fun w off => ?reads, fun hnone => ?idle, fun x hx => ?ends⟩
  case target => exact fun hoff => s.winTarget_parts hoff
  case bar0Lost => exact runsLink_postedWrite hs (State.postWrite_unreached _ v (mt hreach.2 hr))
  case bar0 => exact runsLink_postedWrite hs (State.postWrite_bar0 addr v (hreach.1 hr))
  case writes =>
    intro a misses
    have hmiss : misses ↔ s.windowMisses w.val off.val = true := State.windowMisses_iff.symm
    refine ⟨fun h => ?postIgnored, fun h => ?ackIgnored, fun hr hack => ⟨fun hm => ?postMiss, fun hm hro => ?postReadOnly, fun hm hrw => ?post⟩,
      fun hr hack => ⟨fun hm => ?ackMiss, fun hm hro => ?ackReadOnly, fun hm hrw hnone => ?ackForward, fun hm hrw hsome => ?ackHold⟩⟩
    case postIgnored =>
      refine runsLink_postedWrite hs ?_
      exact h.elim (fun hr => State.postWrite_unreached _ v (mt hreach.2 hr)) fun hack => State.postWrite_acknowledged off v hack
    case ackIgnored => exact runs_ackWindowWrite hs (State.ackWrite_ignored _ v (h.imp_left (mt hreach.2)))
    case postMiss => exact runsLink_postedWrite hs (by rw [State.postWrite_window off v (hreach.1 hr) hack]; exact State.windowWrite_miss _ (hmiss.1 hm))
    case postReadOnly => exact runsLink_postedWrite hs (by rw [State.postWrite_window off v (hreach.1 hr) hack]; exact State.windowWrite_readOnly _ (mt hmiss.2 hm) hro)
    case post =>
      refine runsLink_postedWrite hs ?_
      rw [State.postWrite_window off v (hreach.1 hr) hack, State.windowWrite_hit _ (mt hmiss.2 hm) hrw]
    case ackMiss => exact runs_ackWindowWrite hs (by rw [State.ackWrite_window _ v (hreach.1 hr) hack]; exact State.windowWrite_miss _ (hmiss.1 hm))
    case ackReadOnly => exact runs_ackWindowWrite hs (by rw [State.ackWrite_window _ v (hreach.1 hr) hack]; exact State.windowWrite_readOnly _ (mt hmiss.2 hm) hro)
    case ackForward =>
      refine runs_ackWindowWrite hs ?_
      rw [State.ackWrite_window _ v (hreach.1 hr) hack, State.windowWrite_hit _ (mt hmiss.2 hm) hrw, if_neg (by simp [hnone])]
      exact s.forwardAck_forwards _
    case ackHold =>
      refine runs_ackWindowWrite hs ?_
      rw [State.ackWrite_window _ v (hreach.1 hr) hack, State.windowWrite_hit _ (mt hmiss.2 hm) hrw, if_pos (Option.isSome_iff_ne_none.2 hsome)]
      exact s.putHbr_only _
  case reads =>
    intro a misses waits
    have hmiss : misses ↔ s.windowMisses w.val off.val = true := State.windowMisses_iff.symm
    refine ⟨fun hr => runs_windowRead hs (State.windowRead_unreached _ _ (mt hreach.2 hr)), fun hr hm => ?miss, fun hr hm => ⟨fun hw => ?waits, fun hw => ?read⟩⟩
    case miss =>
      refine runs_windowRead hs ?_
      rw [State.windowRead_miss (hreach.1 hr) (hmiss.1 hm)]
      exact s.winRefused_readAs 0x418 (by decide) 0xFFFFFFFF
    case waits =>
      refine runs_windowRead hs ?_
      rw [State.windowRead_waits (hreach.1 hr) (mt hmiss.2 hm) hw]
      exact s.putHbr_only _
    case read => exact runs_windowRead hs (State.windowRead_reads (hreach.1 hr) (mt hmiss.2 hm) hw)
  case idle =>
    obtain ⟨hdone, htimeout, hlong⟩ := State.ackEnds_idle hnone
    exact ⟨runsLink_ackWriteComplete hs hdone, runs_ackTimeout hs htimeout, runsLink_ackLong hs hlong⟩
  case ends =>
    intro t
    obtain ⟨hdone, htimeout, hlong⟩ := State.ackEnds_outstanding hx
    refine ⟨runsLink_ackWriteComplete hs ?_, runs_ackTimeout hs ?_, runsLink_ackLong hs ?_⟩
    · rw [hdone]; exact ⟨t.releaseHeld_releases, fun y hy hread => State.releaseHeld_oneRead hy hread⟩
    · rw [htimeout]; exact s.ackMarked_releases 0x408 x.addr (by decide)
    · rw [hlong]; exact t.ackMarked_releases 0x410 x.addr (by decide)

end Sys2Proof.Machine
end
